-- ==== Sys2Proof/Word.lean ====
section
/-!
DEFINITION. The plain words of the KV3072 model: bytes, register words, status codes, the numbers of
channels, lanes, tiles and engines (R6 to R10), TIME96 values (R13) and the two time domains.
-/
namespace Sys2Proof

/-- One byte of a value as Gleno carries it (R144). -/
abbrev Byte := BitVec 8

/-- One register of the register space (R108). -/
abbrev Word := BitVec 32

/-- The status code of an answer (R197). -/
abbrev Status := BitVec 16

/-- A channel number, 0 to 191 (R6). -/
abbrev Chan := Fin 192

/-- A lane number within a channel (R6). -/
abbrev Lane := Fin 4

/-- A tile, connector or optical engine number (R5, R6). -/
abbrev Tile := Fin 24

/-- A Spar engine number (R10). -/
abbrev SparNo := Fin 16

/-- The tile of a channel: c div 8 (R6). -/
def tileOf (c : Nat) : Nat := c / 8

/-- A TIME96 value: seconds in TAI, nanoseconds, fraction of a nanosecond in units of 2^-16 ns (R13). -/
structure Time96 where
  sec  : BitVec 48
  ns   : BitVec 32
  frac : BitVec 16
deriving DecidableEq, Repr

/-- The TIME96 value zero. -/
def Time96.zero : Time96 := ⟨0, 0, 0⟩

/-- The two time domains (R13, R274). -/
inductive Domain where
  | a
  | b
deriving DecidableEq, Repr

/-- The two variants of the module (R2). -/
inductive Variant where
  | l10
  | e20
deriving DecidableEq, Repr

/-- The dictionary roles (R148). -/
inductive Role where
  | observer
  | operator
  | custodian
  | service
deriving DecidableEq, Repr

end Sys2Proof
end

