-- ==== Sys2Proof/Types.lean ====
section
/-!
DEFINITION. The data the commands carry and the state holds: requests and their answers, handshake
and record contents, module states, ledger requests, alarms.
-/
namespace Sys2Proof

/-- A request: the session it came in and its REQ_ID (R196). -/
structure Req where
  sess : Nat
  id   : BitVec 16
deriving DecidableEq, Repr

/-- The module states of R86. -/
inductive ModState where
  | unpowered | starting | running | restarting | stopping | stopped | thermalStop | strapFault | reset
deriving DecidableEq, Repr

/-- The oven oscillator: cold, in warm-up, steady (R64, R91). -/
inductive Oven where
  | cold | warming | steady
deriving DecidableEq, Repr

/-- Why the module is held in RESET (R86, the row RESET): the supply, the over-voltage stop, or the
10 ms after a host cold restart, a RESTART from STOPPED or cause 9. -/
inductive Hold where
  | none | supply | overVoltage | timed | powerOn
deriving DecidableEq, Repr

/-- The roles of Spar engines, in the coding of SPAR_ROLE (R97, R107). -/
inductive SparRole where
  | spare | boot | gleno | reef | servo | halyard | cal | pair | tables | channels | obs | failed | retired
deriving DecidableEq, Repr

/-- What a Spar engine's clock and power do (R64, R80). -/
inductive SparPower where
  | off | running | stopped
deriving DecidableEq, Repr

/-- The three grant classes of R65, in order of service. -/
inductive Cls where
  | repair | traffic | background
deriving DecidableEq, Repr

/-- What a ledger request asks for (R64, R65). -/
inductive Ask where
  | laserBank (e : Nat)                 -- start of the laser bank of an engine
  | tileWake (t : Nat)                  -- wake of a tile from deep sleep
  | sliceWake (t : Nat)                 -- wake of one lookup slice of a tile
  | unfurl (c : Nat)                    -- unfurl of a transmit direction that traffic calls for
  | bringUp (c : Nat)                   -- lanes 1 to 3 at bring-up stage 1
  | holdUnfurl (c : Nat)                -- unfurl asked for by a Halyard hold
  | repairUnfurl (c : Nat)              -- unfurl of a furled direction that lost a lane
  | ovfOpen                             -- opening the overflow store
  | spareLaser (e : Nat) (k : Nat)      -- spare k of engine e
  | sparMigration (r : Nat)             -- power for the spare engine that takes the role of engine r
  | calRun (kind : Nat) (inst : Nat)    -- a calibration run
  | sparClock (e : Nat)                 -- the wake of an engine whose clock is stopped (R80)
  | flashWrite (what : Nat)             -- 0 settings, 1 calibration record, 2 event log, 3 update
  | shutdownFlush                       -- the writes of step 5 of an orderly shutdown
deriving DecidableEq, Repr

/-- The control fields of an alignment marker (R249) as received on one lane. -/
structure Marker where
  rev   : Nat
  caps  : BitVec 8
  am    : BitVec 16
  tx    : BitVec 4
  next  : BitVec 4
  at_   : BitVec 16
  max   : BitVec 4
  fault : BitVec 4
  force : Bool
  abrupt : Bool
  brace : Bool
  tapLane : Lane
  tapSel : Bool
  tapReq : Nat
deriving DecidableEq, Repr

/-- The control word of a training frame (R255) as received on one lane; `inverted` is what the first
symbols showed (R257). -/
structure Train where
  laneId  : Lane
  idOk    : Bool
  caps    : BitVec 8
  preReq  : Nat
  postReq : Nat
  inverted : Bool
deriving DecidableEq, Repr

/-- The AUTHENTICATION TLV of a received message: its key, its SPP and whether the ICV agrees (R389). -/
structure Icv where
  key : BitVec 32
  spp : BitVec 8
  ok  : Bool
deriving DecidableEq, Repr

/-- The header of a received PTP message (R364): source port identity, sequenceId, unicastFlag, the epoch and
the fine-invalid flag of messageTypeSpecific, correctionField, authentication. -/
structure PtpHdr where
  src     : BitVec 64
  port    : BitVec 16
  seq     : BitVec 16
  unicast : Bool
  epoch   : BitVec 4
  coarse  : Bool
  corr    : Int
  icv     : Option Icv
deriving DecidableEq, Repr

/-- The two PTP instances (R359). -/
inductive PtpInst where
  | halyard | telecom
deriving DecidableEq, Repr

/-- The data of a HELLO TLV (R372). -/
structure Hello where
  vmax    : Nat
  vmin    : Nat
  version : Nat
  flags   : BitVec 8
  chan    : BitVec 8
deriving DecidableEq, Repr

/-- The data of an Announce: grandmaster, steps removed, time properties laid out as TIME_PROPERTIES. -/
structure Announce where
  gm    : BitVec 64
  cls   : BitVec 8
  prio2 : BitVec 8
  steps : BitVec 16
  utc   : BitVec 16
  flags : BitVec 8
  src   : BitVec 8
  hello : Option Hello
deriving DecidableEq, Repr

/-- The data of a SKEW TLV (R373). -/
structure Skew where
  set     : BitVec 16
  peerSet : BitVec 16
  st      : Nat
  skew    : List Int
  sigma   : List Nat
  txDiff  : List Int
  wave    : List Nat
  delta   : Int
deriving DecidableEq, Repr

/-- A TLV of a Signaling message (R372 to R375). -/
inductive Sig where
  | hello (h : Hello)
  | skew (k : Skew)
  | holdReq (ms : Nat)
  | holdAns (grant : Nat) (reason : Nat)
  | l1sync (flags : BitVec 16)
deriving DecidableEq, Repr

/-- How a calibration run ends (R397, R404): a precondition lost, samples short, or a result. -/
inductive CalRes where
  | lost (n : Nat)
  | short
  | preempted
  | tap (empty : Bool) (widest : Nat)                                     -- kind 1, widest tap in fs
  | asym (a lam0 resid sigma : Nat) (half : Bool) (skew : List Int) (sigmas : List Nat)   -- kind 2, 10^-7 ps/nm2, pm, fs, fs
  | lane (loop : Int) (sigma : Nat)                                       -- kind 3, 2^-16 ns, fs
  | driver (delay : Int) (sigma : Nat)                                    -- kind 4, 2^-16 ns, fs
deriving DecidableEq, Repr

/-- One refit of the ageing model (R421, R422): fitted flags, the record's eight F32 words, the residual and
the factory noise, and what is projected from it. -/
structure AgeFit where
  flags   : BitVec 8
  words   : List (BitVec 32)
  resid   : Nat
  noise   : Nat
  days    : Nat          -- days until 0.95 I_EOL at the 2 sigma bound
  reached : Bool         -- the measured bias has reached 0.95 I_EOL
  units   : Nat          -- 1.10 x the bank draw 90 days ahead, rounded up
  mean    : Nat          -- 30-day mean of the core control voltage, mV
deriving DecidableEq, Repr

/-- How a data frame came through MACsec: in the clear, or protected with the verdicts on its ICV, its place in the
replay window and its AN (R560, R563). -/
inductive RxSec where
  | clear
  | sealed (icvOk inWindow anKnown : Bool)
deriving DecidableEq, Repr

/-- SEQ of a sealed record or frame and the verdict on its tag (R206, R515). -/
structure Seal where
  seq : Nat
  ok  : Bool
deriving DecidableEq, Repr

/-- What the mate reports at pairing: role, ROLE_EPOCH, PAIR_SCOPE, PAIR_NUMBER, PAIR_STATE 2, serial number
(R510, R532). -/
structure PairInfo where
  role     : Fin 3
  epoch    : BitVec 32
  scope    : BitVec 32
  number   : BitVec 32
  diverged : Bool
  serial   : BitVec 64
deriving DecidableEq, Repr

/-- The body of a shroud heartbeat (R515). -/
structure Beat where
  role   : Fin 3
  flags  : BitVec 8
  epoch  : BitVec 32
  number : BitVec 32
  ckpt   : BitVec 32
  ql     : Fin 16
  cls    : BitVec 8
  eeec   : BitVec 8
  eec    : BitVec 8
deriving DecidableEq, Repr

/-- The HEARTBEAT field of the mate's slot frame (R194): role, MASTER apart. -/
structure GBeat where
  role       : Fin 4
  stopped    : Bool
  restarting : Bool
deriving DecidableEq, Repr

/-- The header of a received Gleno frame (R184, R192): the port it came on; whether it
carries the group address and no VLAN tag; its EtherType; VERSION, KIND, SOURCE and CYCLE. -/
structure GHead where
  port    : Fin 2
  ours    : Bool
  et      : BitVec 16
  version : BitVec 8
  kind    : BitVec 8
  source  : BitVec 8
  cycle   : BitVec 32
deriving DecidableEq, Repr

/-- The body of a cycle-start frame (R193). -/
structure CycleBody where
  time     : BitVec 16
  slots    : BitVec 8
  vmin     : BitVec 8
  presence : BitVec 32
  joinAck  : BitVec 32
deriving DecidableEq, Repr

/-- A record of a slot frame (R195): its header, and its content as the Gleno interface opens it (R206). -/
structure GRec where
  session : BitVec 16
  dest    : BitVec 8
  kind    : BitVec 8
  auth    : Seal
  content : List Byte
deriving DecidableEq, Repr

/-- What an MKA PDU of the peer says: its ICV verifies, it lists this end as live, a common cipher suite, key server
priority and SCI, an SAK it distributes (AN, key number), the key number it has installed both ways, and whether it
asks for a new SAK (R559, R562). -/
structure MkaPdu where
  icvOk     : Bool
  live      : Bool
  suite     : Bool
  prio      : BitVec 8
  sci       : BitVec 64
  sak       : Option (Fin 4 × BitVec 32)
  installed : Option (BitVec 32)
  rekey     : Bool
deriving DecidableEq, Repr

/-- What a frame meets on arrival: 0.5 ns units since the last mast edge (R456), bytes waiting in its port's
ingress lookup queue (R429), whether the stream function is beyond its rate (R520), and its ingress stamp in 2^-16 ns of the
telecom instance's domain (R392). -/
structure Arrival where
  half     : Fin 20
  waiting  : Nat
  overload : Bool
  stamp    : Int
deriving DecidableEq, Repr

/-- The alarms of the manual. The chapter that raises each gives the high byte of its code (R603). -/
inductive Alarm where
  | strapFault | strapChange | reversedFlow | dieWarning   -- chapter 1
  | ceilingBelowFloor | underDeclared | bankRefused | overVoltage | overVoltageStop | cellLow   -- chapter 2
  | startDeadline | thermalRepeat | roleStopped | sparExhausted | sparesLow   -- chapter 3
  | postFail | wrongKeys   -- chapter 4
  | pairDiverged | scopeDiffers   -- chapter 5
  | onePortDown | bothPortsDown | joinUnacked | addressConflict | noSlot   -- chapter 6
  | subMinor | subMajor | spareCheck | unresolved | laserNoSpare | rxPower   -- chapter 7
  | bringUp | channelDown   -- chapter 8
  | tileMdll | coreMdll | outMdll | mdllFailed | juryFault | mastFault | lockmonMinor | lockmonMajor   -- chapter 9
  | helper   -- chapter 10
  | disagreeBoth | disagreeNone | lockLoss | holdoverLost | steerWatchdog | alignFail   -- chapter 11
  | halyardFaulty | asymDisagree | asymPhase   -- chapter 12
  | calOverdue | rxMargin | recordFailed | recordLost | switchInPoint | switchNoSpare   -- chapter 13
  | ovfFailed | ovfThree   -- chapter 15
  | shroudMiscabled | shroudVersion | shroudLost | glenoMateLost | mateLost | takeoverInhibited | takeoverStale | dualActive   -- chapter 17
  | watchLapsed | tamperRecord | tamperLock | tamperZero | entropy | pairAuth | macsecPeer   -- chapter 18
  | updateFailed | reserveInvalid | settingsReset | noRegion   -- chapter 19
deriving DecidableEq, Repr

/-- Number of the chapter that raises an alarm: bits [15:8] of its code (R603). -/
def Alarm.chapter : Alarm → Nat
  | .strapFault | .strapChange | .reversedFlow | .dieWarning => 1
  | .ceilingBelowFloor | .underDeclared | .bankRefused | .overVoltage | .overVoltageStop | .cellLow => 2
  | .startDeadline | .thermalRepeat | .roleStopped | .sparExhausted | .sparesLow => 3
  | .postFail | .wrongKeys => 4
  | .pairDiverged | .scopeDiffers => 5
  | .onePortDown | .bothPortsDown | .joinUnacked | .addressConflict | .noSlot => 6
  | .subMinor | .subMajor | .spareCheck | .unresolved | .laserNoSpare | .rxPower => 7
  | .bringUp | .channelDown => 8
  | .tileMdll | .coreMdll | .outMdll | .mdllFailed | .juryFault | .mastFault | .lockmonMinor | .lockmonMajor => 9
  | .helper => 10
  | .disagreeBoth | .disagreeNone | .lockLoss | .holdoverLost | .steerWatchdog | .alignFail => 11
  | .halyardFaulty | .asymDisagree | .asymPhase => 12
  | .calOverdue | .rxMargin | .recordFailed | .recordLost | .switchInPoint | .switchNoSpare => 13
  | .ovfFailed | .ovfThree => 15
  | .shroudMiscabled | .shroudVersion | .shroudLost | .glenoMateLost | .mateLost | .takeoverInhibited | .takeoverStale | .dualActive => 17
  | .watchLapsed | .tamperRecord | .tamperLock | .tamperZero | .entropy | .pairAuth | .macsecPeer => 18
  | .updateFailed | .reserveInvalid | .settingsReset | .noRegion => 19

/-- Whether an alarm is major; the others are minor. -/
def Alarm.major : Alarm → Bool
  | .strapFault | .dieWarning | .ceilingBelowFloor | .overVoltage | .overVoltageStop | .startDeadline | .thermalRepeat | .sparExhausted
  | .bothPortsDown | .addressConflict | .noSlot | .subMajor | .laserNoSpare | .coreMdll | .outMdll | .mdllFailed
  | .juryFault | .mastFault | .lockmonMajor | .helper | .disagreeBoth | .holdoverLost | .steerWatchdog | .switchNoSpare
  | .ovfFailed | .takeoverInhibited | .dualActive | .tamperLock | .tamperZero | .entropy | .updateFailed | .noRegion => true
  | .strapChange | .reversedFlow | .underDeclared | .bankRefused | .cellLow | .roleStopped | .sparesLow | .postFail
  | .wrongKeys | .pairDiverged | .scopeDiffers | .onePortDown | .joinUnacked | .subMinor | .spareCheck | .unresolved
  | .rxPower | .bringUp | .channelDown | .tileMdll | .lockmonMinor | .disagreeNone | .lockLoss | .alignFail
  | .halyardFaulty | .asymDisagree | .asymPhase | .calOverdue | .rxMargin | .recordFailed | .recordLost | .switchInPoint
  | .ovfThree | .shroudMiscabled | .shroudVersion | .shroudLost | .glenoMateLost | .mateLost | .takeoverStale | .watchLapsed
  | .tamperRecord | .pairAuth | .macsecPeer | .reserveInvalid | .settingsReset => false

/-- Whether an alarm is a condition alarm, which stands while its cause stands; the others are event alarms
(R603); DESIGN CHOICE, assumption 4. -/
def Alarm.condition : Alarm → Bool
  | .strapFault | .dieWarning | .ceilingBelowFloor | .underDeclared | .bankRefused | .overVoltageStop | .cellLow | .thermalRepeat
  | .sparesLow | .pairDiverged | .onePortDown | .bothPortsDown | .joinUnacked | .addressConflict | .noSlot | .spareCheck
  | .unresolved | .laserNoSpare | .bringUp | .tileMdll | .coreMdll | .outMdll | .mdllFailed | .juryFault
  | .mastFault | .helper | .holdoverLost | .alignFail | .halyardFaulty | .calOverdue | .rxMargin | .switchInPoint
  | .switchNoSpare | .ovfFailed | .ovfThree | .shroudMiscabled | .shroudVersion | .shroudLost | .glenoMateLost | .mateLost
  | .dualActive | .tamperLock | .entropy | .pairAuth | .macsecPeer | .reserveInvalid | .noRegion => true
  | .strapChange | .reversedFlow | .overVoltage | .startDeadline | .roleStopped | .sparExhausted | .postFail | .wrongKeys
  | .scopeDiffers | .subMinor | .subMajor | .rxPower | .channelDown | .lockmonMinor | .lockmonMajor | .disagreeBoth
  | .disagreeNone | .lockLoss | .steerWatchdog | .asymDisagree | .asymPhase | .recordFailed | .recordLost | .takeoverInhibited
  | .takeoverStale | .watchLapsed | .tamperRecord | .tamperZero | .updateFailed | .settingsReset => false

/-- The alarms that ALARM_MAP cannot remap, of those R604 names. -/
def Alarm.fixed : Alarm → Bool
  | .strapFault | .overVoltageStop | .mastFault | .tamperLock => true
  | .strapChange | .reversedFlow | .dieWarning | .ceilingBelowFloor | .underDeclared | .bankRefused | .overVoltage | .cellLow
  | .startDeadline | .thermalRepeat | .roleStopped | .sparExhausted | .sparesLow | .postFail | .wrongKeys | .pairDiverged
  | .scopeDiffers | .onePortDown | .bothPortsDown | .joinUnacked | .addressConflict | .noSlot | .subMinor | .subMajor
  | .spareCheck | .unresolved | .laserNoSpare | .rxPower | .bringUp | .channelDown | .tileMdll | .coreMdll
  | .outMdll | .mdllFailed | .juryFault | .lockmonMinor | .lockmonMajor | .helper | .disagreeBoth | .disagreeNone
  | .lockLoss | .holdoverLost | .steerWatchdog | .alignFail | .halyardFaulty | .asymDisagree | .asymPhase | .calOverdue
  | .rxMargin | .recordFailed | .recordLost | .switchInPoint | .switchNoSpare | .ovfFailed | .ovfThree | .shroudMiscabled
  | .shroudVersion | .shroudLost | .glenoMateLost | .mateLost | .takeoverInhibited | .takeoverStale | .dualActive | .watchLapsed
  | .tamperRecord | .tamperZero | .entropy | .pairAuth | .macsecPeer | .updateFailed | .reserveInvalid | .settingsReset
  | .noRegion => false

/-- The number of an alarm in the model's own list. -/
def Alarm.number : Alarm → Nat
  | .strapFault => 0
  | .strapChange => 1
  | .reversedFlow => 2
  | .dieWarning => 3
  | .ceilingBelowFloor => 4
  | .underDeclared => 5
  | .bankRefused => 6
  | .overVoltage => 7
  | .overVoltageStop => 8
  | .cellLow => 9
  | .startDeadline => 10
  | .thermalRepeat => 11
  | .roleStopped => 12
  | .sparExhausted => 13
  | .sparesLow => 14
  | .postFail => 15
  | .wrongKeys => 16
  | .pairDiverged => 17
  | .scopeDiffers => 18
  | .onePortDown => 19
  | .bothPortsDown => 20
  | .joinUnacked => 21
  | .addressConflict => 22
  | .noSlot => 23
  | .subMinor => 24
  | .subMajor => 25
  | .spareCheck => 26
  | .unresolved => 27
  | .laserNoSpare => 28
  | .rxPower => 29
  | .bringUp => 30
  | .channelDown => 31
  | .tileMdll => 32
  | .coreMdll => 33
  | .outMdll => 34
  | .mdllFailed => 35
  | .juryFault => 36
  | .mastFault => 37
  | .lockmonMinor => 38
  | .lockmonMajor => 39
  | .helper => 40
  | .disagreeBoth => 41
  | .disagreeNone => 42
  | .lockLoss => 43
  | .holdoverLost => 44
  | .steerWatchdog => 45
  | .alignFail => 46
  | .halyardFaulty => 47
  | .asymDisagree => 48
  | .asymPhase => 49
  | .calOverdue => 50
  | .rxMargin => 51
  | .recordFailed => 52
  | .recordLost => 53
  | .switchInPoint => 54
  | .switchNoSpare => 55
  | .ovfFailed => 56
  | .ovfThree => 57
  | .shroudMiscabled => 58
  | .shroudVersion => 59
  | .shroudLost => 60
  | .glenoMateLost => 61
  | .mateLost => 62
  | .takeoverInhibited => 63
  | .takeoverStale => 64
  | .dualActive => 65
  | .watchLapsed => 66
  | .tamperRecord => 67
  | .tamperLock => 68
  | .tamperZero => 69
  | .entropy => 70
  | .pairAuth => 71
  | .macsecPeer => 72
  | .updateFailed => 73
  | .reserveInvalid => 74
  | .settingsReset => 75
  | .noRegion => 76

end Sys2Proof
end

