-- ==== Sys2Proof/Syntax.lean ====
section
/-!
DEFINITION. The commands of the block: one constructor per row of the table of operations and events.
-/
namespace Sys2Proof

/-- The commands. Each constructor is one row of spec/opcode_table.json. -/
inductive Instr where
  /-- INLET_APPLIED (R86): The +48 V blade mates or the inlet returns; the Amber island moves to the base supply and the base entry is booked while the start condition is timed. -/
  | inletApplied (mv : BitVec 16) (reversed : Bool)
  /-- START_PERMITTED (R57): The inlet has stayed at or above 40.0 V for 100 ms, so the module enters STARTING, or RESET while RESET_N is low. -/
  | startPermitted (mv : BitVec 16)
  /-- INLET_REMOVED (R86): Loss of the inlet takes the module to UNPOWERED and moves the Amber island to its cell. -/
  | inletRemoved
  /-- REGULATORS_VALID (R87): The regulator ramp completes: the straps are sampled, the mast clock runs, the time base starts and stage 1 is reached. -/
  | regulatorsValid (pass : BitVec 16) (vA : Fin 9) (vR : Fin 9) (vS : Fin 9) (lapsed : Bool)
  /-- ADDRESS_LATCHED (R35): Sixteen consecutive agreeing strap samples over 1 ms latch the module address. -/
  | addressLatched
  /-- STRAP_FAULT (R36): The straps give no 16 agreeing samples within 100 ms, or give address 0 or 1, and the module enters STRAP FAULT silently. -/
  | strapFault
  /-- STRAP_CHANGE (R37): A strap level changes after latching; the address is unchanged, the change is logged and a minor alarm raised. -/
  | strapChange (straps : BitVec 5)
  /-- LASER_EN_FALL (R38): LASER_EN held low for 1 µs removes drive from all lasers within 1 ms, releases their grants and takes channels down. -/
  | laserEnFall
  /-- LASER_EN_QUALIFIED (R39): LASER_EN has been high for 10 ms without interruption, enabling laser staging. -/
  | laserEnQualified
  /-- STAGING_INSTANT (R89): The staging instant S plus the address delay is reached and the laser bank of engine 0 is requested. -/
  | stagingInstant
  /-- RESET_N_ASSERTED (R40): RESET_N held low for 10 µs resets the module, with lasers off, outputs at 0 V and alarm contacts released. -/
  | resetNAsserted
  /-- RESET_N_RELEASE (R86): RESET_N rises, ending a reset held by it or ending a shorter pulse. -/
  | resetNRelease (ns : Nat)
  /-- RESET_END (R86): The reset cause is removed, for example the inlet restored for 100 ms or 10 ms after a host cold restart, and a cold start from the regulator stage begins. -/
  | resetEnd (mv : BitVec 16)
  /-- LEVEL_4_ENTRY (R76): The inlet falls below the warning threshold and within 20 µs the module is at level 4 in the brace state. -/
  | level4Entry (lowest : BitVec 16) (below : BitVec 16)
  /-- LEVEL_4_EXIT (R78): The warning exit condition has held, so lasers return to full bias, elements wake and a level is chosen again. -/
  | level4Exit (mv : BitVec 16) (lowest : Option (BitVec 16))
  /-- SUPPLY_RESET (R58): The inlet falls below 33.0 V and the module resets. -/
  | supplyReset (lowest : BitVec 16) (below : BitVec 16)
  /-- OVER_VOLTAGE_ALARM (R58): The inlet stays above 60.0 V for 1 ms and a major alarm is raised while operation continues. -/
  | overVoltageAlarm (mv : BitVec 16)
  /-- OVER_VOLTAGE_STOP (R58): The inlet reaches 64.0 V; lasers go off and the module is held in reset with its regulators running. -/
  | overVoltageStop (mv : BitVec 16)
  /-- REVERSED_FLOW (R49): The outlet reads more than 1 K colder than the inlet for 10 s and a minor alarm for reversed flow is raised. -/
  | reversedFlow
  /-- DIE_WARNING (R75): A die crosses its warning threshold: a major alarm, reef level at least 2 and the admissible total cut to nine tenths. -/
  | dieWarning (die : BitVec 8)
  /-- DIE_WARNING_END (R75): Every die has been 5 K below its warning threshold for 60 s and the thermal derating ends. -/
  | dieWarningEnd
  /-- THERMAL_STOP (R105): A die passes its shutdown threshold; lasers go off within 1 ms, tiles deep sleep, frames are discarded and the mate takes over. -/
  | thermalStop
  /-- THERMAL_RECOVERY (R86): Every die has been 10 K below warning for 60 s, and the module restarts from the Spar stage or goes to STOPPED after three stops in 24 h. -/
  | thermalRecovery (pass : BitVec 16) (vA : Fin 9) (vR : Fin 9) (vS : Fin 9)
  /-- CELL_TEST (R84): Every 24 h the Amber cell is tested under load and CELL_VOLTAGE and CELL_STATUS are updated. -/
  | cellTest (mv : BitVec 16)
  /-- LEDGER_EVALUATION (R60): The reef controller recomputes the ledger voltage and admissible total and applies ceiling, floor, reserve and priority changes. -/
  | ledgerEvaluation (mv : BitVec 16) (cur : BitVec 16) (lowest : Option (BitVec 16))
  /-- REEF_LEVEL_FALL (R74): The booked total has stayed C/20 below the admissible total for 1 s, or 60 s after a recent rise, and the level falls one step. -/
  | reefLevelFall
  /-- REEF_REQUEST (R65): An element asks for a state of higher draw and the request is granted, queued by class or refused. -/
  | reefRequest (a : Ask)
  /-- REEF_GRANT (R65): A waiting request fits under the admissible total of its class and is granted. -/
  | reefGrant
  /-- REQUEST_RETRY (R67): The retry interval of a refused request expires and the request is repeated. -/
  | requestRetry (a : Ask)
  /-- BANK_REFUSED_ALARM (R67): A laser bank start has been refused for 10 s and a minor alarm is raised. -/
  | bankRefusedAlarm (t : Tile)
  /-- UNDER_DECLARED_DRAW (R63): The measured inlet current exceeds the ceiling for 10 ms; the level rises a step, the event is counted and a minor alarm raised. -/
  | underDeclaredDraw (cur : BitVec 16)
  /-- UNDER_DECLARED_CLEAR (R63): The measured current has stayed within the ceiling for 1 s and the under-declared alarm ends. -/
  | underDeclaredClear (cur : BitVec 16)
  /-- TILE_LIGHT_SLEEP (R80): A tile with no frame queued or in flight for 1 µs gates its core clock tree. -/
  | tileLightSleep (t : Tile)
  /-- TILE_LIGHT_WAKE (R81): A frame arrives at a tile in light sleep, which wakes within 200 ns without a new grant. -/
  | tileLightWake (t : Tile)
  /-- TILE_DEEP_SLEEP (R80): A tile whose eight channels are down with no frame queued stops its MDLL and keeps its memories. -/
  | tileDeepSleep (t : Tile)
  /-- TILE_DEEP_WAKE (R80): A granted wake from deep sleep starts the tile MDLL and ends within 120 µs. -/
  | tileDeepWake (t : Tile)
  /-- SLICE_SLEEP (R80): A lookup slice not needed for 10 ms stops its clock. -/
  | sliceSleep (t : Tile)
  /-- SLICE_WAKE (R80): A lookup slice wakes within 100 ns under a grant when the tile's load needs it. -/
  | sliceWake (t : Tile)
  /-- NYMYX_STARTED (R87): The boot ROM has verified and started Nymyx, stage 3 is reached and the alarm contacts follow the alarms. -/
  | nymyxStarted (lost : List Nat)
  /-- START_DEADLINE_MISSED (R87): A cold start stage misses its deadline, raising a major alarm and recording it in START_TIMES. -/
  | startDeadlineMissed (stage : Fin 8)
  /-- OVEN_WARM (R91): The oven has stayed within its control band for 10 s, ending warm-up and its warm-up ledger entry. -/
  | ovenWarm
  /-- STAGE_7_REACHED (R88): The oven is warm and every channel of every lit engine has reached bring-up stage 6 or timed out, so the module enters RUNNING. -/
  | stage7Reached
  /-- RESTART_WARM (R107): RESTART value 1 in RUNNING starts a warm start of the Spar complex. -/
  | restartWarm (q : Req)
  /-- RESTART_COLD (R107): RESTART value 2, or either value in STOPPED, resets the module with cause 5. -/
  | restartCold (q : Req) (v : BitVec 8)
  /-- NYMYX_FATAL_FAULT (R86): A fatal Nymyx fault enters RESTARTING, or restarts a warm start already in progress. -/
  | nymyxFatalFault
  /-- WARM_START_COMPLETE (R96): All Nymyx roles have resumed and the module returns to the state from which it entered RESTARTING. -/
  | warmStartComplete (v : Fin 9)
  /-- WARM_START_TIMEOUT (R96): A warm start has not completed 5 s after first entry and the module resets with cause 9. -/
  | warmStartTimeout
  /-- STOP_ORDERLY (R102): STOP value 1 checks the handover conditions and runs the orderly shutdown with a handover of the time outputs. -/
  | stopOrderly (q : Req)
  /-- STOP_NO_HANDOVER (R102): STOP value 2 runs the orderly shutdown without a handover. -/
  | stopNoHandover (q : Req)
  /-- SHUTDOWN_FLUSH_TIMEOUT (R102): The flash writes of step 5 are not complete 1 s after the step began, so the shutdown goes on to step 6. -/
  | shutdownFlushTimeout
  /-- SHUTDOWN_COMPLETE (R104): The orderly shutdown sequence ends and the module enters STOPPED with STOP_STATUS 2. -/
  | shutdownComplete
  /-- LASER_RELEASE (R89): In start mode 1, LASER_RELEASE releases the staging of the lasers. -/
  | laserRelease (q : Req) (v : Bool)
  /-- SPAR_ENGINE_FAILURE (R98): An engine misses its watchdog, reports an uncorrectable memory error or fails its self-check, and its role begins to migrate. -/
  | sparEngineFailure (e : SparNo)
  /-- ROLE_MIGRATION_RESUMED (R98): The spare engine is powered and loaded with the role's checkpoint, and the role resumes. -/
  | roleMigrationResumed (e : SparNo)
  /-- REGISTER_WRITE (R114): A write to a register without a row of its own takes effect at the next register clock edge, subject to access codes and guards. -/
  | registerWrite (q : Req) (v : Word)
  /-- MASKED_WRITE (R117): A write to an RWM register changes only the payload bits selected by its mask. -/
  | maskedWrite (q : Req) (mask : BitVec 16) (payload : BitVec 16)
  /-- POSTED_WRITE (R118): A write to a PW field is queued in its block's posting queue, or refused when the queue is full. -/
  | postedWrite (q : Req) (v : Word)
  /-- POSTED_WRITE_LANDED (R118): A posted write lands in its slow domain and leaves the queue. -/
  | postedWriteLanded (base : Nat)
  /-- POSTED_WRITE_DROPPED (R120): A posted write has not landed within 10 ms and is dropped with POST_FAIL and a minor alarm. -/
  | postedWriteDropped (base : Nat)
  /-- RC_FIELD_READ (R121): A read of an RC field through the register window returns the field and clears it. -/
  | rcFieldRead (q : Req)
  /-- WIDE_READ_LATCH (R123): A read of the low word of a wide value latches the upper words into the session's read shadow. -/
  | wideReadLatch (q : Req)
  /-- WIDE_UPPER_WRITE (R124): A write to an upper word of a wide RW value goes into the session's write shadow. -/
  | wideUpperWrite (q : Req) (v : Word)
  /-- WIDE_LOW_WRITE (R124): A write to the low word applies the whole wide value on one register clock edge. -/
  | wideLowWrite (q : Req) (v : Word)
  /-- GUARD_UNLOCK (R127): The unlock key written to GUARD opens the block's guard for the writing session. -/
  | guardUnlock (q : Req)
  /-- GUARD_LOCK (R128): The lock value written to GUARD sets the lock until a cleared start. -/
  | guardLock (q : Req)
  /-- GUARD_WRONG_KEY (R127): Any other value written to GUARD closes the session's guard and counts a wrong key, with an alarm after four in a row. -/
  | guardWrongKey (q : Req) (v : Word)
  /-- GUARD_TIMEOUT (R127): An open guard closes 1 ms after the key. -/
  | guardTimeout (base : Nat)
  /-- WINDOW_WRITE (R131): A write through the broadcast window or a group window reaches every member on one edge, skipping locked members. -/
  | windowWrite (q : Req) (v : Word)
  /-- WINDOW_READ (R132): A read through a window returns the OR of RC fields or the lowest-numbered member's value and clears nothing. -/
  | windowRead (q : Req)
  /-- REG_BLOCK_READ (R136): A REG_BLOCK read transfer reads registers in ascending order and stops at a refused register. -/
  | regBlockRead (q : Req)
  /-- REG_BLOCK_WRITE (R136): A REG_BLOCK write transfer writes registers in ascending order and stops at a refused register. -/
  | regBlockWrite (q : Req) (d : List Byte)
  /-- OBJECT_READ (R154): Request OP 0x01 reads an object at one mast clock edge, clearing RC objects for roles of operator or above. -/
  | objectRead (q : Req) (idx : BitVec 16) (sub : BitVec 8)
  /-- OBJECT_WRITE (R154): Request OP 0x02 writes an RW object after the role, type, length and range checks. -/
  | objectWrite (q : Req) (idx : BitVec 16) (sub : BitVec 8) (v : List Byte)
  /-- RWS_STAGE (R160): A write of an RWS object is checked and staged in the session's staging area until commit. -/
  | rwsStage (q : Req) (idx : BitVec 16) (sub : BitVec 8) (v : List Byte)
  /-- INITIATE_READ_TRANSFER (R175): Request OP 0x03 opens a segmented read, freezes the content and returns its length and CRC-32. -/
  | initiateReadTransfer (q : Req) (idx : BitVec 16) (sub : BitVec 8)
  /-- INITIATE_WRITE_TRANSFER (R175): Request OP 0x04 opens a segmented write with a declared total length. -/
  | initiateWriteTransfer (q : Req) (idx : BitVec 16) (sub : BitVec 8) (len : BitVec 32)
  /-- SEGMENT (R175): Request OP 0x05 carries or returns one segment of an open transfer. -/
  | segment (q : Req) (n : BitVec 32) (last : Bool) (d : List Byte) (crc : BitVec 32)
  /-- ABORT_TRANSFER (R177): Request OP 0x06 aborts the open transfer and discards any written content. -/
  | abortTransfer (q : Req)
  /-- TRANSFER_TIMEOUT (R177): No segment arrives for 1,000 cycles and the transfer is aborted with 0x0808. -/
  | transferTimeout (n : BitVec 16)
  /-- CLOSE_SESSION (R212): Request OP 0x07 closes the session and discards its staged values. -/
  | closeSession (q : Req)
  /-- COMMIT (R162): A COMMIT mask checks the session's staged sets in order and schedules the commit, or starts a pair commit. -/
  | commit (q : Req) (mask : BitVec 32)
  /-- COMMIT_APPLY (R164): A scheduled commit reaches its applying edge and every value of its sets takes effect at once, raising the generations. -/
  | commitApply
  /-- COMMIT_ABORT (R165): COMMIT_ABORT discards staged values and cancels scheduled commits of the named sets, asking the mate for pair commits. -/
  | commitAbort (q : Req) (mask : BitVec 32)
  /-- PAIR_COMMIT_REQUEST (R168): The mate receives the staged pair-scoped values and generations and checks them against its own state. -/
  | pairCommitRequest (x : Seal) (mask : BitVec 32) (gens : List (Nat × BitVec 32)) (vals : List (Nat × List Byte))
  /-- PAIR_COMMIT_REPLY (R168): The originating module receives the mate's pass or failure and schedules the pair commit or fails it with 0x0809. -/
  | pairCommitReply (x : Seal) (st : Status) (idx : BitVec 16) (sub : BitVec 8) (reason : BitVec 8) (op : BitVec 32) (number : BitVec 32)
  /-- PAIR_COMMIT_TIMEOUT (R168): The mate has not answered a pair commit within 10 ms and nothing is applied on either module. -/
  | pairCommitTimeout
  /-- PAIR_COMMIT_ORDER (R169): The mate receives the order to schedule a pair commit at an instant, or diverges if the instant has passed. -/
  | pairCommitOrder (x : Seal) (t : Time96) (number : BitVec 32) (given : Bool)
  /-- PAIR_COMMIT_CANCEL (R165): The mate receives a cancellation of a scheduled pair commit and cancels and confirms if at least 1 ms remains. -/
  | pairCommitCancel (x : Seal) (number : BitVec 32)
  /-- PAIR_CANCEL_CONFIRM (R165): The mate's confirmation of a cancellation reaches the originating module before the applying instant and the abort completes. -/
  | pairCancelConfirm (x : Seal) (number : BitVec 32)
  /-- PAIR_SCOPE_WRITE (R167): A write of PAIR_SCOPE is sent to a paired mate, or applied locally while no mate is paired or the mate is lost. -/
  | pairScopeWrite (q : Req) (v : BitVec 32)
  /-- PAIR_SCOPE_CONFIRM (R167): The mate confirms a PAIR_SCOPE change and both modules take it at the same edge. -/
  | pairScopeConfirm (x : Seal) (v : BitVec 32)
  /-- PAIR_SCOPE_TIMEOUT (R167): The mate has not confirmed a PAIR_SCOPE write within 10 ms and neither module changes. -/
  | pairScopeTimeout
  /-- SNAP_REQUEST (R173): SNAP_REQUEST captures the named sets coherently into the lowest free snapshot slot. -/
  | snapRequest (q : Req) (mask : BitVec 32)
  /-- SNAP_RELEASE (R174): SNAP_RELEASE frees the snapshot slot named. -/
  | snapRelease (q : Req) (k : BitVec 8)
  /-- SNAP_SLOT_EXPIRY (R174): A snapshot slot is freed 60 s after capture. -/
  | snapSlotExpiry (k : Fin 5) (ctr : Bool)
  /-- SETTINGS_CLEAR (R153): SETTINGS_CLEAR 0x5A marks the stored settings for erasure at the next cleared start, and 0x00 cancels it. -/
  | settingsClear (q : Req) (v : BitVec 8)
  /-- SETTINGS_SAVE (R152): A changed stored value is saved to flash under a background flash-write grant. -/
  | settingsSave
  /-- KR_TRAINING_COMPLETE (R182): A Gleno port completes Clause 72 training. -/
  | krTrainingComplete (p : Fin 2) (alone : Bool)
  /-- KR_TRAINING_RETRY (R183): A port whose training failed restarts training 1 s later. -/
  | krTrainingRetry (p : Fin 2)
  /-- KR_LINK_DOWN (R183): A trained port loses block lock or enters high BER, goes down and retrains at once. -/
  | krLinkDown (p : Fin 2)
  /-- GLENO_BOTH_DOWN (R183): Both Gleno ports have been down for 1 s and a major alarm is raised. -/
  | glenoBothDown
  /-- CYCLE_START_RECEIVED (R188): A cycle-start frame is accepted or ignored, and if accepted it sets the cycle mark and drives the join and master states. -/
  | cycleStartReceived (h : GHead) (b : CycleBody)
  /-- MASTER_HOLDOFF_EXPIRY (R201): No accepted cycle-start for the address-dependent hold-off makes the module the cycle master. -/
  | masterHoldoffExpiry
  /-- CYCLE_START_TRANSMIT (R204): The module master sends a cycle-start with PRESENCE and JOIN_ACK on every trained port at each cycle. -/
  | cycleStartTransmit
  /-- SLOT_TRANSMIT (R189): The module's slot begins and it sends one slot frame with its heartbeat and answers on each port. -/
  | slotTransmit (ready : Bool)
  /-- SLOT_FRAME_RECEIVED (R195): A slot frame is received and its records addressed to the module are opened and processed. -/
  | slotFrameReceived (h : GHead) (hb : BitVec 16) (recs : List GRec) (beyond : Bool)
  /-- JOIN_START (R201): After three cycles heard without its own frame, a joining module begins sending JOIN. -/
  | joinStart
  /-- JOIN_UNACKNOWLEDGED (R201): 64 cycles with JOIN and no acknowledgement raise a minor alarm. -/
  | joinUnacknowledged
  /-- PRESENCE_LOST (R201): The module's PRESENCE bit is clear in three cycle-starts in a row and it returns to JOINING. -/
  | presenceLost
  /-- NODE_LOST (R205): An address's slot frame is missing on both ports for three cycles and it is marked in LOST_NODES. -/
  | nodeLost (a : Fin 32)
  /-- REQUEST_COMPLETION (R198): A request answered 0x0402 finishes and its result is sent as a completion record. -/
  | requestCompletion
  /-- COMPLETION_TIMEOUT (R198): Work answered 0x0402 cannot finish within 4,096 cycles and its completion carries 0x0401. -/
  | completionTimeout (q : Req)
  /-- HANDSHAKE_OPEN (R208): A handshake OPEN from address 0 or 1, or from the pair initiator, is answered with ACCEPT or REFUSE. -/
  | handshakeOpen (src : Fin 32) (id : BitVec 16) (vmin : BitVec 8) (vmax : BitVec 8) (role : Fin 4)
  /-- HANDSHAKE_PROVE (R211): A PROVE is verified, the role is fixed, and GRANT opens the session or REFUSE refuses it. -/
  | handshakeProve (src : Fin 32) (id : BitVec 16) (chain : List Byte) (sig : Bool) (dev : Bool) (leaf : Bool) (i : PairInfo)
  /-- HANDSHAKE_ACCEPT_RECEIVED (R213): Side A receives the mate's ACCEPT for the pair session and sends PROVE. -/
  | handshakeAcceptReceived (v : BitVec 8) (n : BitVec 16) (chain : List Byte) (sig : Bool) (dev : Bool) (leaf : Bool)
  /-- HANDSHAKE_GRANT_RECEIVED (R213): Side A receives GRANT and the pair session opens. -/
  | handshakeGrantReceived (ok : Bool) (i : PairInfo)
  /-- HANDSHAKE_TIMEOUT (R212): A handshake that has not reached GRANT within 1 s of OPEN is discarded. -/
  | handshakeTimeout (src : Fin 32) (id : BitVec 16)
  /-- SESSION_IDLE_TIMEOUT (R212): No sealed record has come from the host for SESSION_IDLE and the session closes. -/
  | sessionIdleTimeout (n : BitVec 16)
  /-- SESSION_LIFETIME_EXPIRY (R212): A session that has been open for 24 h closes. -/
  | sessionLifetimeExpiry (n : BitVec 16)
  /-- SESSION_CLOSE (R216): A custodian write of SESSION_CLOSE closes the session named. -/
  | sessionClose (q : Req) (n : BitVec 16)
  /-- LASER_BANK_STARTED (R228): A granted laser bank finishes heating, ramping and checking its spares and leaves its starting state, and its channels leave DARK. -/
  | laserBankStarted (t : Tile) (reached : BitVec 8) (bias : List (BitVec 16)) (power : List (BitVec 16)) (lo : Bool) (hi : Bool)
  /-- SUBMOUNT_TEMP_ALARM (R220): A sub-mount departs from 60.0 °C by 0.5 K or 2.0 K for 1 s, raising a minor or major alarm. -/
  | submountTempAlarm (t : Tile) (temp : BitVec 16)
  /-- BEACON_HEARD (R223): A listening channel hears a valid beacon and answers on upper-band lane 0. -/
  | beaconHeard (c : Chan) (family : Fin 16) (vari : Fin 16) (caps : BitVec 8)
  /-- LISTEN_TIMEOUT (R223): LISTEN ends without a beacon after 2 ms plus the hold-off and the channel beacons on the lower band. -/
  | listenTimeout (c : Chan)
  /-- ANSWER_HEARD (R223): A beaconing channel hears an answer, resolves to the lower band and begins bring-up. -/
  | answerHeard (c : Chan) (family : Fin 16) (vari : Fin 16) (caps : BitVec 8)
  /-- BEACON_TIMEOUT (R223): A beacon goes unanswered for 8 ms and the channel backs off, or continues if pinned lower. -/
  | beaconTimeout (c : Chan)
  /-- BACKOFF_EXPIRY (R223): The random back-off elapses and the channel returns to LISTEN. -/
  | backoffExpiry (c : Chan)
  /-- ANSWER_RESOLVED (R223): Lower-band lane 0 changes from beacon words to bring-up and the answering channel resolves to the upper band. -/
  | answerResolved (c : Chan)
  /-- ANSWER_TIMEOUT (R223): No beacon word for 8 ms while answering returns the channel to LISTEN. -/
  | answerTimeout (c : Chan)
  /-- BAND_RELEASE (R223): Loss of signal on all four received lanes for 50 ms releases the band and returns the channel to LISTEN. -/
  | bandRelease (c : Chan)
  /-- BAND_UNRESOLVED (R225): A pinned channel that has not resolved within 1 s raises a minor alarm. -/
  | bandUnresolved (c : Chan)
  /-- LASER_FAILURE (R231): A lit laser is declared failed, its drive removed within 10 µs, retired, and the spare requested. -/
  | laserFailure (t : Tile) (j : Fin 8) (spare : Bool)
  /-- SPARE_LOCKED (R234): The spare is locked and switched into the comb port, and the affected modulators light. -/
  | spareLocked (t : Tile) (j : Fin 8) (wlError : BitVec 16)
  /-- PLANNED_SWITCH_IN (R244): LASER_FORCE 1 requests a planned spare switch-in for a laser. -/
  | plannedSwitchIn (q : Req) (t : Tile) (j : Fin 8)
  /-- LASER_FORCE_OFF (R244): LASER_FORCE 2 declares the laser failed and retires it without a spare switch-in. -/
  | laserForceOff (q : Req) (t : Tile) (j : Fin 8)
  /-- LASER_FORCE_AUTOMATIC (R244): LASER_FORCE 0 returns the laser to automatic control and does nothing to a retired laser. -/
  | laserForceAutomatic (t : Tile) (j : Fin 8)
  /-- RX_LOS_ENTER (R240): A received lane stays below the LOS threshold for 10 µs and enters loss of signal. -/
  | rxLosEnter (c : Chan) (k : Lane) (p : BitVec 16)
  /-- RX_LOS_EXIT (R240): A received lane has been 1 dB above the LOS threshold for 100 µs and leaves loss of signal. -/
  | rxLosExit (c : Chan) (k : Lane) (p : BitVec 16)
  /-- THRESHOLD_CROSSED (R241): A lane's power crosses a receive threshold, raising a minor alarm or setting THRESH. -/
  | thresholdCrossed (c : Chan) (k : Lane) (which : Fin 3) (p : BitVec 16)
  /-- TAP_LIMIT (R238): An adaptive tap has held at a range limit for 10 s and TAP_LIMIT is set. -/
  | tapLimit (c : Chan)
  /-- CLOCK_RECOVERED (R253): Clock and data recovery completes on every awake received lane and bring-up enters training. -/
  | clockRecovered (c : Chan)
  /-- TRAINING_FRAME_RECEIVED (R258): A training frame's control word gives polarity, lane order, tap requests and RX_READY. -/
  | trainingFrameReceived (c : Chan) (k : Lane) (f : Train)
  /-- TRAINING_COMPLETE (R258): Every training lane has shown RX_READY both ways for 100 frames and bring-up enters alignment. -/
  | trainingComplete (c : Chan)
  /-- ALIGNMENT_COMPLETE (R253): Marker lock and deskew are reached on every lane the peer transmits and bring-up enters the check. -/
  | alignmentComplete (c : Chan) (peerTx : BitVec 4) (peerMax : BitVec 4)
  /-- CHECK_COMPLETE (R253): 100 clean marker periods bring the channel to stage 6, MAC up. -/
  | checkComplete (c : Chan)
  /-- BRINGUP_STAGE_TIMEOUT (R255): A bring-up stage fails or times out and the channel returns to stage 2 on the same band. -/
  | bringupStageTimeout (c : Chan)
  /-- BRINGUP_ALARM (R255): 3 s after the received lanes left loss of signal without stage 6 a minor alarm is raised. -/
  | bringupAlarm (c : Chan)
  /-- RETRAIN (R255): A write of RETRAIN takes the channel down and returns it to stage 2. -/
  | retrain (q : Req) (sub : BitVec 8)
  /-- MARKER_PERIOD (R249): At each 10.24 µs marker period markers are sent on every running lane and announced width changes take effect. -/
  | markerPeriod (c : Chan)
  /-- MARKER_RECEIVED (R251): A valid alignment marker is received, gaining lock and giving width, fault, force and tap control fields. -/
  | markerReceived (c : Chan) (k : Lane) (m : Marker)
  /-- MARKER_LOCK_LOST (R251): Three successive marker positions without a valid marker lose marker lock on a lane. -/
  | markerLockLost (c : Chan) (k : Lane)
  /-- FURL_DECISION (R261): The transmit rate has stayed below a furl threshold for 100 ms and the direction announces a furl. -/
  | furlDecision (c : Chan) (percent : Nat)
  /-- UNFURL_REQUEST (R261): The rate or buffer occupancy calls for more lanes and the modulator entries are requested. -/
  | unfurlRequest (c : Chan)
  /-- LANE_REJOIN (R262): A lane available again rejoins by announcement and the channel returns to full width. -/
  | laneRejoin (c : Chan) (k : Lane)
  /-- PRBS_CHECKER_LOCK (R268): A PRBS checker locks after 64 error-free symbols, and counting starts once all named checkers are locked. -/
  | prbsCheckerLock (c : Chan) (k : Lane)
  /-- FRAME_RECEIVED (R427): A frame accepted by the channel MAC is parsed, classified, looked up, metered and handed to the fabric, or discarded by reason. -/
  | frameReceived (c : Chan) (f : List Byte) (x : RxSec) (a : Arrival)
  /-- TIME_SET (R278): A TIME_SET write by the domain's owner sets the domain's time on one edge and raises TIME_EPOCH. -/
  | timeSet (w : Option Req) (d : Domain) (t : Time96)
  /-- TIME_ADJ (R278): A TIME_ADJ write adds a signed offset to the domain on one edge and raises TIME_EPOCH. -/
  | timeAdj (w : Option Req) (d : Domain) (a : BitVec 64)
  /-- RATE_ADJ_WRITE (R275): A new RATE_ADJ applies to the domain's increment from the next mast clock edge. -/
  | rateAdjWrite (w : Option Req) (d : Domain) (r : BitVec 32)
  /-- TRACEABLE_WRITE (R277): The owner of a domain sets or clears its TRACEABLE flag. -/
  | traceableWrite (w : Option Req) (d : Domain) (b : Bool)
  /-- CAPTURE (R280): A write of CAPTURE or a read of TIME_CAPTURE latches domain A, domain B and the presented time on one edge. -/
  | capture
  /-- OUT_RESYNC (R284): OUT_RESYNC steps the presented time to its domain at the next edge. -/
  | outResync (q : Req)
  /-- MDLL_RELOCK (R289): MDLL_RELOCK sends the named MDLL to ACQUIRING with its retry count zero. -/
  | mdllRelock (q : Req) (m : BitVec 8)
  /-- MDLL_LOCK_REACHED (R289): An acquiring MDLL reaches lock and starts its 50 µs hold. -/
  | mdllLockReached (m : Fin 26)
  /-- MDLL_ACQUIRE_TIMEOUT (R289): 1 ms in ACQUIRING resets the loop, or after the third retry enters FAILED with a major alarm. -/
  | mdllAcquireTimeout (m : Fin 26)
  /-- MDLL_HOLD_COMPLETE (R289): Lock held for 50 µs moves the MDLL to LOCKED and its domain onto it. -/
  | mdllHoldComplete (m : Fin 26)
  /-- MDLL_LOCK_LOST (R286): An MDLL loses lock and its domain moves to the jury clock, or is squelched for the output MDLL. -/
  | mdllLockLost (m : Fin 26) (freqErr : BitVec 12)
  /-- FREQUENCY_CLAMP (R287): An MDLL output above 2.10 GHz for 2 ns forces its domain to bypass at once. -/
  | frequencyClamp (m : Fin 26)
  /-- JURY_FAULT (R287): The jury clock is more than 1 % off for 1 µs, JURY_OK falls and jury domains stop their clocks. -/
  | juryFault
  /-- JURY_RECOVERED (R287): The jury clock has stayed within 1 % for 50 µs and JURY_OK returns. -/
  | juryRecovered
  /-- MAST_FAULT (R288): No mast edge for 50 ns declares a mast fault: MDLLs lose lock, counters run on the jury clock and outputs are squelched. -/
  | mastFault
  /-- MAST_RECOVERED (R288): MAST_OK has been true for 1 ms and the MDLLs reacquire. -/
  | mastRecovered
  /-- LOCKMON_ALARM (R295): LOCKMON_MV stays outside its band for 10 s, raising a minor or major alarm. -/
  | lockmonAlarm (mv : BitVec 16)
  /-- HELPER_UNLOCK (R310): The helper synthesiser unlocks and all 208 detectors read not valid with a major alarm. -/
  | helperUnlock
  /-- HELPER_RESUME (R310): 10 ms after the helper relocks, detector samples resume with SRC_CHANGE. -/
  | helperResume
  /-- PULSE_INPUT_EDGE (R305): A rising edge on a pulse-mode input is time-stamped, or rejected as PULSE_IRREGULAR. -/
  | pulseInputEdge (n : Fin 4) (t : Time96)
  /-- EU_ARM (R313): EU_ARM arms an event unit, or returns 0x0401 while it calibrates. -/
  | euArm (q : Req) (u : Fin 4)
  /-- EVENT_EDGE (R313): An event unit captures a start or stop edge and, by its mode, opens a measurement or queues a result. -/
  | eventEdge (u : Fin 4) (stop : Bool) (t : Int) (time : Time96)
  /-- EU_TIMEOUT_EXPIRY (R313): No accepted stop within EU_TIMEOUT queues a TIMEOUT result. -/
  | euTimeoutExpiry (u : Fin 4)
  /-- EU_WINDOW_END (R314): At start plus W the window-mode unit takes the nearest stop or records NO_STOP. -/
  | euWindowEnd (u : Fin 4)
  /-- EU_RESULT_POP (R321): A read of RES_INTERVAL_LO pops the oldest result record into the read shadow. -/
  | euResultPop (u : Fin 4)
  /-- EU_CALIBRATE (R319): EU_CALIBRATE requests a code-density calibration of the unit as a host-started activity. -/
  | euCalibrate (q : Req) (u : Fin 4)
  /-- DET_TRACE_REQUEST (R322): DET_TRACE_REQ starts a trace of one detector's samples. -/
  | detTraceRequest (q : Req) (d : BitVec 16) (n : BitVec 16)
  /-- DET_TRACE_COMPLETE (R322): The requested count of samples has been taken and DET_TRACE becomes readable. -/
  | detTraceComplete
  /-- SELECTION_EVALUATION (R334): Every 10 ms each servo path ranks its qualified slots, checks disagreement and selects. -/
  | selectionEvaluation (absent : List Nat) (drift : Int)
  /-- SWITCH_COMPLETE (R339): The build-out of the new slot takes effect and SWITCHING clears. -/
  | switchComplete (meanOld : Int) (meanNew : Int)
  /-- QUALIFY_TIMER (R329): A source present and within limits for 10 s makes its slot QUALIFIED. -/
  | qualifyTimer (k : Fin 16) (time : Bool)
  /-- SLOT_HOLDOFF_EXPIRY (R329): The hold-off ends without the source returning and the slot is FAILED. -/
  | slotHoldoffExpiry (k : Fin 16) (time : Bool)
  /-- WAIT_TO_RESTORE_EXPIRY (R329): The wait-to-restore timer ends and the slot returns to QUALIFIED. -/
  | waitToRestoreExpiry (k : Fin 16) (time : Bool)
  /-- PATH_LOCKED (R336): The lock criteria have held for 10 s and the path enters LOCKED. -/
  | pathLocked (n : Fin 3)
  /-- ACQUISITION_TIMEOUT (R336): 600 s in ACQUIRING without lock fails the slot and the path goes to HOLDOVER or FREE. -/
  | acquisitionTimeout (n : Fin 3)
  /-- PATH_LOCK_LOSS (R336): The error beyond the loss limit for 1 s returns a LOCKED path to ACQUIRING. -/
  | pathLockLoss (n : Fin 3)
  /-- HOLDOVER_BOUND_UPDATE (R349): Every 1 s HOLDOVER_BOUND is updated and a path beyond HOLDOVER_LIMIT enters LOST. -/
  | holdoverBoundUpdate (b0 : Nat) (uy : Nat) (ud : Nat) (uk : Nat) (sumT : Nat)
  /-- HOLDOVER_READY (R348): The frequency path has been LOCKED for 300 s in total and HOLDOVER_READY becomes true. -/
  | holdoverReady
  /-- OVEN_STEER (R345): A host write of OVEN_STEER steers the oven while the host owns it, or is refused. -/
  | ovenSteer (q : Req) (v : BitVec 32)
  /-- STEER_WATCHDOG (R346): No OVEN_STEER for STEER_WATCHDOG returns the oven to the servo with a major alarm. -/
  | steerWatchdog
  /-- ESMC_PDU_RECEIVED (R331): An ESMC PDU gives the channel slot its QL. -/
  | esmcPduReceived (c : Chan) (ssm : Fin 16) (tlv : Option (Nat × Nat × Nat))
  /-- ESMC_QL_TIMEOUT (R331): No ESMC information PDU for 5 s fails the slot's QL. -/
  | esmcQlTimeout (c : Chan)
  /-- ESMC_INFO_SEND (R332): Once per second an ESMC information PDU is sent on each enabled channel. -/
  | esmcInfoSend
  /-- OUTPUT_CONFIG_EFFECT (R352): A committed output change takes effect at the first whole second of P at least 1 s after the commit. -/
  | outputConfigEffect (n : Fin 4)
  /-- TOD_MESSAGE (R355): 1 ms after each 1PPS edge on OUT0 the TOD message describing it is sent. -/
  | todMessage
  /-- SYNC_SEND (R371): A MASTER port sends Sync at its LOG_SYNC interval, one-step or two-step with Follow_Up. -/
  | syncSend (c : Chan) (inst : PtpInst) (id : BitVec 16) (t1 : Time96) (taken : Bool)
  /-- SYNC_RECEIVED (R371): A Sync is received and stamped t2, and a Delay_Req is scheduled. -/
  | syncReceived (c : Chan) (inst : PtpInst) (h : PtpHdr) (twoStep : Bool) (ts : Time96) (t2 : Time96)
  /-- FOLLOW_UP_RECEIVED (R371): A two-step Follow_Up gives t1 of its Sync. -/
  | followUpReceived (c : Chan) (inst : PtpInst) (h : PtpHdr) (syncSeq : BitVec 16) (ts : Time96)
  /-- DELAY_REQ_SEND (R371): After its random wait a port sends Delay_Req and takes t3 from the transmit queue. -/
  | delayReqSend (c : Chan) (inst : PtpInst) (id : BitVec 16) (t3 : Time96) (taken : Bool)
  /-- DELAY_REQ_RECEIVED (R371): A MASTER port stamps a Delay_Req and answers with Delay_Resp within 1 ms. -/
  | delayReqReceived (c : Chan) (inst : PtpInst) (h : PtpHdr) (t4 : Time96)
  /-- DELAY_RESP_RECEIVED (R378): A Delay_Resp completes an exchange whose offset is computed and reported if valid. -/
  | delayRespReceived (c : Chan) (inst : PtpInst) (h : PtpHdr) (reqSeq : BitVec 16) (ts : Time96)
  /-- PDELAY_REQ_RECEIVED (R371): A Pdelay_Req is answered with Pdelay_Resp, and Follow_Up when two-step. -/
  | pdelayReqReceived (c : Chan) (h : PtpHdr) (id : BitVec 16) (t2 : Time96) (t3 : Time96) (taken : Bool)
  /-- PDELAY_RESP_RECEIVED (R371): A Pdelay_Resp gives stamps of a peer-delay exchange. -/
  | pdelayRespReceived (c : Chan) (h : PtpHdr) (reqSeq : BitVec 16) (twoStep : Bool) (ts : Time96) (t4 : Time96)
  /-- PDELAY_RESP_FOLLOW_UP_RECEIVED (R371): A Pdelay_Resp_Follow_Up completes a peer-delay exchange. -/
  | pdelayRespFollowUpReceived (c : Chan) (h : PtpHdr) (reqSeq : BitVec 16) (ts : Time96)
  /-- ANNOUNCE_SEND (R371): A MASTER port sends Announce with its own dataset at LOG_ANNOUNCE. -/
  | announceSend (c : Chan) (inst : PtpInst)
  /-- ANNOUNCE_RECEIVED (R380): An Announce is qualified and compared by the alternate BMCA, moving the port state. -/
  | announceReceived (c : Chan) (inst : PtpInst) (h : PtpHdr) (a : Announce)
  /-- ANNOUNCE_TIMEOUT (R380): No qualified Announce for ANNOUNCE_TIMEOUT intervals moves the port to MASTER. -/
  | announceTimeout (c : Chan) (inst : PtpInst)
  /-- SIGNALING_RECEIVED (R372): A Signaling message delivers HELLO, SKEW, HOLD or L1_SYNC TLVs. -/
  | signalingReceived (c : Chan) (h : PtpHdr) (g : Sig)
  /-- HOLD_EXPIRY (R374): A granted hold reaches its time and ends. -/
  | holdExpiry (c : Chan) (mine : Bool)
  /-- SKEW_SEND (R373): Once per second the SKEW TLV is sent in Signaling. -/
  | skewSend (c : Chan)
  /-- L1_SYNC_SEND (R375): Once per second each Halyard port sends an L1_SYNC TLV. -/
  | l1SyncSend (c : Chan)
  /-- TXQ_STALE (R370): A transmit-stamp entry not taken within 10 ms is discarded and counted. -/
  | txqStale (t : Tile)
  /-- TX_STAMP_MISSING (R370): No stamp for an identifier within 1 ms voids the exchange. -/
  | txStampMissing (c : Chan) (inst : PtpInst) (id : BitVec 16)
  /-- TXQ_FLUSH (R370): TXQ_FLUSH discards every entry of the tile's transmit-stamp queue. -/
  | txqFlush (t : Tile)
  /-- ASYM_MEASURE (R383): ASYM_MEASURE requests an asymmetry measurement set, or returns 0x0816. -/
  | asymMeasure (q : Req) (c : Chan)
  /-- ASYM_SET_DUE (R383): ASYM_PERIOD after the last accepted set, a new set becomes due. -/
  | asymSetDue (c : Chan)
  /-- CAL_EVALUATION (R399): Every 100 ms the calibration role evaluates due runs and requests at most one grant. -/
  | calEvaluation (pre : Fin 10) (warm : List (Fin 4))
  /-- CAL_RUN_COMPLETE (R404): A calibration run ends and its result is accepted, held or discarded, and logged. -/
  | calRunComplete (kind : Nat) (inst : Nat) (r : CalRes)
  /-- CAL_SLEW_TICK (R407): Every 1 ms each slewed delay moves toward its target by at most CAL_SLEW times 1 ms. -/
  | calSlewTick
  /-- CAL_OVERDUE (R406): A run not accepted within CAL_OVERDUE hours of its due time raises a minor alarm. -/
  | calOverdue (kind : Nat) (inst : Nat)
  /-- CAL_RUN (R425): CAL_RUN requests a calibration run of a kind and instance as a host-started activity. -/
  | calRun (q : Req) (kind : BitVec 8) (inst : BitVec 16)
  /-- RECORD_WRITE (R417): A coalesced calibration record is written to the other bank by erase, program, readback and commit. -/
  | recordWrite (fails : Fin 3)
  /-- RX_ADAPT_TRIAL (R413): Once per second a receiver setting is trial-stepped and the better value kept. -/
  | rxAdaptTrial (c : Chan) (k : Lane) (set : Fin 5) (up : Bool) (better : Bool)
  /-- RX_MARGIN_ALARM (R414): A lane's margin below RX_MARGIN_WARN for 60 s raises a minor alarm. -/
  | rxMarginAlarm (c : Chan) (k : Lane) (margin : BitVec 16)
  /-- AGEING_REFIT (R421): Every 24 h of powered time the ageing model of each quantity is refitted and margins re-planned. -/
  | ageingRefit (code : Nat) (inst : Nat) (f : AgeFit)
  /-- LANE_INFERRED (R412): A lane without an accepted loop-delay run for 30 days becomes inferred. -/
  | laneInferred (c : Chan) (k : Lane) (dtx : Int) (drx : Int)
  /-- TABLE_WRITE (R451): TABLE_WRITE replaces one stateless entry or LIVE next hop or ECMP group whole on one edge. -/
  | tableWrite (q : Req) (d : List Byte)
  /-- TABLE_READ_REQ (R461): TABLE_READ_REQ fetches one table entry with its state and references into TABLE_READ. -/
  | tableReadReq (q : Req) (d : List Byte)
  /-- METER_READ_REQ (R462): METER_READ_REQ fetches a meter's entry, buckets and counts into METER_STATE. -/
  | meterReadReq (q : Req) (n : BitVec 32)
  /-- EPOCH_DRAIN_COMPLETE (R453): The occupancy of every earlier epoch reaches zero and the DRAINING entries marked with the new epoch become FREE. -/
  | epochDrainComplete
  /-- FABRIC_DELIVERY (R469): A copy crosses to its egress tile and is admitted on die, spilled to the store or discarded. -/
  | fabricDelivery (et : Tile) (room : Bool)
  /-- FABRIC_WAIT_EXPIRY (R465): A frame that has not begun to cross within 2 µs is discarded at the head of its fabric queue. -/
  | fabricWaitExpiry (it : Tile) (et : Tile)
  /-- ON_DIE_RESIDENCE_EXPIRY (R472): A head copy 197 µs old is discarded under reason 6. -/
  | onDieResidenceExpiry (c : Chan) (q : Fin 16)
  /-- OVF_STACKS_AWAKE (R475): The granted overflow-store stacks finish waking and the store is OPEN. -/
  | ovfStacksAwake
  /-- OVF_AGEING_TICK (R475): Every 250 µs the bins whose entry time reached OVF_AGE_LIMIT are discarded whole. -/
  | ovfAgeingTick
  /-- OVF_RETURN (R477): A queue with a tail below its return point receives frames back from the store in order. -/
  | ovfReturn (c : Chan) (q : Fin 16) (bad : Bool)
  /-- OVF_IDLE_CLOSE (R475): An open store empty for 1 s closes. -/
  | ovfIdleClose
  /-- OVF_STACK_FAILURE (R475): A stack fails, every frame in the store is discarded, and the stacks are retested. -/
  | ovfStackFailure
  /-- OVF_RETEST_COMPLETE (R475): The retest ends and the store closes with three or four stacks or stays FAILED. -/
  | ovfRetestComplete (pass : BitVec 4)
  /-- OVF_RETRY (R483): OVF_RETRY retests the stacks of a FAILED store. -/
  | ovfRetry (q : Req) (v : Bool)
  /-- EGRESS_SELECT (R486): When a port is free the scheduler chooses the next frame, charges buckets and rewrites it for transmission. -/
  | egressSelect (c : Chan) (off : Nat) (stamp : Int)
  /-- SHAPER_REFILL (R490): Every 512 ns every bucket applies forgive, pending rate and burst, then adds tokens. -/
  | shaperRefill
  /-- SHAPER_FORGIVE (R493): SHAPER_FORGIVE marks buckets whose debt is cleared at the next refill. -/
  | shaperForgive (q : Req) (sub : BitVec 8) (v : BitVec 32)
  /-- GATE_ENTRY_CHANGE (R498): A gate list entry begins and the port's gate states change. -/
  | gateEntryChange (c : Chan)
  /-- GATE_LIST_START (R501): The domain reaches S and the pending gate list becomes operational with entry 0. -/
  | gateListStart (c : Chan)
  /-- PAIRING_TIMEOUT (R510): 200 ms after stage 4 without pairing the module is unpaired. -/
  | pairingTimeout
  /-- PAIRING_RETRY (R510): Every 1 s an unpaired module with PAIR_ENABLE retries pairing. -/
  | pairingRetry
  /-- PAIR_SESSION_RENEW (R510): Every 12 h the pair session is renewed without a change of role. -/
  | pairSessionRenew
  /-- SHROUD_HELLO_SEND (R514): Every 1 ms a hello is sent on each shroud channel in stage 6. -/
  | shroudHelloSend
  /-- SHROUD_HELLO_RECEIVED (R514): A hello confirms the shroud link or marks it miscabled. -/
  | shroudHelloReceived (j : Fin 2) (serial : BitVec 64) (addr : BitVec 8) (lnk : Fin 256) (vmax : Fin 256) (vmin : Fin 256)
  /-- SHROUD_HEARTBEAT_SEND (R514): Every 10 µs a sealed heartbeat is sent on each shroud link that is up. -/
  | shroudHeartbeatSend
  /-- SHROUD_HEARTBEAT_RECEIVED (R516): A verified heartbeat from the mate gives its role, flags and epoch. -/
  | shroudHeartbeatReceived (j : Fin 2) (x : Seal) (h : Beat)
  /-- SHROUD_HEARTBEAT_LOST (R516): Three 10 µs intervals without a verified mate heartbeat lose the shroud heartbeat. -/
  | shroudHeartbeatLost
  /-- GLENO_HEARTBEAT_LOST (R516): The mate is declared lost on Gleno or cycle-starts are missing for three cycle times. -/
  | glenoHeartbeatLost
  /-- ARBITRATION_ANSWER (R525): The witness's answer grants the takeover or refuses it for this loss. -/
  | arbitrationAnswer (grant : Bool) (epoch : BitVec 32)
  /-- ARBITRATION_RETRY (R525): After a refusal the request is repeated every 100 ms while both heartbeats stay lost. -/
  | arbitrationRetry
  /-- ARB_TIMEOUT_EXPIRY (R525): No answer within ARB_TIMEOUT leaves the witness unreachable. -/
  | arbTimeoutExpiry
  /-- SILENCE_HOLDOFF_EXPIRY (R525): SILENCE_HOLDOFF has passed with both heartbeats still lost and an unreachable witness, so the standby takes over. -/
  | silenceHoldoffExpiry
  /-- SHROUD_TIME_SYNC_SEND (R517): 64 times a second the active module starts a shroud time exchange with a sync. -/
  | shroudTimeSyncSend (t1 : Int)
  /-- SHROUD_SYNC_RECEIVED (R517): The standby stamps the sync and sends a request. -/
  | shroudSyncReceived (j : Fin 2) (x : Seal) (ex : BitVec 16) (flags : BitVec 8) (t1 : Int) (dba : Int) (t2 : Int) (t3 : Int)
  /-- SHROUD_REQUEST_RECEIVED (R517): The active module answers the request with its arrival stamp t4. -/
  | shroudRequestReceived (j : Fin 2) (x : Seal) (ex : BitVec 16) (t4 : Int)
  /-- SHROUD_ANSWER_RECEIVED (R517): The standby computes the offsets of both domains for slots 4 and 5. -/
  | shroudAnswerReceived (j : Fin 2) (x : Seal) (ex : BitVec 16) (flags : BitVec 8) (same : Bool) (t4 : Int)
  /-- CHECKPOINT_SEND (R528): Every 100 ms the active module sends a checkpoint, or the reduced form once per second over Gleno. -/
  | checkpointSend
  /-- CHECKPOINT_RECEIVED (R529): The standby keeps the latest verified checkpoint and its age. -/
  | checkpointReceived (x : Seal) (b : List Byte)
  /-- REPLICA_RECEIVED (R523): A replica from the mate is tagged, recovered if needed and sent through its next hop. -/
  | replicaReceived (j : Fin 2) (body : List Byte) (a : Arrival)
  /-- STREAM_RESET_TIMEOUT (R522): A stream's reset timer expires, setting take-any. -/
  | streamResetTimeout (n : BitVec 16)
  /-- ROLE_SWAP (R531): ROLE_SWAP starts a handover to the standby or is refused with 0x081C. -/
  | roleSwap (q : Req) (v : Bool)
  /-- HANDOVER_NOTICE_RECEIVED (R531): The standby receives the handover notice naming second N and confirms. -/
  | handoverNoticeReceived (x : Seal) (n : Nat)
  /-- HANDOVER_CONFIRMED (R531): The active module receives the standby's confirmation of the handover. -/
  | handoverConfirmed (x : Seal)
  /-- HANDOVER_CONFIRM_TIMEOUT (R531): No confirmation within 100 ms abandons the handover. -/
  | handoverConfirmTimeout
  /-- HANDOVER_SECOND_N (R531): At second N the roles and OUT_PAIR outputs pass to the new active module. -/
  | handoverSecondN
  /-- PAIR_RESYNC (R532): PAIR_RESYNC on the standby starts a resynchronisation from the active module. -/
  | pairResync (q : Req) (v : Bool)
  /-- RESYNC_IMAGE_RECEIVED (R532): The standby prepares the received image and applies it as one local commit, taking the active PAIR_NUMBER. -/
  | resyncImageReceived (x : Seal) (vals : List (Nat × List Byte)) (t8 : List (List Byte)) (t9 : List (List Byte)) (t12 : List (List Byte)) (number : BitVec 32)
  /-- WITNESS_REGISTER (R526): WITNESS_REGISTER registers or withdraws the writing session as the pair's witness. -/
  | witnessRegister (q : Req) (v : Bool)
  /-- STREAM_READ_REQ (R535): STREAM_READ_REQ fetches a stream's entry and state into STREAM_STATE. -/
  | streamReadReq (q : Req) (n : BitVec 16)
  /-- TAMPER_EVENT (R541): The tamper monitor detects an event of a class, logs it and applies its policy. -/
  | tamperEvent (k : Fin 6)
  /-- TAMPER_ACK (R543): TAMPER_ACK clears the tamper lock and the pending classes. -/
  | tamperAck (q : Req) (v : Bool)
  /-- ZEROISE_OPERATOR_SECRETS (R544): ZEROISE 0x5A01 erases LDevIDs, anchors, keys and deny list, closes sessions and unclaims the module. -/
  | zeroiseOperatorSecrets (q : Req)
  /-- ZEROISE_ALL (R545): ZEROISE 0x5A02 also erases the IDevID and retires the module into STOPPED for ever. -/
  | zeroiseAll (q : Req)
  /-- LDEVID_GENERATE (R548): LDEVID_GENERATE asks the island to generate a pending P-384 pair. -/
  | ldevidGenerate (q : Req) (v : Bool)
  /-- LDEVID_GENERATED (R548): The pending key pair is ready and the write completes. -/
  | ldevidGenerated
  /-- ATTEST_REQUEST (R556): ATTEST_REQUEST asks for a signed attestation report. -/
  | attestRequest (q : Req) (v : List Byte)
  /-- ATTEST_REPORT_READY (R556): The report is placed in ATTEST_REPORT and the request completes. -/
  | attestReportReady (n : Nat)
  /-- SERVICE_OPEN (R555): SERVICE_OPEN opens the service role for a duration, or closes it with 0. -/
  | serviceOpen (q : Req) (m : BitVec 16)
  /-- SERVICE_EXPIRY (R555): SERVICE_REMAINING reaches zero and every service session closes. -/
  | serviceExpiry
  /-- COUNTER_INCREMENT (R540): COUNTER_INCREMENT raises a host monotonic counter by one, or refuses at its maximum. -/
  | counterIncrement (q : Req) (n : BitVec 8)
  /-- ENTROPY_FAULT (R538): An entropy health test fails and the island stops key generation and signing with a major alarm. -/
  | entropyFault
  /-- ENTROPY_RETEST (R538): Every 10 s the entropy source is retested and the fault cleared when it passes. -/
  | entropyRetest (pass : Bool)
  /-- ISLAND_CLOCK_SET (R539): When domain A becomes traceable, and hourly after, the island clock is set from it. -/
  | islandClockSet
  /-- MKA_PDU_RECEIVED (R562): An MKA PDU updates the peer, the key server election and SAK distribution. -/
  | mkaPduReceived (c : Chan) (m : MkaPdu)
  /-- MKA_HELLO_SEND (R559): Every 2 s an MKA hello is sent on each MACsec channel. -/
  | mkaHelloSend
  /-- MKA_PEER_TIMEOUT (R563): No live peer for 6 s changes the channel's data handling by its policy. -/
  | mkaPeerTimeout (c : Chan)
  /-- MACSEC_CAK_WRITE (R562): A new CAK ends the present CA, deletes its SAs and restarts MKA. -/
  | macsecCakWrite (q : Req) (sub : BitVec 8) (v : List Byte)
  /-- MACSEC_REKEY (R562): MACSEC_REKEY makes the key server distribute a new SAK or asks it to. -/
  | macsecRekey (q : Req) (sub : BitVec 8) (v : Bool)
  /-- HALYARD_KEY_WRITE (R565): A write of HALYARD_KEY replaces or deletes a key table entry. -/
  | halyardKeyWrite (q : Req) (sub : BitVec 8) (v : List Byte)
  /-- HALYARD_KEY_ROLLOVER (R566): The reference time passes a key's START or END and the send and accept keys change. -/
  | halyardKeyRollover
  /-- UPDATE_DOWNLOAD_INITIATE (R573): The initiate request of UPDATE_IMAGE takes a flash grant and erases staging, or is refused. -/
  | updateDownloadInitiate (q : Req) (len : Nat)
  /-- IMAGE_VERIFIED (R575): Verification of the staged image ends, writing STATE STAGED or rejecting it with a reason. -/
  | imageVerified (v : Fin 9)
  /-- UPDATE_ARM (R576): UPDATE_ACTIVATE 1 arms the staged image for copy at the next cleared start. -/
  | updateArm (q : Req)
  /-- UPDATE_ARM_RESTART (R576): UPDATE_ACTIVATE 2 arms the image and makes a cold restart. -/
  | updateArmRestart (q : Req)
  /-- UPDATE_DISARM (R576): UPDATE_ACTIVATE 0 returns an armed update to STAGED. -/
  | updateDisarm (q : Req)
  /-- UPDATE_CONFIRM_ACCEPT (R580): UPDATE_CONFIRM TRUE raises counter 0 and starts the reserve refresh. -/
  | updateConfirmAccept (q : Req)
  /-- UPDATE_REJECT (R580): UPDATE_CONFIRM FALSE sets STARTS 3 so the next cleared start reverts. -/
  | updateReject (q : Req)
  /-- UPDATE_DISCARD (R589): UPDATE_DISCARD erases staging and returns the update state to IDLE. -/
  | updateDiscard (q : Req) (v : Bool)
  /-- FLASH_COPY_BLOCK (R577): The boot ROM copies one 1 MiB block between regions and records the next BLOCK. -/
  | flashCopyBlock
  /-- RESERVE_REFRESH_BLOCK (R581): A block of the reserve refresh is copied, and at the end STATE becomes IDLE. -/
  | reserveRefreshBlock
  /-- AUTO_CONFIRM_EXPIRY (R583): After AUTO_CONFIRM minutes on probation with the conditions met the module confirms itself. -/
  | autoConfirmExpiry
  /-- BOOT_ROM_RETRY (R578): A module that runs nothing verifies the regions in turn every 10 s and runs the first that passes. -/
  | bootRomRetry (vA : Fin 9) (vR : Fin 9) (vS : Fin 9)
  /-- CTR_SNAP_REQUEST (R599): CTR_SNAP_REQUEST schedules a counter sweep into the lowest free slot. -/
  | ctrSnapRequest (q : Req) (f : BitVec 16) (n : BitVec 16) (flags : BitVec 8)
  /-- COUNTER_SWEEP_START (R600): The sweep begins at the first edge after the request or at CTR_SNAP_AT. -/
  | counterSweepStart (k : Fin 5)
  /-- COUNTER_SWEEP_COMPLETE (R601): The last cell is copied and the slot records FIRST_READ and LAST_READ. -/
  | counterSweepComplete
  /-- CTR_SNAP_RELEASE (R601): CTR_SNAP_RELEASE frees a counter snapshot slot. -/
  | ctrSnapRelease (q : Req) (k : BitVec 8)
  /-- STATUS_SNAP_REQUEST (R602): STATUS_SNAP_REQUEST reads up to 64 objects on successive edges into STATUS_SNAP_DATA. -/
  | statusSnapRequest (q : Req) (v : List Byte)
  /-- ALARM_ACK (R605): ALARM_ACK ends the standing event alarms of a code, or of all codes. -/
  | alarmAck (q : Req) (code : BitVec 16)
  /-- ALARM_HOLD_EXPIRY (R603): An event alarm has stood for ALARM_HOLD and ends. -/
  | alarmHoldExpiry (a : Alarm) (inst : Nat)
  /-- EVENT_LOG_FLUSH (R607): Working-ring records are written to the flash ring every 10 s or within 1 s of a major alarm. -/
  | eventLogFlush
  /-- SAMPLE_START (R610): SAMPLE_START TRUE starts instruction sampling under a grant, or refuses. -/
  | sampleStart (q : Req)
  /-- SAMPLE_STOP (R610): SAMPLE_START FALSE ends instruction sampling with reason 2. -/
  | sampleStop (q : Req)
  /-- SAMPLE_DURATION_EXPIRY (R610): The sampling duration expires and sampling ends with reason 1. -/
  | sampleDurationExpiry
  /-- INSTRUCTION_SAMPLE (R609): The programmed count of events elapses on an engine and a sample record is queued. -/
  | instructionSample (e : SparNo) (flags : BitVec 8) (pc : Word) (data : Word) (latency : BitVec 16) (stall : Fin 5) (interval : Word)
  /-- PROG_SELECT (R596): A write of a programmable counter's select zeroes its cell and sets its source. -/
  | progSelect (q : Req) (sub : BitVec 8) (v : Word)
  /-- INPUT_BEAT_EDGE (R301): At each rising zero crossing of a source's beat, the phase detector counts M, produces a sample, unwraps it into U, and updates VALID, SRC_CHANGE, OUT_OF_RANGE and UNWRAP_SLIP. -/
  | inputBeatEdge (d : Fin 208) (m : Fin 16384) (inRange : Bool)
  /-- MAST_BEAT_EDGE (R300): Every 163.84 µs a mast beat edge raises BEAT_NUMBER, latches BEAT_TIME and refreshes every DIFF_RESULT whose two detectors have valid samples. -/
  | mastBeatEdge
  /-- OUTPUT_PULSE_EDGE (R351): At each whole second of P plus OUT_PHASE, or at each frame-pulse instant, a pulse output emits its rising edge, or omits it and sets OMITTED. -/
  | outputPulseEdge (n : Fin 4) (sensed : Int)
  /-- SLEWING_END (R283): The phase stepper brings |O| below four LSBs, so slewing of the presented time ends and SLEWING clears. -/
  | slewingEnd
  /-- SPAR_CLOCK_STOP (R80): When Nymyx finds a Spar engine's role idle, the engine stops its clock with its state retained, and its running entry is released from the ledger. -/
  | sparClockStop (e : SparNo)
deriving DecidableEq, Repr

end Sys2Proof
end

