-- ==== Sys2Proof/Config.lean ====
section
/-!
DEFINITION. What the specification leaves free or leaves to one implementation: random draws and
unstated values, each a constant without a body, so that nothing can be proved about its value.
-/
namespace Sys2Proof.Config

/-- The n-th free value of the module (random draws, nonces, keys, unstated results); DESIGN CHOICE, assumption 3. -/
opaque freeValue : Nat → Nat

/-- The low byte of an alarm's code in ALARM_DIRECTORY, which R603 does not list; the argument is the
alarm's number in the model's own list; DESIGN CHOICE, assumption 4. -/
opaque alarmLow : Nat → BitVec 8

/-- The DATA bytes of an event record (R606: as the code's directory record gives); DESIGN CHOICE, assumption 4. -/
opaque eventData : Nat → Nat → BitVec 64

/-- The counter cell behind word w of a count object (R591: as COUNTER_DIRECTORY gives); DESIGN CHOICE, assumption 5. -/
opaque cellOf : Nat → Nat

/-- The factory share w_k of a lane's transmit delay in thousandths above 350 (R411: 0.35 to 0.65); DESIGN CHOICE, assumption 19. -/
opaque laneShare : Nat → Nat

/-- Free bytes of an object whose content the specification does not state; DESIGN CHOICE, assumption 3. -/
opaque freeBytes : Nat → List (BitVec 8)

/-- TC of a label that the rewrite pushes where no remark flag sets it, by class (R443 does not state it);
DESIGN CHOICE, assumption 3. -/
opaque pushTc : Nat → Nat

/-- EtherType of a routed frame without labels whose payload is not IP (R443 does not state it); DESIGN CHOICE, assumption 3. -/
opaque plainType : Nat → Nat

/-- Which candidate of each run of SAMPLE candidates becomes a copy (R481); by session; DESIGN CHOICE, assumption 3. -/
opaque samplePick : Nat → Nat

/-- SHA-384 of a byte string (R556 to R558). -/
opaque sha384 : List (BitVec 8) → List (BitVec 8)

/-- The 4-byte check value of a key (R565). -/
opaque keyCheck : List (BitVec 8) → List (BitVec 8)

/-- A chain validates to a certificate, with a deny list, at a TAI second or with validity unchecked (R550). -/
opaque validates : (chain anchor deny : List (BitVec 8)) → (time : Option Nat) → Bool

/-- A certificate parses as DER X.509v3 with a P-384 key (R553). -/
opaque anchorOk : List (BitVec 8) → Bool

/-- A chain verifies up to a self-signed certificate (R552). -/
opaque selfSigned : List (BitVec 8) → Bool

/-- A chain's leaf carries the pending LDevID key (R549); by the CSR of that key. -/
opaque leafIsPending : (chain csr : List (BitVec 8)) → Bool

/-- A chain validates to the Daxouvi service root (R555). -/
opaque serviceChain : List (BitVec 8) → Option Nat → Bool

/-- The IDevID chain of the module, leaf and issuing CA (R547); DESIGN CHOICE, assumption 6. -/
opaque idevChain : List (BitVec 8)

/-- The records of COUNTER_DIRECTORY for cells 1,664 to 8,191 (R591); DESIGN CHOICE, assumption 5. -/
opaque counterDirectory : List (BitVec 8)

/-- The text of an alarm in ALARM_DIRECTORY, by its number in the model's own list (R603); DESIGN CHOICE, assumption 4. -/
opaque alarmText : Nat → List (BitVec 8)

/-- The code of an informational event, by its number in the model's own list (R606); DESIGN CHOICE, assumption 4. -/
opaque infoCode : Nat → BitVec 16

/-- The fitted words of the factory record of a tracked quantity (R420), by code * 1024 + instance; DESIGN CHOICE, assumption 6. -/
opaque factoryAge : Nat → List (BitVec 8)

end Sys2Proof.Config
end

