-- ==== Sys2Proof/Machine/Directory.lean ====
section
/-!
DEFINITION. The object dictionary as data: one row per object of the object tables of 02 to 20, in
index order (R141, R143), with form, type, access code, default, range, write role and flags.
-/
namespace Sys2Proof.Machine

/-- Object types (R144); sizes in bytes. -/
inductive ObjTy where
  | bool | u (n : Nat) | i (n : Nat) | time96 | oct (n : Nat) | str (n : Nat) | domain
deriving DecidableEq, Repr

/-- Access codes (R146). -/
inductive ObjAcc where
  | ro | rw | wo | rws | const | rc
deriving DecidableEq, Repr

/-- Defaults (R151): none stated or all zero, a number, one number per subindex, bytes, repeated bytes. -/
inductive Dflt where
  | none | num (n : Int) | list (l : List Int) | bytes (l : List (BitVec 8)) | rep (n : Nat) (l : List (BitVec 8))
deriving DecidableEq, Repr

/-- Stated range of a numeric object (R145). -/
inductive Rng where
  | any | within (lo hi : Int)
deriving DecidableEq, Repr

/-- One object: index, lowest and highest subindex, per-channel with groups (R141), type, access,
default, range, role a write needs (R149), stored (R152), session-local (R155). -/
structure ObjRow where
  index : Nat
  first : Nat
  last : Nat
  perChan : Bool
  ty : ObjTy
  acc : ObjAcc
  dflt : Dflt
  rng : Rng
  wrole : Role
  stored : Bool
  loc : Bool
deriving DecidableEq, Repr

/-- Objects 0x1000 to 0x10FF. -/
def dir10 : List ObjRow :=
  [
   ⟨0x1000, 0, 0, false, .u 4, .const, .num 12402, .any, .operator, false, false⟩,  -- DEVICE_TYPE
   ⟨0x1001, 0, 0, false, .u 1, .const, .none, .any, .operator, false, false⟩,  -- VARIANT
   ⟨0x1002, 0, 0, false, .str 24, .const, .none, .any, .operator, false, false⟩,  -- PART_NUMBER
   ⟨0x1003, 0, 0, false, .u 8, .const, .none, .any, .operator, false, false⟩,  -- SERIAL_NUMBER
   ⟨0x1004, 0, 0, false, .u 1, .const, .none, .any, .operator, false, false⟩,  -- STEPPING
   ⟨0x1005, 0, 0, false, .time96, .const, .none, .any, .operator, false, false⟩,  -- MANUFACTURED
   ⟨0x1006, 0, 0, false, .str 16, .ro, .none, .any, .operator, false, false⟩,  -- NYMYX_VERSION
   ⟨0x1007, 0, 0, false, .u 4, .ro, .none, .any, .operator, false, false⟩,  -- RELEASE
   ⟨0x1008, 0, 0, false, .u 1, .ro, .none, .any, .operator, false, false⟩,  -- ADDRESS
   ⟨0x1009, 0, 0, false, .u 1, .ro, .none, .any, .operator, false, false⟩,  -- MATE_ADDRESS
   ⟨0x100A, 0, 0, false, .u 1, .ro, .none, .any, .operator, false, true⟩,  -- SESSION_ROLE
   ⟨0x100B, 0, 0, false, .u 8, .ro, .num 0, .any, .operator, false, false⟩,  -- UPTIME
   ⟨0x100C, 0, 0, false, .str 16, .rw, .none, .any, .operator, false, false⟩,  -- ASSET_TAG
   ⟨0x100D, 0, 0, false, .domain, .ro, .none, .any, .operator, false, false⟩]  -- OBJECT_DIRECTORY

/-- Objects 0x1100 to 0x11FF. -/
def dir11 : List ObjRow :=
  [
   ⟨0x1100, 0, 0, false, .time96, .rw, .num 0, .any, .operator, false, true⟩,  -- COMMIT_AT
   ⟨0x1101, 0, 0, false, .u 4, .wo, .none, .any, .operator, false, false⟩,  -- COMMIT
   ⟨0x1102, 0, 0, false, .u 4, .wo, .none, .any, .operator, false, false⟩,  -- COMMIT_ABORT
   ⟨0x1103, 0, 0, false, .domain, .ro, .none, .any, .operator, false, true⟩,  -- COMMIT_RESULT
   ⟨0x1104, 0, 0, false, .u 2, .ro, .num 0, .any, .operator, false, true⟩,  -- STAGED_COUNT
   ⟨0x1105, 0, 0, false, .domain, .ro, .none, .any, .operator, false, true⟩,  -- STAGE_LIST
   ⟨0x1106, 1, 13, false, .u 4, .ro, .num 0, .any, .operator, false, false⟩,  -- SET_GENERATION
   ⟨0x1107, 0, 0, false, .u 4, .rw, .num 7936, .within 0 16382, .operator, true, false⟩,  -- PAIR_SCOPE
   ⟨0x1108, 0, 0, false, .u 4, .ro, .num 0, .any, .operator, false, false⟩,  -- PAIR_NUMBER
   ⟨0x1109, 0, 0, false, .u 1, .ro, .num 3, .any, .operator, false, false⟩,  -- PAIR_STATE
   ⟨0x110A, 0, 0, false, .u 4, .wo, .none, .any, .operator, false, false⟩,  -- SNAP_REQUEST
   ⟨0x110B, 1, 4, false, .domain, .ro, .none, .any, .operator, false, false⟩,  -- SNAP_DATA
   ⟨0x110C, 0, 0, false, .u 1, .wo, .none, .within 1 4, .operator, false, false⟩,  -- SNAP_RELEASE
   ⟨0x110D, 0, 0, false, .u 2, .ro, .num 0, .any, .operator, false, false⟩,  -- SETTINGS_PENDING
   ⟨0x110E, 0, 0, false, .u 1, .wo, .none, .any, .custodian, false, false⟩,  -- SETTINGS_CLEAR
   ⟨0x110F, 0, 0, false, .u 2, .ro, .num 65535, .any, .operator, false, true⟩,  -- GROUP_REFUSED
   ⟨0x1110, 1, 16, false, .oct 24, .rw, .none, .any, .operator, true, false⟩]  -- GROUP_MEMBERS

/-- Objects 0x1200 to 0x12FF. -/
def dir12 : List ObjRow :=
  [
   ⟨0x1200, 0, 0, false, .u 1, .ro, .num 0, .any, .operator, false, false⟩,  -- GLENO_STATE
   ⟨0x1201, 0, 0, false, .u 2, .ro, .num 0, .any, .operator, false, false⟩,  -- CYCLE_TIME
   ⟨0x1202, 0, 0, false, .u 2, .rw, .num 200, .within 200 2000, .operator, true, false⟩,  -- MASTER_CYCLE_TIME
   ⟨0x1203, 0, 0, false, .u 1, .ro, .num 255, .any, .operator, false, false⟩,  -- CYCLE_MASTER
   ⟨0x1204, 0, 0, false, .u 4, .ro, .num 0, .any, .operator, false, false⟩,  -- PRESENCE
   ⟨0x1205, 1, 2, false, .u 1, .ro, .num 0, .any, .operator, false, false⟩,  -- PORT_STATE
   ⟨0x1206, 0, 0, false, .u 2, .rw, .num 34997, .within 1536 65535, .operator, true, false⟩,  -- GLENO_ETHERTYPE
   ⟨0x1207, 1, 2, false, .u 1, .const, .none, .any, .operator, false, false⟩,  -- PROTOCOL_VERSION
   ⟨0x1208, 0, 0, false, .domain, .ro, .none, .any, .operator, false, false⟩,  -- SESSIONS
   ⟨0x1209, 0, 0, false, .u 2, .rw, .num 30, .within 1 3600, .operator, true, false⟩,  -- SESSION_IDLE
   ⟨0x120A, 1, 10, false, .u 4, .rc, .num 0, .any, .operator, false, false⟩,  -- GLENO_COUNTS
   ⟨0x120B, 0, 0, false, .u 4, .ro, .num 0, .any, .operator, false, false⟩,  -- LOST_NODES
   ⟨0x120C, 0, 0, false, .u 2, .wo, .none, .within 1 32767, .custodian, false, false⟩]  -- SESSION_CLOSE

/-- Objects 0x1300 to 0x13FF. -/
def dir13 : List ObjRow :=
  [
   ⟨0x1300, 0, 0, false, .u 2, .rw, .num 2900, .within 800 3600, .operator, true, false⟩,  -- INLET_CEILING
   ⟨0x1301, 0, 0, false, .u 2, .rw, .num 380, .within 360 420, .operator, true, false⟩,  -- WARN_THRESHOLD
   ⟨0x1302, 0, 0, false, .u 1, .ro, .num 0, .any, .operator, false, false⟩,  -- REEF_LEVEL
   ⟨0x1303, 0, 0, false, .u 1, .rw, .num 0, .within 0 3, .operator, true, false⟩,  -- REEF_FLOOR
   ⟨0x1304, 0, 0, false, .u 2, .ro, .none, .any, .operator, false, false⟩,  -- LEDGER_BOOKED
   ⟨0x1305, 0, 0, false, .u 2, .ro, .none, .any, .operator, false, false⟩,  -- LEDGER_ADMISSIBLE
   ⟨0x1306, 0, 0, false, .u 2, .ro, .none, .any, .operator, false, false⟩,  -- LEDGER_VOLTAGE
   ⟨0x1307, 0, 0, false, .u 2, .ro, .none, .any, .operator, false, false⟩,  -- INLET_VOLTAGE
   ⟨0x1308, 0, 0, false, .u 2, .ro, .none, .any, .operator, false, false⟩,  -- INLET_CURRENT
   ⟨0x1309, 1, 192, true, .u 1, .rw, .num 4, .within 0 7, .operator, true, false⟩,  -- CHANNEL_PRIORITY
   ⟨0x130A, 0, 0, false, .u 2, .rw, .num 40, .within 0 200, .operator, true, false⟩,  -- REPAIR_RESERVE
   ⟨0x130B, 0, 0, false, .domain, .ro, .none, .any, .operator, false, false⟩,  -- LEDGER_ENTRIES
   ⟨0x130C, 0, 0, false, .domain, .ro, .none, .any, .operator, false, false⟩,  -- DIP_LOG
   ⟨0x130D, 1, 5, false, .u 4, .rc, .num 0, .any, .operator, false, false⟩,  -- REEF_COUNTS
   ⟨0x130E, 0, 0, false, .u 2, .ro, .none, .any, .operator, false, false⟩,  -- CELL_VOLTAGE
   ⟨0x130F, 0, 0, false, .u 1, .ro, .num 0, .any, .operator, false, false⟩]  -- CELL_STATUS

/-- Objects 0x1400 to 0x14FF. -/
def dir14 : List ObjRow :=
  [
   ⟨0x1400, 0, 0, false, .u 1, .rw, .num 0, .within 0 2, .operator, true, false⟩,  -- START_MODE
   ⟨0x1401, 0, 0, false, .u 1, .ro, .none, .any, .operator, false, false⟩,  -- MODULE_STATE
   ⟨0x1402, 0, 0, false, .u 1, .ro, .num 0, .any, .operator, false, false⟩,  -- START_STAGE
   ⟨0x1403, 0, 0, false, .u 1, .wo, .none, .within 1 2, .operator, false, false⟩,  -- RESTART
   ⟨0x1404, 0, 0, false, .u 1, .wo, .none, .within 1 2, .operator, false, false⟩,  -- STOP
   ⟨0x1405, 0, 0, false, .bool, .wo, .none, .any, .operator, false, false⟩,  -- LASER_RELEASE
   ⟨0x1406, 0, 0, false, .u 1, .ro, .none, .any, .operator, false, false⟩,  -- RESET_CAUSE
   ⟨0x1407, 0, 0, false, .domain, .ro, .none, .any, .operator, false, false⟩,  -- START_TIMES
   ⟨0x1408, 1, 16, false, .u 1, .ro, .none, .any, .operator, false, false⟩,  -- SPAR_ROLE
   ⟨0x1409, 0, 0, false, .u 2, .rw, .num 10, .within 1 1000, .operator, true, false⟩,  -- SPAR_WATCHDOG
   ⟨0x140A, 1, 3, false, .u 4, .rc, .num 0, .any, .operator, false, false⟩,  -- RESTART_COUNTS
   ⟨0x140B, 0, 0, false, .u 1, .ro, .num 0, .any, .operator, false, false⟩,  -- STOP_STATUS
   ⟨0x140C, 0, 0, false, .u 2, .ro, .num 0, .any, .operator, false, false⟩]  -- SPAR_RETIRED

/-- Objects 0x2000 to 0x20FF. -/
def dir20 : List ObjRow :=
  [
   ⟨0x2000, 1, 192, true, .u 1, .rws, .num 0, .within 0 2, .operator, true, false⟩,  -- BAND_PIN
   ⟨0x2001, 1, 192, true, .bool, .rws, .num 1, .any, .operator, true, false⟩,  -- TX_ENABLE
   ⟨0x2002, 1, 192, true, .u 1, .ro, .num 0, .any, .operator, false, false⟩,  -- BAND
   ⟨0x2003, 1, 192, true, .u 1, .ro, .num 0, .any, .operator, false, false⟩,  -- BAND_STATE
   ⟨0x2004, 1, 192, true, .u 1, .rws, .num 0, .within 0 2, .operator, true, false⟩,  -- EQ_MODE
   ⟨0x2005, 1, 192, true, .oct 8, .rws, .bytes [0xFC, 0xF8, 0xFC, 0xF8, 0xFC, 0xF8, 0xFC, 0xF8], .any, .operator, true, false⟩,  -- TX_EQ
   ⟨0x2006, 1, 192, true, .oct 8, .ro, .none, .any, .operator, false, false⟩,  -- RX_POWER
   ⟨0x2007, 1, 192, true, .oct 8, .ro, .none, .any, .operator, false, false⟩,  -- TX_POWER
   ⟨0x2008, 1, 192, true, .oct 8, .rws, .none, .any, .operator, true, false⟩,  -- RX_THRESHOLDS
   ⟨0x2009, 1, 192, false, .u 1, .ro, .num 0, .any, .operator, false, false⟩,  -- LASER_STATE
   ⟨0x200A, 1, 192, false, .u 2, .ro, .num 0, .any, .operator, false, false⟩,  -- LASER_BIAS
   ⟨0x200B, 1, 192, false, .u 1, .wo, .none, .within 1 2, .operator, false, false⟩,  -- LASER_FORCE
   ⟨0x200C, 1, 48, false, .u 1, .ro, .num 0, .any, .operator, false, false⟩,  -- SPARE_STATE
   ⟨0x200D, 1, 24, false, .i 2, .ro, .none, .any, .operator, false, false⟩,  -- LASER_TEMP
   ⟨0x200E, 1, 4, false, .u 4, .rc, .num 0, .any, .operator, false, false⟩]  -- OPT_COUNTS

/-- Objects 0x2100 to 0x21FF. -/
def dir21 : List ObjRow :=
  [
   ⟨0x2100, 1, 192, true, .bool, .rws, .num 1, .any, .operator, true, false⟩,  -- RW_ENABLE
   ⟨0x2101, 1, 192, true, .bool, .rws, .num 1, .any, .operator, true, false⟩,  -- FURL_ENABLE
   ⟨0x2102, 1, 192, true, .u 1, .rws, .num 1, .within 1 2, .operator, true, false⟩,  -- FURL_MIN_LANES
   ⟨0x2103, 1, 192, true, .u 1, .rws, .num 30, .within 5 40, .operator, true, false⟩,  -- FURL_LOAD_2
   ⟨0x2104, 1, 192, true, .u 1, .rws, .num 15, .within 1 20, .operator, true, false⟩,  -- FURL_LOAD_1
   ⟨0x2105, 1, 192, true, .u 2, .rws, .num 512, .within 64 8192, .operator, true, false⟩,  -- UNFURL_CELLS
   ⟨0x2106, 1, 192, true, .u 2, .rws, .num 9216, .within 1518 10240, .operator, true, false⟩,  -- MAX_FRAME
   ⟨0x2107, 1, 192, true, .u 2, .rws, .num 400, .within 1 10000, .operator, true, false⟩,  -- FEC_DEGRADE
   ⟨0x2108, 1, 192, true, .u 1, .rws, .num 0, .within 0 3, .operator, false, false⟩,  -- LOOP
   ⟨0x2109, 1, 192, true, .u 1, .rws, .num 0, .within 0 15, .operator, false, false⟩,  -- PRBS_LANES
   ⟨0x210A, 1, 192, true, .u 1, .rws, .num 0, .within 0 2, .operator, false, false⟩,  -- PRBS_PATTERN
   ⟨0x210B, 1, 192, true, .bool, .wo, .none, .any, .operator, false, false⟩,  -- RETRAIN
   ⟨0x210C, 1, 192, true, .u 4, .ro, .num 0, .any, .operator, false, false⟩,  -- CH_STATUS
   ⟨0x210D, 1, 192, true, .u 1, .ro, .num 0, .any, .operator, false, false⟩,  -- PEER_CAPS
   ⟨0x210E, 1, 192, false, .oct 32, .ro, .none, .any, .operator, false, false⟩,  -- PRBS_ERRORS
   ⟨0x210F, 1, 192, false, .u 8, .ro, .num 0, .any, .operator, false, false⟩,  -- PRBS_BITS
   ⟨0x2110, 1, 7, false, .u 4, .rc, .num 0, .any, .operator, false, false⟩]  -- CODING_COUNTS

/-- Objects 0x3000 to 0x30FF. -/
def dir30 : List ObjRow :=
  [
   ⟨0x3000, 0, 0, false, .time96, .ro, .none, .any, .operator, false, false⟩,  -- TIME_A
   ⟨0x3001, 0, 0, false, .time96, .ro, .none, .any, .operator, false, false⟩,  -- TIME_B
   ⟨0x3002, 0, 0, false, .time96, .ro, .none, .any, .operator, false, false⟩,  -- TIME_OUT
   ⟨0x3003, 1, 2, false, .bool, .rw, .num 0, .any, .operator, false, false⟩,  -- TRACEABLE
   ⟨0x3004, 1, 2, false, .i 4, .rw, .num 0, .within (-1000000000) 1000000000, .operator, false, false⟩,  -- RATE_ADJ
   ⟨0x3005, 1, 2, false, .time96, .wo, .none, .any, .operator, false, false⟩,  -- TIME_SET
   ⟨0x3006, 1, 2, false, .i 8, .wo, .none, .any, .operator, false, false⟩,  -- TIME_ADJ
   ⟨0x3007, 1, 2, false, .u 1, .ro, .num 0, .any, .operator, false, false⟩,  -- TIME_EPOCH
   ⟨0x3008, 0, 0, false, .u 1, .rws, .num 0, .within 0 1, .operator, true, false⟩,  -- OUT_DOMAIN
   ⟨0x3009, 0, 0, false, .u 4, .rws, .num 10000, .within 1 1000000, .operator, true, false⟩,  -- OUT_SLEW
   ⟨0x300A, 0, 0, false, .u 4, .rws, .num 1000, .within 1 1000000000, .operator, true, false⟩,  -- OUT_STEP_LIMIT
   ⟨0x300B, 0, 0, false, .i 8, .ro, .num 0, .any, .operator, false, false⟩,  -- OUT_OFFSET
   ⟨0x300C, 0, 0, false, .bool, .wo, .none, .any, .operator, false, false⟩,  -- OUT_RESYNC
   ⟨0x300D, 1, 26, false, .u 1, .ro, .num 0, .any, .operator, false, false⟩,  -- MDLL_STATE
   ⟨0x300E, 1, 26, false, .i 2, .ro, .num 0, .any, .operator, false, false⟩,  -- MDLL_FREQ_ERROR
   ⟨0x300F, 0, 0, false, .u 1, .wo, .none, .within 0 25, .operator, false, false⟩,  -- MDLL_RELOCK
   ⟨0x3010, 0, 0, false, .u 2, .ro, .num 0, .any, .operator, false, false⟩,  -- LOCKMON_MV
   ⟨0x3011, 0, 0, false, .domain, .ro, .none, .any, .operator, false, false⟩,  -- TIME_CAPTURE
   ⟨0x3012, 1, 6, false, .u 4, .rc, .num 0, .any, .operator, false, false⟩,  -- CLOCK_COUNTS
   ⟨0x3013, 0, 0, false, .u 4, .ro, .none, .any, .operator, false, false⟩]  -- CLOCK_STATUS

/-- Objects 0x3100 to 0x31FF. -/
def dir31 : List ObjRow :=
  [
   ⟨0x3100, 1, 208, false, .i 8, .ro, .num 0, .any, .operator, false, false⟩,  -- DET_PHASE
   ⟨0x3101, 1, 208, false, .u 4, .ro, .none, .any, .operator, false, false⟩,  -- DET_STATUS
   ⟨0x3102, 1, 208, false, .i 8, .ro, .num 0, .any, .operator, false, false⟩,  -- DET_FREQ
   ⟨0x3103, 1, 208, false, .i 4, .ro, .num 0, .any, .operator, false, false⟩,  -- DET_DELAY
   ⟨0x3104, 0, 0, false, .u 2, .rws, .num 10, .within 1 1000, .operator, true, false⟩,  -- FREQ_WINDOW
   ⟨0x3105, 1, 4, false, .u 1, .rws, .num 0, .within 0 3, .operator, true, false⟩,  -- IN_MODE
   ⟨0x3106, 1, 4, false, .u 1, .rws, .num 0, .within 0 10, .operator, true, false⟩,  -- IN_PRESCALE
   ⟨0x3107, 1, 4, false, .oct 4, .rws, .bytes [0x01, 0x00, 0x01, 0x00], .any, .operator, true, false⟩,  -- IN_LIFT
   ⟨0x3108, 1, 4, false, .u 2, .rws, .num 0, .any, .operator, true, false⟩,  -- ROVE_SOURCE
   ⟨0x3109, 1, 8, false, .oct 4, .rw, .bytes [0x00, 0x00, 0x00, 0x00], .any, .operator, false, false⟩,  -- DIFF_PAIR
   ⟨0x310A, 1, 8, false, .i 8, .ro, .none, .any, .operator, false, false⟩,  -- DIFF_RESULT
   ⟨0x310B, 1, 4, false, .oct 16, .rws, .bytes [0x00, 0x00, 0x01, 0x00, 0x40, 0x42, 0x0F, 0x00, 0x64, 0x00, 0x00, 0x00, 0x00, 0x00, 0x00, 0x00], .any, .operator, false, false⟩,  -- EU_CONFIG
   ⟨0x310C, 1, 4, false, .bool, .wo, .none, .any, .operator, false, false⟩,  -- EU_ARM
   ⟨0x310D, 1, 4, false, .domain, .ro, .none, .any, .operator, false, false⟩,  -- EU_RESULTS
   ⟨0x310E, 1, 4, false, .bool, .wo, .none, .any, .operator, false, false⟩,  -- EU_CALIBRATE
   ⟨0x310F, 1, 4, false, .time96, .ro, .num 0, .any, .operator, false, false⟩,  -- EU_CAL_TIME
   ⟨0x3110, 1, 4, false, .u 2, .ro, .num 0, .any, .operator, false, false⟩,  -- EU_CAL_WIDEST
   ⟨0x3111, 0, 0, false, .oct 4, .wo, .none, .any, .operator, false, false⟩,  -- DET_TRACE_REQ
   ⟨0x3112, 0, 0, false, .domain, .ro, .none, .any, .operator, false, false⟩,  -- DET_TRACE
   ⟨0x3113, 1, 8, false, .u 4, .rc, .num 0, .any, .operator, false, false⟩]  -- VERNIER_COUNTS

/-- Objects 0x3200 to 0x32FF. -/
def dir32 : List ObjRow :=
  [
   ⟨0x3200, 1, 16, false, .bool, .rws, .num 0, .any, .operator, true, false⟩,  -- SLOT_ENABLE
   ⟨0x3201, 1, 16, false, .u 1, .rws, .num 255, .any, .operator, true, false⟩,  -- SLOT_SOURCE
   ⟨0x3202, 1, 16, false, .u 1, .rws, .num 0, .within 0 2, .operator, true, false⟩,  -- SLOT_KIND
   ⟨0x3203, 1, 16, false, .u 1, .rws, .num 128, .within 1 255, .operator, true, false⟩,  -- SLOT_PRIORITY
   ⟨0x3204, 1, 16, false, .u 1, .rws, .num 15, .within 0 15, .operator, true, false⟩,  -- SLOT_QL
   ⟨0x3205, 1, 16, false, .u 1, .rws, .num 248, .any, .operator, true, false⟩,  -- SLOT_CLASS
   ⟨0x3206, 1, 16, false, .u 2, .rws, .num 300, .within 0 720, .operator, true, false⟩,  -- SLOT_WTR
   ⟨0x3207, 1, 16, false, .u 2, .rws, .num 500, .within 0 1800, .operator, true, false⟩,  -- SLOT_HOLDOFF
   ⟨0x3208, 1, 16, false, .u 4, .ro, .none, .any, .operator, false, false⟩,  -- SLOT_STATUS
   ⟨0x3209, 0, 0, false, .u 4, .rws, .num 100, .within 2 4600, .operator, true, false⟩,  -- SLOT_FREQ_LIMIT
   ⟨0x320A, 1, 192, true, .bool, .rws, .num 1, .any, .operator, true, false⟩,  -- ESMC_ENABLE
   ⟨0x320B, 1, 192, false, .u 1, .ro, .num 7, .any, .operator, false, false⟩,  -- ESMC_TX_QL
   ⟨0x320C, 0, 0, false, .bool, .rws, .num 1, .any, .operator, true, false⟩,  -- QL_ENABLE
   ⟨0x320D, 0, 0, false, .bool, .rws, .num 1, .any, .operator, true, false⟩,  -- REVERTIVE
   ⟨0x320E, 0, 0, false, .u 2, .rws, .num 1000, .within 1 3000, .operator, true, false⟩,  -- FREQ_BW
   ⟨0x320F, 0, 0, false, .u 2, .rws, .num 50, .within 1 100, .operator, true, false⟩,  -- TIME_BW
   ⟨0x3210, 1, 2, false, .u 1, .rws, .list [0, 1], .within 0 1, .operator, true, false⟩,  -- DOMAIN_OWNER
   ⟨0x3211, 0, 0, false, .u 1, .rws, .num 0, .within 0 1, .operator, true, false⟩,  -- OVEN_OWNER
   ⟨0x3212, 0, 0, false, .i 4, .rw, .num 0, .within (-1000000000) 1000000000, .operator, false, false⟩,  -- OVEN_STEER
   ⟨0x3213, 0, 0, false, .u 2, .rws, .num 10, .within 1 3600, .operator, true, false⟩,  -- STEER_WATCHDOG
   ⟨0x3214, 1, 3, false, .u 1, .ro, .num 0, .any, .operator, false, false⟩,  -- PATH_STATE
   ⟨0x3215, 1, 3, false, .u 1, .ro, .num 255, .any, .operator, false, false⟩,  -- SELECTED
   ⟨0x3216, 1, 3, false, .u 1, .rws, .num 255, .any, .operator, false, false⟩,  -- FORCE_SELECT
   ⟨0x3217, 1, 3, false, .bool, .rws, .num 0, .any, .operator, false, false⟩,  -- FORCE_HOLDOVER
   ⟨0x3218, 0, 0, false, .u 4, .rws, .num 1000, .within 10 100000, .operator, true, false⟩,  -- HOLDOVER_LIMIT
   ⟨0x3219, 1, 3, false, .u 4, .ro, .num 0, .any, .operator, false, false⟩,  -- HOLDOVER_BOUND
   ⟨0x321A, 0, 0, false, .u 4, .ro, .num 0, .any, .operator, false, false⟩,  -- LOCKED_TIME
   ⟨0x321B, 0, 0, false, .u 4, .rws, .num 1000, .within 10 1000000000, .operator, true, false⟩,  -- SERVO_STEP_LIMIT
   ⟨0x321C, 1, 4, false, .u 1, .rws, .num 0, .within 0 3, .operator, true, false⟩,  -- OUT_MODE
   ⟨0x321D, 1, 4, false, .oct 4, .rws, .bytes [0x01, 0x00, 0x0A, 0x00], .any, .operator, true, false⟩,  -- OUT_FREQ
   ⟨0x321E, 1, 4, false, .u 4, .rws, .num 125000, .within 1000 1000000000, .operator, true, false⟩,  -- OUT_PERIOD
   ⟨0x321F, 1, 4, false, .u 4, .rws, .num 1000, .within 10 999999999, .operator, true, false⟩,  -- OUT_WIDTH
   ⟨0x3220, 1, 4, false, .i 8, .rws, .num 0, .within (-32768000000000) 32768000000000, .operator, true, false⟩,  -- OUT_PHASE
   ⟨0x3221, 1, 4, false, .u 1, .rws, .num 1, .within 0 2, .operator, true, false⟩,  -- OUT_SQUELCH
   ⟨0x3222, 1, 4, false, .u 1, .rws, .num 0, .within 0 4, .operator, true, false⟩,  -- OUT_ALIGN
   ⟨0x3223, 1, 4, false, .bool, .rws, .num 0, .any, .operator, true, false⟩,  -- OUT_PAIR
   ⟨0x3224, 1, 4, false, .u 4, .ro, .none, .any, .operator, false, false⟩,  -- OUT_STATUS
   ⟨0x3225, 1, 7, false, .u 4, .rc, .num 0, .any, .operator, false, false⟩]  -- REF_COUNTS

/-- Objects 0x3300 to 0x33FF. -/
def dir33 : List ObjRow :=
  [
   ⟨0x3300, 1, 192, true, .u 1, .rws, .num 1, .within 0 3, .operator, true, false⟩,  -- PTP_MODE
   ⟨0x3301, 1, 2, false, .u 1, .rws, .list [100, 24], .any, .operator, true, false⟩,  -- PTP_DOMAIN_NUMBER
   ⟨0x3302, 1, 2, false, .u 1, .rws, .list [0, 0], .within 0 1, .operator, true, false⟩,  -- INST_TIME_DOMAIN
   ⟨0x3303, 1, 2, false, .i 1, .rws, .list [-6, -4], .any, .operator, true, false⟩,  -- LOG_SYNC
   ⟨0x3304, 1, 2, false, .i 1, .rws, .list [-3, -3], .any, .operator, true, false⟩,  -- LOG_ANNOUNCE
   ⟨0x3305, 1, 2, false, .u 1, .rws, .num 3, .within 2 10, .operator, true, false⟩,  -- ANNOUNCE_TIMEOUT
   ⟨0x3306, 1, 2, false, .bool, .rws, .list [1, 0], .any, .operator, true, false⟩,  -- ONE_STEP
   ⟨0x3307, 0, 0, false, .u 1, .rws, .num 1, .within 1 2, .operator, true, false⟩,  -- HALYARD_DELAY_MECH
   ⟨0x3308, 1, 2, false, .u 1, .rws, .num 128, .any, .operator, true, false⟩,  -- PRIORITY2
   ⟨0x3309, 1, 192, true, .u 1, .rws, .num 128, .within 1 255, .operator, true, false⟩,  -- LOCAL_PRIORITY
   ⟨0x330A, 1, 192, true, .bool, .rws, .num 0, .any, .operator, true, false⟩,  -- MASTER_ONLY
   ⟨0x330B, 0, 0, false, .u 1, .rws, .num 0, .within 0 1, .operator, true, false⟩,  -- TELECOM_DA
   ⟨0x330C, 1, 4, false, .u 1, .rws, .num 255, .any, .operator, true, false⟩,  -- TC_DOMAINS
   ⟨0x330D, 1, 2, false, .u 1, .rws, .list [2, 0], .within 0 2, .operator, true, false⟩,  -- AUTH_MODE
   ⟨0x330E, 1, 192, true, .u 1, .rws, .num 0, .within 0 1, .operator, true, false⟩,  -- ASYM_MODE
   ⟨0x330F, 1, 192, true, .i 4, .rws, .num 0, .within (-6553600) 6553600, .operator, true, false⟩,  -- ASYM_FIXED
   ⟨0x3310, 0, 0, false, .u 4, .rws, .num 600, .within 60 86400, .operator, true, false⟩,  -- ASYM_PERIOD
   ⟨0x3311, 0, 0, false, .u 2, .rws, .num 500, .within 100 5000, .operator, true, false⟩,  -- ASYM_RESIDUAL_LIMIT
   ⟨0x3312, 1, 192, false, .bool, .wo, .none, .any, .operator, false, false⟩,  -- ASYM_MEASURE
   ⟨0x3313, 1, 192, false, .oct 24, .ro, .none, .any, .operator, false, false⟩,  -- ASYM_RESULT
   ⟨0x3314, 1, 192, false, .oct 2, .ro, .none, .any, .operator, false, false⟩,  -- PORT_STATE
   ⟨0x3315, 1, 192, false, .i 8, .ro, .none, .any, .operator, false, false⟩,  -- PTP_OFFSET
   ⟨0x3316, 1, 192, false, .i 8, .ro, .none, .any, .operator, false, false⟩,  -- MEAN_PATH_DELAY
   ⟨0x3317, 1, 192, false, .oct 16, .ro, .none, .any, .operator, false, false⟩,  -- PEER_INFO
   ⟨0x3318, 1, 2, false, .oct 4, .rws, .bytes [0x25, 0x00, 0x00, 0xA0], .any, .operator, true, false⟩,  -- TIME_PROPERTIES
   ⟨0x3319, 0, 0, false, .u 4, .rws, .num 100, .within 10 100000, .operator, true, false⟩,  -- HOLDOVER_SPEC_LIMIT
   ⟨0x331A, 0, 0, false, .oct 8, .const, .none, .any, .operator, false, false⟩,  -- CLOCK_IDENTITY
   ⟨0x331B, 1, 12, false, .u 4, .rc, .num 0, .any, .operator, false, false⟩,  -- HALYARD_COUNTS
   ⟨0x331C, 1, 2, false, .u 1, .rws, .num 248, .any, .operator, true, false⟩]  -- HOST_CLOCK_CLASS

/-- Objects 0x3400 to 0x34FF. -/
def dir34 : List ObjRow :=
  [
   ⟨0x3400, 0, 0, false, .u 1, .rws, .num 31, .within 0 31, .operator, true, false⟩,  -- CAL_ENABLE
   ⟨0x3401, 0, 0, false, .u 4, .rws, .num 1000, .within 10 100000, .operator, true, false⟩,  -- CAL_SLEW
   ⟨0x3402, 0, 0, false, .u 4, .rws, .num 50000, .within 1000 1000000, .operator, true, false⟩,  -- CAL_JUMP_LIMIT
   ⟨0x3403, 0, 0, false, .u 2, .rws, .num 24, .within 1 720, .operator, true, false⟩,  -- CAL_OVERDUE
   ⟨0x3404, 0, 0, false, .u 2, .rws, .num 30, .within 7 365, .operator, true, false⟩,  -- SPARE_LEAD
   ⟨0x3405, 0, 0, false, .bool, .rws, .num 1, .any, .operator, true, false⟩,  -- SPARE_AUTO
   ⟨0x3406, 0, 0, false, .u 2, .rws, .num 300, .within 100 1000, .operator, true, false⟩,  -- RX_MARGIN_WARN
   ⟨0x3407, 0, 0, false, .oct 4, .wo, .none, .any, .operator, false, false⟩,  -- CAL_RUN
   ⟨0x3408, 0, 0, false, .domain, .ro, .none, .any, .operator, false, false⟩,  -- CAL_LOG
   ⟨0x3409, 1, 192, false, .oct 36, .ro, .none, .any, .operator, false, false⟩,  -- LANE_DELAYS
   ⟨0x340A, 1, 192, false, .oct 8, .ro, .none, .any, .operator, false, false⟩,  -- RX_MARGIN
   ⟨0x340B, 0, 0, false, .domain, .ro, .none, .any, .operator, false, false⟩,  -- AGE_MODEL
   ⟨0x340C, 1, 192, false, .u 2, .ro, .num 65535, .any, .operator, false, false⟩,  -- LASER_PROJECTION
   ⟨0x340D, 0, 0, false, .oct 4, .ro, .bytes [0x20, 0x03, 0xA4, 0x06], .any, .operator, false, false⟩,  -- LOCKMON_BAND
   ⟨0x340E, 0, 0, false, .oct 16, .ro, .none, .any, .operator, false, false⟩,  -- STORE_STATUS
   ⟨0x340F, 1, 8, false, .u 4, .rc, .num 0, .any, .operator, false, false⟩]  -- CAL_COUNTS

/-- Objects 0x4000 to 0x40FF. -/
def dir40 : List ObjRow :=
  [
   ⟨0x4000, 1, 8, false, .domain, .rws, .none, .any, .operator, false, false⟩,  -- TABLE_TXN
   ⟨0x4001, 0, 0, false, .domain, .rw, .none, .any, .operator, false, false⟩,  -- TABLE_WRITE
   ⟨0x4002, 0, 0, false, .oct 8, .ro, .num 0, .any, .operator, false, false⟩,  -- TXN_FAIL
   ⟨0x4003, 0, 0, false, .oct 24, .wo, .none, .any, .operator, false, false⟩,  -- TABLE_READ_REQ
   ⟨0x4004, 0, 0, false, .domain, .ro, .none, .any, .operator, false, false⟩,  -- TABLE_READ
   ⟨0x4005, 0, 0, false, .oct 36, .ro, .none, .any, .operator, false, false⟩,  -- EPOCH_STATUS
   ⟨0x4006, 0, 0, false, .oct 32, .ro, .none, .any, .operator, false, false⟩,  -- TABLE_USAGE
   ⟨0x4007, 1, 192, true, .u 1, .rws, .num 0, .within 0 1, .operator, true, false⟩,  -- FWD_MODE
   ⟨0x4008, 1, 192, true, .u 2, .rws, .num 0, .within 0 4095, .operator, true, false⟩,  -- DEFAULT_VRF
   ⟨0x4009, 1, 192, true, .u 4, .rws, .num 4294967295, .any, .operator, true, false⟩,  -- XCONNECT_NH
   ⟨0x400A, 1, 192, true, .u 1, .rws, .num 7, .within 0 7, .operator, true, false⟩,  -- PROTOCOLS
   ⟨0x400B, 1, 192, false, .oct 6, .rws, .none, .any, .operator, true, false⟩,  -- CHANNEL_MAC
   ⟨0x400C, 0, 0, false, .oct 6, .const, .none, .any, .operator, false, false⟩,  -- BASE_MAC
   ⟨0x400D, 0, 0, false, .u 2, .rws, .num 37120, .within 1536 65535, .operator, false, false⟩,  -- TPID_EXTRA
   ⟨0x400E, 1, 4, false, .oct 8, .rws, .bytes [0x7F, 0x00, 0x00, 0x00, 0x00, 0x00, 0x00, 0x00], .any, .operator, false, false⟩,  -- HASH_PROFILE
   ⟨0x400F, 1, 15, false, .u 4, .rc, .num 0, .any, .operator, false, false⟩]  -- DROP_COUNTS

/-- Objects 0x4100 to 0x41FF. -/
def dir41 : List ObjRow :=
  [
   ⟨0x4100, 1, 8, false, .domain, .rws, .none, .any, .operator, false, false⟩,  -- METER_TXN
   ⟨0x4101, 1, 192, true, .u 1, .rws, .num 0, .within 0 15, .operator, true, false⟩,  -- QOS_PROFILE
   ⟨0x4102, 1, 192, true, .u 4, .rws, .num 4294967295, .any, .operator, true, false⟩,  -- DEFAULT_METER
   ⟨0x4103, 1, 16, false, .oct 96, .rws, .bytes [0x08, 0x09, 0x0A, 0x0B, 0x0C, 0x0D, 0x0E, 0x0F, 0x08, 0x08, 0x08, 0x08, 0x08, 0x08, 0x08, 0x08, 0x09, 0x09, 0x09, 0x09, 0x09, 0x09, 0x09, 0x09, 0x0A, 0x0A, 0x0A, 0x0A, 0x0A, 0x0A, 0x0A, 0x0A, 0x0B, 0x0B, 0x0B, 0x0B, 0x0B, 0x0B, 0x0B, 0x0B, 0x0C, 0x0C, 0x0C, 0x0C, 0x0C, 0x0C, 0x0C, 0x0C, 0x0D, 0x0D, 0x0D, 0x0D, 0x0D, 0x0D, 0x0D, 0x0D, 0x0E, 0x0E, 0x0E, 0x0E, 0x0E, 0x0E, 0x0E, 0x0E, 0x0F, 0x0F, 0x0F, 0x0F, 0x0F, 0x0F, 0x0F, 0x0F, 0x08, 0x08, 0x09, 0x09, 0x0A, 0x0A, 0x0B, 0x0B, 0x0C, 0x0C, 0x0D, 0x0D, 0x0E, 0x0E, 0x0F, 0x0F, 0x00, 0x00, 0x00, 0x00, 0x00, 0x00, 0x00, 0x00], .any, .operator, true, false⟩,  -- QOS_INPUT
   ⟨0x4104, 1, 16, false, .oct 100, .rws, .none, .any, .operator, true, false⟩,  -- QOS_REMARK
   ⟨0x4105, 0, 0, false, .u 4, .wo, .none, .within 0 262143, .operator, false, false⟩,  -- METER_READ_REQ
   ⟨0x4106, 0, 0, false, .domain, .ro, .none, .any, .operator, false, false⟩,  -- METER_STATE
   ⟨0x4107, 1, 3, false, .u 8, .rc, .num 0, .any, .operator, false, false⟩]  -- METER_COUNTS

/-- Objects 0x4200 to 0x42FF. -/
def dir42 : List ObjRow :=
  [
   ⟨0x4200, 1, 192, true, .u 4, .rws, .num 34816, .within 64 139554, .operator, true, false⟩,  -- BUF_PORT_LIMIT
   ⟨0x4201, 1, 192, true, .u 1, .rws, .num 0, .within 0 7, .operator, true, false⟩,  -- BUF_PROFILE
   ⟨0x4202, 1, 8, false, .oct 84, .rws, .bytes [0x00, 0x60, 0x00, 0x00, 0x00, 0x60, 0x00, 0x00, 0x00, 0x60, 0x00, 0x00, 0x00, 0x60, 0x00, 0x00, 0x00, 0x60, 0x00, 0x00, 0x00, 0x60, 0x00, 0x00, 0x00, 0x60, 0x00, 0x00, 0x00, 0x60, 0x00, 0x00, 0x00, 0x60, 0x00, 0x00, 0x00, 0x60, 0x00, 0x00, 0x00, 0x60, 0x00, 0x00, 0x00, 0x60, 0x00, 0x00, 0x00, 0x60, 0x00, 0x00, 0x00, 0x60, 0x00, 0x00, 0x00, 0x60, 0x00, 0x00, 0x00, 0x60, 0x00, 0x00, 0x64, 0x64, 0x64, 0x64, 0x64, 0x64, 0x64, 0x64, 0x64, 0x64, 0x64, 0x64, 0x00, 0x00, 0x00, 0x00, 0x32, 0x4B, 0x32, 0x00], .any, .operator, true, false⟩,  -- BUF_PROFILE_DATA
   ⟨0x4203, 0, 0, false, .u 1, .rws, .num 40, .within 1 100, .operator, true, false⟩,  -- MIRROR_PCT
   ⟨0x4204, 0, 0, false, .bool, .rws, .num 1, .any, .operator, true, false⟩,  -- OVF_ENABLE
   ⟨0x4205, 0, 0, false, .u 1, .rws, .num 16, .within 1 64, .operator, true, false⟩,  -- OVF_AGE_LIMIT
   ⟨0x4206, 1, 192, true, .u 4, .rws, .num 2982616, .within 0 572662306, .operator, true, false⟩,  -- OVF_PORT_LIMIT
   ⟨0x4207, 1, 16, false, .oct 36, .rws, .none, .any, .operator, true, false⟩,  -- MIRROR_SESSION
   ⟨0x4208, 0, 0, false, .bool, .wo, .none, .any, .operator, false, false⟩,  -- OVF_RETRY
   ⟨0x4209, 0, 0, false, .oct 24, .ro, .none, .any, .operator, false, false⟩,  -- OVF_STATUS
   ⟨0x420A, 1, 192, false, .oct 72, .ro, .none, .any, .operator, false, false⟩,  -- BUF_OCCUPANCY
   ⟨0x420B, 1, 24, false, .u 4, .ro, .num 0, .any, .operator, false, false⟩,  -- TILE_OCCUPANCY
   ⟨0x420C, 0, 0, false, .u 4, .ro, .num 0, .any, .operator, false, false⟩,  -- FABRIC_STATUS
   ⟨0x420D, 1, 192, false, .oct 40, .ro, .none, .any, .operator, false, false⟩,  -- BUF_DROPS
   ⟨0x420E, 1, 192, false, .oct 12, .ro, .none, .any, .operator, false, false⟩,  -- MC_COUNTS
   ⟨0x420F, 1, 16, false, .oct 16, .ro, .none, .any, .operator, false, false⟩,  -- MIRROR_COUNTS
   ⟨0x4210, 1, 11, false, .u 4, .rc, .num 0, .any, .operator, false, false⟩]  -- BUF_COUNTS

/-- Objects 0x4300 to 0x43FF. -/
def dir43 : List ObjRow :=
  [
   ⟨0x4300, 1, 192, true, .oct 320, .rws, .none, .any, .operator, true, false⟩,  -- QUEUE_SHAPER
   ⟨0x4301, 1, 192, true, .oct 12, .rws, .none, .any, .operator, true, false⟩,  -- PORT_SHAPER
   ⟨0x4302, 1, 192, true, .oct 48, .rws, .rep 12 [0x00, 0x28, 0x00, 0x00], .any, .operator, true, false⟩,  -- DWRR_QUANTUM
   ⟨0x4303, 1, 192, true, .bool, .rws, .num 0, .any, .operator, true, false⟩,  -- GATE_ENABLE
   ⟨0x4304, 1, 192, true, .domain, .rws, .none, .any, .operator, true, false⟩,  -- GATE_LIST
   ⟨0x4305, 1, 192, true, .u 1, .rws, .num 0, .within 0 1, .operator, true, false⟩,  -- GATE_DOMAIN
   ⟨0x4306, 1, 192, true, .u 2, .rws, .num 65535, .any, .operator, true, false⟩,  -- GATE_FALLBACK
   ⟨0x4307, 1, 192, true, .u 4, .wo, .none, .any, .operator, false, false⟩,  -- SHAPER_FORGIVE
   ⟨0x4308, 1, 192, false, .oct 264, .ro, .none, .any, .operator, false, false⟩,  -- SHAPER_STATE
   ⟨0x4309, 1, 192, false, .domain, .ro, .none, .any, .operator, false, false⟩,  -- GATE_OPER
   ⟨0x430A, 1, 192, false, .domain, .ro, .none, .any, .operator, false, false⟩,  -- GATE_PENDING
   ⟨0x430B, 1, 192, false, .oct 24, .ro, .none, .any, .operator, false, false⟩,  -- GATE_STATUS
   ⟨0x430C, 1, 192, false, .oct 16, .ro, .none, .any, .operator, false, false⟩,  -- EGRESS_COUNTS
   ⟨0x430D, 1, 6, false, .u 4, .rc, .num 0, .any, .operator, false, false⟩]  -- EGRESS_MODULE_COUNTS

/-- Objects 0x4400 to 0x44FF. -/
def dir44 : List ObjRow :=
  [
   ⟨0x4400, 0, 0, false, .bool, .rws, .num 1, .any, .operator, true, false⟩,  -- PAIR_ENABLE
   ⟨0x4401, 1, 2, false, .u 1, .rws, .num 255, .any, .operator, true, false⟩,  -- SHROUD_CHANNEL
   ⟨0x4402, 0, 0, false, .u 2, .rws, .num 34998, .within 1536 65535, .operator, true, false⟩,  -- SHROUD_ETHERTYPE
   ⟨0x4403, 0, 0, false, .bool, .rws, .num 1, .any, .operator, true, false⟩,  -- PAIR_FOLLOW
   ⟨0x4404, 0, 0, false, .u 2, .rws, .num 50, .within 10 1000, .operator, true, false⟩,  -- SILENCE_HOLDOFF
   ⟨0x4405, 0, 0, false, .u 2, .rws, .num 1000, .within 100 10000, .operator, true, false⟩,  -- ARB_TIMEOUT
   ⟨0x4406, 0, 0, false, .u 2, .rws, .num 2000, .within 200 60000, .operator, true, false⟩,  -- CKPT_FRESH_LIMIT
   ⟨0x4407, 1, 8, false, .domain, .rws, .none, .any, .operator, false, false⟩,  -- STREAM_TXN
   ⟨0x4408, 1, 192, true, .u 4, .rws, .num 4294967295, .any, .operator, true, false⟩,  -- XC_STREAM
   ⟨0x4409, 0, 0, false, .u 2, .wo, .none, .within 0 65535, .operator, false, false⟩,  -- STREAM_READ_REQ
   ⟨0x440A, 0, 0, false, .domain, .ro, .none, .any, .operator, false, false⟩,  -- STREAM_STATE
   ⟨0x440B, 0, 0, false, .u 1, .ro, .num 0, .any, .operator, false, false⟩,  -- PAIR_ROLE
   ⟨0x440C, 0, 0, false, .u 4, .ro, .num 0, .any, .operator, false, false⟩,  -- ROLE_EPOCH
   ⟨0x440D, 0, 0, false, .bool, .wo, .none, .any, .operator, false, false⟩,  -- ROLE_SWAP
   ⟨0x440E, 0, 0, false, .bool, .wo, .none, .any, .operator, false, false⟩,  -- PAIR_RESYNC
   ⟨0x440F, 0, 0, false, .bool, .wo, .none, .any, .operator, false, false⟩,  -- WITNESS_REGISTER
   ⟨0x4410, 0, 0, false, .u 4, .ro, .num 4294967295, .any, .operator, false, false⟩,  -- CKPT_AGE
   ⟨0x4411, 0, 0, false, .domain, .ro, .none, .any, .operator, false, false⟩,  -- LAST_CHECKPOINT
   ⟨0x4412, 0, 0, false, .bool, .rw, .num 0, .any, .operator, false, false⟩,  -- TAKEOVER_INHIBIT
   ⟨0x4413, 1, 10, false, .u 4, .rc, .num 0, .any, .operator, false, false⟩]  -- PAIR_COUNTS

/-- Objects 0x5000 to 0x50FF. -/
def dir50 : List ObjRow :=
  [
   ⟨0x5000, 0, 0, false, .u 4, .rw, .num 0, .within 0 1048572, .operator, false, true⟩,  -- REG_ADDRESS
   ⟨0x5001, 0, 0, false, .u 4, .rw, .none, .any, .operator, false, false⟩,  -- REG_DATA
   ⟨0x5002, 0, 0, false, .bool, .rw, .num 0, .any, .operator, false, true⟩,  -- REG_INCREMENT
   ⟨0x5003, 0, 0, false, .u 2, .ro, .num 0, .any, .operator, false, true⟩,  -- REG_STATUS
   ⟨0x5004, 0, 0, false, .u 2, .rw, .num 1, .within 1 256, .operator, false, true⟩,  -- REG_BLOCK_COUNT
   ⟨0x5005, 0, 0, false, .domain, .rw, .none, .any, .operator, false, false⟩,  -- REG_BLOCK
   ⟨0x5006, 0, 0, false, .u 2, .ro, .num 0, .any, .operator, false, true⟩,  -- REG_BLOCK_DONE
   ⟨0x5007, 1, 16, false, .u 1, .rw, .num 0, .within 0 1, .custodian, true, false⟩,  -- GUARD_MODE
   ⟨0x5008, 0, 0, false, .u 2, .ro, .num 0, .any, .operator, false, true⟩,  -- WINDOW_SKIPPED
   ⟨0x5009, 1, 2, false, .u 4, .rc, .num 0, .any, .operator, false, false⟩]  -- GUARD_COUNTS

/-- Objects 0x6000 to 0x60FF. -/
def dir60 : List ObjRow :=
  [
   ⟨0x6000, 0, 0, false, .u 1, .ro, .num 0, .any, .custodian, false, false⟩,  -- TRUST_STATE
   ⟨0x6001, 0, 0, false, .domain, .const, .none, .any, .custodian, false, false⟩,  -- IDEVID_CHAIN
   ⟨0x6002, 0, 0, false, .domain, .ro, .none, .any, .custodian, false, false⟩,  -- LDEVID_CHAIN
   ⟨0x6003, 0, 0, false, .bool, .wo, .none, .any, .custodian, false, false⟩,  -- LDEVID_GENERATE
   ⟨0x6004, 0, 0, false, .domain, .ro, .none, .any, .custodian, false, false⟩,  -- LDEVID_CSR
   ⟨0x6005, 0, 0, false, .domain, .rws, .none, .any, .custodian, false, false⟩,  -- LDEVID_INSTALL
   ⟨0x6006, 1, 8, false, .domain, .rws, .none, .any, .custodian, false, false⟩,  -- TRUST_ANCHOR
   ⟨0x6007, 1, 8, false, .u 1, .rws, .num 255, .any, .custodian, false, false⟩,  -- ANCHOR_USE
   ⟨0x6008, 0, 0, false, .domain, .rws, .none, .any, .custodian, false, false⟩,  -- DENY_LIST
   ⟨0x6009, 0, 0, false, .u 2, .wo, .none, .within 0 1440, .custodian, false, false⟩,  -- SERVICE_OPEN
   ⟨0x600A, 0, 0, false, .u 2, .ro, .num 0, .any, .custodian, false, false⟩,  -- SERVICE_REMAINING
   ⟨0x600B, 0, 0, false, .oct 36, .wo, .none, .any, .custodian, false, false⟩,  -- ATTEST_REQUEST
   ⟨0x600C, 0, 0, false, .domain, .ro, .none, .any, .custodian, false, false⟩,  -- ATTEST_REPORT
   ⟨0x600D, 1, 8, false, .u 4, .ro, .none, .any, .custodian, false, false⟩,  -- MONO_COUNTER
   ⟨0x600E, 0, 0, false, .u 1, .wo, .none, .within 5 7, .custodian, false, false⟩,  -- COUNTER_INCREMENT
   ⟨0x600F, 0, 0, false, .time96, .ro, .none, .any, .custodian, false, false⟩,  -- ISLAND_TIME
   ⟨0x6010, 0, 0, false, .u 4, .ro, .none, .any, .custodian, false, false⟩,  -- ISLAND_STATUS
   ⟨0x6011, 1, 6, false, .u 1, .rws, .list [2, 2, 1, 1, 1, 0], .within 0 3, .custodian, false, false⟩,  -- TAMPER_POLICY
   ⟨0x6012, 0, 0, false, .domain, .ro, .none, .any, .custodian, false, false⟩,  -- TAMPER_LOG
   ⟨0x6013, 0, 0, false, .bool, .wo, .none, .any, .custodian, false, false⟩,  -- TAMPER_ACK
   ⟨0x6014, 0, 0, false, .u 2, .wo, .none, .any, .custodian, false, false⟩,  -- ZEROISE
   ⟨0x6015, 1, 192, true, .u 1, .rws, .num 0, .within 0 2, .custodian, true, false⟩,  -- MACSEC_POLICY
   ⟨0x6016, 1, 192, true, .oct 8, .rws, .bytes [0x00, 0x10, 0x00, 0x00, 0x40, 0x00, 0x00, 0x00], .any, .custodian, true, false⟩,  -- MACSEC_PARAMS
   ⟨0x6017, 1, 192, true, .oct 68, .wo, .none, .any, .custodian, false, false⟩,  -- MACSEC_CAK
   ⟨0x6018, 1, 192, false, .oct 40, .ro, .none, .any, .custodian, false, false⟩,  -- MACSEC_CKN
   ⟨0x6019, 1, 192, false, .oct 16, .ro, .none, .any, .custodian, false, false⟩,  -- MACSEC_STATUS
   ⟨0x601A, 1, 192, true, .bool, .wo, .none, .any, .custodian, false, false⟩,  -- MACSEC_REKEY
   ⟨0x601B, 1, 16, false, .oct 56, .wo, .none, .any, .custodian, false, false⟩,  -- HALYARD_KEY
   ⟨0x601C, 1, 16, false, .oct 28, .ro, .none, .any, .custodian, false, false⟩,  -- HALYARD_KEY_INFO
   ⟨0x601D, 1, 12, false, .u 4, .rc, .num 0, .any, .custodian, false, false⟩]  -- TRUST_COUNTS

/-- Objects 0x6100 to 0x61FF. -/
def dir61 : List ObjRow :=
  [
   ⟨0x6100, 0, 0, false, .domain, .wo, .none, .any, .custodian, false, false⟩,  -- UPDATE_IMAGE
   ⟨0x6101, 0, 0, false, .u 1, .ro, .num 0, .any, .custodian, false, false⟩,  -- UPDATE_STATE
   ⟨0x6102, 0, 0, false, .u 1, .wo, .none, .within 0 2, .custodian, false, false⟩,  -- UPDATE_ACTIVATE
   ⟨0x6103, 0, 0, false, .bool, .wo, .none, .any, .custodian, false, false⟩,  -- UPDATE_CONFIRM
   ⟨0x6104, 0, 0, false, .bool, .wo, .none, .any, .custodian, false, false⟩,  -- UPDATE_DISCARD
   ⟨0x6105, 1, 3, false, .oct 64, .ro, .none, .any, .custodian, false, false⟩,  -- IMAGE_INFO
   ⟨0x6106, 0, 0, false, .oct 8, .ro, .num 0, .any, .custodian, false, false⟩,  -- UPDATE_RESULT
   ⟨0x6107, 0, 0, false, .u 1, .ro, .num 0, .any, .custodian, false, false⟩,  -- PROBATION_STARTS
   ⟨0x6108, 0, 0, false, .u 2, .rw, .num 0, .within 0 10080, .custodian, true, false⟩,  -- AUTO_CONFIRM
   ⟨0x6109, 0, 0, false, .u 4, .ro, .num 0, .any, .custodian, false, false⟩,  -- UPDATE_PROGRESS
   ⟨0x610A, 0, 0, false, .bool, .ro, .num 0, .any, .custodian, false, false⟩,  -- SETTINGS_RESET
   ⟨0x610B, 1, 4, false, .u 4, .rc, .num 0, .any, .custodian, false, false⟩]  -- UPDATE_COUNTS

/-- Objects 0x7000 to 0x70FF. -/
def dir70 : List ObjRow :=
  [
   ⟨0x7000, 0, 0, false, .domain, .ro, .none, .any, .operator, false, false⟩,  -- COUNTER_DIRECTORY
   ⟨0x7001, 1, 192, false, .oct 32, .ro, .none, .any, .operator, false, false⟩,  -- TRAFFIC_COUNTS
   ⟨0x7002, 0, 0, false, .time96, .rw, .num 0, .any, .operator, false, true⟩,  -- CTR_SNAP_AT
   ⟨0x7003, 0, 0, false, .oct 8, .wo, .none, .any, .operator, false, false⟩,  -- CTR_SNAP_REQUEST
   ⟨0x7004, 1, 4, false, .domain, .ro, .none, .any, .operator, false, false⟩,  -- CTR_SNAP_DATA
   ⟨0x7005, 0, 0, false, .u 1, .wo, .none, .within 1 4, .operator, false, false⟩,  -- CTR_SNAP_RELEASE
   ⟨0x7006, 1, 128, false, .u 4, .rw, .num 0, .any, .operator, true, false⟩,  -- PROG_SELECT
   ⟨0x7007, 1, 128, false, .u 8, .ro, .num 0, .any, .operator, false, false⟩,  -- PROG_VALUE
   ⟨0x7008, 0, 0, false, .domain, .wo, .none, .any, .operator, false, false⟩,  -- STATUS_SNAP_REQUEST
   ⟨0x7009, 0, 0, false, .domain, .ro, .none, .any, .operator, false, true⟩,  -- STATUS_SNAP_DATA
   ⟨0x700A, 0, 0, false, .domain, .ro, .none, .any, .operator, false, false⟩,  -- ALARM_DIRECTORY
   ⟨0x700B, 0, 0, false, .domain, .rw, .none, .any, .operator, true, false⟩,  -- ALARM_MAP
   ⟨0x700C, 0, 0, false, .domain, .ro, .none, .any, .operator, false, false⟩,  -- ALARM_ACTIVE
   ⟨0x700D, 0, 0, false, .u 2, .wo, .none, .any, .operator, false, false⟩,  -- ALARM_ACK
   ⟨0x700E, 0, 0, false, .u 4, .rw, .num 60, .within 1 86400, .operator, true, false⟩,  -- ALARM_HOLD
   ⟨0x700F, 0, 0, false, .u 4, .rw, .num 0, .any, .operator, false, true⟩,  -- EVENT_READ_FROM
   ⟨0x7010, 0, 0, false, .domain, .ro, .none, .any, .operator, false, false⟩,  -- EVENT_LOG
   ⟨0x7011, 0, 0, false, .oct 12, .rw, .bytes [0x01, 0x00, 0x00, 0x00, 0x00, 0x00, 0x01, 0x00, 0xE8, 0x03, 0x00, 0x00], .any, .operator, false, false⟩,  -- SAMPLE_CONFIG
   ⟨0x7012, 0, 0, false, .bool, .wo, .none, .any, .operator, false, false⟩,  -- SAMPLE_START
   ⟨0x7013, 0, 0, false, .oct 12, .ro, .none, .any, .operator, false, false⟩,  -- SAMPLE_STATUS
   ⟨0x7014, 0, 0, false, .domain, .ro, .none, .any, .operator, false, false⟩,  -- SAMPLE_DATA
   ⟨0x7015, 1, 4, false, .u 4, .rc, .num 0, .any, .operator, false, false⟩]  -- OBS_COUNTS

/-- The rows of the 256-index page that holds an index (R179). -/
def dirPage (page : Nat) : List ObjRow :=
  match page with
  | 0x10 => dir10
  | 0x11 => dir11
  | 0x12 => dir12
  | 0x13 => dir13
  | 0x14 => dir14
  | 0x20 => dir20
  | 0x21 => dir21
  | 0x30 => dir30
  | 0x31 => dir31
  | 0x32 => dir32
  | 0x33 => dir33
  | 0x34 => dir34
  | 0x40 => dir40
  | 0x41 => dir41
  | 0x42 => dir42
  | 0x43 => dir43
  | 0x44 => dir44
  | 0x50 => dir50
  | 0x60 => dir60
  | 0x61 => dir61
  | 0x70 => dir70
  | _ => []

/-- The row of an index, if it is implemented (R142). -/
def objRow (idx : Nat) : Option ObjRow :=
  (dirPage (idx / 256)).find? (fun r => r.index == idx)

/-- Little-endian bytes of a number (R144). -/
def leBytes : Nat → Nat → List (BitVec 8)
  | 0, _ => []
  | k + 1, n => BitVec.ofNat 8 n :: leBytes k (n / 256)

/-- The number that little-endian bytes spell. -/
def leNat : List (BitVec 8) → Nat
  | [] => 0
  | b :: t => b.toNat + 256 * leNat t

/-- Two's complement reading of an n-byte number (R144). -/
def signedOf (n v : Nat) : Int :=
  if v < 2 ^ (8 * n - 1) then v else (v : Int) - 2 ^ (8 * n)

/-- Two's complement bytes of an integer. -/
def leBytesI (n : Nat) (v : Int) : List (BitVec 8) := leBytes n (v % (2 ^ (8 * n) : Int)).toNat

/-- Length in bytes of a type with one length. -/
def ObjTy.len : ObjTy → Nat
  | .bool => 1
  | .u n => n
  | .i n => n
  | .time96 => 12
  | .oct n => n
  | .str n => n
  | .domain => 0

/-- The default value of a subindex as bytes (R151). -/
def ObjRow.default (r : ObjRow) (sub : Nat) : List (BitVec 8) :=
  match r.dflt with
  | .none => match r.ty with
    | .str _ => []
    | .domain => []
    | t => leBytes t.len 0
  | .num n => match r.ty with
    | .bool => leBytesI 1 n
    | t => leBytesI t.len n
  | .list l => leBytesI r.ty.len (l.getD (sub - r.first) (l.getLastD 0))
  | .bytes l => l
  | .rep n l => (List.replicate n l).flatten

/-- The commit set of an index (R159, R179). -/
def setOf (idx : Nat) : Nat :=
  match idx / 256 with
  | 0x20 => 1 | 0x21 => 2 | 0x30 => 3 | 0x31 => 4 | 0x32 => 5 | 0x33 => 6 | 0x34 => 7
  | 0x40 => 8 | 0x41 => 9 | 0x42 => 10 | 0x43 => 11 | 0x44 => 12 | 0x60 => 13
  | _ => 0

end Sys2Proof.Machine
end

