-- ==== Sys2Proof/Machine/Tab.lean ====
section
/-!
DEFINITION. Sparse tables: lists of (key, value) pairs with strictly rising keys. `put` keeps no entry
equal to the default, so that equal tables are equal data.
-/
namespace Sys2Proof.Machine

/-- A sparse table by a number. -/
abbrev Tab (α : Type) := List (Nat × α)

/-- The entry at a key, if there is one. -/
def Tab.find {α : Type} (k : Nat) : Tab α → Option α
  | [] => none
  | (j, v) :: t => if k = j then some v else Tab.find k t

/-- The value at a key, or the default. -/
def Tab.get {α : Type} (d : α) (k : Nat) (t : Tab α) : α :=
  match Tab.find k t with
  | some v => v
  | none => d

/-- Remove what stands at a key. -/
def Tab.erase {α : Type} (k : Nat) : Tab α → Tab α
  | [] => []
  | (j, v) :: t => if k = j then Tab.erase k t else (j, v) :: Tab.erase k t

/-- Set the entry at a key, keeping the keys in rising order. -/
def Tab.set {α : Type} (k : Nat) (v : α) : Tab α → Tab α
  | [] => [(k, v)]
  | (j, w) :: t =>
    if k = j then (k, v) :: t
    else if k < j then (k, v) :: (j, w) :: t
    else (j, w) :: Tab.set k v t

/-- Write a value at a key; writing the default removes the entry. -/
def Tab.put {α : Type} [DecidableEq α] (d : α) (k : Nat) (v : α) (t : Tab α) : Tab α :=
  if v = d then Tab.erase k t else Tab.set k v t

/-- Change the value at a key. -/
def Tab.upd {α : Type} [DecidableEq α] (d : α) (k : Nat) (f : α → α) (t : Tab α) : Tab α :=
  Tab.put d k (f (Tab.get d k t)) t

/-- Every key of the table is above a bound. -/
def Tab.above {α : Type} (k : Nat) : Tab α → Bool
  | [] => true
  | (j, _) :: t => decide (k < j) && Tab.above k t

/-- The canonical form: keys strictly rising, no entry equal to the default. -/
def Tab.wf {α : Type} [DecidableEq α] (d : α) : Tab α → Bool
  | [] => true
  | (j, v) :: t => decide (v ≠ d) && Tab.above j t && Tab.wf d t

/-- Replace element n of a list. -/
def setAt {α : Type} (n : Nat) (v : α) : List α → List α
  | [] => []
  | x :: t => match n with
    | 0 => v :: t
    | k + 1 => x :: setAt k v t

end Sys2Proof.Machine
end

