-- ==== Sys2Proof/Machine/State/Dict.lean ====
section
/-!
DEFINITION. State of the object dictionary: values in force, stored settings, sessions with their
staging areas and transfers, scheduled commits, pair exchanges and snapshots (05, 06).
-/
namespace Sys2Proof.Machine

/-- The key of an object value: index * 256 + subindex. -/
abbrev ObjKey := Nat

/-- The dictionary's values (R151 to R153). -/
structure Dict where
  vals       : Tab (List Byte)  -- values in force that differ from the default
  stored     : Tab (List Byte)  -- stored settings in flash
  pendSave   : List ObjKey      -- stored values not yet saved (SETTINGS_PENDING)
  clearArmed : Bool             -- SETTINGS_CLEAR 0x5A written
  members    : Tab (BitVec 192) -- GROUP_MEMBERS in force (R156)
deriving DecidableEq, Repr

/-- An empty dictionary: every object at its default. -/
def Dict.reset : Dict := { vals := [], stored := [], pendSave := [], clearArmed := false, members := [] }

/-- A segmented transfer in progress (R175 to R177). -/
structure Transfer where
  key     : ObjKey
  write   : Bool
  total   : Nat          -- declared length of a write, or length of the frozen content
  data    : List Byte    -- content received so far, or the frozen content
  nextSeg : Nat
deriving DecidableEq, Repr

/-- A staged value (R160): object key and value; `touched` once a register write changed a field
behind it (R137). -/
structure Staged where
  key     : ObjKey
  value   : List Byte
  touched : Bool
deriving DecidableEq, Repr

/-- One COMMIT_RESULT record (R166). -/
structure CommitRec where
  requested  : Time96
  applied    : Time96
  mask       : BitVec 32
  status     : Status
  failIndex  : BitVec 16
  failSub    : BitVec 8
  mateStatus : BitVec 16
  pairNumber : BitVec 32
deriving DecidableEq, Repr

/-- An answer or completion: REQ_ID, status and data (R197). -/
structure Answer where
  sess   : Nat
  reqId  : BitVec 16
  status : Status
  data   : List Byte
deriving DecidableEq, Repr

/-- A kept answer and the cycle in which its request was processed (R200). -/
structure Kept where
  ans   : Answer
  cycle : BitVec 32
deriving DecidableEq, Repr

/-- A session (R148, R155, R206, R207, R212). -/
structure Session where
  peer      : Nat
  role      : Role
  version   : Nat
  idle      : Nat              -- SESSION_IDLE as it was when the session opened, s
  opened    : Time96
  lastRec   : Time96
  openedAt  : Nat
  lastAt    : Nat
  seqHigh   : Option Nat       -- highest SEQ accepted from the host
  seqMask   : BitVec 64        -- SEQs accepted among the 64 below the highest
  txSeq     : Nat              -- next SEQ of the module's direction
  kept      : List Kept        -- the last 64 answers (R200)
  pendingIds : List (BitVec 16) -- requests answered 0x0402 and not completed
  regAddr   : Word             -- REG_ADDRESS
  regInc    : Bool             -- REG_INCREMENT
  regStatus : Status           -- REG_STATUS
  regCount  : BitVec 16        -- REG_BLOCK_COUNT
  regDone   : BitVec 16        -- REG_BLOCK_DONE
  skipped   : BitVec 16        -- WINDOW_SKIPPED
  readSh    : Tab Word         -- read shadows by register address (R123)
  writeSh   : Tab Word         -- write shadows by register address (R124)
  commitAt  : Time96           -- COMMIT_AT
  results   : List CommitRec   -- COMMIT_RESULT
  staged    : List Staged      -- staging area (R160)
  recGen    : Tab Nat          -- generations recorded when a set was first staged (R161), kept + 1
  groupRef  : BitVec 16        -- GROUP_REFUSED
  ctrSnapAt : Time96           -- CTR_SNAP_AT
  readFrom  : BitVec 32        -- EVENT_READ_FROM
  statSnap  : List Byte        -- STATUS_SNAP_DATA
  transfer  : Option Transfer
  txnFail   : List Byte        -- TXN_FAIL
  tableRead : List Byte        -- TABLE_READ, as fetched by TABLE_READ_REQ
  tableErr  : Nat              -- 0, or the reason of an absent entry
  meterReq  : Nat              -- meter of METER_READ_REQ plus one, 0 for none
  streamRead : List Byte       -- STREAM_STATE, as fetched by STREAM_READ_REQ
  chain     : List Byte        -- the peer's certificate chain (R209)
  attest    : List Byte        -- ATTEST_REPORT
  attestReq : Option Req       -- ATTEST_REQUEST answered 0x0402
  nonce     : List Byte        -- and its nonce and key
deriving DecidableEq, Repr

/-- A session as it opens: every session-local object at its default (R155). -/
def Session.fresh (peer : Nat) (role : Role) (version idle : Nat) (t : Time96) (now : Nat) : Session :=
  { peer := peer, role := role, version := version, idle := idle, opened := t, lastRec := t, openedAt := now, lastAt := now,
    seqHigh := none, seqMask := 0, txSeq := 0, kept := [], pendingIds := [], regAddr := 0, regInc := false,
    regStatus := 0, regCount := 1, regDone := 0, skipped := 0, readSh := [], writeSh := [],
    commitAt := Time96.zero, results := [], staged := [], recGen := [], groupRef := 0xFFFF#16,
    ctrSnapAt := Time96.zero, readFrom := 0, statSnap := [], transfer := none,
    txnFail := List.replicate 8 0, tableRead := [], tableErr := 0, meterReq := 0, streamRead := [], chain := [], attest := [],
    attestReq := none, nonce := [] }

/-- A handshake in progress (R208, R211, R213). -/
structure Handshake where
  id       : BitVec 16   -- chosen by the initiator
  peer     : Nat
  role     : Role
  version  : Nat
  session  : Nat     -- session number assigned in ACCEPT
  pair     : Bool    -- the pair handshake of R213
deriving DecidableEq, Repr

/-- A commit scheduled and not yet applied (R162, R163, R169). -/
structure Commit where
  sess      : Nat
  mask      : BitVec 32
  sets      : List Nat          -- the sets it names
  at_       : Option Nat        -- applying instant in domain A (LSBs of TIME96), none: next edge
  given     : Bool              -- COMMIT_AT set it (R500)
  values    : List Staged
  requested : Time96
  pair      : Bool
  pairNo    : BitVec 32
  cancel    : Bool              -- a cancellation went to the mate (R165)
  abortReq  : Option Req        -- the COMMIT_ABORT answered 0x0402
  mateCancelled : Bool
deriving DecidableEq, Repr

/-- A pair-commit exchange with the mate in progress (R168): the request and what is to commit. -/
structure PairExchange where
  req    : Req
  commit : Commit
deriving DecidableEq, Repr

/-- A PAIR_SCOPE write in progress (R167). -/
structure ScopeExchange where
  req   : Req
  value : BitVec 32
deriving DecidableEq, Repr

/-- Commit sets and their coherence across the pair (R161 to R172). -/
structure Commits where
  generation   : Tab Nat              -- generation of sets 1 to 13, modulo 2^32
  scheduled    : List Commit
  exchange     : Option PairExchange
  scopeEx      : Option ScopeExchange
  mateCommit   : Option Commit        -- on the mate: values received and passed, awaiting the order (R168)
  pairNumber   : BitVec 32            -- PAIR_NUMBER
  pairCounter  : BitVec 32            -- number kept by side A (R168)
  pairState    : Nat                  -- PAIR_STATE
  scopeChanged : Bool                 -- pair-scoped sets changed since pairing (R172)
deriving DecidableEq, Repr

/-- Commit state after a cleared start. -/
def Commits.reset : Commits :=
  { generation := [], scheduled := [], exchange := none, scopeEx := none, mateCommit := none, pairNumber := 0,
    pairCounter := 0, pairState := 3, scopeChanged := false }

/-- One snapshot slot (R173, R174). -/
structure Snap where
  owner      : Nat
  captured   : Time96
  mask       : BitVec 32
  generation : List Nat
  pairNumber : BitVec 32
  entries    : List (ObjKey × List Byte)
deriving DecidableEq, Repr

/-- Gleno interface states (R201, R216). -/
inductive GState where
  | off | listen | joining | joined | master | noSlot | silent
deriving DecidableEq, Repr

/-- Training state of a Gleno port (R182, R183, R216). -/
inductive GPort where
  | down | training | trained
deriving DecidableEq, Repr

/-- A port starts training as soon as the regulators are valid (R182); a trained one stays. -/
def GPort.train : GPort → GPort
  | .trained => .trained
  | _ => .training

/-- The Gleno interface (R182 to R216). -/
structure Gleno where
  state      : GState
  m0         : GPort
  m1         : GPort
  mark0      : Bool            -- M0 has cycle marks (PORT_STATE 3)
  mark1      : Bool
  master     : Option Nat      -- CYCLE_MASTER
  cycleTime  : BitVec 16       -- CYCLE_TIME
  cycle      : BitVec 32       -- CYCLE of the last cycle followed
  followed   : Bool            -- a cycle has been followed since the start
  slots      : Nat             -- SLOTS of the last accepted cycle-start
  presence   : BitVec 32       -- PRESENCE of the last accepted cycle-start
  join       : Bool            -- JOIN is set in the slot frames
  heard      : Nat             -- cycles heard in JOINING without a frame from the own address
  joinCycles : Nat             -- cycles with JOIN and no acknowledgement
  absentRun  : Nat             -- cycle-starts in a row with the own PRESENCE bit clear
  masterTime : Nat             -- MASTER_CYCLE_TIME of this start (R216)
  etherType  : Nat             -- GLENO_ETHERTYPE of this start (R216)
  hbCount    : BitVec 4        -- HB_COUNT
  late       : Bool            -- LATE of the next slot frame
  lost       : BitVec 32       -- LOST_NODES
  joinSeen   : BitVec 32       -- as master: addresses that sent JOIN in the cycle in progress
  heardNow   : BitVec 32       -- addresses heard in the cycle in progress
  heardPrev  : BitVec 32       -- addresses heard in the cycle before
  heardPrev2 : BitVec 32       -- and in the one before that
  answers    : List Answer     -- answers waiting for the slot, oldest first
  completions : List Answer    -- completions waiting for the slot
  handshakes : List Handshake
  nextSess   : Nat             -- number of the next session
  pairSess   : Option Nat      -- the pair session (R213)
  sessions   : Tab Session
deriving DecidableEq, Repr

/-- The Gleno interface after a cleared start. -/
def Gleno.reset : Gleno :=
  { state := .off, m0 := .down, m1 := .down, mark0 := false, mark1 := false, master := none, cycleTime := 0, cycle := 0,
    followed := false, slots := 0, presence := 0, join := false, heard := 0, joinCycles := 0, absentRun := 0,
    masterTime := 200, etherType := 0x88B5, hbCount := 0, late := false, lost := 0, joinSeen := 0, heardNow := 0, heardPrev := 0, heardPrev2 := 0,
    answers := [], completions := [], handshakes := [], nextSess := 1, pairSess := none, sessions := [] }

end Sys2Proof.Machine
end

