-- ==== Sys2Proof/Machine/State/Fwd.lean ====
section
/-!
DEFINITION. State of the forwarding pipeline: tables, epochs, meters and streams (14, 15, 17).
-/
namespace Sys2Proof.Machine

/-- The states of an entry of a stated table (R447, R448). -/
inductive RowSt where
  | free | live | draining
deriving DecidableEq, Repr

/-- An entry of a stated table: its state, the epoch it is marked with while it drains (R453), its bits. -/
structure Row where
  st   : RowSt
  mark : Nat
  bits : BitVec 256
deriving DecidableEq, Repr

/-- A free entry. -/
def Row.free : Row := ⟨.free, 0, 0⟩

/-- A classifier entry (R436, R437). -/
structure Classif where
  key    : BitVec 640
  mask   : BitVec 640
  action : BitVec 96
deriving DecidableEq, Repr

/-- An invalid classifier entry. -/
def Classif.reset : Classif := ⟨0, 0, 0⟩

/-- A meter entry (R455). -/
structure MeterCfg where
  mode   : Nat
  flags  : BitVec 8
  rate1  : Nat
  rate2  : Nat
  burst1 : Nat
  burst2 : Nat
deriving DecidableEq, Repr

/-- A meter that is off. -/
def MeterCfg.reset : MeterCfg := ⟨0, 0, 0, 0, 0, 0⟩

/-- What a meter holds (R456, R458, R462): buckets in 2^-10 byte, remainders, the time of the last update in
0.5 ns, the rates of entries that were replaced since then with the time each ended, and its counts. -/
structure MeterSt where
  t1   : Nat
  t2   : Nat
  r1   : Nat
  r2   : Nat
  last : Nat
  past : List (Nat × Nat × Nat)     -- end of validity, RATE1, RATE2; oldest first
  frames : List Nat                 -- green, yellow, red
  bytes  : List Nat
deriving DecidableEq, Repr

/-- An untouched meter. -/
def MeterSt.reset : MeterSt := ⟨0, 0, 0, 0, 0, [], [0, 0, 0], [0, 0, 0]⟩

/-- The state of a stream (R522, R535). -/
structure Stream where
  next    : Nat
  recov   : Nat
  takeAny : Bool
  hist    : Nat
  counts  : List Nat     -- passed, duplicates, rogue, out of order, lost, resets, tagless
deriving DecidableEq, Repr

/-- A stream that takes any number. -/
def Stream.reset : Stream := ⟨0, 0, true, 0, [0, 0, 0, 0, 0, 0, 0]⟩

/-- The tables as transactions change them (R438 to R448, R478, R521). -/
structure Tables where
  label    : Tab (BitVec 128)      -- space * 2^20 + label
  prefixes : Tab (BitVec 64)       -- by prefixKey
  nh       : Tab Row
  group    : Tab Row
  member   : Tab Row
  mcGroup  : Tab Row
  mcMember : Tab Row
  classif  : Tab Classif
  meters   : Tab MeterCfg
  streams  : Tab (BitVec 128)
deriving DecidableEq, Repr

/-- Empty tables (R448). -/
def Tables.reset : Tables :=
  { label := [], prefixes := [], nh := [], group := [], member := [], mcGroup := [], mcMember := [], classif := [],
    meters := [], streams := [] }

/-- The forwarding pipeline. -/
structure Fwd where
  tables  : Tables
  epoch   : Nat                -- table epoch in force, 0 to 7 (R452)
  meters  : Tab MeterSt
  streams : Tab Stream
deriving DecidableEq, Repr

/-- The pipeline after a cleared start. -/
def Fwd.reset : Fwd := { tables := Tables.reset, epoch := 0, meters := [], streams := [] }

end Sys2Proof.Machine
end

