-- ==== Sys2Proof/Machine/State/Life.lean ====
section
/-!
DEFINITION. State of the contacts, the module states, the start and the Spar complex (01, 03).
-/
namespace Sys2Proof.Machine

/-- What is fixed at manufacture and reported by the identity block and objects (R4, R140, R180). -/
structure Factory where
  variant      : Variant
  stepping     : BitVec 8
  serial       : BitVec 64
  partNumber   : List Byte
  manufactured : Time96
  layoutMinor  : BitVec 8
  baseMac      : BitVec 48
  clockId      : BitVec 64
  romVersion   : BitVec 32
  waves        : Tab Int       -- by tile * 8 + laser: calibrated less nominal wavelength in pm (R373)
deriving DecidableEq, Repr

/-- The value of the factory data in the reset state: the ordering code KV3072-L10-01 of R639, the rest by DESIGN CHOICE, as assumption 6
says. -/
def Factory.reset : Factory :=
  { variant := .l10, stepping := 0, serial := 0
    partNumber := [0x4B, 0x56, 0x33, 0x30, 0x37, 0x32, 0x2D, 0x4C, 0x31, 0x30, 0x2D, 0x30, 0x31]
    manufactured := Time96.zero,
    layoutMinor := 0, baseMac := 0, clockId := 0, romVersion := 0, waves := [] }

/-- The contacts of the management connector (R29, R31, R35, R38, R40 to R43). -/
structure Pins where
  laserEn     : Bool       -- LASER_EN level
  resetN      : Bool       -- RESET_N level
  straps      : BitVec 5   -- SLOT[4:0] levels
  almMaj      : Bool       -- ALM_MAJ conducting
  almMin      : Bool       -- ALM_MIN conducting
  outHeld     : Bool       -- OUT0 to OUT3 held at 0 V
  lockmonZero : Bool       -- LOCKMON at 0 V
deriving DecidableEq, Repr

/-- Unpowered contacts: the pulls of R31 give LASER_EN low, RESET_N high and open straps. -/
def Pins.reset : Pins :=
  { laserEn := false, resetN := true, straps := 0b11111#5, almMaj := false, almMin := false,
    outHeld := true, lockmonZero := true }

/-- One Spar engine: its role and its power (R97, R98, R101). -/
structure SparEngine where
  role  : SparRole
  power : SparPower
deriving DecidableEq, Repr

/-- A role migration in progress: the role, the failed engine, the engine that takes it and whether its
power was granted (R98). -/
structure Migration where
  role    : SparRole
  failedE : Nat
  target  : Nat
  granted : Bool
deriving DecidableEq, Repr

/-- Module state, start, shutdown and Spar engines (R86 to R107). -/
structure Life where
  state         : ModState
  fromState     : ModState        -- state RESTARTING was entered from (R86)
  restartCause  : BitVec 8        -- cause 7 or 8 of the warm start in progress (R92)
  address       : BitVec 5        -- latched SLOT[4:0] (R35)
  latched       : Bool
  stage         : Nat             -- START_STAGE (R107)
  resetCause    : BitVec 8        -- RESET_CAUSE (R92)
  pendingCause  : BitVec 8        -- cause to record when RESET ends (R92)
  hold          : Hold            -- what holds RESET besides RESET_N (R86)
  startTimes    : List Time96     -- START_TIMES (R107)
  regulators    : Bool            -- regulators valid (R88)
  oven          : Oven            -- R91
  laserQual     : Bool            -- LASER_EN high for 10 ms (R39)
  mode          : Nat             -- START_MODE of this start (R107)
  released      : Bool            -- LASER_RELEASE written (R89)
  staging       : Bool            -- S plus the address delay passed, engines being staged (R89)
  nextEngine    : Nat             -- next engine to request, 0 to 24 (R89)
  nymyx         : Bool            -- Nymyx runs (R87)
  spar          : List SparEngine -- the sixteen engines (R97)
  retired       : BitVec 16       -- SPAR_RETIRED (R101)
  migrating     : List Migration  -- role migrations in progress (R98)
  braced        : List Nat        -- engines whose clocks level 4 stopped (R76)
  shutStep      : Nat             -- step of the orderly shutdown, 0 none, 1 to 6 (R102)
  stopStatus    : Nat             -- STOP_STATUS (R104)
  stopReq       : Option Req      -- STOP answered 0x0402 and not yet completed (R102)
  thermalStops  : List Nat        -- instants of the thermal stops (R86)
  warmQueue     : Nat             -- events in the hardware buffer of a warm start (R95)
deriving DecidableEq, Repr

/-- Life of an unpowered module; RESET_CAUSE before any start is DESIGN CHOICE, assumption 7. -/
def Life.reset : Life :=
  { state := .unpowered, fromState := .running, restartCause := 0, address := 0, latched := false, stage := 0,
    resetCause := 0, pendingCause := 0, hold := .none, startTimes := List.replicate 8 Time96.zero,
    regulators := false, oven := .cold, laserQual := false, mode := 0, released := false, staging := false, nextEngine := 0,
    nymyx := false, spar := List.replicate 16 ⟨.spare, .off⟩, retired := 0, migrating := [], braced := [], shutStep := 0,
    stopStatus := 0, stopReq := none, thermalStops := [], warmQueue := 0 }

end Sys2Proof.Machine
end

