-- ==== Sys2Proof/Machine/State/Obs.lean ====
section
/-!
DEFINITION. State of the counter array, alarms, the event log and instruction sampling (20).
-/
namespace Sys2Proof.Machine

/-- A standing alarm (R603, R613). -/
structure Standing where
  alarm  : Alarm
  inst   : Nat
  raised : Time96
  count  : Nat
deriving DecidableEq, Repr

/-- What an event record is about: an alarm, or one of the informational events of the manual. -/
inductive EventKind where
  | alarm (a : Alarm)
  | rejectedResetPulse | dip | migration | calOutcome | tamperInfo | tableDrop | keyMissed | updateInfo | unpairedDiffers | takeover
  | slotState | pathState | other
deriving DecidableEq, Repr

/-- An event record (R606): class 0 information, 1 minor, 2 major, 3 ended, 4 suppressed. -/
structure Event where
  time  : Time96
  seq   : BitVec 32
  kind  : EventKind
  inst  : Nat
  cls   : Nat
  flags : BitVec 8
deriving DecidableEq, Repr

/-- A counter snapshot slot (R599 to R601). -/
structure CtrSnap where
  owner     : Nat
  first     : Nat
  count     : Nat
  clear     : Bool
  at_       : Option Nat      -- scheduled start in domain A, none: next edge
  started   : Bool
  done      : Bool
  stepped   : Bool            -- domain A stepped during the sweep
  firstRead : Time96
  lastRead  : Time96
  cells     : List Word
  ovf       : List Bool
deriving DecidableEq, Repr

/-- An instruction sample (R611). -/
structure Sample where
  time     : Time96
  engine   : Nat
  role     : Nat
  event    : Nat
  flags    : BitVec 8
  pc       : Word
  dataAddr : Word
  latency  : BitVec 16
  stall    : BitVec 8
  interval : Word
deriving DecidableEq, Repr

/-- Counters, alarms, events and sampling. -/
structure Obs where
  counts     : Tab (BitVec 32)  -- cells behind the count objects, by key * 256 + word
  traffic    : Tab (BitVec 64)  -- chained traffic cells, by channel * 4 + word (R591)
  prog       : Tab (BitVec 32)  -- programmable cells 0 to 127
  progSel    : Tab (BitVec 32)  -- their selects in force
  ovfMap     : List Nat         -- cells that wrapped (OVF_MAP), rising
  alarms     : List Standing
  events     : List Event       -- working ring, oldest first, at most 4,096
  flash      : List Event       -- flash ring, oldest first, at most 131,072
  unwritten  : Nat              -- records of the working ring not yet in flash
  warmBuf    : List Event       -- records held in the hardware buffer of a warm start (R95)
  nextSeq    : BitVec 32
  stepFlag   : Bool             -- domain A stepped since the previous record
  slots      : Tab CtrSnap      -- counter snapshot slots 1 to 4
  sweepBusy  : Option Nat       -- slot whose sweep runs
  sweepFirst : Time96
  sweepLast  : Time96
  sweepCell  : Nat
  sampling   : Bool
  sampleEnd  : Nat              -- end reason 0 to 5
  samples    : List Sample      -- queued samples, oldest first
  discarded  : Nat
deriving DecidableEq, Repr

/-- Observability after a cleared start. -/
def Obs.reset : Obs :=
  { counts := [], traffic := [], prog := [], progSel := [], ovfMap := [], alarms := [], events := [], flash := [],
    unwritten := 0, warmBuf := [], nextSeq := 0, stepFlag := false, slots := [], sweepBusy := none,
    sweepFirst := Time96.zero, sweepLast := Time96.zero, sweepCell := 0, sampling := false, sampleEnd := 0,
    samples := [], discarded := 0 }

end Sys2Proof.Machine
end

