-- ==== Sys2Proof/Machine/State/Optics.lean ====
section
/-!
DEFINITION. State of the optical engines and the channels: lasers, spares, band resolution, bring-up,
width, markers, equalisers, test loops (07, 08).
-/
namespace Sys2Proof.Machine

/-- A laser bank (R228, R230). -/
inductive Bank where
  | dark | waiting | starting | lit | brace
deriving DecidableEq, Repr

/-- LASER_STATE (R243). -/
inductive LaserSt where
  | dark | starting | lit | brace | forcedOff | retired
deriving DecidableEq, Repr

/-- One fixed laser (R243). -/
structure Laser where
  st    : LaserSt
  bias  : BitVec 16      -- LASER_BIAS, 0.1 mA
  power : BitVec 16      -- LASER_POWER, 0.01 dBm
deriving DecidableEq, Repr

/-- A dark laser. -/
def Laser.reset : Laser := ⟨.dark, 0, 0xF060#16⟩

/-- SPARE_STATE (R243). -/
inductive SpareSt where
  | ready | testing | tuning | inUse | failed
deriving DecidableEq, Repr

/-- One tunable spare (R221, R234, R243): `target` is the lane wavelength within its band, `planned`
marks a switch-in of a laser that is still lit. -/
structure Spare where
  st      : SpareSt
  target  : Nat
  planned : Bool
  bound   : Bool         -- the spare has been taken for laser `target` of its band
  wlError : BitVec 16
deriving DecidableEq, Repr

/-- A dark and ready spare. -/
def Spare.reset : Spare := ⟨.ready, 0, false, false, 0⟩

/-- One optical engine (R218). -/
structure Engine where
  bank      : Bank
  lasers    : List Laser   -- lasers 0 to 7
  lower     : Spare
  upper     : Spare
  temp      : BitVec 16    -- LASER_TEMP, 0.01 °C
  refusedAt : Option Nat   -- instant of the first refusal of the present bank request (R67)
deriving DecidableEq, Repr

/-- A dark engine. -/
def Engine.reset : Engine :=
  { bank := .dark, lasers := List.replicate 8 Laser.reset, lower := Spare.reset, upper := Spare.reset, temp := 0,
    refusedAt := none }

/-- BAND_STATE (R223, R243). -/
inductive BandSt where
  | dark | listen | beacon | answer | backoff | resolved | disabled
deriving DecidableEq, Repr

/-- BAND (R243). -/
inductive Band where
  | none | lower | upper
deriving DecidableEq, Repr

/-- The taps of one transmit lane (R237): PRE and POST as I8. -/
structure Taps where
  pre  : BitVec 8
  post : BitVec 8
deriving DecidableEq, Repr

/-- The reset value of the taps: PRE -4, POST -8 (R243). -/
def Taps.reset : Taps := ⟨0xFC#8, 0xF8#8⟩

/-- One channel's optical part (R223 to R243). -/
structure Optic where
  bandState : BandSt
  band      : Band
  pin       : Nat            -- BAND_PIN in force
  enable    : Bool           -- TX_ENABLE in force
  eqMode    : Nat            -- EQ_MODE in force
  hold      : Nat            -- H drawn at the last entry to LISTEN, µs
  backoff   : Nat            -- B drawn at the last entry to BACKOFF, µs
  taps      : List Taps      -- taps in force, lanes 0 to 3
  lanesLit  : BitVec 4       -- LANE_LIT
  los       : BitVec 4       -- LANE_LOS
  laserLost : BitVec 4       -- transmit lanes without a lit laser
  rxPower   : List (BitVec 16)
  txPower   : List (BitVec 16)
deriving DecidableEq, Repr

/-- A dark channel (reset column of R243). -/
def Optic.reset : Optic :=
  { bandState := .dark, band := .none, pin := 0, enable := true, eqMode := 0, hold := 0, backoff := 0,
    taps := List.replicate 4 Taps.reset, lanesLit := 0, los := 0xF#4, laserLost := 0,
    rxPower := List.replicate 4 0xF060#16, txPower := List.replicate 4 0xF060#16 }

/-- One channel's coding part (R247 to R270). -/
structure Coding where
  stage     : Nat            -- 0 down, 1 to 6, 7 loop or PRBS
  fails     : Nat            -- failures in a row (R255)
  granted   : Bool           -- lanes 1 to 3 were granted at stage 1 (R254)
  train     : BitVec 4       -- lanes that train
  everUp    : Bool           -- stage 6 reached since the engine left its starting state (R88)
  txLanes   : BitVec 4       -- TX_LANES
  nextLanes : BitVec 4       -- announced NEXT_LANES
  atCount   : BitVec 16      -- AT_COUNT of the announcement
  announced : Bool
  rxLanes   : BitVec 4       -- TX_LANES of the peer
  rxNext    : BitVec 4       -- NEXT_LANES of the peer
  rxAt      : BitVec 16      -- AT_COUNT of the peer's announcement
  rxAnn     : Bool           -- an announcement of the peer is pending
  maxLanes  : BitVec 4       -- MAX_LANES of this end
  peerMax   : BitVec 4       -- MAX_LANES of the peer
  rxFault   : BitVec 4       -- RX_FAULT of this end
  peerFault : BitVec 4       -- RX_FAULT of the peer
  force     : Bool           -- FORCE sent
  abrupt    : Bool           -- ABRUPT to send in the next marker
  brace     : Bool           -- BRACE sent
  peerForce : Bool
  polInv    : BitVec 4       -- POL_INV
  laneMap   : BitVec 16      -- LANE_MAP
  locked    : BitVec 4       -- lanes with marker lock
  txAm      : BitVec 16      -- TX_AM_COUNT
  rxAm      : BitVec 16      -- RX_AM_COUNT
  peerFam   : Nat            -- FAMILY of the peer, 0 unknown
  peerVar   : Nat
  peerCaps  : BitVec 8       -- PEER_CAPS
  peerRev   : Nat
  skew      : List (BitVec 16)
  corrected : BitVec 64      -- CW_CORRECTED
  uncorr    : BitVec 64      -- CW_UNCORRECTABLE
  symErr    : List (BitVec 64)
  tapStatus : Nat            -- TAP_STATUS to send
  tapLane   : Nat
  tapSel    : Bool
  tapAck    : Tab Nat        -- by 2 * lane + tap, the reply to a standing tap request (R258)
  tapAt     : Tab Nat        -- by 2 * lane + tap, when the tap last moved in service (R238)
  amSeen    : Tab (BitVec 16) -- by lane, AM_COUNT of its last valid marker (R251)
  unfurlAsk : Bool           -- an unfurl request of traffic waits (R261)
  wake      : BitVec 4       -- lanes granted to unfurl, to be announced in the next marker (R261)
  prbsLock  : BitVec 4       -- PRBS checkers locked
  prbsErr   : List (BitVec 64)
  prbsBits  : BitVec 64
  prbsCount : Bool           -- counting runs (R268)
deriving DecidableEq, Repr

/-- A channel that is down (reset column of R270). -/
def Coding.reset : Coding :=
  { stage := 0, fails := 0, granted := false, train := 0, everUp := false, txLanes := 0, nextLanes := 0, atCount := 0,
    announced := false, rxLanes := 0, rxNext := 0, rxAt := 0, rxAnn := false, maxLanes := 0, peerMax := 0,
    rxFault := 0, peerFault := 0, force := false, abrupt := false, brace := false, peerForce := false, polInv := 0,
    laneMap := 0xFFFF#16, locked := 0, txAm := 0, rxAm := 0, peerFam := 0, peerVar := 0, peerCaps := 0, peerRev := 0,
    skew := List.replicate 4 0, corrected := 0, uncorr := 0, symErr := List.replicate 4 0, tapStatus := 0,
    tapLane := 0, tapSel := false, tapAck := [], tapAt := [], amSeen := [], unfurlAsk := false, wake := 0, prbsLock := 0, prbsErr := List.replicate 4 0,
    prbsBits := 0, prbsCount := false }

/-- The optical engines and channels. -/
structure Optics where
  engines : Tab Engine
  optic   : Tab Optic
  coding  : Tab Coding
deriving DecidableEq, Repr

/-- Every engine dark, every channel down. -/
def Optics.reset : Optics := { engines := [], optic := [], coding := [] }

end Sys2Proof.Machine
end

