-- ==== Sys2Proof/Machine/State/Pair.lean ====
section
/-!
DEFINITION. State of the mated-pair unit (17).
-/
namespace Sys2Proof.Machine

/-- The pair roles of R509, coded as PAIR_ROLE. -/
inductive PairRole where
  | unpaired | standby | active
deriving DecidableEq, Repr

/-- One shroud link (R514). -/
structure ShroudLink where
  hello    : Bool        -- a hello named the mate and the link
  miscabled : Bool
  version  : Nat         -- version in use, 0 none
  beat     : Bool        -- a sealed heartbeat of the mate has verified on it
deriving DecidableEq, Repr

/-- A link that is down. -/
def ShroudLink.reset : ShroudLink := ⟨false, false, 0, false⟩

/-- A checkpoint held (R528, R529). -/
structure Ckpt where
  bytes : List Byte      -- 160 or 108 bytes
  at_   : Nat
deriving DecidableEq, Repr

/-- A shroud time exchange in progress on the standby (R517); stamps in 2^-16 ns. -/
structure ShroudEx where
  link   : Nat
  ex     : BitVec 16
  t1     : Int
  t2     : Int
  t3     : Int
  dba    : Int
  bma    : Int           -- own domain B minus domain A at t2
  epochA : BitVec 8
  epochB : BitVec 8
  bad    : Bool
  at_    : Nat
deriving DecidableEq, Repr

/-- A handover in progress (R531). -/
structure Handover where
  req       : Option Req
  stop      : Bool       -- STOP started it
  incoming  : Bool       -- this module becomes active at N
  second    : Nat        -- N, whole seconds of the presented time
  confirmed : Bool
deriving DecidableEq, Repr

/-- What a takeover seeded and the module announces (R530): grandmaster, steps, time properties. -/
structure Seed where
  gm    : BitVec 64
  steps : BitVec 16
  props : BitVec 16 × BitVec 8 × BitVec 8
deriving DecidableEq, Repr

/-- The mated-pair unit. -/
structure Pair where
  role       : PairRole
  epoch      : BitVec 32     -- ROLE_EPOCH
  mateEpoch  : BitVec 32     -- the latest received from the mate
  inhibit    : Bool          -- TAKEOVER_INHIBIT
  mateRole   : Nat
  mateFlags  : BitVec 8
  mateStopped : Bool         -- the mate's Gleno heartbeat shows STOPPED
  mateNumber : BitVec 32     -- PAIR_NUMBER of the mate
  mateCkpt   : BitVec 32     -- CKPT_SEQ of the mate
  sent       : List (BitVec 32 × Nat)   -- CKPT_SEQ and instant of the last checkpoints sent
  mateSerial : BitVec 64
  mateQl     : Nat
  mateCls    : Nat
  mateCount  : Nat           -- cascade counts of the mate, EEEC * 256 + EEC
  link0      : ShroudLink
  link1      : ShroudLink
  shroudHb   : Bool          -- the mate's shroud heartbeat is present
  glenoHb    : Bool          -- the mate's Gleno heartbeat is present
  missed     : BitVec 32     -- HB_MISSED
  hbCount    : BitVec 16
  lastHb     : Time96        -- domain A at the mate's last heartbeat
  rxHigh     : Option Nat    -- highest SEQ accepted on the shroud (R207, R515)
  rxMask     : BitVec 64
  txSeq      : Nat
  arbitrating : Bool
  refused    : Bool          -- the witness refused for this loss
  holdoff    : Bool
  witness    : Option Nat
  ckptSeq    : BitVec 32
  held       : Option Ckpt
  exNo       : BitVec 16
  exch       : Option ShroudEx
  offs       : List (Nat × Nat × Int × Int)   -- link, instant, off_a, off_b of the last second
  handover   : Option Handover
  resync     : Bool
  lastTakeover : Time96
  seedA      : Option Seed
  seedB      : Option Seed
  mateTraceA : Bool          -- TRACEABLE of the paths in the latest checkpoint (R512)
  mateTraceB : Bool
deriving DecidableEq, Repr

/-- The unit after a cleared start. -/
def Pair.reset : Pair :=
  { role := .unpaired, epoch := 0, mateEpoch := 0, inhibit := false, mateRole := 0, mateFlags := 0, mateStopped := false, mateNumber := 0, mateCkpt := 0, sent := [],
    mateSerial := 0, mateQl := 0, mateCls := 255, mateCount := 0, link0 := ShroudLink.reset, link1 := ShroudLink.reset,
    shroudHb := false, glenoHb := false, missed := 0, hbCount := 0, lastHb := Time96.zero, rxHigh := none, rxMask := 0, txSeq := 1,
    arbitrating := false, refused := false, holdoff := false, witness := none, ckptSeq := 0, held := none, exNo := 0, exch := none,
    offs := [], handover := none, resync := false, lastTakeover := Time96.zero, seedA := none, seedB := none,
    mateTraceA := false, mateTraceB := false }

end Sys2Proof.Machine
end

