-- ==== Sys2Proof/Machine/State/Power.lean ====
section
/-!
DEFINITION. State of the inlet, the current ledger, the reef controller and sleep (02).
-/
namespace Sys2Proof.Machine

/-- One ledger entry: its state as LEDGER_ENTRIES reports it and its units (R60, R82). -/
structure Entry where
  state : Nat
  units : Nat
deriving DecidableEq, Repr

/-- The value of an entry that is not booked. -/
def Entry.none : Entry := ⟨0, 0⟩

/-- A waiting request: its class, what it asks for, and its units (R65). -/
structure Waiting where
  cls   : Cls
  what  : Ask
  units : Nat
deriving DecidableEq, Repr

/-- One dip record (R79, R82). -/
structure Dip where
  time   : Time96
  lowest : Nat       -- mV
  below  : Nat       -- 10 µs units
deriving DecidableEq, Repr

/-- Sleep state of a tile (R80). -/
inductive TileSleep where
  | deep | light | awake | brace
deriving DecidableEq, Repr

/-- One tile: its sleep state and its awake lookup slices (R80). -/
structure TileState where
  sleep  : TileSleep
  slices : Nat
  resume : TileSleep     -- the state a brace interrupted (R76, R78)
  resumeSlices : Nat
deriving DecidableEq, Repr

/-- A tile after a cleared start: deep sleep. -/
def TileState.reset : TileState := ⟨.deep, 0, .deep, 0⟩

/-- Inlet, ledger and reef controller. -/
structure Power where
  busMv         : Nat           -- INLET_VOLTAGE, 1 ms average (R58)
  inlet10mA     : Nat           -- INLET_CURRENT (R58)
  ledgerMv      : Nat           -- ledger voltage (R61)
  entries       : Tab Entry     -- booked entries by code * 65536 + instance (R60, R64)
  level         : Nat           -- REEF_LEVEL (R70)
  before4       : Nat           -- level in force before level 4 (R78)
  lastFall      : Option Nat    -- instant of the last fall of the level (R74)
  longFall      : Bool          -- the next fall needs 60 s (R74)
  derate        : Bool          -- thermal derating (R75)
  waiting       : List Waiting  -- waiting requests in order of arrival (R65)
  underDecl     : Bool          -- an excess of R63 stands
  forcedFurls   : List Nat      -- channels furled by force (R73)
  dipLog        : List Dip      -- newest first, at most 16 (R82)
  dipPending    : Option Dip    -- record to write at the next start (R79)
  cellMv        : Nat           -- CELL_VOLTAGE (R84)
  cellStatus    : Nat           -- CELL_STATUS (R84, R85)
  warnInForce   : Nat           -- the landed WARN_THRESHOLD, 0.1 V (R82)
  tiles         : Tab TileState -- the 24 tiles (R80)
deriving DecidableEq, Repr

/-- Reset values of the power part; CELL_VOLTAGE before any test is DESIGN CHOICE, assumption 7. -/
def Power.reset : Power :=
  { busMv := 0, inlet10mA := 0, ledgerMv := 0, entries := [], level := 0, before4 := 0, lastFall := none,
    longFall := false, derate := false, waiting := [], underDecl := false, forcedFurls := [], dipLog := [],
    dipPending := none, cellMv := 0, cellStatus := 0, warnInForce := 380, tiles := [] }

end Sys2Proof.Machine
end

