-- ==== Sys2Proof/Machine/State/Ptp.lean ====
section
/-!
DEFINITION. State of the Halyard engine and telecom PTP, of the time stamp units, and of calibration and
ageing (12, 13).
-/
namespace Sys2Proof.Machine

/-- Port states (R380, R395). -/
inductive PtpSt where
  | disabled | listening | master | passive | uncalibrated | slave | suspended | faulty
deriving DecidableEq, Repr

/-- An exchange in progress (R377); stamps in 2^-16 ns. -/
structure Exchange where
  t1     : Option Int
  t2     : Option Int
  t3     : Option Int
  t4     : Option Int
  reqSeq : BitVec 16
  id     : BitVec 16     -- identifier of its transmit stamp (R369)
  reqAt  : Nat           -- when the Delay_Req was sent, by the model's clock
  syncSeq : BitVec 16
  wait   : Nat           -- wait drawn for the Delay_Req (R371)
  own    : List (BitVec 4)    -- epochs of this end's stamps
  peer   : List (BitVec 4)    -- epochs of the master's stamps
  lanes  : List Nat      -- reference lanes seen
  bad    : Bool          -- a fine-invalid stamp or a failed message
deriving DecidableEq, Repr

/-- No exchange. -/
def Exchange.none : Exchange :=
  { t1 := Option.none, t2 := Option.none, t3 := Option.none, t4 := Option.none, reqSeq := 0, id := 0, reqAt := 0, syncSeq := 0, wait := 0,
    own := [], peer := [], lanes := [], bad := false }

/-- One PTP port of an instance on a channel (R359, R380). -/
structure PtpPort where
  st        : PtpSt
  annRun    : Nat           -- Announce intervals of continuous receipt
  annOk     : Bool          -- a qualified Announce is held
  ann       : Option Announce
  peerId    : BitVec 64
  peerPort  : BitVec 16
  peerChan  : BitVec 8
  version   : Nat           -- agreed Halyard version, 0 none
  noVersion : Bool          -- HELLO showed no common version
  seqs      : Tab (BitVec 16)   -- next sequenceId by message type
  heard     : List (BitVec 64 × BitVec 16 × Nat × BitVec 16)   -- last sequenceId by source port and type
  ex        : Exchange
  reqs      : List Exchange     -- exchanges whose Delay_Req has been sent
  pd        : Exchange          -- the peer-delay exchange
  mpd       : Int           -- filtered mean path delay x 2^16
  mpdN      : Nat
  recent    : List (Nat × Int)  -- valid offsets of the last second
  goodN     : Nat           -- valid exchanges since UNCALIBRATED
  holdOut   : Nat           -- hold this end granted: ms, 0 none
  holdIn    : Nat           -- hold the peer granted: ms, 0 none
  l1sync    : BitVec 16     -- flags of the last L1_SYNC TLV received
deriving DecidableEq, Repr

/-- A disabled port. -/
def PtpPort.reset : PtpPort :=
  { st := .disabled, annRun := 0, annOk := false, ann := Option.none, peerId := 0, peerPort := 0, peerChan := 0, version := 0, noVersion := false,
    seqs := [], heard := [], ex := Exchange.none, reqs := [], pd := Exchange.none, mpd := 0, mpdN := 0, recent := [], goodN := 0,
    holdOut := 0, holdIn := 0, l1sync := 0 }

/-- One entry of a transmit time-stamp queue (R369). -/
structure TxEntry where
  id    : BitVec 16
  chan  : Nat
  flags : BitVec 8
  stamp : Time96
deriving DecidableEq, Repr

/-- The time stamp unit of a tile (R394). -/
structure Tsu where
  queue     : List TxEntry
  rxLevel   : Nat           -- received control frames waiting (R363)
  stamps    : BitVec 32     -- TX_STAMPS
  overflows : BitVec 32     -- TXQ_OVERFLOWS
  stales    : BitVec 32     -- TXQ_STALES
  rxStamps  : BitVec 32     -- RX_STAMPS
deriving DecidableEq, Repr

/-- An empty unit. -/
def Tsu.reset : Tsu := ⟨[], 0, 0, 0, 0, 0⟩

/-- The asymmetry estimate of a channel (R382 to R388, R395): state 0 none, 1 current, 2 frozen. -/
structure Asym where
  st      : Nat
  half    : Bool
  differ  : Bool
  set     : BitVec 16
  peer    : Option Skew      -- the latest set of the peer
  peerAt  : Nat
  used    : BitVec 16        -- PEER_SET: the peer set of the fit in force, 0xFFFF none
  a       : Nat
  lam0    : Nat
  sigma   : Nat
  resid   : Nat
  skew    : List Int         -- the own three skews
  sigmas  : List Nat         -- their standard errors in fs
  measured : Time96          -- when the set's measurement ended (R373)
  first   : Bool             -- no fit has been accepted since stage 6
  fitAt   : Nat              -- when the fit was accepted
deriving DecidableEq, Repr

/-- No estimate. -/
def Asym.reset : Asym :=
  { st := 0, half := false, differ := false, set := 0, peer := none, peerAt := 0, used := 0xFFFF#16, a := 0, lam0 := 0, sigma := 0, resid := 0,
    skew := [0, 0, 0], sigmas := [0, 0, 0], measured := Time96.zero, first := true, fitAt := 0 }

/-- The Halyard engine. -/
structure Ptp where
  ports   : Tab PtpPort     -- by channel * 2 + instance
  tsus    : Tab Tsu
  asyms   : Tab Asym
  lastKey : Tab (BitVec 32) -- key last sent with, by instance
  engines : List Nat        -- the Spar engines of the Halyard role, in the order of their tiles (R359)
deriving DecidableEq, Repr

/-- The Halyard engine after a cleared start. -/
def Ptp.reset : Ptp := { ports := [], tsus := [], asyms := [], lastKey := [], engines := [5, 6, 7] }

/-- A quantity that slews (R407), in units of 10^-9 LSB of 2^-16 ns. -/
structure Slew where
  value  : Int
  target : Int
deriving DecidableEq, Repr

/-- A calibration run in progress (R399). -/
structure CalRun where
  kind  : Nat
  inst  : Nat
  start : Time96
  at_   : Nat
deriving DecidableEq, Repr

/-- A due run (R399). -/
structure CalDue where
  kind : Nat
  inst : Nat
  at_  : Nat
deriving DecidableEq, Repr

/-- A CAL_LOG record (R425). -/
structure CalLog where
  start   : Time96
  durMs   : Nat
  kind    : Nat
  outcome : Nat
  reason  : Nat
  inst    : Nat
  samples : Nat
  resid   : Nat
deriving DecidableEq, Repr

/-- What calibration holds of a lane (R411 to R414). -/
structure LaneCal where
  loop     : Int          -- loop delay in force, 2^-16 ns
  rx       : Int          -- receive delay, 2^-16 ns
  inferred : Bool
  ctle     : Nat
  slice    : List Int     -- SLICE_UPPER, SLICE_MID, SLICE_LOWER
  agc      : Nat
  margin   : BitVec 16    -- RX_MARGIN
deriving DecidableEq, Repr

/-- A lane at its factory values. -/
def LaneCal.reset : LaneCal := ⟨0, 0, false, 0, [0, 0, 0], 0, 0⟩

/-- A record waiting to be written (R419). -/
structure RecWait where
  kind   : Nat
  inst   : Nat
  urgent : Bool
  req    : Option Req
deriving DecidableEq, Repr

/-- A written record (R417, R418). -/
structure Rec where
  bankB : Bool
  seq   : BitVec 32
  at_   : Nat
  fmt   : Nat            -- FORMAT of its payload (R416)
deriving DecidableEq, Repr

/-- One record of AGE_MODEL (R425). -/
structure Age where
  flags : BitVec 8
  words : List (BitVec 32)
  fit   : Time96
  days  : Nat
deriving DecidableEq, Repr

/-- The factory record of a quantity. -/
def Age.reset : Age := ⟨8, [], Time96.zero, 65535⟩

/-- Calibration and ageing. -/
structure Cal where
  runs     : List CalRun
  due      : List CalDue
  lastOk   : Tab Nat       -- last accepted run, plus one, by kind * 1024 + instance
  dueSince : Tab Nat       -- when it became due, plus one
  deferred : Tab Nat       -- reason of a deferral that stands
  log      : List CalLog   -- newest first, at most 64
  slews    : Tab Slew      -- kind * 1024 + instance: 0 DET_DELAY, 1 DELAY_TX, 2 delayAsymmetry, 3 output driver
  held     : Tab Int       -- held results, plus kind
  lanes    : Tab LaneCal   -- by 4c + k
  stored   : Tab Int       -- slewed values in the valid records; kind 0 by received lane 4c + k
  waiting  : List RecWait
  records  : Tab Rec
  tapRec   : Tab (Time96 × Nat) -- payloads of the valid records: calibration time and widest tap, by unit (R415)
  laneRec  : Tab LaneCal   -- delays and receiver settings, by 4c + k (R415)
  ageRec   : Tab Age       -- ageing model states, by code * 1024 + instance (R415)
  raisedRec : Tab Nat      -- raised allowances, by engine (R415)
  swapped  : List Nat      -- engines with a switch-in since their allowance was last planned (R422)
  retired  : List Nat      -- lasers 8t + j whose retirement is committed
  ages     : Tab Age       -- by code * 1024 + instance
  raised   : Tab Nat       -- raised laser-bank allowances by engine
  failures : BitVec 32     -- write failures
deriving DecidableEq, Repr

/-- Calibration as manufactured: nothing measured in service. -/
def Cal.reset : Cal :=
  { runs := [], due := [], lastOk := [], dueSince := [], deferred := [], log := [], slews := [], held := [], lanes := [], stored := [],
    waiting := [], records := [], tapRec := [], laneRec := [], ageRec := [], raisedRec := [], swapped := [], retired := [], ages := [], raised := [], failures := 0 }

end Sys2Proof.Machine
end

