-- ==== Sys2Proof/Machine/State/Regs.lean ====
section
/-!
DEFINITION. State of the register space: stored fields, guards, posting queues (04).
-/
namespace Sys2Proof.Machine

/-- A posted write waiting to land: the register address and the written word (R118). -/
structure Posted where
  addr : Nat
  data : Word
deriving DecidableEq, Repr

/-- Guard, posting queue and status bits of one block, array instance or window (R111, R118, R126). -/
structure Block where
  locked    : Bool            -- GUARD.LOCKED (R128)
  open_     : Option Nat      -- the session that holds the guard open (R127)
  wrongRun  : Nat             -- wrong keys in the present run (R127)
  wrongAlm  : Bool            -- the alarm of four wrong keys was raised in this run
  posted    : List Posted     -- posting queue, oldest first, at most four (R119)
  postFail  : Bool            -- BLK_STATUS.POST_FAIL
  violation : Bool            -- BLK_STATUS.VIOLATION
deriving DecidableEq, Repr

/-- A block after a cleared start. -/
def Block.reset : Block := ⟨false, none, 0, false, [], false, false⟩

/-- The register space (R108 to R140): the words of the plain RW, RWM and PW registers that no other
part of the state holds, the RC words, and the blocks. -/
structure Regs where
  words      : Tab Word    -- stored register words by address; an unlisted one holds its reset value
  rc         : Tab Word    -- RC event bits by address; an unlisted one is zero
  blocks     : Tab Block   -- by block base address
  modeSticky : BitVec 16   -- GUARD_MODE in force, bit b for block b (R126)
  assetTag   : BitVec 128  -- ASSET_TAG0 to ASSET_TAG3, in the Amber island (R140)
deriving DecidableEq, Repr

/-- Register space after a cleared start. -/
def Regs.reset : Regs :=
  { words := [], rc := [], blocks := [], modeSticky := 0, assetTag := 0 }

end Sys2Proof.Machine
end

