-- ==== Sys2Proof/Machine/State/Switch.lean ====
section
/-!
DEFINITION. State of the fabric, the output buffers, the overflow store and the egress scheduler (15, 16).
-/
namespace Sys2Proof.Machine

/-- One label stack entry without its bottom bit (R431, R432). -/
structure Lse where
  label : Nat
  tc    : Nat
  ttl   : Nat
  own   : Bool       -- swapped or pushed by the module: remarked at egress (R460)
deriving DecidableEq, Repr

/-- What the sequence function makes of a frame at egress (R522). -/
inductive SeqOp where
  | none
  | write (num : Nat) (dcw : Bool) (wide : Bool)   -- write or insert the number as R-TAG or d-CW
  | strip
deriving DecidableEq, Repr

/-- The label operations that the lookup found (R439, R440), applied by the egress rewrite (R443). -/
structure Edit where
  stack  : List Lse    -- the stack that is left, outermost first
  ttl    : Nat         -- TTL of pushed labels
  tc     : Nat         -- TC of the top of the stack, for pushed labels
  ipTtl  : Option Nat  -- TTL to write into the IP header
  ip     : Bool        -- the frame is routed as IP
  seq    : SeqOp
deriving DecidableEq, Repr

/-- No operation. -/
def Edit.none : Edit := ⟨[], 255, 0, Option.none, false, .none⟩

/-- How a copy leaves (R443, R481, R523): through a next hop, as a mirror copy through a next hop, or as a
shroud frame that is sent as it stands. -/
inductive Way where
  | hop (nh : Nat)
  | mirror (session : Nat) (nh : Nat)
  | shroud
deriving DecidableEq, Repr

/-- A frame or copy in the module, from its slice to its departure (R427, R452, R467, R472). -/
structure Copy where
  raw    : List Byte     -- the frame as received, without its FCS
  edit   : Edit
  way    : Way
  mc     : Option Nat    -- multicast group, until its copies are made (R480)
  ing    : Nat           -- ingress channel
  out    : Nat           -- egress channel
  cls    : Nat
  col    : Nat           -- 0 green, 1 yellow, 2 red
  epoch  : Nat
  len    : Nat           -- length as it entered its slice, FCS included
  entry  : Nat           -- entry instant, mast periods
  origin : Nat           -- age origin of R472
  arrive : Option Int    -- ingress stamp in 2^-16 ns of the telecom instance's domain (R392)
  coarse : Bool          -- that stamp is fine-invalid
  cand   : List Nat      -- mirror sessions it has been a candidate of (R482)
  made   : Nat           -- mirror copies made of it
deriving DecidableEq, Repr

/-- Cells of a copy (R467). -/
def Copy.cells (k : Copy) : Nat := (k.len + 239) / 240

/-- States of the overflow store (R475), coded as OVF_STATUS. -/
inductive OvfSt where
  | closed | opening | open_ | draining | selfRefresh | failed
deriving DecidableEq, Repr

/-- The overflow store (R474 to R477). -/
structure Ovf where
  st      : OvfSt
  memStacks  : BitVec 4        -- working stacks
  tails   : Tab (List Copy) -- by 16 c + q, oldest first
  stale   : Nat             -- cells of frames aged in self-refresh, freed when it ends
  emptyAt : Nat             -- when the store last became empty
  retest  : Bool            -- a retest of the stacks runs
deriving DecidableEq, Repr

/-- The store after a cleared start. -/
def Ovf.reset : Ovf := { st := .closed, memStacks := 0xF#4, tails := [], stale := 0, emptyAt := 0, retest := false }

/-- Fabric and buffers. -/
structure Switch where
  fab    : Tab (List Copy)   -- by ingress tile * 24 + egress tile
  turn   : Tab Nat           -- next ingress tile by egress tile * 2 + priority (R465)
  queues : Tab (List Copy)   -- on-die queues by 16 c + q
  ovf    : Ovf
  mirror : Tab Nat           -- candidates of a session since its last copy (R482)
deriving DecidableEq, Repr

/-- Nothing queued. -/
def Switch.reset : Switch := { fab := [], turn := [], queues := [], ovf := Ovf.reset, mirror := [] }

/-- A token bucket (R489). -/
structure Bucket where
  t       : Int
  rem     : Nat
  rate    : Nat
  burst   : Nat
  next    : Option (Nat × Nat)
  forgive : Bool
  enabled : Bool
  enNext  : Option Bool
deriving DecidableEq, Repr

/-- A bucket of rate and burst zero. -/
def Bucket.reset : Bucket := ⟨0, 0, 0, 0, none, false, false, none⟩

/-- A gate list (R497): cycle in ns, base and start instant in 2^-16 ns, entries of gates and interval in ns. -/
structure GateList where
  cycle   : Nat
  base    : Nat
  start   : Nat
  entries : List (BitVec 16 × Nat)
deriving DecidableEq, Repr

/-- A pending list: with its start instant, or waiting for traceability, and from a cleared start also for stage
6 (R500, R502). -/
structure GatePend where
  list  : GateList
  timed : Bool
  up    : Bool
deriving DecidableEq, Repr

/-- The gate control of a port (R496 to R507). -/
structure Gate where
  oper      : Option GateList
  pend      : List GatePend
  entry     : Nat
  gates     : BitVec 16       -- gate states in force
  moved     : Bool
  restepped : Bool
  overrun   : Bool
  n         : Nat
deriving DecidableEq, Repr

/-- A port without lists. -/
def Gate.reset : Gate := ⟨none, [], 0, 0xFFFF#16, false, false, false, 0⟩

/-- The frame a port sends: start and gate close in 2^-16 ns of the gate domain, bits on the wire, Gb/s. -/
structure TxNow where
  start : Nat
  bits  : Nat
  rate  : Nat
  close : Option Nat
deriving DecidableEq, Repr

/-- The egress scheduler. -/
structure Egress where
  buckets : Tab Bucket     -- c * 64 + q single or committed, + 16 peak, c * 64 + 32 port
  deficit : Tab Nat        -- c * 12 + q
  pointer : Tab Nat
  granted : Tab Bool       -- the queue under the pointer has its quantum (R487)
  gates   : Tab Gate
  tx      : Tab (Option TxNow)
deriving DecidableEq, Repr

/-- The scheduler after a cleared start with default settings. -/
def Egress.reset : Egress := { buckets := [], deficit := [], pointer := [], granted := [], gates := [], tx := [] }

end Sys2Proof.Machine
end

