-- ==== Sys2Proof/Machine/State/Timing.lean ====
section
/-!
DEFINITION. State of the time base, the MDLLs, the vernier array and the reference selector (09 to 11).
-/
namespace Sys2Proof.Machine

/-- One time counter (R274): the TIME96 value in 2^-16 ns and the 32 hidden bits below it. -/
structure Counter where
  lsb    : Nat          -- seconds, nanoseconds and fraction as one count of 2^-16 ns
  hidden : BitVec 32
deriving DecidableEq, Repr

/-- One domain (R274 to R278). -/
structure DomainState where
  counter   : Counter
  rate      : Int          -- RATE_ADJ, 10^-15
  traceable : Bool         -- TRACEABLE
  epoch     : BitVec 8     -- TIME_EPOCH
  setLast   : Time96       -- TIME_SET, the last value written
  adjLast   : BitVec 64    -- TIME_ADJ, the last value written
deriving DecidableEq, Repr

/-- A domain after a start that clears the time base, before R90 gives it its seconds. -/
def DomainState.reset : DomainState := ⟨⟨0, 0⟩, 0, false, 0, Time96.zero, 0⟩

/-- MDLL states (R289). -/
inductive MdllSt where
  | off | acquiring | hold | locked | failed
deriving DecidableEq, Repr

/-- Clock source of a domain raised by an MDLL (R296). -/
inductive ClkSource where
  | mdll | jury | gated
deriving DecidableEq, Repr

/-- One MDLL. -/
structure Mdll where
  st      : MdllSt
  source  : ClkSource
  retries : Nat
  freqErr : BitVec 16
  waking  : Bool           -- the tile is waking: running its initialisation, no fallback counted (R289)
deriving DecidableEq, Repr

/-- An MDLL in OFF. -/
def Mdll.reset : Mdll := ⟨.off, .gated, 0, 0, false⟩

/-- The time base (09). -/
structure TimeBase where
  running   : Bool
  a         : DomainState
  b         : DomainState
  p         : Int            -- presented time P, in 2^-16 ns (R283)
  slewing   : Bool
  slewAcc   : Nat            -- slewing owed since the last stepper step, in 10^-6 LSB (R283)
  mastOk    : Bool
  juryOk    : Bool
  mdlls     : Tab Mdll
  capA      : Time96
  capB      : Time96
  capOut    : Time96
  lockmonMv : Nat
  lockLow   : Nat            -- normal band of LOCKMON_MV, mV (R294, R295)
  lockHigh  : Nat
  configured : Bool          -- an output has been configured since the cleared start (R284)
deriving DecidableEq, Repr

/-- The time base before a start. -/
def TimeBase.reset : TimeBase :=
  { running := false, a := DomainState.reset, b := DomainState.reset, p := 0, slewing := false, slewAcc := 0,
    mastOk := false, juryOk := false, mdlls := [], capA := Time96.zero, capB := Time96.zero, capOut := Time96.zero,
    lockmonMv := 0, lockLow := 800, lockHigh := 1700, configured := false }

/-- One phase detector (R301 to R305). -/
structure Det where
  u         : Int           -- unwrapped phase, 2^-16 ns
  x         : Int           -- wrapped phase of the latest sample
  m         : Nat           -- COUNT
  seq       : BitVec 16     -- SAMPLE_SEQ
  valid     : Bool
  noSource  : Bool
  outRange  : Bool
  srcChange : Bool
  slip      : Bool
  irregular : Bool
  lane      : Nat
  freq      : Int           -- DET_FREQ
  freqValid : Bool
  instant   : Nat           -- beat number the latest sample follows
  hist      : List (Int × Int)   -- sample instant in mast periods and U, newest first, over FREQ_WINDOW
  srcAt     : Int           -- instant of the last SRC_CHANGE
  resume    : Bool          -- the next sample restarts unwrapping (R303)
  lastPulse : Option Int    -- previous accepted pulse, domain A in 2^-16 ns (R305)
deriving DecidableEq, Repr

/-- A detector after a cleared start. -/
def Det.reset : Det :=
  { u := 0, x := 0, m := 0, seq := 0, valid := false, noSource := true, outRange := false, srcChange := false, slip := false,
    irregular := false, lane := 0, freq := 0, freqValid := false, instant := 0, hist := [], srcAt := 0, resume := true, lastPulse := none }

/-- One result record of an event unit (R316). -/
structure EuRec where
  interval : Int
  start    : Time96
  seq      : BitVec 16
  flags    : BitVec 8
  epoch    : BitVec 8
deriving DecidableEq, Repr

/-- One event unit (R311 to R319). -/
structure Eu where
  armed     : Bool
  start     : Option Int       -- start edge of the open measurement, fs
  startTime : Time96           -- and its time in the unit's domain
  heldStop  : Option Int       -- a stop held before the start (R313), or the nearest stop of a window
  stops     : List Int         -- stop edges tagged in window mode, newest first
  blindStart : Option Int      -- last edge captured by the start interpolator
  blindStop  : Option Int      -- last edge captured by the stop interpolator
  readyAt   : Option Int       -- no start is accepted before this instant (R312)
  queue     : List EuRec
  seq       : BitVec 16
  popped    : Option EuRec
  clockLost : Bool
  overflow  : Bool
  missed    : Bool
  epochSeen : BitVec 8
  calValid  : Bool
  calRunning : Bool
  calTime   : Time96
  calWidest : Nat
deriving DecidableEq, Repr

/-- An idle event unit. -/
def Eu.reset : Eu :=
  { armed := false, start := none, startTime := Time96.zero, heldStop := none, stops := [], blindStart := none, blindStop := none, readyAt := none,
    queue := [], seq := 0, popped := none, clockLost := false, overflow := false, missed := false, epochSeen := 0,
    calValid := false, calRunning := false, calTime := Time96.zero, calWidest := 0 }

/-- One DIFF_PAIR slot's result (R309). -/
structure Diff where
  value : Int
  valid : Bool
deriving DecidableEq, Repr

/-- One trace record (R322). -/
structure TraceRec where
  beat  : BitVec 32
  flags : BitVec 16
  m     : Nat
  u     : Int
deriving DecidableEq, Repr

/-- The trace in progress (R322). -/
structure Trace where
  det  : Nat
  want : Nat
  recs : List TraceRec
  done : Bool
deriving DecidableEq, Repr

/-- The vernier array (10). -/
structure Vernier where
  helperLocked : Bool
  beatNumber   : BitVec 32
  beatTime     : Time96
  dets         : Tab Det
  diff         : Tab Diff
  eus          : Tab Eu
  trace        : Option Trace
deriving DecidableEq, Repr

/-- The vernier array after a cleared start. -/
def Vernier.reset : Vernier :=
  { helperLocked := false, beatNumber := 0, beatTime := Time96.zero, dets := [], diff := [], eus := [],
    trace := none }

/-- States of a qualification (R329). -/
inductive Qual where
  | disabled | qualifying | qualified | holdOff | failed | waitRestore
deriving DecidableEq, Repr

/-- One qualification: state and reason (R329). -/
structure Qualif where
  st     : Qual
  reason : Nat
deriving DecidableEq, Repr

/-- One reference slot (R324 to R331). -/
structure Slot where
  freq      : Qualif
  time      : Qualif
  ql        : Nat          -- QL number in force
  cls       : Nat          -- class in force
  present   : Bool         -- time error available (R327)
  extTlv    : Bool         -- the QL came from a received extended TLV
  eeecs     : Nat          -- received count of cascaded eEECs
  eecs      : Nat          -- received count of cascaded EECs
  timeErr   : Int          -- source minus domain A, 2^-16 ns
  timeErrB  : Int          -- source minus domain B, 2^-16 ns
deriving DecidableEq, Repr

/-- A slot after a cleared start. -/
def Slot.reset : Slot := ⟨⟨.disabled, 0⟩, ⟨.disabled, 0⟩, 0, 0xFF, false, false, 0, 0, 0, 0⟩

/-- States of a path (R336, R356). -/
inductive PathSt where
  | free | acquiring | locked | holdover | lost | host
deriving DecidableEq, Repr

/-- One servo path (R336 to R349). -/
structure Path where
  st        : PathSt
  slot      : Option Nat
  bridging  : Bool
  switching : Option Nat     -- target slot of the switch in progress
  eHold     : Int            -- error held at entry to bridging or HOLDOVER
  buildOut  : Int            -- b of the selected slot
  bound     : Nat            -- HOLDOVER_BOUND, ps
  fromHold  : Bool           -- ACQUIRING was entered from HOLDOVER (R344)
  holdSec   : Nat            -- seconds since the entry to HOLDOVER (R424)
  hist      : List Int       -- applied steers (R348, 600 s of LOCKED) or rates (R338, 60 s), newest first
deriving DecidableEq, Repr

/-- A path after a cleared start. -/
def Path.reset : Path := ⟨.free, none, false, none, 0, 0, 0, false, 0, []⟩

/-- One coax output (R351 to R354). -/
structure Output where
  mode      : Nat            -- OUT_MODE in force
  period    : Nat            -- OUT_PERIOD in force, ns
  width     : Nat            -- OUT_WIDTH in force, ns
  freqN     : Nat            -- OUT_FREQ in force
  freqD     : Nat
  phase     : Int            -- OUT_PHASE in force, 2^-16 ns
  waiting   : Bool           -- a committed change waits for its whole second (R352)
  aligned   : Bool           -- ALIGN_LOCKED
  alignFail : Bool
  corr      : Int            -- ALIGN_CORR, 2^-16 ns
  omitted   : Bool
  lastEdge  : Option Int     -- P of the last rising edge
deriving DecidableEq, Repr

/-- An output after a cleared start: off. -/
def Output.reset : Output :=
  { mode := 0, period := 125000, width := 1000, freqN := 1, freqD := 10, phase := 0, waiting := false, aligned := false,
    alignFail := false, corr := 0, omitted := false, lastEdge := none }

/-- The reference selector and servo (11). -/
structure Refs where
  slots     : Tab Slot
  freq      : Path
  timeA     : Path
  timeB     : Path
  steer     : Int            -- STEER_IN_FORCE
  predict   : Int            -- holdover prediction, 10^-15
  predValid : Bool
  stored    : Int            -- stored frequency estimate, kept in flash (R336)
  lockedSec : Nat            -- LOCKED_TIME
  ready     : Bool           -- HOLDOVER_READY
  txQl      : Tab Nat        -- ESMC_TX_QL per channel
  outs      : Tab Output
  todSeq    : BitVec 8
  todMark   : Bool           -- an edge omitted or P stepped since the last TOD message
  todSec    : Int            -- whole second of the last edge of OUT0
deriving DecidableEq, Repr

/-- References after a cleared start. -/
def Refs.reset : Refs :=
  { slots := [], freq := Path.reset, timeA := Path.reset, timeB := Path.reset, steer := 0, predict := 0,
    predValid := false, stored := 0, lockedSec := 0, ready := false, txQl := [], outs := [], todSeq := 0, todMark := false,
    todSec := 0 }

end Sys2Proof.Machine
end

