-- ==== Sys2Proof/Machine/State/Trust.lean ====
section
/-!
DEFINITION. State of the Amber island, keys, certificates, MACsec and attestation (18).
-/
namespace Sys2Proof.Machine

/-- One entry of the Halyard key table (R565). -/
structure HalKey where
  id    : BitVec 32
  mask  : BitVec 8
  spp   : BitVec 8
  start : Nat
  end_  : Nat
  key   : List Byte
deriving DecidableEq, Repr

/-- The MACsec state of a channel (R562, R563, R567). -/
structure Ca where
  ckn    : List Byte
  cak    : List Byte
  live   : Bool          -- a live peer
  sak    : Bool          -- an SAK is installed both ways
  server : Bool          -- this end is the key server
  rekey  : Bool          -- a rekey is pending
  an     : Nat
  keyNo  : BitVec 32
  pn     : Nat           -- transmit PN of the present SA
deriving DecidableEq, Repr

/-- No CAK. -/
def Ca.reset : Ca := ⟨[], [], false, false, false, false, 0, 0, 0⟩

/-- One tamper log record (R541, R567). -/
structure Tamper where
  time   : Nat           -- island clock
  cls    : Nat
  policy : Nat
deriving DecidableEq, Repr

/-- Trust. -/
structure Trust where
  clock     : Nat             -- island clock when last set, TAI in 1/32,768 s (R539)
  clockAt   : Nat             -- and the model's clock then
  clockOk   : Bool
  lock      : Bool            -- TAMPER_LOCK
  classes   : BitVec 6        -- classes 1 to 6 pending
  entropy   : Bool            -- entropy fault
  unchecked : Bool            -- validity unchecked at the last chain check
  state     : Nat             -- TRUST_STATE
  idevid    : Bool            -- the IDevID key exists
  ldevid    : Bool            -- an LDevID key is active
  ldevChain : List Byte
  pendKey   : Bool            -- a pending LDevID key exists
  csr       : List Byte
  genReq    : Option Req      -- LDEVID_GENERATE answered 0x0402
  counters  : List (BitVec 32) -- monotonic counters 0 to 7
  log       : List Tamper     -- newest first, at most 16
  owed      : List Alarm      -- alarms of tamper events that wait for Nymyx (R542)
  service   : Option Nat      -- the service role is open until this instant of the model's clock
  measured  : List Byte       -- ACTIVE_DIGEST
  resVerified : List Byte     -- RESERVE_DIGEST of its last verification
  cas       : Tab Ca          -- by channel
  halKeys   : Tab HalKey      -- entries 1 to 16
deriving DecidableEq, Repr

/-- Trust as manufactured: unclaimed, clock valid, counter 0 at the factory image's release (R569). -/
def Trust.reset : Trust :=
  { clock := 0, clockAt := 0, clockOk := true, lock := false, classes := 0, entropy := false, unchecked := false, state := 0, idevid := true,
    ldevid := false, ldevChain := [], pendKey := false, csr := [], genReq := none, counters := List.replicate 8 0, log := [], owed := [],
    service := none, measured := [], resVerified := [], cas := [], halKeys := [] }

end Sys2Proof.Machine
end

