-- ==== Sys2Proof/Machine/State/Update.lean ====
section
/-!
DEFINITION. State of firmware update (19): regions, the update record, the image that runs.
-/
namespace Sys2Proof.Machine

/-- The flash regions of R569. -/
inductive Region where
  | active | staging | reserve
deriving DecidableEq, Repr

/-- An image with every header field of R570 as stated there and the others zero: release and versions zero,
both variants, protocol versions 1; DESIGN CHOICE, assumption 6. -/
def factoryImage : List Byte :=
  [0x4E, 0x59, 0x4D, 0x58, 1, 3, 0x72, 0x30] ++ List.replicate 16 0 ++ [1, 1, 1, 1, 1, 1, 1, 0, 1, 0, 0, 0] ++ List.replicate 4317 0

/-- Firmware update. -/
structure Update where
  active    : List Byte
  staging   : List Byte
  reserve   : List Byte
  state     : Nat           -- STATE of the record, 0 to 6 (R572)
  starts    : Nat
  block     : Nat
  seq       : BitVec 32
  stagingDigest : List Byte
  reserveDigest : List Byte
  written   : Time96
  rejected  : Bool          -- staging is marked rejected
  download  : Option Nat    -- the session that downloads
  verifyReq : Option Req    -- the last segment answered 0x0402
  confirmReq : Option Req
  outcome   : Nat           -- UPDATE_RESULT
  reason    : Nat
  release   : BitVec 32
  runs      : Option Region -- the region whose image runs, none: nothing (R578)
  failures  : List Nat      -- verification failures to log at the first start at which Nymyx runs (R578)
  since     : Nat           -- the latest start, by the model's clock (R583)
  clean     : Bool          -- no warm start and no major alarm since then (R583)
  settingsFmt : Nat         -- format of the stored settings
  preserved : Option (Nat × Tab (List Byte))   -- format and content of a preserved set (R584)
  settingsReset : Bool
deriving DecidableEq, Repr

/-- As manufactured: active and reserve hold the confirmed image, staging is empty (R569). -/
def Update.reset : Update :=
  { active := factoryImage, staging := [], reserve := factoryImage, state := 0, starts := 0, block := 0, seq := 0,
    stagingDigest := [], reserveDigest := [], written := Time96.zero, rejected := false, download := none, verifyReq := none,
    confirmReq := none, outcome := 0, reason := 0, release := 0, runs := none, failures := [], since := 0, clean := true,
    settingsFmt := 0, preserved := none, settingsReset := false }

end Sys2Proof.Machine
end

