-- ==== Sys2Proof/Machine/State/Wire.lean ====
section
/-!
DEFINITION. What the module emits on its pins and fibres, in order of emission.
-/
namespace Sys2Proof.Machine

/-- The kinds of emission. -/
inductive EmitKind where
  | cycleStart | slotFrame | handshake | pairRecord          -- Gleno (06, 17)
  | beacon | answer | training | marker | idle               -- channel light (07, 08)
  | frame                                                    -- a data or control frame sent by the MAC (16)
  | esmc | tod | pulse                                       -- 11
  | sync | followUp | delayReq | delayResp | pdelayReq | pdelayResp | pdelayFollowUp | announce | signaling  -- 12
  | hello | heartbeat | shroudSync | shroudReq | shroudAnswer | checkpoint | replica | pairing | arbitration -- 17
  | mka                                                      -- 18
deriving DecidableEq, Repr

/-- One emission: its kind, the port, channel or output it leaves by, and its fields. -/
structure Emit where
  kind   : EmitKind
  port   : Nat
  fields : List Int
deriving DecidableEq, Repr

end Sys2Proof.Machine
end

