-- ==== Sys2Proof/Machine/State.lean ====
section
/-!
DEFINITION. The state of the KV3072 module as one block: everything the specification gives it, the
queue of waiting commands, and the model's own clock and counter of free values.
-/
namespace Sys2Proof.Machine

/-- The reasons a step could stop the machine. -/
inductive Fault where
  /-- No command raises it: the specification names no event that stops the module without a state of
  R86 that the model holds. Safe. -/
  | none
deriving DecidableEq, Repr

/-- The reasons a command could have no meaning. -/
inductive Refusal where
  /-- A command that has no meaning yet, by its mnemonic; raised by the arms of `exec` alone. Safe. -/
  | notModelled (mnemonic : String)
deriving DecidableEq, Repr

/-- The state of the module (plain data). -/
structure State where
  factory : Factory
  pins    : Pins
  life    : Life
  power   : Power
  regs    : Regs
  dict    : Dict
  commits : Commits
  snaps   : Tab Snap
  gleno   : Gleno
  obs     : Obs
  optics  : Optics
  tb      : TimeBase
  vern    : Vernier
  refs    : Refs
  ptp     : Ptp
  cal     : Cal
  fwd     : Fwd
  sw      : Switch
  egr     : Egress
  pair    : Pair
  trust   : Trust
  upd     : Update
  wire    : List Emit        -- emissions, oldest first
  now     : Nat              -- the model's clock: mast clock periods of 10 ns
  started : Nat              -- `now` at the last cleared start (UPTIME)
  draws   : Nat              -- free values drawn so far (the model's own field)
  pending : List Instr       -- commands waiting, first in, first out
deriving DecidableEq, Repr

/-- The module before power: unpowered, every part at its reset value, nothing waiting; DESIGN CHOICE, assumption 2. -/
def State.reset : State :=
  { factory := Factory.reset, pins := Pins.reset, life := Life.reset, power := Power.reset, regs := Regs.reset,
    dict := Dict.reset, commits := Commits.reset, snaps := [], gleno := Gleno.reset, obs := Obs.reset,
    optics := Optics.reset, tb := TimeBase.reset, vern := Vernier.reset, refs := Refs.reset,
    ptp := Ptp.reset, cal := Cal.reset, fwd := Fwd.reset, sw := Switch.reset, egr := Egress.reset,
    pair := Pair.reset, trust := Trust.reset, upd := Update.reset,
    wire := [], now := 0, started := 0, draws := 0, pending := [] }

end Sys2Proof.Machine
end

