-- ==== Sys2Proof/Machine/Ops.lean ====
section
/-!
DEFINITION. The shared operations: time values, settings in force, counters, emissions, events and
alarms, free values, the current ledger and its grants, requests and their answers.
-/
namespace Sys2Proof.Machine

/-- The outcome of a command. -/
abbrev Out := Host.Outcome State Fault Refusal

/-! ## Time values (R13, R274) -/

/-- LSBs of 2^-16 ns in one second. -/
def lsbPerSec : Nat := 65536000000000

/-- A TIME96 value as a count of 2^-16 ns. -/
def lsbOf (t : Time96) : Nat := (t.sec.toNat * 1000000000 + t.ns.toNat) * 65536 + t.frac.toNat

/-- The TIME96 value of a count of 2^-16 ns, seconds modulo 2^48. -/
def timeOf (n : Nat) : Time96 :=
  ⟨BitVec.ofNat 48 (n / lsbPerSec), BitVec.ofNat 32 (n % lsbPerSec / 65536), BitVec.ofNat 16 n⟩

/-- The twelve bytes of a TIME96 value (R144). -/
def timeBytes (t : Time96) : List Byte := leBytes 2 t.frac.toNat ++ leBytes 4 t.ns.toNat ++ leBytes 6 t.sec.toNat

/-- The TIME96 value of twelve bytes. -/
def timeOfBytes (b : List Byte) : Time96 :=
  ⟨BitVec.ofNat 48 (leNat (b.drop 6)), BitVec.ofNat 32 (leNat ((b.drop 2).take 4)), BitVec.ofNat 16 (leNat (b.take 2))⟩

/-- Domain A in LSBs. -/
def domA (s : State) : Nat := s.tb.a.counter.lsb

/-- Domain A as TIME96. -/
def timeA (s : State) : Time96 := timeOf (domA s)

/-- The state of a domain. -/
def domOf (d : Domain) (s : State) : DomainState :=
  match d with
  | .a => s.tb.a
  | .b => s.tb.b

/-- Domain A or B by the coding 0, 1 of the objects. -/
def domNo (n : Nat) : Domain := if n = 0 then .a else .b

/-! ## Settings in force -/

/-- The key of an object value. -/
def key (idx sub : Nat) : ObjKey := idx * 256 + sub

/-- The default of an object (R151): RX_THRESHOLDS by variant (R625), CHANNEL_MAC as BASE_MAC plus the channel
(R435), the others as the directory gives. -/
def defaultOf (idx sub : Nat) (s : State) : List Byte :=
  if idx = 0x2008 then
    match s.factory.variant with
    | .l10 => [0x88, 0xFA, 0x4A, 0xFC, 0xAE, 0xFC, 0x90, 0x01]
    | .e20 => [0x5C, 0xF9, 0x50, 0xFB, 0xB4, 0xFB, 0xC8, 0x00]
  else if idx = 0x400B then (leBytes 6 (s.factory.baseMac.toNat + (sub - 1))).reverse
  else match objRow idx with
    | some r => r.default sub
    | none => []

/-- A setting in force as bytes (R151). -/
def cfgBytes (idx sub : Nat) (s : State) : List Byte :=
  match Tab.find (key idx sub) s.dict.vals with
  | some v => v
  | none => defaultOf idx sub s

/-- A setting in force as an unsigned number. -/
def cfg (idx sub : Nat) (s : State) : Nat := leNat (cfgBytes idx sub s)

/-- A setting in force as a signed number of n bytes. -/
def cfgI (n idx sub : Nat) (s : State) : Int := signedOf n (cfg idx sub s)

/-- A BOOL setting in force. -/
def cfgB (idx sub : Nat) (s : State) : Bool := cfg idx sub s != 0

/-- Put a value in force; the default leaves no entry. -/
def setVal (idx sub : Nat) (v : List Byte) (s : State) : State :=
  { s with dict := { s.dict with vals := Tab.put (defaultOf idx sub s) (key idx sub) v s.dict.vals } }

/-- Mark a stored setting as changed and not yet saved (R152); DESIGN CHOICE, assumption 116. -/
def markStored (idx sub : Nat) (s : State) : State :=
  match objRow idx with
  | some r =>
    if r.stored && !s.dict.pendSave.contains (key idx sub) then
      { s with dict := { s.dict with pendSave := s.dict.pendSave ++ [key idx sub] } }
    else s
  | none => s

/-- Bit n of a number w. -/
def bit (w n : Nat) : Bool := w.testBit n

/-! ## Byte strings of a stated length -/

/-- Some zero bytes. -/
def zeros (n : Nat) : List Byte := List.replicate n 0

/-- An OCT value of n bytes. -/
def padTo (n : Nat) (l : List Byte) : List Byte := l.take n ++ zeros (n - l.length)

/-- The SHA-384 digest of a byte string, 48 bytes (R556 to R558). -/
def digest (b : List Byte) : List Byte := padTo 48 (Config.sha384 b)

/-! ## The image in force (R570, R578) -/

/-- A little-endian header field. -/
def hdr (b : List Byte) (o n : Nat) : Nat := leNat ((b.drop o).take n)

/-- The image in force. -/
def imageInForce (s : State) : List Byte :=
  match s.upd.runs with
  | some .staging => s.upd.staging
  | some .reserve => s.upd.reserve
  | _ => s.upd.active

/-- RELEASE of the image in force. -/
def releaseInForce (s : State) : BitVec 32 := BitVec.ofNat 32 (hdr (imageInForce s) 8 4)

/-- The protocol versions of the image in force, highest or lowest: Gleno, Halyard, shroud (R214, R372, R514). -/
def glenoMax (s : State) : Nat := hdr (imageInForce s) 24 1
def glenoMin (s : State) : Nat := hdr (imageInForce s) 25 1
def halyardMax (s : State) : Nat := hdr (imageInForce s) 26 1
def halyardMin (s : State) : Nat := hdr (imageInForce s) 27 1
def shroudMax (s : State) : Nat := hdr (imageInForce s) 28 1
def shroudMin (s : State) : Nat := hdr (imageInForce s) 29 1

/-- The FORMAT in which calibration records are written: on probation, the one the reserve image writes (R585). -/
def recFormat (s : State) : Nat := hdr (if s.upd.state = 4 then s.upd.reserve else imageInForce s) 22 1

/-- The oldest FORMAT of calibration records that the image in force reads (R570). -/
def oldestFormat (s : State) : Nat := hdr (imageInForce s) 23 1

/-- An image on probation that cannot read the reserve's format writes no records (R585). -/
def recWritable (s : State) : Bool := s.upd.state != 4 || decide (oldestFormat s ≤ recFormat s)

/-! ## Emissions and free values -/

/-- Append an emission; DESIGN CHOICE, assumption 138. -/
def emit (k : EmitKind) (port : Nat) (f : List Int) (s : State) : State :=
  { s with wire := s.wire ++ [⟨k, port, f⟩] }

/-- The next free value, below a bound where one is given (0: none). -/
def drawn (bound : Nat) (s : State) : Nat :=
  if bound = 0 then Config.freeValue s.draws else Config.freeValue s.draws % bound

/-- Advance the counter of free values. -/
def draw (s : State) : State := { s with draws := s.draws + 1 }

/-! ## Counters (R591 to R595) -/

/-- Key of the cell behind word w of a count object. -/
def cellKey (idx sub w : Nat) : Nat := key idx sub * 256 + w

/-- Set a bit of OVF_MAP, keeping the list rising. -/
def insertCell (c : Nat) : List Nat → List Nat
  | [] => [c]
  | x :: t => if c = x then x :: t else if c < x then c :: x :: t else x :: insertCell c t

/-- Count n events in word w of a count object. A wrap sets the cell's bit in OVF_MAP and CELL_OVERFLOW
and counts a cell wrap (R594, R612, R613). -/
def countW (idx sub w n : Nat) (s : State) : State :=
  let k := cellKey idx sub w
  let v := (Tab.get 0 k s.obs.counts).toNat + n
  let o := { s.obs with counts := Tab.put 0 k (BitVec.ofNat 32 v) s.obs.counts }
  if v < 4294967296 then { s with obs := o }
  else
    let c := Config.cellOf k
    let o2 := { o with ovfMap := insertCell c o.ovfMap,
                       counts := Tab.put 0 (cellKey 0x7015 4 0)
                         (Tab.get 0 (cellKey 0x7015 4 0) o.counts + 1) o.counts }
    { s with obs := o2, regs := { s.regs with rc := Tab.put 0 0x60018 (Tab.get 0 0x60018 s.regs.rc ||| 1) s.regs.rc } }

/-- Count n events of a one-word count object. -/
def countN (idx sub n : Nat) (s : State) : State := countW idx sub 0 n s

/-- Count one event of a one-word count object. -/
def count (idx sub : Nat) (s : State) : State := countW idx sub 0 1 s

/-- Count one event of a U64 count object, held in two chained words (R594). -/
def count64 (idx sub : Nat) (s : State) : State :=
  if Tab.get 0 (cellKey idx sub 0) s.obs.counts = 0xFFFFFFFF#32 then
    countW idx sub 1 1 { s with obs := { s.obs with counts := Tab.put 0 (cellKey idx sub 0) 0 s.obs.counts } }
  else countW idx sub 0 1 s

/-- The value of a one-word count object. -/
def countOf (idx sub : Nat) (s : State) : BitVec 32 := Tab.get 0 (cellKey idx sub 0) s.obs.counts

/-- Set RC event bits of a register (R121). -/
def setRc (addr : Nat) (mask : Word) (s : State) : State :=
  { s with regs := { s.regs with rc := Tab.put 0 addr (Tab.get 0 addr s.regs.rc ||| mask) s.regs.rc } }

/-! ## Events and alarms (R603 to R607) -/

/-- Capacity of the working ring (R607). -/
def workRing : Nat := 4096

/-- Capacity of the flash ring (R607). -/
def flashRing : Nat := 131072

/-- Put a record into the working ring; the oldest leaves a full ring, and is lost where it was not yet
written to flash (R607). -/
def pushEvent (e : Event) (s : State) : State :=
  let full := s.obs.events.length ≥ workRing
  let lost := full && s.obs.unwritten ≥ workRing
  let ring := if full then s.obs.events.drop 1 else s.obs.events
  let s1 := { s with obs := { s.obs with events := ring ++ [e],
                                         unwritten := if lost then s.obs.unwritten else s.obs.unwritten + 1 } }
  if lost then setRc 0x60018 4 (count 0x7015 1 s1) else s1

/-- Log an event (R606). During a warm start it waits in the hardware buffer of 256 entries, and further
events are counted and not logged (R95, R607). -/
def logEvent (k : EventKind) (inst cls : Nat) (s : State) : State :=
  let warm := s.life.state == .restarting
  let fl : BitVec 8 := (if s.tb.a.traceable then 0 else 1) ||| (if warm then 2 else 0) ||| (if s.obs.stepFlag then 4 else 0)
  let e : Event := ⟨timeA s, s.obs.nextSeq, k, inst, cls, fl⟩
  if warm && s.obs.warmBuf.length ≥ 256 then count 0x7015 1 s
  else
    let s1 := { s with obs := { s.obs with nextSeq := s.obs.nextSeq + 1, stepFlag := false } }
    if warm then { s1 with obs := { s1.obs with warmBuf := s1.obs.warmBuf ++ [e] } } else pushEvent e s1

/-- An informational event. -/
def logInfo (k : EventKind) (inst : Nat) (s : State) : State := logEvent k inst 0 s

/-- The 16-bit code of an alarm (R603). -/
def alarmCode (a : Alarm) : Nat := a.chapter * 256 + (Config.alarmLow a.number).toNat

/-- The class ALARM_MAP gives a code: 0 default, 1 minor, 2 major, 3 suppressed (R604, R613). -/
def mapClass (code : Nat) : List Byte → Nat
  | b0 :: b1 :: c :: _ :: t => if leNat [b0, b1] = code then c.toNat else mapClass code t
  | _ => 0

/-- Class of an alarm in force: 1 minor, 2 major, 3 suppressed (R604). -/
def alarmClass (a : Alarm) (s : State) : Nat :=
  let d := if a.major then 2 else 1
  if a.fixed then d else
    match mapClass (alarmCode a) (cfgBytes 0x700B 0 s) with
    | 0 => d
    | n => n

/-- Whether an alarm of a class stands (R605). -/
def stands (cls : Nat) (s : State) : Bool := s.obs.alarms.any (fun x => alarmClass x.alarm s == cls)

/-- Whether an alarm stands for an instance. -/
def standing (a : Alarm) (inst : Nat) (s : State) : Bool :=
  s.obs.alarms.any (fun x => x.alarm == a && x.inst == inst)

/-- The module states in which the alarm contacts are released whatever stands (R40, R41). -/
def contactsDead (s : State) : Bool :=
  match s.life.state with
  | .unpowered => true
  | .reset => true
  | .strapFault => true
  | _ => !s.life.nymyx

/-- Set the alarm contacts from the standing alarms (R41, R605). -/
def contacts (s : State) : State :=
  let dead := contactsDead s
  { s with pins := { s.pins with almMaj := !dead && !stands 2 s, almMin := !dead && !stands 1 s } }

/-- Raise an alarm: it stands once for each code and instance, a repeat raises its count and, for an
event alarm, restarts its hold (R603). -/
def raise (a : Alarm) (inst : Nat) (s : State) : State :=
  if standing a inst s then
    { s with obs := { s.obs with alarms := s.obs.alarms.map (fun x =>
        if x.alarm == a && x.inst == inst then
          { x with count := x.count + 1, raised := if a.condition then x.raised else timeA s } else x) } }
  else
    let c := alarmClass a s
    let s1 : State := { s with obs := { s.obs with alarms := s.obs.alarms ++ [⟨a, inst, timeA s, 1⟩] }
                               upd := { s.upd with clean := s.upd.clean && c != 2 } }
    contacts (logEvent (.alarm a) inst (if c = 3 then 4 else c) s1)

/-- End a standing alarm and log it (R603). -/
def endAlarm (a : Alarm) (inst : Nat) (s : State) : State :=
  if standing a inst s then
    let s1 := { s with obs := { s.obs with alarms := s.obs.alarms.filter (fun x => !(x.alarm == a && x.inst == inst)) } }
    contacts (logEvent (.alarm a) inst 3 s1)
  else s

/-- The instance number of an alarm that has none (R606). -/
def noInst : Nat := 0xFFFF

/-- A stage of the cold start is reached: the highest is kept, its time is recorded (R87, R107). -/
def reachStage (n : Nat) (s : State) : State :=
  { s with life := { s.life with stage := max s.life.stage n, startTimes := setAt n (timeA s) s.life.startTimes } }

/-- The stages of the start are running (R87). -/
def starting (s : State) : Bool := s.life.state == .starting

/-! ## The ledger (R60 to R68) -/

/-- The sum of the units of the entries. -/
def sumUnits : Tab Entry → Nat
  | [] => 0
  | (_, e) :: t => e.units + sumUnits t

/-- The booked total (R60). -/
def booked (s : State) : Nat := sumUnits s.power.entries

/-- The admissible total of a class (R60). -/
def admissible (c : Cls) (s : State) : Nat :=
  let ceiling := cfg 0x1300 0 s
  let limit := match c with
    | .repair => ceiling
    | _ => ceiling - cfg 0x130A 0 s
  let a := min (limit * s.power.ledgerMv / 48000) 2916
  if s.power.derate then a * 9 / 10 else a

/-- Whether a request of a class fits (R60). -/
def fits (c : Cls) (units : Nat) (s : State) : Bool := decide (booked s + units ≤ admissible c s)

/-- Set a ledger entry: code, instance, reported state, units; no units removes it; DESIGN CHOICE, assumption 54. -/
def setEntry (code inst st units : Nat) (s : State) : State :=
  { s with power := { s.power with entries := Tab.put Entry.none (code * 65536 + inst) ⟨if units = 0 then 0 else st, units⟩ s.power.entries } }

/-- The units booked by an entry. -/
def unitsOf (code inst : Nat) (s : State) : Nat := (Tab.get Entry.none (code * 65536 + inst) s.power.entries).units

/-- Units that differ between the variants (R64). -/
def perVariant (l10 e20 : Nat) (s : State) : Nat :=
  match s.factory.variant with
  | .l10 => l10
  | .e20 => e20

/-- Entry codes, in the order of the table of R64; DESIGN CHOICE, assumption 8. -/
def cBase : Nat := 0
def cOven : Nat := 1
def cSpar : Nat := 2
def cGleno : Nat := 3
def cBank : Nat := 4
def cSpare : Nat := 5
def cLane0 : Nat := 6
def cLane : Nat := 7      -- instance: channel * 4 + lane
def cTile : Nat := 8
def cSlice : Nat := 9     -- instance: tile * 4 + slice
def cOvf : Nat := 10
def cMacsec : Nat := 11
def cCal : Nat := 12      -- instance: kind * 1024 + instance
def cFlash : Nat := 13
def cPrbs : Nat := 14
def cSample : Nat := 15

/-- Count a grant or a refusal in REEF_COUNTS (R82). -/
def countGrant (s : State) : State := count 0x130D 1 s
def countRefusal (s : State) : State := count 0x130D 2 s

/-! ## Slewed quantities and calibration records (R407, R408, R419) -/

/-- Key of a slewed quantity or of a run: kind and instance. -/
def calKey (kind inst : Nat) : Nat := kind * 1024 + inst

/-- The value in force of a slewed quantity in 2^-16 ns. -/
def slewVal (kind inst : Nat) (s : State) : Int := (Tab.get ⟨0, 0⟩ (calKey kind inst) s.cal.slews).value / 1000000000

/-- A slewed quantity takes a value as a step. -/
def stepSlew (kind inst : Nat) (v : Int) (s : State) : State :=
  { s with cal := { s.cal with slews := Tab.put ⟨0, 0⟩ (calKey kind inst) ⟨v * 1000000000, v * 1000000000⟩ s.cal.slews } }

/-- A slewed quantity takes a new target (R408). -/
def aimSlew (kind inst : Nat) (v : Int) (s : State) : State :=
  { s with cal := { s.cal with slews := Tab.upd ⟨0, 0⟩ (calKey kind inst) (fun x => { x with target := v * 1000000000 }) s.cal.slews } }

/-- DET_DELAY of a detector (R308). -/
def detDelay (d : Nat) (s : State) : Int := slewVal 0 d s

/-- A record waits to be written; a newer one of its kind and instance replaces it (R419). Record kinds: 1
event-unit table, 2 lane delays, 3 asymmetry fit, 4 output driver delay, 6 laser retirement, 7 spare use, 8 raised
allowance, 9 ageing model by its key; DESIGN CHOICE, assumption 15. -/
def queueRec (kind inst : Nat) (urgent : Bool) (q : Option Req) (s : State) : State :=
  { s with cal := { s.cal with waiting := s.cal.waiting.filter (fun w => !(w.kind == kind && w.inst == inst)) ++ [⟨kind, inst, urgent, q⟩] } }

/-! ## Requests and answers (R196 to R200) -/

/-- The session of a request, if it is open. -/
def session (n : Nat) (s : State) : Option Session := Tab.find n s.gleno.sessions

/-- Replace a session. -/
def putSession (n : Nat) (e : Session) (s : State) : State :=
  { s with gleno := { s.gleno with sessions := Tab.set n e s.gleno.sessions } }

/-- Change an open session. -/
def updSession (n : Nat) (f : Session → Session) (s : State) : State :=
  match session n s with
  | some e => putSession n (f e) s
  | none => s

/-- Keep an answer with its cycle among the last 64 (R200); DEDUCED, assumption 102. -/
def keepAnswer (a : Answer) (cycle : BitVec 32) (l : List Kept) : List Kept :=
  let others := l.filter (fun k => k.ans.reqId != a.reqId)
  others.drop (others.length + 1 - 64) ++ [⟨a, cycle⟩]

/-- Answer a request: the answer waits for the module's slot and is kept with its REQ_ID among the last 64
of its session (R198, R200). A status 0x0402 is counted and its request stays pending. -/
def answer (q : Req) (st : Status) (d : List Byte) (s : State) : State :=
  let a : Answer := ⟨q.sess, q.id, st, d⟩
  let s1 := { s with gleno := { s.gleno with answers := s.gleno.answers ++ [a] } }
  let s2 := updSession q.sess (fun e =>
    { e with kept := keepAnswer a s.gleno.cycle e.kept
             pendingIds := if st = 0x0402#16 then e.pendingIds ++ [q.id] else e.pendingIds }) s1
  if st = 0x0402#16 then count 0x120A 9 s2 else s2

/-- A request that was answered 0x0402 and has not completed. -/
def isPending (q : Req) (s : State) : Bool := (session q.sess s).any (fun e => e.pendingIds.contains q.id)

/-- Complete a request that was answered 0x0402 (R198): the completion waits for the slot, and the kept
answer of the request becomes the result. A request that has completed, as after 4,096 cycles, does not complete again. -/
def complete (q : Req) (st : Status) (d : List Byte) (s : State) : State :=
  if !isPending q s then s
  else
    let a : Answer := ⟨q.sess, q.id, st, d⟩
    updSession q.sess (fun e =>
      { e with kept := e.kept.map (fun k => if k.ans.reqId = q.id then { k with ans := a } else k),
               pendingIds := e.pendingIds.filter (fun i => i != q.id) })
      { s with gleno := { s.gleno with completions := s.gleno.completions ++ [a] } }

/-- The acceptance rule for SEQ (R207): above the highest accepted, or within 64 below it and not accepted before;
the highest and the mask of those below it that follow. -/
def seqAccept (n : Nat) (high : Option Nat) (mask : BitVec 64) : Option (Nat × BitVec 64) :=
  match high with
  | none => some (n, 0)
  | some h =>
    if h < n then some (n, (mask <<< (n - h)) ||| ((1#64) <<< (n - h - 1)))
    else if n < h ∧ h - 1 - n < 64 ∧ !mask.getLsbD (h - 1 - n) then some (h, mask ||| ((1#64) <<< (h - 1 - n)))
    else none

/-- Rank of a role (R148): observer, operator and service alike, custodian. -/
def roleRank : Role → Nat
  | .observer => 0
  | .operator => 1
  | .service => 1
  | .custodian => 2

/-- Whether a role reaches another. -/
def roleMeets (have_ need : Role) : Bool := decide (roleRank need ≤ roleRank have_)

/-- The interface accepts records (R201). -/
def accepting (s : State) : Bool := s.gleno.state == .joined || s.gleno.state == .master

/-- A role is migrating (R98, R99). -/
def migratingRole (r : SparRole) (s : State) : Bool := s.life.migrating.any (fun m => m.role == r)

/-- The module answers every request with 0x0701: a warm start runs, or the Gleno and dictionary role
migrates (R94, R99); DEDUCED, assumption 107. -/
def answers0701 (s : State) : Bool := s.life.state == .restarting || migratingRole .gleno s

/-- The result of a request's body: the state, the status and the answer data. -/
structure Res where
  st   : State
  code : Status
  data : List Byte

/-- A status with no data. -/
def Res.of (s : State) (c : Status) : Res := ⟨s, c, []⟩

/-- The kept answer of a request's REQ_ID, from a request of the last 4,096 cycles (R200). -/
def heldAnswer (q : Req) (e : Session) (s : State) : Option Answer :=
  (e.kept.find? (fun k => decide (k.ans.reqId = q.id ∧ (s.gleno.cycle - k.cycle).toNat ≤ 4096))).map (fun k => k.ans)

/-- Process a request (R94, R154, R198, R200): outside JOINED and MASTER it is discarded and counted, as
is one of an unknown session; a REQ_ID of the kept answers is answered from the kept result; else the body
runs and its result is answered. -/
def request (q : Req) (body : Session → State → Res) (s : State) : State :=
  if !accepting s then count 0x120A 3 s
  else match session q.sess s with
    | none => count 0x120A 5 s
    | some e =>
      match heldAnswer q e s with
      | some a => { s with gleno := { s.gleno with answers := s.gleno.answers ++ [a] } }
      | none =>
        if answers0701 s then answer q 0x0701#16 [] s
        else let r := body e s
          answer q r.code r.data r.st

/-- A request that a role must reach (R149). -/
def roleRequest (need : Role) (q : Req) (body : Session → State → Res) (s : State) : State :=
  request q (fun e s => if roleMeets e.role need then body e s else Res.of s 0x0201#16) s

/-- The conditions under which a request is processed by its body. -/
def admits (q : Req) (need : Role) (s : State) : Bool :=
  accepting s && !answers0701 s &&
    match session q.sess s with
    | none => false
    | some e => roleMeets e.role need && (heldAnswer q e s).isNone

/-- The members of a subindex of a per-channel object (R8, R156): a channel, a group or all. -/
def members (sub : Nat) (s : State) : List Nat :=
  if 1 ≤ sub ∧ sub ≤ 192 then [sub - 1]
  else if sub = 255 then List.range 192
  else if 224 ≤ sub ∧ sub ≤ 239 then
    (List.range 192).filter (fun c => (Tab.get 0 (sub - 224) s.dict.members).getLsbD c)
  else []

end Sys2Proof.Machine
end

