-- ==== Sys2Proof/Machine/ChanOps.lean ====
section
/-!
DEFINITION. Shared operations on engines and channels: lasers, bands, lanes and widths, furling, going
down, and the phase detectors that follow the received lanes (07, 08, 10).
-/
namespace Sys2Proof.Machine

/-! ## Access -/

/-- Engine t. -/
def eng (t : Nat) (s : State) : Engine := Tab.get Engine.reset t s.optics.engines
/-- Change engine t. -/
def updEng (t : Nat) (f : Engine → Engine) (s : State) : State :=
  { s with optics := { s.optics with engines := Tab.upd Engine.reset t f s.optics.engines } }
/-- Optical part of channel c. -/
def opt (c : Nat) (s : State) : Optic := Tab.get Optic.reset c s.optics.optic
/-- Change the optical part of channel c. -/
def updOpt (c : Nat) (f : Optic → Optic) (s : State) : State :=
  { s with optics := { s.optics with optic := Tab.upd Optic.reset c f s.optics.optic } }
/-- Coding part of channel c. -/
def cod (c : Nat) (s : State) : Coding := Tab.get Coding.reset c s.optics.coding
/-- Change the coding part of channel c. -/
def updCod (c : Nat) (f : Coding → Coding) (s : State) : State :=
  { s with optics := { s.optics with coding := Tab.upd Coding.reset c f s.optics.coding } }
/-- Detector d. -/
def det (d : Nat) (s : State) : Det := Tab.get Det.reset d s.vern.dets
/-- Change detector d. -/
def updDet (d : Nat) (f : Det → Det) (s : State) : State :=
  { s with vern := { s.vern with dets := Tab.upd Det.reset d f s.vern.dets } }
/-- Tile t. -/
def tile (t : Nat) (s : State) : TileState := Tab.get TileState.reset t s.power.tiles
/-- Change tile t. -/
def updTile (t : Nat) (f : TileState → TileState) (s : State) : State :=
  { s with power := { s.power with tiles := Tab.upd TileState.reset t f s.power.tiles } }

/-- Register address of offset o of channel c (R8, R110). -/
def chanAddr (c o : Nat) : Nat := 0x80000 + c * 0x200 + o

/-- The four lanes. -/
def lanes : List Nat := [0, 1, 2, 3]

/-- The set of one lane. -/
def laneBit (k : Nat) : BitVec 4 := BitVec.ofNat 4 (2 ^ k)

/-- The lowest-numbered lane of a set, 4 for none. -/
def lowestLane (m : BitVec 4) : Nat :=
  if m.getLsbD 0 then 0 else if m.getLsbD 1 then 1 else if m.getLsbD 2 then 2 else if m.getLsbD 3 then 3 else 4

/-- Number of lanes in a set. -/
def laneCount (m : BitVec 4) : Nat := (lanes.filter (fun k => m.getLsbD k)).length

/-- The channels of an engine (R5). -/
def engChans (t : Nat) : List Nat := (List.range 8).map (fun j => 8 * t + j)

/-- The laser that carries lane k of a band (table of R220). -/
def laserOf (b : Band) (k : Nat) : Nat := if b = .upper then 4 + k else k

/-- A laser gives light. -/
def Laser.on (l : Laser) : Bool := l.st == .lit || l.st == .brace

/-- Laser j of an engine. -/
def laser (t j : Nat) (s : State) : Laser := (eng t s).lasers.getD j Laser.reset

/-- The spare of the band of laser j. -/
def spareOf (j : Nat) (e : Engine) : Spare := if j < 4 then e.lower else e.upper

/-- Replace the spare of the band of laser j. -/
def setSpare (j : Nat) (sp : Spare) (e : Engine) : Engine := if j < 4 then { e with lower := sp } else { e with upper := sp }

/-- The spare stands in for laser j: it is in use on that laser's wavelength (R234). -/
def spareServes (j : Nat) (e : Engine) : Bool :=
  (spareOf j e).st == .inUse && (spareOf j e).target == j % 4

/-- Comb port j of an engine carries light: its laser or the spare in its place. -/
def combLit (t j : Nat) (s : State) : Bool := (laser t j s).on || spareServes j (eng t s)

/-- The lanes of a channel whose laser gives light, in the band the channel transmits in. -/
def litLanes (c : Nat) (s : State) : BitVec 4 :=
  let b := (opt c s).band
  (lanes.filter (fun k => combLit (tileOf c) (laserOf b k) s)).foldl (fun m k => m ||| laneBit k) 0

/-! ## Peer capabilities (R256) -/

/-- CAPS of this end: four lanes, RW, FURL, ADAPT. -/
def myCaps (c : Nat) (s : State) : BitVec 8 :=
  0x80#8 ||| (if cfgB 0x2100 (c + 1) s then 0x40 else 0) ||| (if cfgB 0x2101 (c + 1) s then 0x20 else 0) |||
    (if (opt c s).eqMode = 0 && (cod c s).peerFam != 2 then 0x10 else 0)

/-- Both ends set RW, and the peer is a KV3072 (R256). -/
def bothRw (c : Nat) (s : State) : Bool :=
  (cod c s).peerFam == 1 && (cod c s).peerCaps.getLsbD 6 && cfgB 0x2100 (c + 1) s

/-- Both ends set FURL. -/
def bothFurl (c : Nat) (s : State) : Bool :=
  (cod c s).peerFam == 1 && (cod c s).peerCaps.getLsbD 5 && cfgB 0x2101 (c + 1) s

/-! ## Ledger entries of lanes (R64, R259) -/

/-- The lanes whose modulator or receiver is awake. -/
def awakeLanes (d : Coding) : BitVec 4 :=
  if d.stage = 0 then 0
  else if d.stage < 6 then d.train
  else d.txLanes ||| d.wake ||| (if d.announced then d.nextLanes else 0) ||| d.rxLanes ||| (if d.rxAnn then d.rxNext else 0)

/-- Book the lane entries of a channel as its coding part has them: two units a lane (R64). -/
def bookLanes (c : Nat) (s : State) : State :=
  let a := awakeLanes (cod c s)
  let l0 := if (cod c s).stage = 0 then 0 else 2
  [1, 2, 3].foldl (fun s k => setEntry cLane (c * 4 + k) 1 (if a.getLsbD k then 2 else 0) s) (setEntry cLane0 c 1 l0 s)

/-- Change the coding part of a channel and book its lanes anew. -/
def setCod (c : Nat) (f : Coding → Coding) (s : State) : State := bookLanes c (updCod c f s)

/-! ## Vernier detectors of channels (R265, R304) -/

/-- The source of a detector is gone: VALID 0, unwrapping restarts at the next sample (R303). -/
def detLost (d : Nat) (s : State) : State :=
  updDet d (fun x => { x with valid := false, noSource := true, resume := true, freqValid := false }) s

/-- Let a channel's detector follow its locked lanes: lane 0, else the lowest-numbered locked lane; a change
of lane restarts unwrapping, sets SRC_CHANGE and takes the stored DET_DELAY of the lane (R265, R304, R408). -/
def detFollow (c : Nat) (s : State) : State :=
  let k := lowestLane (cod c s).locked
  if k = 4 ∨ (cod c s).stage = 7 then detLost c s
  else
    let x := det c s
    let s1 := if x.lane = k then s else stepSlew 0 c (Tab.get 0 (calKey 0 (4 * c + k)) s.cal.stored) s
    if x.noSource then updDet c (fun x => { x with noSource := false, lane := k, resume := true }) s1
    else if x.lane = k then s
    else updDet c (fun x => { x with lane := k, resume := true, srcChange := true, freqValid := false }) s1

/-! ## Going down (R255, R262) -/

/-- Coding part of a channel that returns to a stage with nothing locked; what the peer told stays. -/
def Coding.down (st : Nat) (d : Coding) : Coding :=
  { Coding.reset with stage := st, fails := d.fails, granted := d.granted, train := d.train, everUp := d.everUp,
                      txAm := d.txAm, rxAm := d.rxAm, peerFam := d.peerFam, peerVar := d.peerVar, peerCaps := d.peerCaps, peerRev := d.peerRev,
                      force := d.force, brace := d.brace, maxLanes := d.maxLanes, corrected := d.corrected, uncorr := d.uncorr,
                      symErr := d.symErr, prbsErr := d.prbsErr, prbsBits := d.prbsBits }

/-- A channel leaves stage 6: LINK_DOWN, counted, minor alarm, and returns to the stage given (R255, R270,
R271). A channel that is not up only changes its stage. -/
def chanTo (c st : Nat) (s : State) : State :=
  let was := (cod c s).stage
  let s1 := detFollow c (setCod c (Coding.down st) s)
  if was = 6 then
    raise .channelDown c (count 0x2110 1 (setRc (chanAddr c 0x110) 1 s1))
  else s1

/-- A channel goes down and returns to stage 2 on its band, or stays down with no band (R255). -/
def chanDown (c : Nat) (s : State) : State :=
  if (cod c s).stage = 0 then s
  else chanTo c (if (opt c s).bandState == .resolved then 2 else 0) s

/-- Whether loop or PRBS settings keep a channel out of bring-up (R267, R268). -/
def looped (c : Nat) (s : State) : Bool := cfg 0x2108 (c + 1) s != 0 || cfg 0x2109 (c + 1) s != 0

/-! ## Width (R259 to R264) -/

/-- WIDTH_STATE of a channel: 0 full, 1 furled, 2 reduced, 3 single lane; its reset value while no lane is in TX_LANES
(R270); DEDUCED, assumption 57. -/
def widthState (d : Coding) : Nat :=
  if d.txLanes = 0#4 then 0
  else if d.peerFam = 2 then 3
  else if d.txLanes = 0xF#4 then 0
  else if d.rxFault = 0 ∧ d.peerFault = 0 ∧ (d.txLanes = 1#4 ∨ d.txLanes = 3#4) then 1
  else 2

/-- A lane is lost or faulty somewhere on the channel: it is in reduced width and does not furl (R262). -/
def reduced (c : Nat) (s : State) : Bool :=
  (cod c s).rxFault != 0 || (cod c s).peerFault != 0 || (opt c s).laserLost != 0

/-- Set TX_LANES with the WIDTH_CHANGED event (R270). -/
def setTx (c : Nat) (m : BitVec 4) (s : State) : State :=
  if (cod c s).txLanes = m then s
  else setRc (chanAddr c 0x110) 8 (updOpt c (fun o => { o with lanesLit := m }) (setCod c (fun d => { d with txLanes := m }) s))

/-- Announce a width change in the marker of the present period, to take effect two periods on (R260). -/
def announce (c : Nat) (m : BitVec 4) (s : State) : State :=
  setCod c (fun d => { d with nextLanes := m, atCount := d.txAm + 2, announced := true }) s

/-- Narrow TX_LANES at once with ABRUPT (R262, R263). -/
def abruptTo (c : Nat) (m : BitVec 4) (s : State) : State :=
  if (cod c s).txLanes &&& m = (cod c s).txLanes then s
  else updCod c (fun d => { d with abrupt := true, announced := false, wake := 0 }) (setTx c ((cod c s).txLanes &&& m) s)

/-- Enter reduced width: counted, REDUCED set (R270, R271). -/
def enterReduced (c : Nat) (s : State) : State :=
  count 0x2110 6 (setRc (chanAddr c 0x110) 0x10 s)

/-- A lane k of this end's transmit direction is lost (R232, R262): LANE_LASER_LOST is the caller's. A
channel below stage 6 fails its stage if both ends do not set RW. -/
def laneLostTx (c k : Nat) (s : State) : State :=
  let d := cod c s
  if d.stage = 0 then s
  else if d.stage < 6 then
    if bothRw c s then setCod c (fun d => { d with train := d.train &&& ~~~(laneBit k) }) s else chanDown c s
  else if d.stage = 7 then s
  else if !d.txLanes.getLsbD k then s                          -- furled without lane k: unchanged
  else if d.peerFam = 2 then (if k = 0 then chanDown c s else s)
  else if !bothRw c s then chanDown c s
  else if laneCount d.txLanes ≤ 2 then                          -- a furled direction loses a running lane
    let m := litLanes c s &&& d.peerMax &&& ~~~d.peerFault
    if m = 0 then chanDown c s
    else
      let s1 := enterReduced c (abruptTo c (~~~(laneBit k)) s)
      { s1 with power := { s1.power with waiting := s1.power.waiting ++ [⟨.repair, .repairUnfurl c, 2 * laneCount m⟩] } }
  else if reduced c { s with optics := { s.optics with optic := Tab.upd Optic.reset c (fun o => { o with laserLost := o.laserLost &&& ~~~(laneBit k) }) s.optics.optic } }
  then chanDown c s                                             -- a second lane lost
  else enterReduced c (abruptTo c (~~~(laneBit k)) s)

/-- A received lane k is found faulty: loss of signal, loss of marker lock, or errors (R262). -/
def laneLostRx (c k : Nat) (s : State) : State :=
  let d := cod c s
  if d.stage != 6 then s
  else if !d.rxLanes.getLsbD k then s
  else if d.peerFam = 2 then (if k = 0 then chanDown c s else s)
  else if !bothRw c s then chanDown c s
  else if d.rxFault.getLsbD k then s
  else if reduced c s then chanDown c s
  else detFollow c (enterReduced c (updCod c (fun d => { d with rxFault := d.rxFault ||| laneBit k, locked := d.locked &&& ~~~(laneBit k) }) s))

/-- The lane an unfurl would run: what the peer's MAX_LANES allows and has a lit laser (R261). -/
def unfurlTarget (c : Nat) (s : State) : BitVec 4 := (cod c s).peerMax &&& litLanes c s &&& ~~~(cod c s).peerFault

/-- The grant of an unfurl: the modulators wake, and the next marker announces the new lanes (R261). -/
def unfurlGranted (c : Nat) (s : State) : State :=
  setCod c (fun d => { d with wake := unfurlTarget c s, unfurlAsk := false }) s

/-- A forced furl of one channel: TX_LANES to lanes 0 and 1 by announcement, MAX_LANES narrowed with FORCE
at once (R73, R263). -/
def forceFurl (c : Nat) (s : State) : State :=
  let s1 := updCod c (fun d => { d with maxLanes := 3#4, force := true }) s
  let s2 := setCod c (fun d => { d with nextLanes := 3#4, atCount := d.txAm + 2, announced := true, wake := 0 }) s1
  { s2 with power := { s2.power with forcedFurls := s2.power.forcedFurls ++ [c] } }

/-- A channel that R73 may furl by force: up on four lanes, against a KV3072, not reduced, priority
below 7, not furled already. -/
def furlable (c : Nat) (s : State) : Bool :=
  (cod c s).stage == 6 && (cod c s).txLanes == 0xF#4 && (cod c s).peerFam == 1 && !reduced c s &&
    decide (cfg 0x1309 (c + 1) s < 7) && !s.power.forcedFurls.contains c && !(cod c s).force

/-- The next channel to furl by force: lowest priority first, highest channel number first (R73). -/
def nextFurl (s : State) : Option Nat :=
  (List.range 192).foldl (fun best c =>
    if furlable c s then
      match best with
      | none => some c
      | some b => if cfg 0x1309 (c + 1) s ≤ cfg 0x1309 (b + 1) s then some c else some b
    else best) none

/-- Units that pending forced furls will release when their announcements take effect. -/
def furlRelease (s : State) : Nat := 4 * (s.power.forcedFurls.filter (fun c => (cod c s).announced)).length

/-- Furl channels one at a time until a total fits (R73). -/
def furlUntil : Nat → Nat → State → State
  | 0, _, s => s
  | n + 1, target, s =>
    if booked s ≤ target + furlRelease s then s
    else match nextFurl s with
      | none => s
      | some c => furlUntil n target (forceFurl c s)

/-- An up channel puts its unfurl to the reef controller as one traffic-class request (R261). -/
def askUnfurl (c : Nat) (s : State) : State :=
  let new := unfurlTarget c s &&& ~~~(cod c s).txLanes
  if (cod c s).stage != 6 || (cod c s).unfurlAsk || new == 0 then s
  else
    let s1 := updCod c (fun d => { d with unfurlAsk := true }) s
    { s1 with power := { s1.power with waiting := s1.power.waiting ++ [⟨.traffic, .unfurl c, 2 * laneCount new⟩] } }

/-- Forced furls end when level 3 ends: MAX_LANES widens and FORCE clears (R74, R263). -/
def endForced (s : State) : State :=
  let s1 := s.power.forcedFurls.foldl (fun s c =>
    askUnfurl c (updCod c (fun d => { d with force := false, maxLanes := if d.brace then d.maxLanes else 0xF#4 }) s)) s
  { s1 with power := { s1.power with forcedFurls := [] } }

/-! ## Lasers (R38, R105, R223, R230) -/

/-- A channel goes DARK: shutter closed, coding down (R223). -/
def chanDark (c : Nat) (s : State) : State :=
  let s1 := chanTo c 0 s
  updOpt c (fun o => { o with bandState := .dark, band := .none, lanesLit := 0, laserLost := 0 }) (setCod c (fun _ => { Coding.reset with
    txAm := (cod c s1).txAm, rxAm := (cod c s1).rxAm }) s1)

/-- A laser whose drive is removed. -/
def Laser.off (l : Laser) : Laser :=
  match l.st with
  | .retired => { l with bias := 0, power := 0xF060#16 }
  | .forcedOff => { l with bias := 0, power := 0xF060#16 }
  | _ => ⟨.dark, 0, 0xF060#16⟩

/-- A spare whose drive is removed; one in use stays bound to its laser, a switch-in is abandoned (R235). -/
def Spare.off (p : Spare) : Spare :=
  match p.st with
  | .failed => p
  | .inUse => { p with st := .ready }
  | _ => { p with st := .ready, planned := false, bound := false }

/-- A spare as its bank starts: one in use for a retired laser is tuned to that laser and left in use, another is tested (R228). -/
def Spare.start (p : Spare) : Spare :=
  if p.st = .failed then p else if p.bound then { p with st := .inUse } else { p with st := .testing }

/-- Engine t loses the drive of all its lasers; its ledger entries are released. -/
def engOff (t : Nat) (s : State) : State :=
  let s1 := updEng t (fun e => { e with bank := .dark, lasers := e.lasers.map Laser.off, lower := e.lower.off, upper := e.upper.off,
                                        refusedAt := none }) s
  let s2 := setEntry cSpare (2 * t) 0 0 (setEntry cSpare (2 * t + 1) 0 0 (setEntry cBank t 0 0 s1))
  (engChans t).foldl (fun s c => chanDark c s) s2

/-- The drive of every laser is removed, their grants released, every channel dark (R38). -/
def lasersOff (s : State) : State :=
  let s1 := (List.range 24).foldl (fun s t => engOff t s) s
  { s1 with life := { s1.life with staging := false, nextEngine := 0 },
            power := { s1.power with forcedFurls := [],
                                     waiting := s1.power.waiting.filter (fun w => match w.what with
                                       | .laserBank _ => false
                                       | .spareLaser _ _ => false
                                       | .unfurl _ => false
                                       | .bringUp _ => false
                                       | .repairUnfurl _ => false
                                       | .holdUnfurl _ => false
                                       | _ => true) } }

/-- A fixed laser or a spare in use is declared failed: its drive is removed and it is retired; the lane
it carried is lost in every channel of the engine that transmits in its band (R231, R232). -/
def retire (t j : Nat) (st : LaserSt) (s : State) : State :=
  let s1 := updEng t (fun e => { e with lasers := setAt j ⟨st, 0, 0xF060#16⟩ e.lasers }) s
  let b : Band := if j < 4 then .lower else .upper
  count 0x200E 3 (queueRec 6 (8 * t + j) true none ((engChans t).foldl (fun s c =>
    if (opt c s).bandState == .resolved && (opt c s).band == b then
      let s2 := setRc (chanAddr c 0x018) 0x10 s
      let s3 := laneLostTx c (j % 4) s2
      updOpt c (fun o => { o with laserLost := o.laserLost ||| laneBit (j % 4) }) s3
    else s) s1))

/-- Ask for the spare of the band of laser j as a repair-class request (R234). -/
def askSpare (t j : Nat) (planned : Bool) (s : State) : State :=
  let s1 := updEng t (fun e => setSpare j { (spareOf j e) with target := j % 4, planned := planned, bound := true } e) s
  { s1 with power := { s1.power with waiting := s1.power.waiting ++ [⟨.repair, .spareLaser t (j / 4), perVariant 2 3 s⟩] } }

/-- The spare of the band of laser j can be taken (R235, R236). -/
def spareFree (t j : Nat) (s : State) : Bool := (spareOf j (eng t s)).st == .ready && !(spareOf j (eng t s)).bound

/-! ## Band resolution (R223) -/

/-- Enter LISTEN with a fresh hold-off H of 0 to 2,000 µs. -/
def toListen (c : Nat) (s : State) : State :=
  let h := drawn 2001 s
  draw (updOpt c (fun o => { o with bandState := .listen, band := .none, hold := h, pin := cfg 0x2000 (c + 1) s, lanesLit := 0 }) s)

/-- Enter BACKOFF with a fresh back-off B of 0 to 4,000 µs; counted as unanswered. -/
def toBackoff (c : Nat) (s : State) : State :=
  let b := drawn 4001 s
  draw (updOpt c (fun o => { o with bandState := .backoff, band := .none, backoff := b, lanesLit := 0 }) s)

/-- Put a channel's request for lanes 1 to 3 to the reef controller at bring-up stage 1 (R253, R254); DESIGN CHOICE, assumption 56. -/
def bringUp1 (c : Nat) (s : State) : State :=
  let s1 := setCod c (fun d => { Coding.down 1 d with train := laneBit 0, granted := false }) s
  if looped c s then setCod c (fun d => { Coding.down 7 d with wake := BitVec.ofNat 4 (cfg 0x2109 (c + 1) s) }) s
  else if (cod c s).peerFam = 2 then setCod c (fun d => { d with stage := 2 }) s1
  else { s1 with power := { s1.power with waiting := s1.power.waiting ++ [⟨.traffic, .bringUp c, 6⟩] } }

/-- A channel enters RESOLVED in a band: BAND_CHANGED, counted, bring-up begins (R223, R253). -/
def resolve (c : Nat) (b : Band) (s : State) : State :=
  let s1 := updOpt c (fun o => { o with bandState := .resolved, band := b, laserLost := 0 }) s
  let lost := ~~~(litLanes c s1)
  let s2 := updOpt c (fun o => { o with laserLost := lost }) s1
  let s3 := endAlarm .unresolved c (count 0x200E 1 (setRc (chanAddr c 0x018) 2 s2))
  bringUp1 c s3

/-- The lanes that train once lanes 1 to 3 are granted: those with a lit laser (R254). -/
def trainLanes (c : Nat) (s : State) : BitVec 4 := litLanes c s

end Sys2Proof.Machine
end

