-- ==== Sys2Proof/Machine/TimeOps.lean ====
section
/-!
DEFINITION. Shared operations on the time domains, the presented time, the MDLLs and the reference
paths (09, 11).
-/
namespace Sys2Proof.Machine

/-! ## Domains (R274 to R278) -/

/-- The increment of a counter at one mast clock edge in units of 2^-48 ns: 10 ns x (1 + r x 10^-15),
rounded to the nearest unit (R274); DESIGN CHOICE, assumption 12. -/
def increment (r : Int) : Nat :=
  (((1000000000000000 + r) * 10 * 281474976710656 + 500000000000000) / 1000000000000000).toNat

/-- One mast clock edge of a counter. -/
def Counter.tick (r : Int) (c : Counter) : Counter :=
  let t := c.lsb * 4294967296 + c.hidden.toNat + increment r
  ⟨t / 4294967296 % (281474976710656 * lsbPerSec), BitVec.ofNat 32 t⟩

/-- Change a domain. -/
def updDom (d : Domain) (f : DomainState → DomainState) (s : State) : State :=
  match d with
  | .a => { s with tb := { s.tb with a := f s.tb.a } }
  | .b => { s with tb := { s.tb with b := f s.tb.b } }

/-- The domain OUT_DOMAIN names (R283). -/
def outDomain (s : State) : Domain := domNo (cfg 0x3008 0 s)

/-- OUT_OFFSET: O = D - P (R283). -/
def outOffset (s : State) : Int := ((domOf (outDomain s) s).counter.lsb : Int) - s.tb.p

/-- P steps to its domain: OUT_STEPPED, and the next TOD message says so (R284, R355). -/
def stepP (s : State) : State :=
  setRc 0x20018 0x40 { s with tb := { s.tb with p := (domOf (outDomain s) s).counter.lsb, slewing := false, slewAcc := 0 },
                              refs := { s.refs with todMark := true } }

/-- Judge O after a change of a domain, of OUT_DOMAIN or of the limit: beyond OUT_STEP_LIMIT P steps, at four
LSBs or more it slews (R283, R284). -/
def judgeP (s : State) : State :=
  let o := outOffset s
  if o.natAbs > cfg 0x300A 0 s * 65536 then stepP s
  else { s with tb := { s.tb with slewing := decide (4 ≤ o.natAbs) } }

/-- STEPPED event bit of a domain (R296). -/
def stepBit : Domain → Word
  | .a => 1
  | .b => 2

/-- An applied step of a domain: TIME_EPOCH rises, STEPPED is set, it is logged and counted; pulse-mode
detectors and scheduled sweeps see a step of domain A; P is judged anew (R278, R284, R310, R600). -/
def stepped (d : Domain) (s : State) : State :=
  let s1 := updDom d (fun x => { x with epoch := x.epoch + 1 }) s
  let s2 := logInfo .other 0 (count 0x3012 6 (setRc 0x20018 (stepBit d) s1))
  let s3 := match d with
    | .b => s2
    | .a =>
      { s2 with obs := { s2.obs with stepFlag := true,
                                     slots := s2.obs.slots.map (fun (k, c) => (k, if s2.obs.sweepBusy = some k then { c with stepped := true } else c)) },
                vern := { s2.vern with dets := s2.vern.dets.map (fun (k, x) => (k, if x.lastPulse.isSome then { x with resume := true } else x)) } }
  judgeP s3

/-- A TIME_SET that applies: the value, hidden bits zero (R278). -/
def setTime (d : Domain) (t : Time96) (s : State) : State :=
  stepped d (updDom d (fun x => { x with counter := ⟨lsbOf t, 0⟩, setLast := t }) s)

/-- Whether a TIME_ADJ keeps the domain within 0 to 2^48 seconds (R278). -/
def adjFits (d : Domain) (a : Int) (s : State) : Bool :=
  let n := ((domOf d s).counter.lsb : Int) + a
  decide (0 ≤ n) && decide (n < (281474976710656 * lsbPerSec : Nat))

/-- A TIME_ADJ that fits: zero changes nothing (R278). -/
def adjTime (d : Domain) (a : Int) (s : State) : State :=
  let s1 := updDom d (fun x => { x with adjLast := BitVec.ofInt 64 a }) s
  if a = 0 then s1
  else stepped d (updDom d (fun x => { x with counter := ⟨((x.counter.lsb : Int) + a).toNat, x.counter.hidden⟩ }) s1)

/-- Whether the host owns a domain (R276, R347). -/
def hostOwns (d : Domain) (s : State) : Bool :=
  match d with
  | .a => cfg 0x3210 1 s == 1
  | .b => cfg 0x3210 2 s == 1

/-- Set or clear TRACEABLE of a domain (R277). -/
def setTraceable (d : Domain) (b : Bool) (s : State) : State := updDom d (fun x => { x with traceable := b }) s

/-- One step of the phase stepper is 8 LSBs (R282); slewing is owed at OUT_SLEW ps/s, one mast edge of 10 ns
owing OUT_SLEW x 65,536 units of 10^-11 LSB (R283). -/
def slewTick (s : State) : State :=
  if !s.tb.slewing then s
  else
    let acc := s.tb.slewAcc + cfg 0x3009 0 s * 65536
    if acc < 800000000000 then { s with tb := { s.tb with slewAcc := acc } }
    else
      let o := outOffset s
      let p := if 0 ≤ o then s.tb.p + 8 else s.tb.p - 8
      let s1 := { s with tb := { s.tb with p := p, slewAcc := acc - 800000000000 } }
      { s1 with tb := { s1.tb with slewing := decide (4 ≤ (outOffset s1).natAbs) } }

/-- One mast clock edge: both counters advance, P advances with the domain it follows, the stepper moves
(R274, R283); during a mast fault the counters advance by 10 ns on the jury clock (R288). -/
def mastTick (s : State) : State :=
  if !s.tb.running then { s with now := s.now + 1 }
  else
    let old := (domOf (outDomain s) s).counter.lsb
    let ra := if s.tb.mastOk then s.tb.a.rate else 0
    let rb := if s.tb.mastOk then s.tb.b.rate else 0
    let s1 := { s with now := s.now + 1,
                       tb := { s.tb with a := { s.tb.a with counter := s.tb.a.counter.tick ra },
                                         b := { s.tb.b with counter := s.tb.b.counter.tick rb } } }
    let d : Int := ((domOf (outDomain s1) s1).counter.lsb : Int) - old
    slewTick { s1 with tb := { s1.tb with p := s1.tb.p + d } }

/-! ## Outputs (R29, R291, R351 to R353) -/

/-- Output n. -/
def outp (n : Nat) (s : State) : Output := Tab.get Output.reset n s.refs.outs
/-- Change output n. -/
def updOut (n : Nat) (f : Output → Output) (s : State) : State :=
  { s with refs := { s.refs with outs := Tab.upd Output.reset n f s.refs.outs } }

/-- The outputs are held at 0 V, and TOD with them is idle (R29, R291, R102). -/
def holdOutputs (s : State) : State := { s with pins := { s.pins with outHeld := true } }

/-- The outputs may run again (R292), unless the module's state drives them to 0 V (R36, R102, R105). -/
def freeOutputs (s : State) : State :=
  { s with pins := { s.pins with outHeld := s.life.state == .stopped || s.life.state == .thermalStop || s.life.state == .strapFault } }

/-! ## MDLLs (R285 to R293) -/

/-- MDLL m. -/
def mdll (m : Nat) (s : State) : Mdll := Tab.get Mdll.reset m s.tb.mdlls
/-- Change MDLL m. -/
def updMdll (m : Nat) (f : Mdll → Mdll) (s : State) : State :=
  { s with tb := { s.tb with mdlls := Tab.upd Mdll.reset m f s.tb.mdlls } }

/-- The standby source of MDLL m's domain: the jury clock; for the output MDLL squelched; stopped while
JURY_OK is false (R287, R289); DEDUCED, assumption 61. -/
def standby (m : Nat) (s : State) : ClkSource := if m = 25 then .gated else if s.tb.juryOk then .jury else .gated

/-- MDLL m starts to acquire, its retry count zero (R289). -/
def mdllStart (m : Nat) (waking : Bool) (s : State) : State :=
  updMdll m (fun x => { x with st := .acquiring, retries := 0, source := standby m s, waking := waking }) s

/-- The alarm of a lost MDLL: minor for a tile, major for the core and the output MDLL (R290, R291). -/
def mdllAlarm (m : Nat) : Alarm := if m < 24 then .tileMdll else if m = 24 then .coreMdll else .outMdll

/-- Whether tile t runs on the jury clock outside a wake (R290). -/
def onJury (t : Nat) (s : State) : Bool :=
  let x := mdll t s
  (x.st == .acquiring || x.st == .hold || x.st == .failed) && !x.waking

/-- Event unit u loses its clock: a unit that waits or measures ends with CLOCK_LOST and disarms (R313, R314).
Its record carries STEPPED and CAL_STALE as every record does, and a full queue discards it (R316, R317). A
record without a start edge has a free START (assumption 3). -/
def euClockLost (s : State) (u : Nat) : State :=
  let e := Tab.get Eu.reset u s.vern.eus
  if !e.armed then s
  else
    let d := domNo (if bit ((cfgBytes 0x310B (u + 1) s).getD 3 0).toNat 1 then 1 else 0)
    let ep := (domOf d s).epoch
    let f : BitVec 8 := 0x10 ||| (if ep != e.epochSeen then 0x20 else 0) ||| (if e.calValid then 0 else 0x40)
    let free := Config.freeValue s.draws
    let at0 : Time96 := if e.start.isSome then e.startTime else ⟨BitVec.ofNat 48 free, BitVec.ofNat 32 (free / 2 ^ 48), BitVec.ofNat 16 (free / 2 ^ 80)⟩
    let r : EuRec := ⟨0, at0, e.seq, f, ep <<< 4⟩
    let full := decide (64 ≤ e.queue.length)
    let x := { e with armed := false, start := none, heldStop := none, clockLost := true, seq := e.seq + 1, epochSeen := ep,
                      overflow := e.overflow || full, queue := if full then e.queue else e.queue ++ [r] }
    let s1 := { s with draws := if e.start.isSome then s.draws else s.draws + 1,
                       vern := { s.vern with eus := Tab.put Eu.reset u x s.vern.eus } }
    if full then count 0x3113 8 s1 else s1

/-- What the loss of the output MDLL stops: outputs at 0 V, TOD idle, pulse detectors and detector 200 not
valid, event units disarmed (R291, R310, R313). -/
def outMdllEffects (s : State) : State :=
  let s1 := (List.range 4).foldl euClockLost (detLost 200 (holdOutputs s))
  { s1 with vern := { s1.vern with dets := s1.vern.dets.map (fun (k, x) => (k, if x.lastPulse.isSome then { x with valid := false, resume := true } else x)) } }

/-- MDLL m leaves LOCKED (R289): its domain moves to its standby, MDLL_LOST is set, it is counted. -/
def mdllLose (m : Nat) (s : State) : State :=
  let s1 := updMdll m (fun x => { x with st := .acquiring, source := standby m s, retries := 0, waking := false }) s
  let s2 := raise (mdllAlarm m) m (count 0x3012 1 (setRc 0x20018 4 s1))
  if m = 25 then outMdllEffects s2 else if m = 24 then detLost 201 s2 else s2

/-! ## Slots and paths (R324 to R349) -/

/-- Slot k. -/
def slot (k : Nat) (s : State) : Slot := Tab.get Slot.reset k s.refs.slots
/-- Change slot k. -/
def updSlot (k : Nat) (f : Slot → Slot) (s : State) : State :=
  { s with refs := { s.refs with slots := Tab.upd Slot.reset k f s.refs.slots } }

/-- Path 0 is the frequency path, 1 and 2 the time paths of domains A and B. -/
def path (n : Nat) (s : State) : Path := if n = 0 then s.refs.freq else if n = 1 then s.refs.timeA else s.refs.timeB
/-- Change a path. -/
def updPath (n : Nat) (f : Path → Path) (s : State) : State :=
  if n = 0 then { s with refs := { s.refs with freq := f s.refs.freq } }
  else if n = 1 then { s with refs := { s.refs with timeA := f s.refs.timeA } }
  else { s with refs := { s.refs with timeB := f s.refs.timeB } }

/-- Coding of a path state (R356). -/
def PathSt.code : PathSt → Nat
  | .free => 0 | .acquiring => 1 | .locked => 2 | .holdover => 3 | .lost => 4 | .host => 5

/-- Coding of a qualification state (R356). -/
def Qual.code : Qual → Nat
  | .disabled => 0 | .qualifying => 1 | .qualified => 2 | .holdOff => 3 | .failed => 4 | .waitRestore => 5

/-- The shroud link of a channel (R513); DEDUCED, assumption 136. -/
def shroudLink (c : Nat) (s : State) : Option Nat := if cfg 0x4401 1 s = c then some 0 else if cfg 0x4401 2 s = c then some 1 else none

/-- ESMC runs on a channel: ESMC_ENABLE, which has no effect on a shroud channel (R330, R513). -/
def esmcOn (c : Nat) (s : State) : Bool := cfgB 0x320A (c + 1) s && (shroudLink c s).isNone

/-- The channel a slot of 6 to 15 takes (R324). -/
def slotChan (k : Nat) (s : State) : Option Nat :=
  if 6 ≤ k ∧ cfg 0x3201 (k + 1) s < 192 then some (cfg 0x3201 (k + 1) s) else none

/-- The detector of a slot (R324). -/
def slotDet (k : Nat) (s : State) : Option Nat :=
  if k < 4 then some (192 + k) else if k = 4 then some 204 else if k = 5 then some 205 else slotChan k s

/-- A path is ready for holdover: the frequency path by HOLDOVER_READY, a time path also while the
frequency path is LOCKED (R336). -/
def readyFor (n : Nat) (s : State) : Bool :=
  s.refs.ready || (n != 0 && s.refs.freq.st == .locked)

/-- The domain of a time path. -/
def pathDom (n : Nat) : Domain := if n = 2 then .b else .a

/-- A path enters FREE: the frequency path goes to its stored estimate, a time path clears RATE_ADJ and
TRACEABLE (R336, R344). -/
def pathFree (n : Nat) (s : State) : State :=
  let s1 := endAlarm .holdoverLost n <| updPath n (fun p => { p with st := .free, slot := none, bridging := false, switching := none, bound := 0, fromHold := false, holdSec := 0 }) s
  if n = 0 then { s1 with refs := { s1.refs with steer := s1.refs.stored } }
  else setTraceable (pathDom n) false (updDom (pathDom n) (fun d => { d with rate := 0 }) s1)

/-- A path enters HOLDOVER: counted, HOLDOVER_ENTERED (R336, R356). -/
def pathHoldover (n : Nat) (err : Int) (s : State) : State :=
  let enter (p : Path) : Path :=
    { p with st := .holdover, slot := none, bridging := false, switching := none, bound := 0, holdSec := 0,
             eHold := if p.bridging then p.eHold else err }
  count 0x3225 2 (setRc 0x40018 2 (updPath n enter s))

/-- A path enters HOLDOVER if it is ready, FREE otherwise (R336). -/
def pathOut (n : Nat) (err : Int) (s : State) : State := if readyFor n s then pathHoldover n err s else pathFree n s

/-- The QL in force of a slot (R331): SLOT_QL for an input and for a channel without ESMC, else what ESMC or
the mate gave. -/
def qlOf (k : Nat) (s : State) : Nat :=
  if k < 4 then cfg 0x3204 (k + 1) s
  else if k < 6 then (slot k s).ql
  else match slotChan k s with
    | some c => if esmcOn c s then (slot k s).ql else cfg 0x3204 (k + 1) s
    | none => cfg 0x3204 (k + 1) s

/-- The class in force of a slot (R333): the Halyard engine's for a channel slot, the heartbeat's for a
mate slot (R518), else SLOT_CLASS. -/
def clsOf (k : Nat) (s : State) : Nat := if 4 ≤ k then (slot k s).cls else cfg 0x3205 (k + 1) s

/-- The QL the module sends on a channel (R332): DNU on the selected slot's channel, the selected slot's QL
while LOCKED, QL-eEEC otherwise. -/
def txQlOf (c : Nat) (s : State) : Nat :=
  let p := s.refs.freq
  match p.slot with
  | none => 7
  | some k =>
    if p.st == .locked then (if slotChan k s = some c then 15 else qlOf k s) else if slotChan k s = some c then 15 else 7

/-- Send an event PDU on every enabled channel whose QL changed (R332). -/
def esmcEvents (s : State) : State :=
  (List.range 192).foldl (fun s c =>
    let q := txQlOf c s
    if esmcOn c s && (cod c s).stage == 6 && Tab.get 7 c s.refs.txQl != q then
      emit .esmc c [1, q] (setRc 0x40018 0x20 { s with refs := { s.refs with txQl := Tab.put 7 c q s.refs.txQl } })
    else s) s

/-- A qualification fails with a reason (R329). -/
def failQ (r : Nat) (q : Qualif) : Qualif := if q.st = .disabled then q else ⟨.failed, r⟩

end Sys2Proof.Machine
end

