-- ==== Sys2Proof/Machine/PtpOps.lean ====
section
/-!
DEFINITION. Shared operations of the Halyard engine and telecom PTP: ports, datasets, keys, stamps,
asymmetry (12).
-/
namespace Sys2Proof.Machine

/-- Number of an instance: 0 Halyard, 1 telecom. -/
def instNo : PtpInst → Nat
  | .halyard => 0
  | .telecom => 1

/-- The port of instance i on channel c. -/
def port (c i : Nat) (s : State) : PtpPort := Tab.get PtpPort.reset (c * 2 + i) s.ptp.ports
/-- Change a port. -/
def updPort (c i : Nat) (f : PtpPort → PtpPort) (s : State) : State :=
  { s with ptp := { s.ptp with ports := Tab.upd PtpPort.reset (c * 2 + i) f s.ptp.ports } }
/-- The asymmetry estimate of channel c. -/
def asym (c : Nat) (s : State) : Asym := Tab.get Asym.reset c s.ptp.asyms
/-- Change an estimate. -/
def updAsym (c : Nat) (f : Asym → Asym) (s : State) : State :=
  { s with ptp := { s.ptp with asyms := Tab.upd Asym.reset c f s.ptp.asyms } }
/-- The time stamp unit of tile t. -/
def tsu (t : Nat) (s : State) : Tsu := Tab.get Tsu.reset t s.ptp.tsus
/-- Change a time stamp unit. -/
def updTsu (t : Nat) (f : Tsu → Tsu) (s : State) : State :=
  { s with ptp := { s.ptp with tsus := Tab.upd Tsu.reset t f s.ptp.tsus } }

/-- An instance runs on a channel by its PTP_MODE, which has no effect on a shroud channel (R359, R513). -/
def instOn (c i : Nat) (s : State) : Bool := bit (cfg 0x3300 (c + 1) s) i && (shroudLink c s).isNone

/-- The module time domain an instance serves (R359). -/
def instDom (i : Nat) (s : State) : Domain := domNo (cfg 0x3302 (i + 1) s)

/-- The interval of 2^-n s in mast periods, for an interval object with the value -n. -/
def interval (i : Nat) (s : State) : Nat := 100000000 / 2 ^ (-(cfgI 1 0x3303 (i + 1) s)).toNat

/-- The Spar engine that serves a channel's tile fails to do so while its role migrates (R99, R359). -/
def engineMigrates (c : Nat) (s : State) : Bool :=
  let e := s.ptp.engines.getD (tileOf c / 8) 16
  s.life.migrating.any (fun m => m.role == .halyard && m.failedE == e)

/-- A transmit stamp of a channel is fine-invalid: its tile is on the jury clock or the helper is not locked
(R367). -/
def txCoarse (c : Nat) (s : State) : Bool := (mdll (tileOf c) s).source != .mdll || !s.vern.helperLocked
/-- A receive stamp also while its channel's detector is not valid. -/
def rxCoarse (c : Nat) (s : State) : Bool := txCoarse c s || !(det c s).valid

/-- The transmit reference lane of a channel: the lowest-numbered lane that carries data (R365). -/
def txRef (c : Nat) (s : State) : Nat := lowestLane (cod c s).txLanes % 4
/-- The receive reference lane: the detector's (R366). -/
def rxRef (c : Nat) (s : State) : Nat := (det c s).lane % 4

/-! ## Reference time and keys (R550, R565, R566) -/

/-- The island clock now in 1/32,768 s (R539). -/
def islandClock (s : State) : Nat := s.trust.clock + (s.now - s.trust.clockAt) * 32768 / 100000000

/-- The reference time in TAI seconds: domain A while traceable, else the island clock while valid (R550). -/
def refTime (s : State) : Option Nat :=
  if s.tb.a.traceable then some (domA s / lsbPerSec) else if s.trust.clockOk then some (islandClock s / 32768) else none

/-- The installed keys of an instance. -/
def keysOf (i : Nat) (s : State) : List HalKey := (s.trust.halKeys.map (fun p => p.2)).filter (fun k => bit k.mask.toNat i)

/-- Of two keys the one with the later START, for equal STARTs the higher keyID. -/
def laterKey (a b : HalKey) : HalKey :=
  if b.start < a.start ∨ (a.start = b.start ∧ b.id.toNat < a.id.toNat) then a else b

/-- The latest key of a list. -/
def latestKey : List HalKey → Option HalKey
  | [] => none
  | k :: l => match latestKey l with
    | none => some k
    | some j => some (laterKey k j)

/-- The two latest keys of a list. -/
def latestTwo (l : List HalKey) : List HalKey :=
  match latestKey l with
  | none => []
  | some k => match latestKey (l.filter (fun j => j.id != k.id)) with
    | none => [k]
    | some j => [k, j]

/-- The key an instance sends with (R566). -/
def sendKey (i : Nat) (s : State) : Option HalKey :=
  match refTime s with
  | some t => latestKey ((keysOf i s).filter (fun k => decide (k.start ≤ t) && (k.end_ == 0 || decide (t < k.end_))))
  | none =>
    match (keysOf i s).find? (fun k => decide (Tab.find i s.ptp.lastKey = some k.id)) with
    | some k => some k
    | none => latestKey (keysOf i s)

/-- The keys an instance accepts (R566). -/
def acceptKeys (i : Nat) (s : State) : List HalKey :=
  match refTime s with
  | some t => latestTwo ((keysOf i s).filter (fun k => decide (k.start ≤ t + 60) && (k.end_ == 0 || decide (t < k.end_ + 60))))
  | none => latestTwo (keysOf i s)

/-- AUTH_MODE of an instance. -/
def authMode (i : Nat) (s : State) : Nat := cfg 0x330D (i + 1) s

/-- A port cannot run: no common version, or mode 2 without a usable key (R380); DEDUCED, assumption 70. -/
def portFault (c i : Nat) (s : State) : Bool :=
  (i == 0 && (port c i s).noVersion) || (authMode i s == 2 && (sendKey i s).isNone)

/-! ## Messages (R364, R372, R389) -/

/-- The next sequenceId of a message type on a port, and the port after it (R364). -/
def seqOf (c i ty : Nat) (s : State) : BitVec 16 := Tab.get 0 ty (port c i s).seqs
/-- Advance a sequenceId. -/
def seqNext (c i ty : Nat) (s : State) : State :=
  updPort c i (fun p => { p with seqs := Tab.put 0 ty (Tab.get 0 ty p.seqs + 1) p.seqs }) s

/-- The keyID a message carries, 0 for no TLV (R389). -/
def sentKey (i : Nat) (s : State) : Nat :=
  if authMode i s = 0 then 0 else match sendKey i s with
    | some k => k.id.toNat
    | none => 0

/-- Remember the key last sent with (R566). -/
def noteKey (i : Nat) (s : State) : State :=
  if authMode i s = 0 then s else match sendKey i s with
    | some k => { s with ptp := { s.ptp with lastKey := Tab.put 0 i k.id s.ptp.lastKey } }
    | none => s

/-- Send a PTP message on the control path: the instance, its sequenceId, TIME_EPOCH and the fine-invalid flag,
the key, then its own fields (R364). -/
def sendPtp (k : EmitKind) (c i ty : Nat) (coarse : Bool) (f : List Int) (s : State) : State :=
  let ep := (domOf (instDom i s) s).epoch.toNat % 16
  let h : List Int := [i, (seqOf c i ty s).toNat, ep, if coarse then 1 else 0, sentKey i s]
  seqNext c i ty (noteKey i (emit k c (h ++ f) s))

/-- The band a channel sends on, coded as HELLO and SKEW code it: 1 lower, 2 upper (R372, R373). -/
def bandNo (up : Bool) : Int := if up then 2 else 1

/-- The data of HELLO (R372): versions, FLAGS, channel, reference lanes, band, lanes. -/
def helloData (c : Nat) (s : State) : List Int :=
  let frozen := !(cfg 0x330E (c + 1) s == 1 || (cod c s).peerFam == 2) && (asym c s).st == 2
  let flags : Nat := 3 + (if rxCoarse c s then 0 else 4) + (if s.power.level = 4 then 8 else 0) + (if frozen then 16 else 0)
  [(halyardMax s : Int), halyardMin s, (port c 0 s).version, flags, c, txRef c s, rxRef c s, bandNo ((opt c s).band == .upper),
    (cod c s).txLanes.toNat, (cod c s).rxLanes.toNat]

/-! ## Port states (R380) -/


/-- A port is suspended by the state of the module (R380). -/
def mustSuspend (c : Nat) (s : State) : Bool := onJury (tileOf c) s || s.life.state == .restarting || engineMigrates c s

/-- A port voids what it has in progress. -/
def PtpPort.void (p : PtpPort) : PtpPort := { p with ex := Exchange.none, reqs := [], pd := Exchange.none }

/-- Settle a port that is not DISABLED: FAULTY with its alarm, SUSPENDED, or back to LISTENING when the cause is
gone (R380). -/
def settlePort (c i : Nat) (s : State) : State :=
  let p := port c i s
  if p.st = .disabled then s
  else if portFault c i s then
    (if p.st = .faulty then s else raise .halyardFaulty (c * 2 + i) (updPort c i (fun p => { p.void with st := .faulty, annRun := 0, annOk := false }) s))
  else if mustSuspend c s then
    let s1 := if p.st = .faulty then endAlarm .halyardFaulty (c * 2 + i) s else s
    updPort c i (fun p => { p.void with st := .suspended, annRun := 0, annOk := false, goodN := 0 }) s1
  else if p.st = .faulty then endAlarm .halyardFaulty (c * 2 + i) (updPort c i (fun p => { p with st := .listening }) s)
  else if p.st = .suspended then updPort c i (fun p => { p with st := .listening }) s
  else s

/-- A port leaves DISABLED, or stays where it is, by whether its channel is up and its instance runs on it; the
first Signaling of Halyard carries HELLO (R372, R380). -/
def enablePort (c i : Nat) (s : State) : State :=
  let want := (cod c s).stage == 6 && instOn c i s && decide (s.life.shutStep < 3)
  if want && (port c i s).st == .disabled then
    let s1 := updPort c i (fun p => { PtpPort.reset with st := .listening, seqs := p.seqs, heard := p.heard }) s
    let s2 := settlePort c i s1
    if i = 0 ∧ (port c i s2).st = .listening then sendPtp .signaling c 0 12 (txCoarse c s2) (1 :: helloData c s2) s2 else s2
  else if !want && (port c i s).st != .disabled then
    endAlarm .halyardFaulty (c * 2 + i) (updPort c i (fun p => { PtpPort.reset with seqs := p.seqs, heard := p.heard }) s)
  else s

/-- Settle the ports of a list of channels. -/
def settlePorts (cs : List Nat) (s : State) : State := cs.foldl (fun s c => settlePort c 1 (settlePort c 0 s)) s

/-! ## Asymmetry (R382 to R388) -/

/-- Nominal wavelengths of the lanes in pm, lower band then upper (R217); DEDUCED, assumption 16. -/
def nominalWave (b : Band) (k : Nat) : Nat :=
  if b = .upper then [1295560, 1300050, 1304580, 1309140].getD k 1295560 else [1273540, 1277890, 1282260, 1286660].getD k 1273540

/-- The calibrated wavelength of transmit lane k in pm (R373, R384): the nominal one plus what the factory measured of its laser, or
plus the locker's error where the spare serves the lane; DESIGN CHOICE, assumption 16. -/
def ownWave (c k : Nat) (s : State) : Nat :=
  let b := (opt c s).band
  let j := if b = .upper then 4 + k else k
  let sp := spareOf j (eng (tileOf c) s)
  let d : Int := if sp.st == .inUse && sp.target == k then sp.wlError.toInt else Tab.get 0 (tileOf c * 8 + j) s.factory.waves
  ((nominalWave b k : Int) + d).toNat

/-- ASYM_MODE in force: a KV0480 peer makes 0 act as 1 (R388). -/
def asymFixed (c : Nat) (s : State) : Bool := cfg 0x330E (c + 1) s == 1 || (cod c s).peerFam == 2

/-- STATE of ASYM_RESULT: 0 none, 1 current, 2 frozen, 3 fixed. -/
def asymState (c : Nat) (s : State) : Nat := if asymFixed c s then 3 else (asym c s).st

/-- delayAsymmetry in force (R378, R387). -/
def delayAsym (c : Nat) (s : State) : Int := if asymFixed c s then cfgI 4 0x330F (c + 1) s else slewVal 2 c s

/-- The delay difference between two wavelengths in 2^-16 ns: a (x² - y²) + b (1/x² - 1/y²) with b = a λ0⁴,
a in 10^-7 ps/nm², wavelengths in pm (R382, R386). -/
def tauDiff (a lam0 x y : Nat) : Int :=
  let xx : Int := x * x
  let yy : Int := y * y
  let l4 : Int := lam0 * lam0 * lam0 * lam0
  if x = 0 ∨ y = 0 then 0 else (a : Int) * (xx - yy) * (xx * yy - l4) * 65536 / (10000000000000000 * xx * yy)

/-- Wavelength of the peer's transmit lane k: by its SKEW TLV, else nominal (R384). -/
def peerWave (c k : Nat) (s : State) : Nat :=
  let other : Band := if (opt c s).band = .upper then .lower else .upper
  match (asym c s).peer with
  | some p => p.wave.getD k (nominalWave other k)
  | none => nominalWave other k

/-- This end's out-minus-in difference by the fit in force (R386). -/
def outMinusIn (c : Nat) (s : State) : Int :=
  tauDiff (asym c s).a (asym c s).lam0 (ownWave c (txRef c s) s) (peerWave c (rxRef c s) s)

/-- delayAsymmetry that the fit in force gives: minus half this end's own difference (R386). -/
def fitAsym (c : Nat) (s : State) : Int := -(outMinusIn c s) / 2

/-- A direction runs on fewer than four lanes, or the channel is down: a current estimate freezes (R388). -/
def freezeAsym (c : Nat) (s : State) : State :=
  let d := cod c s
  let full := d.stage == 6 && d.txLanes == 0xF#4 && d.rxLanes == 0xF#4 && d.rxFault == 0 && s.power.level != 4
  let a := asym c s
  if a.st = 1 ∧ !full then updAsym c (fun a => { a with st := 2 }) s else s

/-- A change of either reference lane applies the delay difference of the fit at once (R387). -/
def relaneAsym (c : Nat) (s : State) : State :=
  if (asym c s).st = 0 then s else stepSlew 2 c (fitAsym c s) s

/-! ## Shroud links (R513, R514) -/

/-- The channel of shroud link j, if one is named. -/
def linkChan (j : Nat) (s : State) : Option Nat := if cfg 0x4401 (j + 1) s < 192 then some (cfg 0x4401 (j + 1) s) else none

/-- Shroud link j. -/
def link (j : Nat) (s : State) : ShroudLink := if j = 0 then s.pair.link0 else s.pair.link1
/-- Change a shroud link. -/
def updLink (j : Nat) (f : ShroudLink → ShroudLink) (s : State) : State :=
  if j = 0 then { s with pair := { s.pair with link0 := f s.pair.link0 } } else { s with pair := { s.pair with link1 := f s.pair.link1 } }

/-- The channel of link j is in stage 6. -/
def linkLit (j : Nat) (s : State) : Bool := (linkChan j s).any (fun c => (cod c s).stage == 6)

/-- Shroud link j is up (R514). -/
def linkUp (j : Nat) (s : State) : Bool :=
  linkLit j s && (link j s).hello && !(link j s).miscabled && (link j s).version != 0 && (link j s).beat

/-- The shroud is up: SHROUD_UP (R194, R514). -/
def shroudUp (s : State) : Bool := linkUp 0 s || linkUp 1 s

/-! ## The mate as a source (R327, R512, R517, R524) -/

/-- Slots 4 and 5 have a source: a mate is paired and its shroud heartbeat is present. -/
def mateSource (s : State) : Bool := s.pair.role != .unpaired && s.pair.shroudHb

/-- The exchanges of link j in the last second (R517). -/
def mateOffs (j : Nat) (s : State) : List (Nat × Nat × Int × Int) := s.pair.offs.filter (fun x => x.1 == j && decide (s.now ≤ x.2.1 + 100000000))

/-- The time error of slot 4 + j is available: the shroud is up, 16 exchanges of the last second were valid, and the
link's tile is off the jury clock (R327, R517, R533). -/
def mateTime (j : Nat) (s : State) : Bool :=
  shroudUp s && mateSource s && decide (16 ≤ (mateOffs j s).length)
    && (match linkChan j s with
        | some c => !onJury (tileOf c) s
        | none => false)

/-- A slot that an active module never selects (R512). -/
def mateBarred (k : Nat) (s : State) : Bool := (k == 4 || k == 5) && s.pair.role == .active

/-- A time path follows slot 4 or 5: its domain's TRACEABLE is the checkpoint's (R512). -/
def mateFollows (n : Nat) (s : State) : Bool := (path n s).slot == some 4 || (path n s).slot == some 5

/-- TRACEABLE of the domains of paths that follow the mate (R512). -/
def followTrace (s : State) : State :=
  let s1 := if mateFollows 1 s then setTraceable .a s.pair.mateTraceA s else s
  if mateFollows 2 s then setTraceable .b s.pair.mateTraceB s1 else s1

/-- What a takeover seeded for a domain, while its path has selected no channel slot (R530). -/
def seedOf (d : Domain) (s : State) : Option Seed :=
  if s.pair.role != .active then none
  else match d with
    | .a => s.pair.seedA
    | .b => s.pair.seedB

/-! ## Datasets (R381, R391, R393) -/

/-- The instance from which a channel slot takes its time (R360). -/
def slotInst (c : Nat) (s : State) : Nat := if instOn c 0 s then 0 else 1

/-- The time path of a domain. -/
def domPath (d : Domain) (s : State) : Path := match d with
  | .a => s.refs.timeA
  | .b => s.refs.timeB

/-- TIME_PROPERTIES of a domain as offset, flags and source. -/
def ownProps (d : Domain) (s : State) : BitVec 16 × BitVec 8 × BitVec 8 :=
  let b := cfgBytes 0x3318 (if d = .a then 1 else 2) s
  (BitVec.ofNat 16 (leNat (b.take 2)), b.getD 2 0, b.getD 3 0)

/-- The time properties of a domain: of the Announce on the selected channel slot, else TIME_PROPERTIES (R393). -/
def timeProps (d : Domain) (s : State) : BitVec 16 × BitVec 8 × BitVec 8 :=
  match (domPath d s).slot.bind (fun k => slotChan k s) with
  | none => match seedOf d s with
    | some x => x.props
    | none => ownProps d s
  | some c => match (port c (slotInst c s) s).ann with
    | some a => (a.utc, a.flags, a.src)
    | none => ownProps d s

/-- The own dataset of an instance (R381). -/
def ownDs (i : Nat) (s : State) : Announce :=
  let d := instDom i s
  let p := domPath d s
  let pr := timeProps d s
  let seed := seedOf d s
  let mk (cls : Nat) : Announce :=
    ⟨(seed.map (·.gm)).getD s.factory.clockId, BitVec.ofNat 8 cls, BitVec.ofNat 8 (cfg 0x3308 (i + 1) s), (seed.map (·.steps)).getD 0,
      pr.1, pr.2.1, pr.2.2, none⟩
  let lim := cfg 0x3319 0 s * 1000
  match p.st with
  | .host => mk (cfg 0x331C (i + 1) s)
  | .holdover => mk (if p.bound ≤ lim then 135 else 165)
  | .lost => mk 165
  | .locked => match p.slot with
    | some k => match slotChan k s with
      | some c => match (port c (slotInst c s) s).ann with
        | some a => { a with steps := a.steps + 1, utc := pr.1, flags := pr.2.1, src := pr.2.2, hello := none }
        | none => mk 248
      | none => mk (clsOf k s)
    | none => mk 248
  | _ => mk 248

/-- Compare two lists of numbers in order; the lower is better. -/
def lexLt : List Nat → List Nat → Bool
  | a :: l, b :: m => if a < b then true else if b < a then false else lexLt l m
  | _, _ => false

/-- The keys of a dataset in the order of the alternate BMCA: class, priority2, local priority, then steps before
identity for a class of at most 127, identity before steps above it, and the sender last; PRESUMED, assumption 17. -/
def dsKeys (a : Announce) (localPrio : Nat) (sender : BitVec 64) : List Nat :=
  let tail := if a.cls.toNat ≤ 127 then [a.steps.toNat, a.gm.toNat] else [a.gm.toNat, a.steps.toNat]
  [a.cls.toNat, a.prio2.toNat, localPrio] ++ tail ++ [sender.toNat]

/-- The received Announce of a port is better than the own dataset. -/
def annBetter (c i : Nat) (s : State) : Bool :=
  let p := port c i s
  match p.ann with
  | some a =>
    p.annOk && lexLt (dsKeys a (cfg 0x3309 (c + 1) s) p.peerId) (dsKeys (ownDs i s) (cfg 0x3309 (c + 1) s) s.factory.clockId)
  | none => false

/-- LISTENING, MASTER and PASSIVE follow the comparison (R380); `lapsed` says ANNOUNCE_TIMEOUT intervals have
passed without a qualified Announce. -/
def comparePort (c i : Nat) (lapsed : Bool) (s : State) : State :=
  let p := port c i s
  let b := annBetter c i s && !cfgB 0x330A (c + 1) s
  match p.st with
  | .listening =>
    if b then updPort c i (fun p => { p with st := .passive }) s
    else if lapsed || p.annOk || cfgB 0x330A (c + 1) s then updPort c i (fun p => { p with st := .master }) s
    else s
  | .master => if b then updPort c i (fun p => { p with st := .passive }) s else s
  | .passive => if b then s else updPort c i (fun p => { p with st := .master }) s
  | _ => s

/-! ## Offsets and slots (R360, R378, R379) -/

/-- The offset of a port is valid: a quarter of the exchanges expected in the last second were valid, and an
asymmetry is in force (R379). -/
def offsetValid (c i : Nat) (s : State) : Bool :=
  let p := port c i s
  let n := (p.recent.filter (fun x => decide (s.now ≤ x.1 + 100000000))).length
  (p.st == .passive || p.st == .uncalibrated || p.st == .slave) && asymState c s != 0
    && decide (100000000 / interval i s ≤ 4 * n)

/-- A slot has a time error to offer (R327, R360): a channel slot while its channel is up, no shroud channel (R513), and its
offset valid, a mate slot while the shroud gives one, a phase slot from its pulses. -/
def slotTime (k : Nat) (s : State) : Bool :=
  match slotChan k s with
  | some c => (cod c s).stage == 6 && cfg 0x3300 (c + 1) s != 0 && (shroudLink c s).isNone && offsetValid c (slotInst c s) s
  | none => if k = 4 ∨ k = 5 then mateTime (k - 4) s else (slot k s).present

/-- A slot serves the domain of a time path (R360). -/
def slotServes (n k : Nat) (s : State) : Bool :=
  match slotChan k s with
  | some c => decide (instDom (slotInst c s) s = pathDom n)
  | none => true

/-- A valid offset becomes the time error of the slots of its channel (R379): source minus domain. -/
def offerOffset (c i : Nat) (off : Int) (s : State) : State :=
  if slotInst c s != i then s
  else (List.range 16).foldl (fun s k =>
    if slotChan k s = some c then
      updSlot k (fun x => match instDom i s with
        | .a => { x with timeErr := -off }
        | .b => { x with timeErrB := -off }) s
    else s) s

/-- The class of the slots of a channel: of its latest qualified Announce, 255 without one (R381). -/
def offerClass (c : Nat) (s : State) : State :=
  let p := port c (slotInst c s) s
  let v := match p.ann with
    | some a => if p.annOk then a.cls.toNat else 255
    | none => 255
  (List.range 16).foldl (fun s k => if slotChan k s = some c then updSlot k (fun x => { x with cls := v }) s else s) s

/-- The selected slot of a time path makes its channel's port UNCALIBRATED; one no longer selected goes to MASTER
or PASSIVE (R380). -/
def selectPort (c i : Nat) (s : State) : State :=
  let p := port c i s
  let sel := slotInst c s == i && (match (domPath (instDom i s) s).slot with
    | some k => slotChan k s == some c
    | none => false)
  match p.st with
  | .listening => if sel then updPort c i (fun p => { p with st := .uncalibrated, goodN := 0 }) s else comparePort c i false s
  | .master => if sel then updPort c i (fun p => { p with st := .uncalibrated, goodN := 0 }) s else comparePort c i false s
  | .passive => if sel then updPort c i (fun p => { p with st := .uncalibrated, goodN := 0 }) s else comparePort c i false s
  | .uncalibrated => if sel then s else updPort c i (fun p => { p with st := if annBetter c i s then .passive else .master }) s
  | .slave => if sel then s else updPort c i (fun p => { p with st := if annBetter c i s then .passive else .master }) s
  | _ => s

/-- Every port that is not DISABLED follows the selection and the datasets. -/
def selectPorts (s : State) : State :=
  (s.ptp.ports.map (fun p => p.1)).foldl (fun s n => selectPort (n / 2) (n % 2) s) s

end Sys2Proof.Machine
end

