-- ==== Sys2Proof/Machine/CalOps.lean ====
section
/-!
DEFINITION. Shared operations of the calibration role: due runs, preconditions, runs and their outcomes,
records (13).
-/
namespace Sys2Proof.Machine

/-- Change a unit's tables. -/
def updUnit (u : Nat) (f : Eu → Eu) (s : State) : State :=
  { s with vern := { s.vern with eus := Tab.upd Eu.reset u f s.vern.eus } }
/-- Event unit u. -/
def unit (u : Nat) (s : State) : Eu := Tab.get Eu.reset u s.vern.eus
/-- What calibration holds of lane 4c + k. -/
def laneCal (n : Nat) (s : State) : LaneCal := Tab.get LaneCal.reset n s.cal.lanes
/-- Change a lane. -/
def updLane (n : Nat) (f : LaneCal → LaneCal) (s : State) : State :=
  { s with cal := { s.cal with lanes := Tab.upd LaneCal.reset n f s.cal.lanes } }

/-- A run of a kind and instance is in progress. -/
def calRuns (kind inst : Nat) (s : State) : Bool := s.cal.runs.any (fun r => r.kind == kind && r.inst == inst)

/-- A run becomes due, unless it is due or in progress already (R383, R319), or is of kind 2 on a shroud channel (R513). -/
def makeDue (kind inst : Nat) (s : State) : State :=
  if s.cal.due.any (fun d => d.kind == kind && d.inst == inst) || (kind == 2 && (shroudLink inst s).isSome) then s
  else { s with cal := { s.cal with due := s.cal.due ++ [⟨kind, inst, s.now⟩],
                                    dueSince := if (Tab.find (calKey kind inst) s.cal.dueSince).isSome then s.cal.dueSince
                                                else Tab.set (calKey kind inst) (s.now + 1) s.cal.dueSince } }

/-- Put an outcome into CAL_LOG (R404): the last 64, newest first. -/
def logCal (r : CalLog) (s : State) : State := { s with cal := { s.cal with log := (r :: s.cal.log).take 64 } }

/-- The units a run books: kind 3 books its lane's entry with the run's (R400). -/
def runUnits (kind : Nat) : Nat := if kind = 3 then 5 else 3

/-- A run leaves the runs in progress: its grant is released and what it used is free again. -/
def endRun (kind inst : Nat) (s : State) : State :=
  let s1 := setEntry cCal (calKey kind inst) 0 0 { s with cal := { s.cal with runs := s.cal.runs.filter (fun r => !(r.kind == kind && r.inst == inst)) } }
  if kind = 1 then updUnit inst (fun e => { e with calRunning := false }) s1
  else if kind = 3 then bookLanes (inst / 4) s1
  else s1

/-- Discard a run with a reason code (R404, R405). -/
def discardRun (reason : Nat) (r : CalRun) (s : State) : State :=
  let s1 := endRun r.kind r.inst s
  let s2 := logCal ⟨r.start, (s.now - r.at_) / 100000, r.kind, 2, reason, r.inst, 0, 0⟩ s1
  logInfo .calOutcome (calKey r.kind r.inst) (count 0x340F 3 s2)

/-- Discard the runs a test names. -/
def discardRuns (reason : Nat) (f : CalRun → Bool) (s : State) : State :=
  (s.cal.runs.filter f).foldl (fun s r => discardRun reason r s) s

/-- The channel a run of kind 2 or 3 uses. -/
def runChan (kind inst : Nat) : Option Nat := if kind = 2 then some inst else if kind = 3 then some (inst / 4) else none

/-- A run holds a channel unfurled, or a peer's hold does (R261, R374, R402). -/
def chanHeld (c : Nat) (s : State) : Bool :=
  calRuns 2 c s || (port c 0 s).holdOut != 0

/-- The runs of a channel are preempted: an unfurl, a forced furl or level 4 (R401, R402). -/
def preempt (c : Nat) (s : State) : State := discardRuns 0x24 (fun r => runChan r.kind r.inst == some c) s

/-- A kind is enabled (R398). -/
def calEnabled (kind : Nat) (s : State) : Bool := kind == 2 || bit (cfg 0x3400 0 s) (kind - 1)

/-- A lane sleeps in both directions, or its channel is outside stage 6 with its bank lit and no band being
resolved (R397, R400, R401). -/
def laneGap (n : Nat) (s : State) : Bool :=
  let c := n / 4
  let d := cod c s
  let st := (opt c s).bandState
  if d.stage = 6 then !d.txLanes.getLsbD (n % 4) && !d.rxLanes.getLsbD (n % 4) && !d.announced && !d.rxAnn
  else (eng (tileOf c) s).bank == .lit && (st == .listen || st == .backoff || st == .disabled)

/-- The first precondition of R403 that the module's state shows as failing for a run, of those the kind has; 0
for none. Numbers 2, 3 and 9 rest on measurements and are the caller's. -/
def calFails (kind inst : Nat) (s : State) : Nat :=
  let c := (runChan kind inst).getD 0
  let d := cod c s
  if kind = 2 ∧ (d.stage ≠ 6 ∨ d.txLanes ≠ 0xF#4 ∨ d.rxLanes ≠ 0xF#4 ∨ d.rxFault ≠ 0 ∨ (port c 0 s).holdIn = 0) then 4
  else if (kind = 2 ∨ kind = 3) ∧ txCoarse c s then 5
  else if !s.vern.helperLocked || !s.tb.mastOk || (mdll 25 s).st != .locked then 6
  else if kind = 1 ∧ ((unit inst s).armed || (unit inst s).calRunning) then 7
  else if (kind = 2 ∨ kind = 3) ∧ (looped c s || d.stage == 7) then 8
  else 0

/-- A resource a run needs is in use: the roving detectors carry one run of kind 2 or 3, and four runs proceed at
once (R399). -/
def calBusy (kind : Nat) (s : State) : Bool :=
  decide (4 ≤ s.cal.runs.length) || ((kind == 2 || kind == 3) && s.cal.runs.any (fun r => r.kind == 2 || r.kind == 3))

/-- Start a run: the calibration entry is booked, and it is no longer due (R397). -/
def startRun (kind inst : Nat) (s : State) : State :=
  let s1 := setEntry cCal (calKey kind inst) 1 (runUnits kind) s
  let s2 := { s1 with cal := { s1.cal with runs := s1.cal.runs ++ [⟨kind, inst, timeA s, s.now⟩],
                                           due := s1.cal.due.filter (fun d => !(d.kind == kind && d.inst == inst)),
                                           deferred := Tab.erase (calKey kind inst) s1.cal.deferred } }
  let s3 := if kind = 1 then updUnit inst (fun e => { e with calRunning := true }) s2 else s2
  countGrant s3

/-- Defer a due run with a reason code; a deferral that stands is not logged again (R404). -/
def deferRun (kind inst reason : Nat) (s : State) : State :=
  if Tab.find (calKey kind inst) s.cal.deferred = some reason then s
  else
    let s1 := { s with cal := { s.cal with deferred := Tab.set (calKey kind inst) reason s.cal.deferred } }
    logInfo .calOutcome (calKey kind inst) (count 0x340F 2 (logCal ⟨timeA s, 0, kind, 1, reason, inst, 0, 0⟩ s1))

/-- A run is accepted: logged, counted, its next due counts from now, its overdue alarm ends, its record waits
(R404, R406, R419). -/
def acceptRun (kind inst samples resid : Nat) (s : State) : State :=
  let r := (s.cal.runs.find? (fun r => r.kind == kind && r.inst == inst)).getD ⟨kind, inst, timeA s, s.now⟩
  let s1 := endRun kind inst s
  let s2 := { s1 with cal := { s1.cal with lastOk := Tab.set (calKey kind inst) (s.now + 1) s1.cal.lastOk,
                                           dueSince := Tab.erase (calKey kind inst) s1.cal.dueSince } }
  let s3 := logCal ⟨r.start, (s.now - r.at_) / 100000, kind, 0, 0, inst, samples, resid⟩ s2
  let rk := if kind = 1 then 1 else if kind = 2 then 3 else if kind = 3 then 2 else 4
  endAlarm .calOverdue (calKey kind inst) (queueRec rk inst false none (logInfo .calOutcome (calKey kind inst) (count 0x340F 1 s3)))

end Sys2Proof.Machine
end

