-- ==== Sys2Proof/Machine/Bytes.lean ====
section
/-!
DEFINITION. Byte-string helpers of the data plane: big-endian fields, CRC-32, the IPv4 header checksum, bit
fields of table entries (14 to 17).
-/
namespace Sys2Proof.Machine

/-- Byte i of a frame; bytes beyond its end read zero. -/
def b8 (l : List Byte) (i : Nat) : Nat := (l.getD i 0).toNat
/-- Big-endian 16-bit field at byte i. -/
def b16 (l : List Byte) (i : Nat) : Nat := b8 l i * 256 + b8 l (i + 1)
/-- Big-endian 32-bit field at byte i. -/
def b32 (l : List Byte) (i : Nat) : Nat := b16 l i * 65536 + b16 l (i + 2)

/-- The number that big-endian bytes spell. -/
def beNat (l : List Byte) : Nat := l.foldl (fun n b => n * 256 + b.toNat) 0

/-- Big-endian bytes of a number. -/
def beBytes : Nat → Nat → List Byte
  | 0, _ => []
  | k + 1, n => beBytes k (n / 256) ++ [BitVec.ofNat 8 n]

/-- Replace bytes from position i on. -/
def patch (i : Nat) (v l : List Byte) : List Byte := l.take i ++ v ++ l.drop (i + v.length)

/-- One bit of the reflected CRC-32 of IEEE 802.3. -/
def crcStep (c : BitVec 32) : BitVec 32 := if c.getLsbD 0 then (c >>> 1) ^^^ 0xEDB88320#32 else c >>> 1

/-- One byte of the CRC. -/
def crcByte (c : BitVec 32) (b : Byte) : BitVec 32 :=
  crcStep (crcStep (crcStep (crcStep (crcStep (crcStep (crcStep (crcStep (c ^^^ (b.zeroExtend 32)))))))))

/-- CRC-32 of IEEE 802.3 (R416, R444). -/
def crc32 (l : List Byte) : BitVec 32 := ~~~(l.foldl crcByte 0xFFFFFFFF#32)

/-- Sum of the 16-bit words of a string. -/
def wordSum : List Byte → Nat
  | a :: b :: t => a.toNat * 256 + b.toNat + wordSum t
  | [a] => a.toNat * 256
  | [] => 0

/-- Ones' complement folding of a sum of at most 64 words. -/
def foldSum (n : Nat) : Nat := let m := n % 65536 + n / 65536; m % 65536 + m / 65536

/-- An IPv4 header checks (R433). -/
def ip4SumOk (h : List Byte) : Bool := foldSum (wordSum h) == 65535

/-- An IPv4 header with its checksum field recomputed (R440). -/
def ip4Fix (h : List Byte) : List Byte :=
  let z := patch 10 [0, 0] h
  patch 10 (beBytes 2 (65535 - foldSum (wordSum z))) z

/-- Bits [hi:lo] of an entry. -/
def field {w : Nat} (b : BitVec w) (hi lo : Nat) : Nat := b.toNat / 2 ^ lo % 2 ^ (hi + 1 - lo)

end Sys2Proof.Machine
end

