-- ==== Sys2Proof/Machine/Parse.lean ====
section
/-!
DEFINITION. The parser of the forwarding pipeline (R429, R431 to R433) and the classifier's search key (R436).
-/
namespace Sys2Proof.Machine

/-- What the parser finds of an IP header. -/
structure IpInfo where
  v6      : Bool
  hdr     : Nat          -- bytes of the header before the L4 header
  dscp    : Nat
  ecn     : Nat
  proto   : Nat
  ttl     : Nat
  src     : Nat
  dst     : Nat
  flow    : Nat
  ports   : Option (Nat × Nat)
  tcp     : Nat
  frag    : Bool
  later   : Bool         -- a non-first fragment
  opts    : Bool
  limit   : Bool         -- the extension limit was passed
deriving DecidableEq, Repr

/-- What the parser finds of a frame; `off` is where the bytes after the EtherType begin, `low` where those beneath
the label stack begin. -/
structure Parsed where
  bad    : Bool          -- fails a check of R433
  dmac   : Nat
  smac   : Nat
  tags   : List Nat      -- TCIs, outer first
  et     : Nat
  rtag   : Option Nat
  kind   : Nat           -- 0 other, 1 IPv4, 2 IPv6, 3 MPLS
  stack  : List Lse
  more   : Bool
  eli    : Option Nat    -- the entropy label
  cw     : Option Nat    -- the control word beneath the stack
  ip     : Option IpInfo
  tagOff : Nat
  off    : Nat
  low    : Nat
deriving DecidableEq, Repr

/-- L4 ports and flags: of TCP, UDP and SCTP; DESIGN CHOICE, assumption 21. -/
def l4Of (proto : Nat) (later : Bool) (l : List Byte) : Option (Nat × Nat) × Nat :=
  if later || !(proto == 6 || proto == 17 || proto == 132) || decide (l.length < 4) then (none, 0)
  else (some (b16 l 0, b16 l 2), if proto = 6 then b8 l 13 else 0)

/-- Parse an IPv4 header (R433); none fails a check. -/
def parseV4 (l : List Byte) : Option IpInfo :=
  let n := 4 * (b8 l 0 % 16)
  if b8 l 0 / 16 ≠ 4 ∨ n < 20 ∨ l.length < n ∨ !ip4SumOk (l.take n) then none
  else
    let fo := b16 l 6
    let later := decide (fo % 8192 ≠ 0)
    let p := l4Of (b8 l 9) later (l.drop n)
    some { v6 := false, hdr := n, dscp := b8 l 1 / 4, ecn := b8 l 1 % 4, proto := b8 l 9, ttl := b8 l 8, src := b32 l 12, dst := b32 l 16,
           flow := 0, ports := p.1, tcp := p.2, frag := later || bit1 fo, later := later, opts := decide (20 < n), limit := false }
where
  /-- The more-fragments bit. -/
  bit1 (fo : Nat) : Bool := fo / 8192 % 2 == 1

/-- Walk the extension headers of IPv6: at most four of types 0, 43, 44, 51 and 60 within the window (R433).
Answers the upper-layer header, its offset, and the fragment, non-first and limit flags. -/
def extV6 : Nat → Nat → Nat → List Byte → Bool → Bool → Nat × Nat × Bool × Bool × Bool
  | 0, h, o, _, fr, la => if h = 0 ∨ h = 43 ∨ h = 44 ∨ h = 51 ∨ h = 60 then (h, o, fr, la, true) else (h, o, fr, la, false)
  | k + 1, h, o, l, fr, la =>
    if h = 0 ∨ h = 43 ∨ h = 44 ∨ h = 51 ∨ h = 60 then
      let n := if h = 44 then 8 else if h = 51 then (b8 l (o + 1) + 2) * 4 else (b8 l (o + 1) + 1) * 8
      if l.length < o + n then (h, o, fr, la, true)
      else extV6 k (b8 l o) (o + n) l (fr || h == 44) (la || (h == 44 && decide (8 ≤ b16 l (o + 2))))
    else (h, o, fr, la, false)

/-- Parse an IPv6 header; the bytes are those of the parser's window. -/
def parseV6 (l : List Byte) : Option IpInfo :=
  if b8 l 0 / 16 ≠ 6 ∨ l.length < 40 then none
  else
    let tc := b16 l 0 / 16 % 256
    let e := extV6 4 (b8 l 6) 40 l false false
    let p := if e.2.2.2.2 then (none, 0) else l4Of e.1 e.2.2.2.1 (l.drop e.2.1)
    some { v6 := true, hdr := e.2.1, dscp := tc / 4, ecn := tc % 4, proto := e.1, ttl := b8 l 7, src := beNat ((l.drop 8).take 16),
           dst := beNat ((l.drop 24).take 16), flow := b32 l 0 % 1048576, ports := p.1, tcp := p.2, frag := e.2.2.1, later := e.2.2.2.1,
           opts := decide (e.2.1 ≠ 40), limit := e.2.2.2.2 }

/-- Read at most n label stack entries: the entries, whether the bottom was found, and the bytes they take. -/
def parseStack : Nat → List Byte → List Lse × Bool × Nat
  | 0, _ => ([], false, 0)
  | n + 1, l =>
    let w := b32 l 0
    let e : Lse := ⟨w / 4096, w / 512 % 8, w % 256, false⟩
    if w / 256 % 2 = 1 then ([e], true, 4)
    else let r := parseStack n (l.drop 4); (e :: r.1, r.2.1, r.2.2 + 4)

/-- Skip up to two tags (R431): their TCIs and the offset of the EtherType after them. -/
def parseTags (tp : List Nat) : Nat → Nat → List Byte → List Nat × Nat
  | 0, o, _ => ([], o)
  | n + 1, o, l =>
    if tp.contains (b16 l o) then let r := parseTags tp n (o + 4) l; (b16 l (o + 2) :: r.1, r.2) else ([], o)

/-- The entropy label of a stack: beneath the first indicator (R432). -/
def entropyOf : List Lse → Option Nat
  | a :: b :: t => if a.label = 7 then some b.label else entropyOf (b :: t)
  | _ => none

/-- Parse a frame (R431 to R433): the first 256 bytes; `rtagOn` reads an R-TAG after the tags (R520). -/
def parse (extra : Nat) (rtagOn : Bool) (frame : List Byte) : Parsed :=
  let l := frame.take 256
  let tp := [0x8100, 0x88A8, extra]
  let t := parseTags tp 2 12 l
  let et0 := b16 l t.2
  let third := tp.contains et0
  let isR := rtagOn && et0 == 0xF1C1 && !third
  let rt := if isR then some (b16 l (t.2 + 4)) else none
  let et := if isR then b16 l (t.2 + 6) else et0
  let off := if isR then t.2 + 8 else t.2 + 2
  let base : Parsed := { bad := decide (l.length < off), dmac := beNat (l.take 6), smac := beNat ((l.drop 6).take 6), tags := t.1, et := et, rtag := rt,
                         kind := 0, stack := [], more := false, eli := none, cw := none, ip := none, tagOff := t.2, off := off, low := off }
  if third then base
  else if et = 0x0800 then
    match parseV4 (l.drop off) with
    | some i => { base with kind := 1, ip := some i }
    | none => { base with kind := 1, bad := true }
  else if et = 0x86DD then
    match parseV6 (l.drop off) with
    | some i => { base with kind := 2, ip := some i }
    | none => { base with kind := 2, bad := true }
  else if et = 0x8847 ∨ et = 0x8848 then
    let s := parseStack 8 (l.drop off)
    let low := off + s.2.2
    let p := l.drop low
    let b : Parsed := { base with kind := 3, stack := s.1, more := !s.2.1, eli := entropyOf s.1, low := low, bad := decide (l.length < low) }
    if !s.2.1 then b
    else match b8 p 0 / 16 with
      | 4 => match parseV4 p with
        | some i => { b with ip := some i }
        | none => { b with bad := true }
      | 6 => match parseV6 p with
        | some i => { b with ip := some i }
        | none => { b with bad := true }
      | 0 => { b with cw := some (b32 p 0) }
      | _ => b
  else base

/-- A frame of high priority at ingress: outer PCP, top TC or DSCP (R429). -/
def Parsed.high (p : Parsed) : Bool :=
  (match p.tags with
    | t :: _ => decide (6 ≤ t / 8192)
    | [] => false) ||
  (match p.stack with
    | e :: _ => decide (6 ≤ e.tc)
    | [] => false) ||
  (match p.ip with
    | some i => p.kind != 3 && decide (48 ≤ i.dscp)
    | none => false)

/-- Place a value at bits [hi:lo] of a key. -/
def place (hi lo v : Nat) : Nat := v % 2 ^ (hi + 1 - lo) * 2 ^ lo

/-- A Bool as a bit. -/
def b2n (b : Bool) : Nat := if b then 1 else 0

/-- The search key of a frame (R436). -/
def searchKey (c vrf : Nat) (own : Bool) (p : Parsed) : BitVec 640 :=
  let lb (k : Nat) : Nat := match p.stack[k]? with
    | some e => e.label
    | none => 0
  let ip (f : IpInfo → Nat) : Nat := match p.ip with
    | some i => f i
    | none => 0
  let fl := b2n (p.ip.any (·.frag)) * 128 + b2n (p.ip.any (·.later)) * 64 + b2n (p.ip.any (·.opts)) * 32 + b2n (p.ip.any (·.limit)) * 16
    + b2n p.eli.isSome * 8 + b2n p.cw.isSome * 4 + b2n own * 2 + b2n p.more
  BitVec.ofNat 640 (place 639 632 c + place 631 620 vrf + place 619 616 p.kind + place 615 608 fl + place 607 560 p.dmac
    + place 559 544 (p.tags.getD 0 0) + place 543 528 (p.tags.getD 1 0) + place 527 512 p.et + place 511 492 (lb 0) + place 491 472 (lb 1)
    + place 471 452 (lb 2) + place 451 449 ((p.stack.map (·.tc)).getD 0 0) + place 448 445 p.stack.length + place 444 439 (ip (·.dscp))
    + place 438 437 (ip (·.ecn)) + place 436 429 (ip (·.proto)) + place 428 421 (ip (·.ttl)) + place 420 293 (ip (·.src))
    + place 292 165 (ip (·.dst)) + place 164 145 (ip (·.flow)) + place 144 129 (ip (fun i => (i.ports.getD (0, 0)).1))
    + place 128 113 (ip (fun i => (i.ports.getD (0, 0)).2)) + place 112 105 (ip (·.tcp)))

end Sys2Proof.Machine
end

