-- ==== Sys2Proof/Machine/FwdOps.lean ====
section
/-!
DEFINITION. Shared operations of the forwarding pipeline: table transactions and references, lookups, hashing,
meters, streams (14, 15, 17).
-/
namespace Sys2Proof.Machine

/-! ## Tables (R438 to R448, R478, R479, R521) -/

/-- Row of a stated table. -/
def row (i : Nat) (t : Tab Row) : Row := Tab.get Row.free i t

/-- The stated table of a code. -/
def Tables.stated (code : Nat) (t : Tables) : Tab Row :=
  if code = 3 then t.nh else if code = 4 then t.group else if code = 5 then t.member else if code = 8 then t.mcGroup else t.mcMember

/-- Replace the stated table of a code. -/
def Tables.putStated (code : Nat) (r : Tab Row) (t : Tables) : Tables :=
  if code = 3 then { t with nh := r } else if code = 4 then { t with group := r } else if code = 5 then { t with member := r }
  else if code = 8 then { t with mcGroup := r } else { t with mcMember := r }

/-- A code names a stated table. -/
def isStated (code : Nat) : Bool := code == 3 || code == 4 || code == 5 || code == 8 || code == 9

/-- The number of entries of a table (R436, R438, R442, R444, R455, R478, R521). -/
def tableSize (code : Nat) : Nat :=
  if code = 1 then 2097152 else if code = 3 then 524288 else if code = 4 then 65536 else if code = 5 then 1048576
  else if code = 6 then 65536 else if code = 7 then 262144 else if code = 8 then 65536 else if code = 9 then 524288
  else if code = 10 then 65536 else 0

/-- The bytes a WRITE carries (R447, R478, R521). -/
def writeLen (code : Nat) : Nat :=
  if code = 1 then 16 else if code = 2 then 28 else if code = 3 then 32 else if code = 4 then 8 else if code = 5 then 4
  else if code = 6 then 172 else if code = 7 then 24 else if code = 8 then 8 else if code = 9 then 4 else 16

/-- The table a TARGET_KIND names: 0 next hop, 1 ECMP group, 2 multicast group (R437). -/
def kindCode (k : Nat) : Nat := if k = 0 then 3 else if k = 1 then 4 else 8

/-- The entries a range of a group takes (R444, R479). -/
def rangeOf (b : BitVec 256) : List Nat := (List.range (field b 42 34 + 1)).map (fun i => field b 62 43 + i)

/-- What an entry of a stated table refers to: (code, index) pairs (R448). -/
def rowRefs (code : Nat) (b : BitVec 256) : List (Nat × Nat) :=
  if code = 3 then (if b.getLsbD 255 && b.getLsbD 96 then [(3, field b 95 77)] else [])
  else if !b.getLsbD (if code = 4 ∨ code = 8 then 63 else 31) then []
  else if code = 4 then (rangeOf b).map (fun i => (5, i))
  else if code = 8 then (rangeOf b).map (fun i => (9, i))
  else [(3, field b 18 0)]

/-- What a label entry refers to. -/
def labelRefs (b : BitVec 128) : List (Nat × Nat) :=
  let a := field b 126 124
  if b.getLsbD 127 && (a == 1 || a == 2) then [(kindCode (field b 103 102), field b 101 82)] else []

/-- What a prefix result refers to. -/
def prefixRefs (b : BitVec 64) : List (Nat × Nat) := if b.getLsbD 17 then [] else [(kindCode (field b 63 62), field b 61 42)]

/-- What a classifier action refers to. -/
def classifRefs (b : BitVec 96) : List (Nat × Nat) :=
  if b.getLsbD 95 && field b 94 92 == 2 then [(kindCode (field b 91 90), field b 89 70)] else []

/-- References to an entry from everything that refers; `ext` are the next hops of XCONNECT_NH and DEST_NH. -/
def refCount (code idx : Nat) (ext : List Nat) (t : Tables) : Nat :=
  let hit (l : List (Nat × Nat)) : Nat := (l.filter (fun r => r.1 == code && r.2 == idx)).length
  let rows (c : Nat) : Nat := (t.stated c).foldl (fun n r => n + (if r.2.st = .free then 0 else hit (rowRefs c r.2.bits))) 0
  rows 3 + rows 4 + rows 5 + rows 8 + rows 9
    + t.label.foldl (fun n e => n + hit (labelRefs e.2)) 0
    + t.prefixes.foldl (fun n e => n + hit (prefixRefs e.2)) 0
    + t.classif.foldl (fun n e => n + hit (classifRefs e.2.action)) 0
    + (if code = 3 then (ext.filter (fun i => i == idx)).length else 0)

/-- Every reference of a list is to a LIVE entry (R449, reason 5). -/
def refsLive (l : List (Nat × Nat)) (t : Tables) : Bool := l.all (fun r => (row r.2 (t.stated r.1)).st == .live)

/-- The next hops named by XCONNECT_NH of every channel and by DEST_NH of every enabled mirror session (R448). -/
def extRefs (s : State) : List Nat :=
  ((List.range 192).filterMap (fun c => let n := cfg 0x4009 (c + 1) s; if n = 0xFFFFFFFF then none else some n))
    ++ ((List.range 16).filterMap (fun k => let b := cfgBytes 0x4207 (k + 1) s
          if (b.getD 0 0).getLsbD 0 then some (leNat ((b.drop 4).take 4)) else none))

/-- Key of a prefix: VRF, family, length, address (R441). -/
def prefixKey (vrf fam len addr : Nat) : Nat := ((vrf * 2 + (if fam = 6 then 1 else 0)) * 256 + len) * 2 ^ 128 + addr

/-- Units a prefix takes (R441). -/
def prefixUnits (k : Nat) : Nat := if k / 2 ^ 136 % 2 = 1 then 2 else 1

/-- Units in use. -/
def unitsUsed (t : Tables) : Nat := t.prefixes.foldl (fun n e => n + prefixUnits e.1) 0

/-- Keep the bits of an entry that are not reserved (R14): the lowest `lo` bits, and a range, read zero. -/
def keepAbove (lo : Nat) (n : Nat) : Nat := n / 2 ^ lo * 2 ^ lo

/-- The fields of an entry as written, reserved bits cleared, or none for reason 7 (R437 to R444, R479). -/
def rowFields (code n : Nat) : Option (BitVec 256) :=
  let b := BitVec.ofNat 256 n
  if code = 3 then
    if 191 < field b 254 247 ∨ field b 246 245 = 3 ∨ 4 < field b 244 242 then none
    else some (BitVec.ofNat 256 (n / 2 ^ 181 * 2 ^ 181 + (keepAbove 77 n) % 2 ^ 177))
  else if code = 4 then
    if 1048575 < field b 62 43 + field b 42 34 then none else some (BitVec.ofNat 256 (keepAbove 32 n % 2 ^ 64))
  else if code = 8 then
    if 524287 < field b 62 43 + field b 42 34 then none else some (BitVec.ofNat 256 (keepAbove 33 n % 2 ^ 64))
  else some (BitVec.ofNat 256 (n / 2 ^ 31 % 2 * 2 ^ 31 + n % 2 ^ 19))

/-- A TARGET_KIND is not the reserved one, and the references of an entry lie within their tables. -/
def targetOk (k : Nat) (l : List (Nat × Nat)) : Bool := k != 3 && l.all (fun r => decide (r.2 < tableSize r.1))

/-- A prefix operation's key: length, family, VRF and address, or none for reason 7 (R441, R447). -/
def prefixOf (d : List Byte) : Option Nat :=
  let len := (d.getD 0 0).toNat
  let fam := (d.getD 1 0).toNat
  let vrf := leNat ((d.drop 2).take 2)
  let addr := beNat ((d.drop 4).take 16)
  let w := if fam = 4 then 32 else 128
  if (fam ≠ 4 ∧ fam ≠ 6) ∨ 4095 < vrf ∨ w < len ∨ (fam = 4 ∧ 2 ^ 32 ≤ addr) ∨ addr % 2 ^ (w - len) ≠ 0 then none
  else some (prefixKey vrf fam len addr)

/-- A meter entry, or none for reason 7 (R455). -/
def meterOf (d : List Byte) : Option MeterCfg :=
  let u (i : Nat) : Nat := leNat ((d.drop i).take 4)
  let m : MeterCfg := ⟨(d.getD 0 0).toNat, d.getD 1 0 &&& 7#8, u 4, u 8, u 12, u 16⟩
  if 3 < m.mode ∨ 1600000000 < m.rate1 ∨ 1600000000 < m.rate2 ∨ 16777215 < m.burst1 ∨ 16777215 < m.burst2 ∨ (m.mode = 1 ∧ m.rate2 < m.rate1) then none
  else some m

/-- A stream entry, or none for reason 7 (R521). -/
def streamOf (n : Nat) : Option (BitVec 128) :=
  let b := BitVec.ofNat 128 n
  if field b 126 125 = 3 ∨ (!b.getLsbD 124 ∧ b.getLsbD 123) ∨ field b 119 112 = 0 ∨ 128 < field b 119 112 ∨ field b 111 96 = 0 then none
  else some (BitVec.ofNat 128 (keepAbove 96 n))

/-! ## Transactions (R447 to R449) -/

/-- One operation of a transaction. -/
structure TxnOp where
  op   : Nat
  tbl  : Nat
  idx  : Nat
  data : List Byte
deriving DecidableEq, Repr

/-- Read n operations; none where the lengths are inconsistent (reason 10). -/
def readOps : Nat → List Byte → Option (List TxnOp)
  | 0, l => if l.isEmpty then some [] else none
  | n + 1, l =>
    let len := leNat ((l.drop 8).take 2)
    let pad := (len + 3) / 4 * 4
    if l.length < 16 + pad then none
    else match readOps n (l.drop (16 + pad)) with
      | some t => some (⟨(l.getD 0 0).toNat, (l.getD 1 0).toNat, leNat ((l.drop 4).take 4), (l.drop 16).take len⟩ :: t)
      | none => none

/-- The operations of a transaction (R447); none is reason 10. -/
def readTxn (l : List Byte) : Option (List TxnOp) :=
  let n := leNat ((l.drop 4).take 4)
  if l.getD 0 0 ≠ 1 ∨ l.length < 16 ∨ n = 0 ∨ 1048576 < n ∨ leNat ((l.drop 8).take 4) ≠ l.length then none else readOps n (l.drop 16)

/-- An operation suits its table and its object: 8 TABLE_TXN, 9 METER_TXN, 12 STREAM_TXN (R447, R449, R521). -/
def opSuits (set : Nat) (o : TxnOp) : Bool :=
  if set = 9 then o.tbl == 7 && o.op == 1
  else if set = 12 then o.tbl == 10 && o.op == 1
  else if o.tbl = 2 then o.op == 3 || o.op == 4
  else if isStated o.tbl then o.op == 1 || o.op == 2
  else (o.tbl == 1 || o.tbl == 6) && o.op == 1

/-- DATA_LENGTH as the operation needs it. -/
def opLen (o : TxnOp) : Nat := if o.op = 2 then 0 else if o.op = 4 then 20 else writeLen o.tbl

/-- Check one operation against the tables that the operations before it leave, and apply it: the new tables, or the
reason of R449. `e` is the epoch that entries freed are marked with. -/
def checkOp (set e : Nat) (ext : List Nat) (o : TxnOp) (t : Tables) : Tables × Nat :=
  let n := leNat o.data
  if !opSuits set o then (t, 1)
  else if o.data.length ≠ opLen o then (t, 10)
  else if o.tbl ≠ 2 ∧ tableSize o.tbl ≤ o.idx then (t, 2)
  else if o.op = 2 then
    let r := row o.idx (t.stated o.tbl)
    if r.st = .draining then (t, 4) else if r.st = .free then (t, 3)
    else
      let t1 := t.putStated o.tbl (Tab.set o.idx { r with st := .draining, mark := e } (t.stated o.tbl))
      if refCount o.tbl o.idx ext t1 ≠ 0 then (t, 6) else (t1, 0)
  else if o.op = 3 then
    match prefixOf o.data with
    | none => (t, 7)
    | some k =>
      let r := BitVec.ofNat 64 (keepAbove 17 (leNat (o.data.drop 20)))
      if !targetOk (field r 63 62) (prefixRefs r) then (t, 7)
      else if !refsLive (prefixRefs r) t then (t, 5)
      else
        let t1 := { t with prefixes := Tab.set k r t.prefixes }
        if 3145728 < unitsUsed t1 then (t, 8) else (t1, 0)
  else if o.op = 4 then
    match prefixOf o.data with
    | none => (t, 7)
    | some k => if (Tab.find k t.prefixes).isNone then (t, 9) else ({ t with prefixes := Tab.erase k t.prefixes }, 0)
  else if o.tbl = 1 then
    let b := BitVec.ofNat 128 (keepAbove 28 n)
    if 4 < field b 126 124 ∨ !targetOk (field b 103 102) (labelRefs b) then (t, 7)
    else if !refsLive (labelRefs b) t then (t, 5)
    else ({ t with label := Tab.put 0 o.idx b t.label }, 0)
  else if o.tbl = 6 then
    let k := BitVec.ofNat 640 (leNat (o.data.take 80))
    let m := BitVec.ofNat 640 (leNat ((o.data.drop 80).take 80))
    let a := BitVec.ofNat 96 (keepAbove 28 (leNat (o.data.drop 160)))
    if field m 104 0 ≠ 0 ∨ 2 < field a 94 92 ∨ !targetOk (field a 91 90) (classifRefs a) then (t, 7)
    else if !refsLive (classifRefs a) t then (t, 5)
    else ({ t with classif := Tab.put Classif.reset o.idx ⟨k, m, a⟩ t.classif }, 0)
  else if o.tbl = 7 then
    match meterOf o.data with
    | none => (t, 7)
    | some m => ({ t with meters := Tab.put MeterCfg.reset o.idx m t.meters }, 0)
  else if o.tbl = 10 then
    match streamOf n with
    | none => (t, 7)
    | some b => ({ t with streams := Tab.put 0 o.idx b t.streams }, 0)
  else
    let r := row o.idx (t.stated o.tbl)
    if r.st = .draining then (t, 4)
    else match rowFields o.tbl n with
      | none => (t, 7)
      | some b =>
        let t1 := t.putStated o.tbl (Tab.set o.idx ⟨.live, 0, b⟩ (t.stated o.tbl))
        if !refsLive (rowRefs o.tbl b) t1 then (t, 5) else (t1, 0)

/-- Check operations in order: the tables, and the number and reason of the first that fails. -/
def checkOps (set e : Nat) (ext : List Nat) : List TxnOp → Nat → Tables → Tables × Option (Nat × Nat)
  | [], _, t => (t, none)
  | o :: l, n, t =>
    let r := checkOp set e ext o t
    if r.2 = 0 then checkOps set e ext l (n + 1) r.1 else (t, some (n, r.2))

/-- Check the transactions of one object in subindex order: (subindex, bytes) pairs. Answers the tables, or the
subindex, operation and reason that TXN_FAIL gives (R447, R449). -/
def checkTxns (set e : Nat) (ext : List Nat) : List (Nat × List Byte) → Tables → Tables × Option (Nat × Nat × Nat)
  | [], t => (t, none)
  | (k, b) :: l, t =>
    match readTxn b with
    | none => (t, some (k, 0, 10))
    | some ops =>
      match checkOps set e ext ops 0 t with
      | (_, some f) => (t, some (k, f.1, f.2))
      | (t1, none) => checkTxns set e ext l t1

/-- The operations of transactions whose form is consistent. -/
def opsOf (l : List (Nat × List Byte)) : List TxnOp := (l.map (fun x => (readTxn x.2).getD [])).flatten

/-- A transaction frees an entry (R453). -/
def frees (l : List (Nat × List Byte)) : Bool := (opsOf l).any (fun o => o.op == 2)

/-- TXN_FAIL: subindex, reason, flags and operation number (R461). -/
def txnFailBytes (sub reason op : Nat) (mate : Bool) : List Byte := [BitVec.ofNat 8 sub, BitVec.ofNat 8 reason] ++ leBytes 2 (if mate then 1 else 0) ++ leBytes 4 op

/-! ## Epochs (R452, R453) -/

/-- Frames and copies with an epoch's tag in a list. -/
def tagged (e : Nat) (t : Tab (List Copy)) : Nat := t.foldl (fun n q => n + (q.2.filter (fun k => k.epoch == e)).length) 0

/-- The occupancy of an epoch: the frames and copies with its tag in the fabric queues, the output buffers and the
overflow store (R452). -/
def occupancy (e : Nat) (s : State) : Nat := tagged e s.sw.fab + tagged e s.sw.queues + tagged e s.sw.ovf.tails

/-- Epochs from a mark up to the one in force. -/
def sinceMark (m f : Nat) : List Nat := (List.range ((f + 8 - m) % 8 + 1)).map (fun i => (m + i) % 8)

/-- Entries marked m are free: every epoch in force before m is empty (R453). -/
def drained (m : Nat) (s : State) : Bool := (List.range 8).all (fun e => (sinceMark m s.fwd.epoch).contains e || occupancy e s == 0)

/-- Change the tables. -/
def updTables (f : Tables → Tables) (s : State) : State := { s with fwd := { s.fwd with tables := f s.fwd.tables } }

/-- The DRAINING entries of a table whose drain ended become FREE. -/
def drainTab (s : State) (t : Tab Row) : Tab Row := t.filter (fun r => !(r.2.st == .draining && drained r.2.mark s))

/-- The DRAINING entries of every table whose drain ended become FREE (R453). -/
def drainAll (s : State) : State :=
  updTables (fun t => { t with nh := drainTab s t.nh, group := drainTab s t.group, member := drainTab s t.member,
                               mcGroup := drainTab s t.mcGroup, mcMember := drainTab s t.mcMember }) s

/-! ## Meters (R455 to R458) -/

/-- The time of the meters: 0.5 ns from the mast clock, `h` of them since the last mast edge (R456). -/
def meterTime (h : Nat) (s : State) : Nat := s.now * 20 + h

/-- Refill over a time at two rates, remainders kept (R456). -/
def refill (rate1 rate2 dt : Nat) (m : MeterSt) : MeterSt :=
  let x := rate1 * dt * 64 + m.r1
  let y := rate2 * dt * 64 + m.r2
  { m with t1 := m.t1 + x / 1000000, r1 := x % 1000000, t2 := m.t2 + y / 1000000, r2 := y % 1000000 }

/-- Refill at the rates of replaced entries, each up to the edge it ended at (R458). -/
def refillPast : List (Nat × Nat × Nat) → MeterSt → MeterSt
  | [], m => { m with past := [] }
  | (e, a, b) :: l, m => refillPast l { refill a b (e - m.last) m with last := max m.last e }

/-- The buckets at a time, clamped to the bursts in force (R456, R458). -/
def meterFill (g : MeterCfg) (now : Nat) (m : MeterSt) : MeterSt :=
  let m0 := refillPast m.past m
  let m1 := { refill g.rate1 g.rate2 (now - m0.last) m0 with last := max m0.last now }
  let m2 := if g.mode = 3 ∧ g.burst1 * 1024 < m1.t1 then { m1 with t2 := m1.t2 + (m1.t1 - g.burst1 * 1024) } else m1
  { m2 with t1 := min m2.t1 (g.burst1 * 1024), t2 := min m2.t2 (g.burst2 * 1024) }

/-- Colour a frame of b bytes whose input colour is `col`: 0 green, 1 yellow, 2 red (R456). -/
def meterColour (g : MeterCfg) (b col : Nat) (m : MeterSt) : Nat × MeterSt :=
  let n := b * 1024
  let aware := g.flags.getLsbD 0
  if g.mode = 1 then
    if m.t2 < n ∨ (aware ∧ col = 2) then (2, m)
    else if m.t1 < n ∨ (aware ∧ col = 1) then (1, { m with t2 := m.t2 - n })
    else (0, { m with t2 := m.t2 - n, t1 := m.t1 - n })
  else if (!aware ∨ col = 0) ∧ n ≤ m.t1 then (0, { m with t1 := m.t1 - n })
  else if (!aware ∨ col ≠ 2) ∧ n ≤ m.t2 then (1, { m with t2 := m.t2 - n })
  else (2, m)

/-- Meter i. -/
def meterSt (i : Nat) (s : State) : MeterSt := Tab.get MeterSt.reset i s.fwd.meters

/-- Entry of meter i. -/
def meterCfg (i : Nat) (s : State) : MeterCfg := Tab.get MeterCfg.reset i s.fwd.tables.meters

/-- Add to element k of a list of counts. -/
def bump (k n : Nat) (l : List Nat) : List Nat := setAt k ((l.getD k 0 + n) % 2 ^ 64) l

/-- Meter a frame: its colour, and the state with the buckets and the counts (R456, R458, R462). A meter in mode 0
keeps its buckets and gives green. -/
def meterFrame (i b col h : Nat) (s : State) : Nat × State :=
  let g := meterCfg i s
  let r := if g.mode = 0 then (0, meterSt i s) else meterColour g b col (meterFill g (meterTime h s) (meterSt i s))
  let m := { r.2 with frames := bump r.1 1 r.2.frames, bytes := bump r.1 b r.2.bytes }
  (r.1, count64 0x4107 (r.1 + 1) { s with fwd := { s.fwd with meters := Tab.put MeterSt.reset i m s.fwd.meters } })

/-- A new meter entry takes effect at an applying edge (R458): the rates it replaces count up to the edge, and
FLAGS[2] fills both buckets. -/
def meterApply (i : Nat) (old new : MeterCfg) (s : State) : State :=
  let t := meterTime 0 s
  let m := meterSt i s
  let m1 := if old.mode = 0 then { m with last := t } else { m with past := m.past ++ [(t, old.rate1, old.rate2)] }
  let m2 := if new.flags.getLsbD 2 then { m1 with t1 := new.burst1 * 1024, t2 := new.burst2 * 1024, past := [], last := t } else m1
  { s with fwd := { s.fwd with meters := Tab.put MeterSt.reset i m2 s.fwd.meters } }

/-! ## Lookup (R435 to R445) -/

/-- The first valid classifier entry that matches a key (R436). -/
def classify (k : BitVec 640) : Tab Classif → Option (BitVec 96)
  | [] => none
  | (_, e) :: t => if e.action.getLsbD 95 && ((k ^^^ e.key) &&& e.mask == 0) then some e.action else classify k t

/-- The longest matching prefix of a VRF and family, from a length downwards (R441). -/
def longest (vrf fam addr : Nat) (t : Tab (BitVec 64)) : Nat → Option (BitVec 64)
  | 0 => Tab.find (prefixKey vrf fam 0 0) t
  | n + 1 =>
    let w := if fam = 6 then 128 else 32
    match Tab.find (prefixKey vrf fam (n + 1) (addr / 2 ^ (w - (n + 1)) * 2 ^ (w - (n + 1)))) t with
    | some r => some r
    | none => longest vrf fam addr t n

/-- What a lookup gives: a target, the class, meter and stream the entries set, and the label operations. -/
structure Route where
  kind   : Nat
  target : Nat
  cls    : Option Nat
  meter  : Option Nat
  stream : Option Nat
  edit   : Edit
deriving DecidableEq, Repr

/-- A walk down the label stack (R439, R440): the stack left, labels looked up and popped so far, the space of the
next lookup, the outgoing TTL, the model of the last entry, whether a pipe pop exposed the top, the VRF for IP, the
TTL a uniform pop wrote into the IP header. -/
structure Walk where
  stack  : List Lse
  popped : Nat
  looked : Nat
  space  : Nat
  out    : Nat
  pipe   : Bool
  own    : Bool
  vrf    : Nat
  ipTtl  : Option Nat
  cls    : Option Nat
  meter  : Option Nat
  stream : Option Nat
deriving DecidableEq, Repr

/-- Pop the top label (R440): none where its TTL has run out; DESIGN CHOICE, assumption 78. -/
def popLabel (w : Walk) : Option Walk :=
  match w.stack with
  | [] => none
  | p :: t =>
    if p.ttl ≤ 1 then none
    else
      let w1 := { w with popped := w.popped + 1, own := w.pipe }
      if w.pipe then some { w1 with stack := t }
      else match t with
        | [] => some { w1 with stack := [], ipTtl := some w.out }
        | q :: t1 => some { w1 with stack := { q with ttl := w.out, tc := p.tc } :: t1 }

/-- The edit a walk leaves; pushed labels take 255 in the pipe model (R440). -/
def Walk.edit (w : Walk) (ip : Bool) : Edit := ⟨w.stack, if w.pipe then 255 else w.out, (w.stack.map (·.tc)).getD 0 0, w.ipTtl, ip, .none⟩

/-- Look up the IP header of a frame in a VRF (R441); the answer is a reason or a route. -/
def routeIp (i : IpInfo) (w : Walk) (t : Tables) : Nat × Option Route :=
  match longest w.vrf (if i.v6 then 6 else 4) i.dst t.prefixes (if i.v6 then 128 else 32) with
  | none => (5, none)
  | some r =>
    if r.getLsbD 17 then (5, none)
    else (0, some ⟨field r 63 62, field r 61 42, if r.getLsbD 41 then some (field r 40 37) else w.cls,
                   if r.getLsbD 36 then some (field r 35 18) else w.meter, w.stream, w.edit true⟩)

/-- The IP header beneath the last popped label is looked up (R439, R440): in the pipe model its own TTL counts. -/
def routeBeneath (p : Parsed) (w : Walk) (t : Tables) : Nat × Option Route :=
  match p.ip with
  | none => (1, none)
  | some i =>
    if w.pipe then
      if i.ttl ≤ 1 then (6, none) else routeIp i { w with ipTtl := some (i.ttl - 1) } t
    else routeIp i w t

/-- Walk the stack until a forwarding action, the IP header or a discard (R432, R438 to R440); DEDUCED, assumption 75. -/
def walkStack (p : Parsed) (dvrf : Nat) (t : Tables) : Nat → Walk → Nat × Option Route
  | 0, _ => (7, none)
  | n + 1, w =>
    match w.stack with
    | [] => if p.more then (7, none) else routeBeneath p w t
    | top :: rest =>
      if top.label = 0 ∨ top.label = 2 then
        match popLabel w with
        | none => (6, none)
        | some w1 =>
          if rest.isEmpty ∧ !p.more ∧ !p.ip.any (fun i => i.v6 == (top.label == 2)) then (1, none)
          else walkStack p dvrf t n { w1 with vrf := dvrf, space := 0 }
      else if top.label = 7 then
        match rest with
        | [] => (if p.more then 7 else 1, none)
        | _ :: deep =>
          match popLabel { w with stack := top :: deep, popped := w.popped + 1 } with
          | none => (6, none)
          | some w1 => walkStack p dvrf t n { w1 with space := 0 }
      else if top.label < 16 then (4, none)
      else if 2 ≤ w.looked then (7, none)
      else
        let e := Tab.get 0 (w.space * 1048576 + top.label) t.label
        let a := field e 126 124
        if !e.getLsbD 127 ∨ a = 0 then (4, none)
        else if w.own ∧ top.ttl ≤ 1 then (6, none)
        else
          let w1 := { w with looked := w.looked + 1, pipe := e.getLsbD 81, space := 0,
                             out := if w.own then top.ttl - 1 else w.out,
                             cls := if e.getLsbD 80 then some (field e 79 76) else w.cls,
                             meter := if e.getLsbD 63 then some (field e 62 45) else w.meter,
                             stream := if e.getLsbD 44 then some (field e 43 28) else w.stream }
          let done (x : Walk) : Nat × Option Route := (0, some ⟨field e 103 102, field e 101 82, x.cls, x.meter, x.stream, x.edit false⟩)
          if a = 1 ∧ field e 123 104 ≠ 3 then done { w1 with stack := { top with label := field e 123 104, ttl := w1.out, own := true } :: rest }
          else match popLabel w1 with
            | none => (6, none)
            | some w2 => if a ≤ 2 then done w2 else walkStack p dvrf t n { w2 with vrf := field e 75 64, space := if a = 4 then 1 else 0 }

/-- Route a frame of kinds 1 to 3 in mode 0 (R435, R438 to R441); `vrf` is the VRF for IP. -/
def routeFrame (p : Parsed) (vrf : Nat) (t : Tables) : Nat × Option Route :=
  let w : Walk := ⟨p.stack, 0, 0, 0, 0, false, false, vrf, none, none, none, none⟩
  if p.kind = 3 then
    match p.stack with
    | [] => (1, none)
    | top :: _ => if top.ttl ≤ 1 then (6, none) else walkStack p vrf t 9 { w with out := top.ttl - 1 }
  else match p.ip with
    | none => (1, none)
    | some i => if i.ttl ≤ 1 then (6, none) else routeIp i { w with out := i.ttl - 1, ipTtl := some (i.ttl - 1) } t

/-- The bytes a hash profile selects, in ascending order of mask bit (R445); labels and the flow label as three
bytes each; DESIGN CHOICE, assumption 22. -/
def hashBytes (c mask : Nat) (p : Parsed) : List Byte :=
  let on (b : Nat) (l : List Byte) : List Byte := if bit mask b then l else []
  let ip (f : IpInfo → List Byte) : List Byte := match p.ip with
    | some i => f i
    | none => []
  let labels := ((p.stack.filter (fun e => 16 ≤ e.label)).map (fun e => beBytes 3 e.label)).flatten
  on 0 (ip (fun i => beBytes (if i.v6 then 16 else 4) i.src)) ++ on 1 (ip (fun i => beBytes (if i.v6 then 16 else 4) i.dst))
    ++ on 2 (ip (fun i => [BitVec.ofNat 8 i.proto])) ++ on 3 (ip (fun i => match i.ports with
        | some q => beBytes 2 q.1 ++ beBytes 2 q.2
        | none => []))
    ++ on 4 (ip (fun i => if i.v6 then beBytes 3 i.flow else []))
    ++ (if bit mask 6 ∧ p.eli.isSome then beBytes 3 (p.eli.getD 0) else on 5 labels)
    ++ on 7 [BitVec.ofNat 8 c] ++ on 8 ((p.tags.map (fun t => beBytes 2 (t % 4096))).flatten)
    ++ on 9 (beBytes 6 p.dmac ++ beBytes 6 p.smac)

/-- The member of an ECMP group that a frame takes (R444). -/
def ecmpMember (c : Nat) (p : Parsed) (g : BitVec 256) (s : State) : Nat :=
  let pr := cfgBytes 0x400E (field g 33 32 + 1) s
  let h := (crc32 (beBytes 4 (leNat (pr.drop 4)) ++ hashBytes c (leNat (pr.take 4)) p)).toNat
  field g 62 43 + h / 65536 * (field g 42 34 + 1) / 65536

/-- Resolve a target to a next hop (R427 step 4, R444): a reason, or the next hop; DEDUCED, assumption 77. -/
def resolveNh (c : Nat) (p : Parsed) (kind target : Nat) (s : State) : Nat × Nat :=
  let t := s.fwd.tables
  if kind = 0 then (0, target)
  else
    let g := row target t.group
    if g.st ≠ .live ∨ !g.bits.getLsbD 63 then (8, 0)
    else
      let m := row (ecmpMember c p g.bits s) t.member
      if m.st ≠ .live ∨ !m.bits.getLsbD 31 then (8, 0) else (0, field m.bits 18 0)

/-- A next hop by which a data frame may leave (R442, R446, R513). -/
def nhUsable (n : Nat) (s : State) : Bool :=
  let r := row n s.fwd.tables.nh
  r.st == .live && r.bits.getLsbD 255 && field r.bits 246 245 != 2 && (shroudLink (field r.bits 254 247) s).isNone

/-! ## Class and colour (R437, R459) -/

/-- The byte of the QoS input map for a frame (R459); DESIGN CHOICE, assumption 80. -/
def qosIn (c : Nat) (p : Parsed) (s : State) : Nat :=
  let m := cfgBytes 0x4103 (cfg 0x4101 (c + 1) s + 1) s
  let i := if p.kind = 3 then (p.stack.map (·.tc)).getD 0 0
    else match p.ip with
      | some i => 8 + i.dscp
      | none => 72 + (p.tags.getD 0 0) / 4096
  (m.getD i 0).toNat

/-- The remark entry of a class and colour in the profile of a channel (R460). -/
def remarkOf (c cls col : Nat) (s : State) : Nat := leNat (((cfgBytes 0x4104 (cfg 0x4101 (c + 1) s + 1) s).drop (2 * (3 * cls + col))).take 2)

/-- The remark flags of the profile of a channel. -/
def remarkFlags (c : Nat) (s : State) : Nat := leNat (((cfgBytes 0x4104 (cfg 0x4101 (c + 1) s + 1) s).drop 96).take 4)

/-! ## Streams (R520 to R522) -/

/-- Stream i. -/
def stream (i : Nat) (s : State) : Stream := Tab.get Stream.reset i s.fwd.streams
/-- Change a stream. -/
def updStream (i : Nat) (f : Stream → Stream) (s : State) : State :=
  { s with fwd := { s.fwd with streams := Tab.upd Stream.reset i f s.fwd.streams } }

/-- Count an outcome of a stream: 0 passed to 6 tagless. -/
def Stream.add (k n : Nat) (x : Stream) : Stream := { x with counts := bump k n x.counts }

/-- Bits 0 to n - 1 of a history that are not set. -/
def unset (hist n : Nat) : Nat := ((List.range n).filter (fun i => !hist.testBit i)).length

/-- Unset bits of a history of length h that a shift by d moves out (R522). -/
def lostBits (hist h d : Nat) : Nat := unset (hist / 2 ^ (h - min h d)) (min h d) + (d - min h d)

/-- The vector recovery algorithm (R522): whether the frame passes, and the stream. -/
def recover (h space seq : Nat) (x : Stream) : Bool × Stream :=
  let d0 := (seq + space - x.recov) % space
  let d : Int := if space / 2 ≤ d0 then (d0 : Int) - space else d0
  if x.takeAny then (true, Stream.add 0 1 { x with recov := seq, hist := 1, takeAny := false })
  else if (h : Int) ≤ d ∨ d ≤ -(h : Int) then (false, x.add 2 1)
  else if d ≤ 0 then
    if x.hist.testBit d.natAbs then (false, x.add 1 1)
    else (true, (Stream.add 0 1 { x with hist := x.hist + 2 ^ d.natAbs }).add 3 1)
  else
    let k := d.toNat
    let x1 := x.add 4 (lostBits x.hist h k)
    let x2 := if k = 1 then x1 else x1.add 3 1
    (true, Stream.add 0 1 { x2 with hist := (x.hist * 2 ^ k + 1) % 2 ^ h, recov := seq })

/-- The entry of a stream. -/
def streamCfg (i : Nat) (s : State) : BitVec 128 := Tab.get 0 i s.fwd.tables.streams

/-- The number space of a stream: 2^28 for the long d-CW, 2^16 otherwise. -/
def seqSpace (e : BitVec 128) : Nat := if e.getLsbD 124 && e.getLsbD 123 then 2 ^ 28 else 2 ^ 16

/-- The sequence number of a frame: of its R-TAG or of the d-CW beneath its stack (R520). -/
def seqOfFrame (e : BitVec 128) (p : Parsed) : Option Nat :=
  match p.rtag with
  | some n => some n
  | none => match p.cw with
    | some w => if p.more then none else some (w % seqSpace e)
    | none => none

/-- The stream function (R520 to R522): whether the frame passes, what the rewrite does to its number, the number
it carries on, and the state. A replica never generates (R523). -/
def streamFn (i : Nat) (p : Parsed) (replica : Option Nat) (s : State) : Bool × SeqOp × Nat × State :=
  let e := streamCfg i s
  let f := field e 126 125
  let num := match replica with
    | some n => some n
    | none => seqOfFrame e p
  if !e.getLsbD 127 then (true, .none, num.getD 0, s)
  else if f = 1 ∧ replica.isNone then
    let n := (stream i s).next % seqSpace e
    (true, .write n (e.getLsbD 124) (e.getLsbD 123), n, updStream i (fun x => Stream.add 0 1 { x with next := (n + 1) % seqSpace e }) s)
  else if f = 2 then
    let op : SeqOp := if e.getLsbD 122 then .strip else .none
    match num with
    | none =>
      if e.getLsbD 120 then (true, .none, 0, updStream i (Stream.add 0 1) s)
      else (false, .none, 0, updStream i (Stream.add 6 1) s)
    | some n =>
      let r := recover (field e 119 112) (seqSpace e) n (stream i s)
      (r.1, op, n, updStream i (fun _ => r.2) s)
  else (true, .none, num.getD 0, updStream i (Stream.add 0 1) s)

/-- A write to a stream's entry (R521): a change of FUNCTION, ENCAP or SEQ28 resets the stream. -/
def streamApply (i : Nat) (old new : BitVec 128) (s : State) : State :=
  if field old 126 123 = field new 126 123 then s else updStream i (fun x => { Stream.reset with counts := x.counts }) s

end Sys2Proof.Machine
end

