-- ==== Sys2Proof/Machine/SwOps.lean ====
section
/-!
DEFINITION. Shared operations of the fabric, the output buffers and the overflow store (15), and the traffic and
programmable counters (20).
-/
namespace Sys2Proof.Machine

/-! ## Counters (R591 to R596) -/

/-- A cell wrapped: its bit in OVF_MAP, CELL_OVERFLOW, and the count of cell wraps (R594, R612, R613). -/
def cellWrap (c : Nat) (s : State) : State :=
  setRc 0x60018 1 (count 0x7015 4 { s with obs := { s.obs with ovfMap := insertCell c s.obs.ovfMap } })

/-- Count in a chained traffic pair: 0 frames received, 1 bytes received, 2 frames sent, 3 bytes sent (R591). -/
def traffic (c w n : Nat) (s : State) : State :=
  let v := (Tab.get 0 (c * 4 + w) s.obs.traffic).toNat + n
  let s1 := { s with obs := { s.obs with traffic := Tab.put 0 (c * 4 + w) (BitVec.ofNat 64 v) s.obs.traffic } }
  if v < 2 ^ 64 then s1 else cellWrap (8 * c + 2 * w + 1) s1

/-- The select of programmable counter p. -/
def progSel (p : Nat) (s : State) : BitVec 32 := Tab.get 0 p s.obs.progSel

/-- Counter p is the low cell of a chained pair; an odd p above one is ignored (R596). -/
def progChained (p : Nat) (s : State) : Bool := p % 2 == 0 && (progSel p s).getLsbD 27
/-- The select of p is ignored: its even neighbour is chained. -/
def progIgnored (p : Nat) (s : State) : Bool := p % 2 == 1 && (progSel (p - 1) s).getLsbD 27

/-- Programmable counter p counts a source for a queue of a channel (R596). -/
def progHits (src c q p : Nat) (s : State) : Bool :=
  let b := progSel p s
  src != 0 && field b 31 28 == src && field b 19 16 == q && min (field b 15 8) 191 == c && !progIgnored p s

/-- Add to programmable counter p. -/
def progAdd (n p : Nat) (s : State) : State :=
  let lo := (Tab.get 0 p s.obs.prog).toNat + n
  let s1 := { s with obs := { s.obs with prog := Tab.put 0 p (BitVec.ofNat 32 lo) s.obs.prog } }
  if lo < 4294967296 then s1
  else if progChained p s then
    let hi := (Tab.get 0 (p + 1) s1.obs.prog).toNat + lo / 4294967296
    let s2 := { s1 with obs := { s1.obs with prog := Tab.put 0 (p + 1) (BitVec.ofNat 32 hi) s1.obs.prog } }
    if hi < 4294967296 then s2 else cellWrap (1536 + p + 1) s2
  else cellWrap (1536 + p) s1

/-- Every programmable counter that selects this source, channel and queue counts (R596). -/
def tally (src c q n : Nat) (s : State) : State :=
  (s.obs.progSel.map (fun x => x.1)).foldl (fun s p => if progHits src c q p s then progAdd n p s else s) s

/-! ## Queues (R465, R467) -/

/-- The fabric queue from an ingress to an egress tile. -/
def fabQ (it et : Nat) (s : State) : List Copy := Tab.get [] (it * 24 + et) s.sw.fab
/-- Replace a fabric queue. -/
def putFab (it et : Nat) (l : List Copy) (s : State) : State :=
  { s with sw := { s.sw with fab := Tab.put [] (it * 24 + et) l s.sw.fab } }
/-- The on-die queue q of channel c. -/
def dieQ (c q : Nat) (s : State) : List Copy := Tab.get [] (16 * c + q) s.sw.queues
/-- Replace an on-die queue; one that empties has its deficit set to 0 (R487). -/
def putDie (c q : Nat) (l : List Copy) (s : State) : State :=
  { s with sw := { s.sw with queues := Tab.put [] (16 * c + q) l s.sw.queues }
           egr := { s.egr with deficit := if l.isEmpty ∧ q < 12 then Tab.erase (c * 12 + q) s.egr.deficit else s.egr.deficit } }
/-- The tail of a queue in the overflow store (R474). -/
def tailQ (c q : Nat) (s : State) : List Copy := Tab.get [] (16 * c + q) s.sw.ovf.tails
/-- Replace a tail; the store notes when it became empty. -/
def putTail (c q : Nat) (l : List Copy) (s : State) : State :=
  let t := Tab.put [] (16 * c + q) l s.sw.ovf.tails
  { s with sw := { s.sw with ovf := { s.sw.ovf with tails := t, emptyAt := if t.isEmpty then s.now else s.sw.ovf.emptyAt } } }

/-- Bytes of a list of copies. -/
def bytesOf (l : List Copy) : Nat := l.foldl (fun n k => n + k.len) 0
/-- Cells of a list of copies. -/
def cellsOf (l : List Copy) : Nat := l.foldl (fun n k => n + k.cells) 0
/-- On-die cells of a queue, a port and a tile (R468). -/
def queueCells (c q : Nat) (s : State) : Nat := cellsOf (dieQ c q s)
/-- On-die cells of a port. -/
def portCells (c : Nat) (s : State) : Nat := (List.range 16).foldl (fun n q => n + queueCells c q s) 0
/-- On-die cells of a tile. -/
def tileCells (t : Nat) (s : State) : Nat := (engChans t).foldl (fun n c => n + portCells c s) 0
/-- Store cells of a port. -/
def storePort (c : Nat) (s : State) : Nat := (List.range 16).foldl (fun n q => n + cellsOf (tailQ c q s)) 0
/-- Store cells in use (R475, R483). -/
def storeCells (s : State) : Nat := s.sw.ovf.tails.foldl (fun n t => n + cellsOf t.2) s.sw.ovf.stale

/-- A copy is a mirror copy. -/
def Copy.isMirror (k : Copy) : Bool := match k.way with
  | .mirror _ _ => true
  | _ => false

/-- A discard counted in BUF_DROPS of the egress channel and in BUF_COUNTS (R471, R483); a mirror copy also in its
session's count, a replica in PAIR_COUNTS; DESIGN CHOICE, assumption 84. -/
def bufDrop (r : Nat) (k : Copy) (s : State) : State :=
  let s1 := count 0x4210 r (if r ≤ 10 then countW 0x420D (k.out + 1) (r - 1) 1 s else s)
  let s2 := if r = 6 ∨ r = 7 then tally 6 k.out k.cls 1 s1 else if r ≤ 5 ∨ r = 11 then tally 5 k.out k.cls 1 s1 else s1
  match k.way with
  | .mirror n _ => countW 0x420F (n + 1) 2 1 s2
  | .shroud => count 0x4413 9 s2
  | .hop _ => s2

/-- A copy joins a fabric queue, or is discarded under reason 8 (R465). -/
def fabPut (k : Copy) (s : State) : State :=
  let it := tileOf k.ing
  let et := tileOf k.out
  let n := bytesOf (fabQ it et s)
  let high := decide (12 ≤ k.cls) && !k.isMirror
  if (high ∧ 262144 < n + k.len) ∨ (!high ∧ 196608 ≤ n) then bufDrop 8 k s else putFab it et (fabQ it et s ++ [k]) s

/-! ## Limits (R468, R476) -/

/-- A field of the buffer profile of a port (R483): Q_LIMIT of class q, then SPILL_PCT, RETURN_PCT, YELLOW_PCT, RED_PCT. -/
def bufProfile (c : Nat) (s : State) : List Byte := cfgBytes 0x4202 (cfg 0x4201 (c + 1) s + 1) s
/-- Q_LIMIT of a class. -/
def qLimit (c q : Nat) (s : State) : Nat := leNat (((bufProfile c s).drop (4 * q)).take 4)
/-- SPILL_PCT of a class. -/
def spillPct (c q : Nat) (s : State) : Nat := ((bufProfile c s).getD (64 + q) 0).toNat
/-- RETURN_PCT. -/
def returnPct (c : Nat) (s : State) : Nat := ((bufProfile c s).getD 80 0).toNat

/-- The percentage of a limit that a copy may fill (R468). -/
def kindPct (k : Copy) (s : State) : Nat :=
  if k.isMirror then cfg 0x4203 0 s
  else if k.col = 0 then 100
  else if k.col = 1 then ((bufProfile k.out s).getD 81 0).toNat
  else ((bufProfile k.out s).getD 82 0).toNat

/-- The threshold of a limit for a copy (R468). -/
def threshold (limit : Nat) (k : Copy) (s : State) : Nat := limit * kindPct k s / 100

/-- The spill point of a queue for a copy (R476). -/
def spillPoint (k : Copy) (s : State) : Nat := threshold (qLimit k.out k.cls s) k s * spillPct k.out k.cls s / 100

/-- The return point of a queue (R477). -/
def returnPoint (c q : Nat) (s : State) : Nat := qLimit c q s * returnPct c s / 100

/-- The capacity of the working stacks in cells (R474, R475). -/
def ovfCapacity (s : State) : Nat := if s.sw.ovf.memStacks = 0xF#4 then 572662306 else 429496729

/-- The store test of R476; `room` says that the tile's spill queue has room for the copy; DESIGN CHOICE, assumption 90. -/
def storeTest (room : Bool) (k : Copy) (s : State) : Bool :=
  s.sw.ovf.st == .open_ && decide (storePort k.out s + k.cells ≤ threshold (cfg 0x4206 (k.out + 1) s) k s)
    && decide (storeCells s + k.cells ≤ ovfCapacity s) && room

/-! ## The overflow store (R475) -/

/-- Put the store into a state. -/
def setOvf (st : OvfSt) (s : State) : State := { s with sw := { s.sw with ovf := { s.sw.ovf with st := st } } }

/-- The store holds nothing. -/
def storeEmpty (s : State) : Bool := s.sw.ovf.tails.isEmpty

/-- The store closes and releases its entry. -/
def ovfClose (s : State) : State := setEntry cOvf 0 0 0 (setOvf .closed s)

/-- A DRAINING store that is empty closes. -/
def ovfSettle (s : State) : State := if s.sw.ovf.st = .draining ∧ storeEmpty s then ovfClose s else s

/-- The store follows the reef level and OVF_ENABLE: spill stops at level 2, and goes on below it. -/
def ovfLevel (s : State) : State :=
  let ok := decide (s.power.level < 2) && cfgB 0x4204 0 s
  if s.sw.ovf.st = .open_ ∧ !ok then ovfSettle (setOvf .draining s)
  else if s.sw.ovf.st = .draining ∧ ok then setOvf .open_ s
  else s

/-- Level 4 puts an open store into self-refresh: its entry replaces the open entry (R76). -/
def ovfBrace (s : State) : State :=
  if s.sw.ovf.st = .open_ ∨ s.sw.ovf.st = .draining then setEntry cOvf 0 2 4 (setOvf .selfRefresh s) else s

/-- Level 4 ends: the store is open or draining, as the level in force gives, and frees the cells aged meanwhile. -/
def ovfResume (s : State) : State :=
  if s.sw.ovf.st = .selfRefresh then
    let s1 := setEntry cOvf 0 1 100 { s with sw := { s.sw with ovf := { s.sw.ovf with stale := 0 } } }
    ovfLevel (setOvf .open_ s1)
  else s

/-- A copy reached a spill point of a closed store: it opens with a traffic-class request (R475). -/
def ovfAsk (s : State) : State :=
  if s.sw.ovf.st = .closed ∧ cfgB 0x4204 0 s ∧ s.power.level < 2 then
    { setOvf .opening s with power := { s.power with waiting := s.power.waiting ++ [⟨.traffic, .ovfOpen, 100⟩] } }
  else s

/-- A copy goes to the tail of its queue. -/
def spill (k : Copy) (s : State) : State :=
  tally 7 k.out k.cls 1 (tally 2 k.out k.cls k.len (tally 1 k.out k.cls 1 (putTail k.out k.cls (tailQ k.out k.cls s ++ [k]) s)))

/-! ## Admission (R469) -/

/-- The on-die test: 0, or the reason of the first test that fails. -/
def dieTest (k : Copy) (s : State) : Nat :=
  if threshold (qLimit k.out k.cls s) k s < queueCells k.out k.cls s + k.cells then 1
  else if threshold (cfg 0x4200 (k.out + 1) s) k s < portCells k.out s + k.cells then 2
  else if threshold 139554 k s < tileCells (tileOf k.out) s + k.cells then 3
  else 0

/-- A copy is admitted on die, or discarded by the on-die test. -/
def admitDie (k : Copy) (s : State) : State :=
  match dieTest k s with
  | 0 => tally 2 k.out k.cls k.len (tally 1 k.out k.cls 1 (putDie k.out k.cls (dieQ k.out k.cls s ++ [k]) s))
  | r => bufDrop (if k.isMirror then 11 else r) k s

/-- Admission of one copy by the steps of R469. -/
def enqueueCopy (room : Bool) (k : Copy) (s : State) : State :=
  if (cod k.out s).stage ≠ 6 then bufDrop (if k.isMirror then 11 else 4) k s
  else if k.isMirror then admitDie k s
  else if !(tailQ k.out k.cls s).isEmpty then (if storeTest room k s then spill k s else bufDrop 5 k s)
  else if spillPct k.out k.cls s ≠ 0 ∧ spillPoint k s < queueCells k.out k.cls s + k.cells then
    if storeTest room k s then spill k s else admitDie k (ovfAsk s)
  else admitDie k s

/-- Total discards of a port by admission: what R480 counts a multicast copy's discard from. -/
def wasAdmitted (k : Copy) (s0 s1 : State) : Bool :=
  decide ((dieQ k.out k.cls s0).length + (tailQ k.out k.cls s0).length < (dieQ k.out k.cls s1).length + (tailQ k.out k.cls s1).length)

/-! ## Multicast (R479, R480) -/

/-- The next hops of the members of a live, valid group that can carry a copy, in member order: next hop and
channel. -/
def mcTargets (g ing : Nat) (s : State) : List (Nat × Nat) :=
  let t := s.fwd.tables
  let r := row g t.mcGroup
  (rangeOf r.bits).filterMap (fun i =>
    let m := row i t.mcMember
    let n := field m.bits 18 0
    let h := row n t.nh
    let c := field h.bits 254 247
    if m.st = .free ∨ !m.bits.getLsbD 31 ∨ h.st = .free ∨ !h.bits.getLsbD 255 ∨ field h.bits 246 245 > 1 ∨ (shroudLink c s).isSome then none
    else if c = ing ∧ !r.bits.getLsbD 33 then none
    else some (n, c))

/-- The distinct egress tiles of a list of targets, in order of first use. -/
def mcTiles : List (Nat × Nat) → List Nat → List Nat
  | [], a => a
  | x :: l, a => mcTiles l (if a.contains (tileOf x.2) then a else a ++ [tileOf x.2])

/-- One copy of a multicast frame at its egress tile: skipped while its channel is down, else admitted on its own;
MC_COUNTS counts it (R480). -/
def mcCopy (room : Bool) (k : Copy) (x : Nat × Nat) (s : State) : State :=
  let k1 := { k with mc := none, way := .hop x.1, out := x.2 }
  if (cod x.2 s).stage ≠ 6 then countW 0x420E (x.2 + 1) 2 1 s
  else
    let s1 := enqueueCopy room k1 s
    countW 0x420E (x.2 + 1) (if wasAdmitted k1 s s1 then 0 else 1) 1 s1

/-- A copy reaches its egress tile: a multicast frame is replicated there (R480), any other is admitted. -/
def deliver (room : Bool) (et : Nat) (k : Copy) (s : State) : State :=
  match k.mc with
  | none => enqueueCopy room k s
  | some g => ((mcTargets g k.ing s).filter (fun x => tileOf x.2 == et)).foldl (fun s x => mcCopy room k x s) s

/-! ## Mirroring (R481, R482) -/

/-- Session n's configuration. -/
def mirrorCfg (n : Nat) (s : State) : List Byte := cfgBytes 0x4207 (n + 1) s

/-- A channel is a source of a session. -/
def mirrorSource (n c : Nat) (s : State) : Bool := ((mirrorCfg n s).getD (12 + c / 8) 0).getLsbD (c % 8)

/-- Session n is enabled with a port-mirroring flag: 1 ingress, 2 egress. -/
def mirrorFlag (n f : Nat) (s : State) : Bool := ((mirrorCfg n s).getD 0 0).getLsbD 0 && ((mirrorCfg n s).getD 0 0).getLsbD f

/-- A frame is a candidate of session n: counted, and by SAMPLE it becomes a copy, of which it yields at most
four. `raw` is the frame as the copy takes it; `from_` the channel whose tile sends it into the fabric; DEDUCED, assumption 82. -/
def mirrorOne (raw : List Byte) (from_ : Nat) (a : Copy × State) (n : Nat) : Copy × State :=
  let k := a.1
  if k.cand.contains n then a
  else
    let b := mirrorCfg n a.2
    let smp := leNat ((b.drop 8).take 2)
    let seen := Tab.get 0 n a.2.sw.mirror
    let s1 := countW 0x420F (n + 1) 0 1 { a.2 with sw := { a.2.sw with mirror := Tab.put 0 n ((seen + 1) % max smp 1) a.2.sw.mirror } }
    let k1 := { k with cand := k.cand ++ [n] }
    if seen ≠ Config.samplePick n % max smp 1 then (k1, s1)
    else if 4 ≤ k.made then (k1, countW 0x420F (n + 1) 3 1 s1)
    else
      let tr := leNat ((b.drop 2).take 2)
      let nh := leNat ((b.drop 4).take 4)
      let m := if tr = 0 ∨ raw.length + 4 ≤ tr then raw else raw.take (tr - 4)
      let c := field (row nh s1.fwd.tables.nh).bits 254 247 % 192
      let copy : Copy := { k with raw := m, edit := Edit.none, way := .mirror n nh, mc := none, ing := from_, out := c,
                                  cls := (b.getD 1 0).toNat % 16, len := m.length + 4, cand := [], made := 0 }
      ({ k1 with made := k.made + 1 }, fabPut copy (countW 0x420F (n + 1) 1 1 s1))

/-- The mirror copies of a frame for a list of sessions, in ascending order (R482). -/
def mirrorAll (raw : List Byte) (from_ : Nat) (sessions : List Nat) (k : Copy) (s : State) : Copy × State :=
  sessions.foldl (mirrorOne raw from_) (k, s)

end Sys2Proof.Machine
end

