-- ==== Sys2Proof/Machine/EgrOps.lean ====
section
/-!
DEFINITION. Shared operations of the egress side: rewrite and remarking (14), token buckets, service order and
gate lists (16), MACsec's fate of data frames and the transparent clock (12, 18).
-/
namespace Sys2Proof.Machine

/-! ## MACsec (R560 to R563) -/

/-- The MACsec state of a channel. -/
def ca (c : Nat) (s : State) : Ca := Tab.get Ca.reset c s.trust.cas
/-- Change the MACsec state of a channel. -/
def updCa (c : Nat) (f : Ca → Ca) (s : State) : State := { s with trust := { s.trust with cas := Tab.upd Ca.reset c f s.trust.cas } }
/-- MACSEC_POLICY of a channel. -/
def macPolicy (c : Nat) (s : State) : Nat := cfg 0x6015 (c + 1) s
/-- Data frames of a channel are protected: an SAK is installed both ways. -/
def secured (c : Nat) (s : State) : Bool := macPolicy c s != 0 && (ca c s).sak

/-- The key server distributes a fresh SAK; it is in force once the peer has installed it (R562). -/
def distribute (c : Nat) (s : State) : State :=
  draw (updCa c (fun x => { x with rekey := true, an := (x.an + 1) % 4, keyNo := x.keyNo + 1 }) s)

/-! ## Rewrite (R440, R443, R460, R522) -/

/-- A label stack as bytes; `bottom` says that its last entry is the bottom. -/
def stackBytes (bottom : Bool) : List Lse → List Byte
  | [] => []
  | [e] => beBytes 4 (e.label * 4096 + e.tc * 512 + b2n bottom * 256 + e.ttl)
  | e :: t => beBytes 4 (e.label * 4096 + e.tc * 512 + e.ttl) ++ stackBytes bottom t

/-- Write TTL and DSCP into an IP header at the front of a payload; the IPv4 checksum follows. -/
def fixIp (i : IpInfo) (ttl : Option Nat) (dscp : Option Nat) (p : List Byte) : List Byte :=
  if i.v6 then
    let p1 := match ttl with
      | some n => patch 7 [BitVec.ofNat 8 n] p
      | none => p
    match dscp with
    | some d => patch 0 (beBytes 2 (6 * 4096 + (d * 4 + i.ecn) * 16 + b16 p1 0 % 16)) p1
    | none => p1
  else
    let p1 := match ttl with
      | some n => patch 8 [BitVec.ofNat 8 n] p
      | none => p
    let p2 := match dscp with
      | some d => patch 1 [BitVec.ofNat 8 (d * 4 + i.ecn)] p1
      | none => p1
    if ttl.isSome ∨ dscp.isSome then ip4Fix (p2.take i.hdr) ++ p2.drop i.hdr else p2

/-- A stream of the cross-connect channel that a frame came by (R520). -/
def xcStream (c : Nat) (s : State) : Option Nat :=
  if cfg 0x4007 (c + 1) s = 1 ∧ cfg 0x4408 (c + 1) s ≤ 65535 then some (cfg 0x4408 (c + 1) s) else none

/-- The parser's view of a frame that came by channel c. -/
def parseOn (c : Nat) (f : List Byte) (s : State) : Parsed := parse (cfg 0x400D 0 s) (xcStream c s).isSome f

/-- The d-CW beneath the stack as the sequence operation leaves it (R522), put before a payload. -/
def cwBytes (op : SeqOp) (cw : Option Nat) (body : List Byte) : List Byte :=
  match op with
  | .write n true wide =>
    let w := if wide then n % 2 ^ 28 else (match cw with
      | some x => x / 65536 * 65536
      | none => 0) + n % 65536
    beBytes 4 w ++ (if cw.isSome then body.drop 4 else body)
  | .strip => if cw.isSome then body.drop 4 else body
  | _ => body

/-- The R-TAG after the tags as the sequence operation leaves it (R520, R522). -/
def rtagBytes (op : SeqOp) (rtag : Option Nat) : List Byte :=
  match op with
  | .write n false _ => [0xF1#8, 0xC1#8, 0#8, 0#8] ++ beBytes 2 (n % 65536)
  | .strip => []
  | _ => match rtag with
    | some n => [0xF1#8, 0xC1#8, 0#8, 0#8] ++ beBytes 2 (n % 65536)
    | none => []

/-- A frame sent unchanged but for its sequence number (R442 kind 1, R522). -/
def sendAs (p : Parsed) (op : SeqOp) (raw : List Byte) : List Byte :=
  match op with
  | .none => raw
  | _ => raw.take p.tagOff ++ rtagBytes op p.rtag ++ beBytes 2 p.et ++ (raw.drop p.off).take (p.low - p.off)
      ++ cwBytes op (if p.kind = 3 then p.cw else none) (raw.drop p.low)

/-- Label k of a next-hop entry (R442). -/
def nhLabel (b : BitVec 256) (k : Nat) : Nat := field b (176 - 20 * k) (157 - 20 * k)

/-- The labels a next hop pushes, outermost first (R443). -/
def nhPush (b : BitVec 256) : List Nat := (List.range (field b 244 242)).map (nhLabel b)

/-- The labels a next hop pushes with those of its chain beneath; the chain's own chain is ignored. -/
def pushed (b : BitVec 256) (t : Tables) : List Nat :=
  nhPush b ++ (if b.getLsbD 96 then nhPush (row (field b 95 77) t.nh).bits else [])

/-- The Ethernet header the rewrite writes: DMAC, the egress channel's own address, and the VLAN tag (R443). -/
def ethHead (b : BitVec 256) (c cls : Nat) (pcp : Option Nat) (s : State) : List Byte :=
  beBytes 6 (field b 241 194) ++ cfgBytes 0x400B (c + 1) s
    ++ (if b.getLsbD 193 then [0x81#8, 0x00#8] ++ beBytes 2 (pcp.getD (Config.pushTc (16 + cls) % 8) * 8192 + field b 192 181) else [])

/-- The routed rewrite (R443, R460): a reason, or the frame; DEDUCED, assumption 81. -/
def rewriteRouted (b : BitVec 256) (k : Copy) (s : State) : Nat × List Byte :=
  let p := parseOn k.ing k.raw s
  let fl := remarkFlags k.ing s
  let rm := remarkOf k.ing k.cls k.col s
  let tcOf (e : Lse) : Lse := if e.own ∧ bit fl 0 then { e with tc := rm / 4096 % 8 } else e
  let new : List Lse := (pushed b s.fwd.tables).map (fun l => ⟨l, Config.pushTc k.cls % 8, k.edit.ttl, true⟩)
  let stack := (new ++ k.edit.stack).map tcOf
  let dscp := if k.edit.ip ∧ stack.isEmpty ∧ bit fl 1 then some (rm / 64 % 64) else none
  let body0 := if p.kind = 3 then k.raw.drop p.low else k.raw.drop p.off
  let body1 := match p.ip with
    | some i => fixIp i k.edit.ipTtl dscp body0
    | none => body0
  let body := cwBytes k.edit.seq (if p.kind = 3 then p.cw else none) body1
  let et := if !stack.isEmpty then (if p.kind = 3 then p.et else 0x8847)
    else match p.ip with
      | some i => if i.v6 then 0x86DD else 0x0800
      | none => if p.kind = 3 then Config.plainType k.cls % 65536 else p.et
  if 12 < stack.length then (13, [])
  else (0, ethHead b k.out k.cls (if bit fl 2 then some (rm / 8 % 8) else none) s ++ rtagBytes k.edit.seq p.rtag ++ beBytes 2 et
            ++ stackBytes (!p.more) stack ++ body)

/-- The encapsulation of a mirror copy by a routed next hop (R481): the labels, then the mirrored frame; DESIGN CHOICE, assumption 86. -/
def rewriteMirror (b : BitVec 256) (k : Copy) (s : State) : Nat × List Byte :=
  let stack : List Lse := (pushed b s.fwd.tables).map (fun l => ⟨l, Config.pushTc k.cls % 8, 255, true⟩)
  let et := if stack.isEmpty then Config.plainType k.cls % 65536 else 0x8847
  (0, ethHead b k.out k.cls none s ++ beBytes 2 et ++ stackBytes true stack ++ k.raw)

/-- The rewrite by a next hop: reason 9 for one that is gone or of kind discard. -/
def rewriteHop (mirror : Bool) (nh : Nat) (k : Copy) (s : State) : Nat × List Byte :=
  let r := row nh s.fwd.tables.nh
  if r.st = .free ∨ !r.bits.getLsbD 255 ∨ field r.bits 246 245 = 2 then (9, [])
  else if field r.bits 246 245 = 1 then (0, if mirror then k.raw else sendAs (parseOn k.ing k.raw s) k.edit.seq k.raw)
  else if mirror then rewriteMirror r.bits k s else rewriteRouted r.bits k s

/-- The egress rewrite of a copy (R443): a reason of R446, or the frame without its FCS. -/
def rewrite (k : Copy) (s : State) : Nat × List Byte :=
  let r := match k.way with
    | .shroud => (0, k.raw)
    | .hop n => rewriteHop false n k s
    | .mirror _ n => rewriteHop true n k s
  let max_ := match k.way with
    | .shroud => 10304
    | _ => cfg 0x2106 (k.out + 1) s
  if r.1 = 0 ∧ max_ < r.2.length + 4 then (12, []) else r

/-- The length a copy is charged with (R488): as its rewrite emits it, FCS included. -/
def outLen (k : Copy) (s : State) : Nat := match rewrite k s with
  | (0, f) => f.length + 4
  | _ => k.len

/-! ## Token buckets (R489 to R494) -/

/-- Bucket n of port c: 0 to 15 single or committed, 16 to 31 peak, 32 port. -/
def bucket (c n : Nat) (s : State) : Bucket := Tab.get Bucket.reset (c * 64 + n) s.egr.buckets
/-- Change a bucket. -/
def updBucket (c n : Nat) (f : Bucket → Bucket) (s : State) : State :=
  { s with egr := { s.egr with buckets := Tab.upd Bucket.reset (c * 64 + n) f s.egr.buckets } }

/-- One refill of 512 ns (R490, R494). -/
def Bucket.refill (b : Bucket) : Bucket :=
  let b1 := if b.forgive then { b with t := max b.t 0, forgive := false } else b
  let b2 := match b1.next with
    | some (r, u) => { b1 with rate := r, burst := u, rem := 0, next := none }
    | none => b1
  let b3 := match b2.enNext with
    | some e => { b2 with enabled := e, enNext := none }
    | none => b2
  if b3.enabled then
    let x := b3.rate * 65536 + b3.rem
    { b3 with t := min (b3.t + (x / 1000000 : Nat)) (b3.burst * 1024 : Nat), rem := x % 1000000 }
  else b3

/-- A bucket lets frames pass: disabled, or holding zero or more (R485). -/
def Bucket.passes (b : Bucket) : Bool := !b.enabled || decide (0 ≤ b.t)

/-- Charge a bucket with a frame; a disabled one is not charged (R491). -/
def charge (c n len : Nat) (s : State) : State := updBucket c n (fun b => if b.enabled then { b with t := b.t - (len * 1024 : Nat) } else b) s

/-- A bucket takes new settings at its next refill; an unchanged rate and burst leave NEXT unset (R492, R494). -/
def Bucket.take (en : Bool) (rate burst : Nat) (b : Bucket) : Bucket :=
  let b1 := if (b.next.getD (b.rate, b.burst)) = (rate, burst) then b
    else { b with next := some (rate, burst) }
  { b1 with enNext := if en = b.enabled then none else some en }

/-! ## Gate lists (R496 to R504) -/

/-- The gate control of port c. -/
def gate (c : Nat) (s : State) : Gate := Tab.get Gate.reset c s.egr.gates
/-- Change the gate control of a port. -/
def updGate (c : Nat) (f : Gate → Gate) (s : State) : State := { s with egr := { s.egr with gates := Tab.upd Gate.reset c f s.egr.gates } }

/-- The gate domain of a port. -/
def gateDom (c : Nat) (s : State) : Domain := domNo (cfg 0x4305 (c + 1) s)

/-- The entries of one cycle with their start and end in ns, clipped to the cycle; the last holds to its end
(R498). -/
def spans (cycle : Nat) : Nat → List (BitVec 16 × Nat) → List (BitVec 16 × Nat × Nat)
  | _, [] => []
  | o, [(g, _)] => if cycle ≤ o then [] else [(g, o, cycle)]
  | o, (g, i) :: t => if cycle ≤ o then [] else (g, o, min (o + i) cycle) :: spans cycle (o + i) t

/-- A list as it is carried in GATE_LIST (R497), or none where it is out of form. -/
def gateListOf (l : List Byte) : Option GateList :=
  let n := leNat ((l.drop 2).take 2)
  let cyc := leNat ((l.drop 4).take 4)
  let base := timeOfBytes ((l.drop 8).take 12)
  let ent (i : Nat) : BitVec 16 × Nat := (BitVec.ofNat 16 (leNat ((l.drop (24 + 8 * i)).take 2)), leNat ((l.drop (28 + 8 * i)).take 4))
  let es := (List.range n).map ent
  if l.getD 0 0 ≠ 1 ∨ n = 0 ∨ 256 < n ∨ l.length ≠ 24 + 8 * n ∨ cyc < 1000 ∨ 1000000000 < cyc ∨ 999999999 < base.ns.toNat
      ∨ es.any (fun e => e.2 == 0 || decide (1000000000 < e.2)) then none
  else some ⟨cyc, lsbOf { base with frac := 0 }, 0, es⟩

/-- One cycle in 2^-16 ns. -/
def GateList.lsb (l : GateList) : Nat := l.cycle * 65536

/-- The time since the start of the cycle in force. -/
def GateList.phase (l : GateList) (t : Nat) : Nat := (t - l.start) % l.lsb

/-- The number of the entry in force at a time, and its gates. -/
def GateList.entryAt (l : GateList) (t : Nat) : Nat × BitVec 16 :=
  let sp := spans l.cycle 0 l.entries
  let i := (sp.takeWhile (fun x => decide (x.2.2 * 65536 ≤ l.phase t))).length
  (i, ((sp[i]?).getD (0, 0, 0)).1)

/-- When queue q's gate next closes at or after t within a list, counting the present entry; none for never. -/
def GateList.closeAt (q t : Nat) (l : GateList) : Option Nat :=
  let sp := spans l.cycle 0 l.entries
  let base := t - l.phase t
  let here := (sp.filter (fun x => decide (l.phase t < x.2.2 * 65536))).map (fun x => (x.1, base + x.2.1 * 65536))
  let nxt := sp.map (fun x => (x.1, base + l.lsb + x.2.1 * 65536))
  match (here ++ nxt).find? (fun x => !x.1.getLsbD q) with
  | some x => some (max x.2 t)
  | none => none

/-- The end of the unbroken open run of queue q's gate from t on, into the lists that take over (R499, R501); none
for never. -/
def runEnd (q t : Nat) (open_ : Option Nat) : List GatePend → Option Nat
  | [] => open_
  | p :: l =>
    if !p.timed then open_
    else match open_ with
      | some x => if x < p.list.start then some x else runEnd q (max t p.list.start) (p.list.closeAt q (max t p.list.start)) l
      | none => runEnd q (max t p.list.start) (p.list.closeAt q (max t p.list.start)) l

/-- When queue q of port c closes, at or after time t of its gate domain; none for never. -/
def gateClose (c q t : Nat) (s : State) : Option Nat :=
  if !cfgB 0x4303 (c + 1) s then none
  else
    let g := gate c s
    match g.oper with
    | some l => runEnd q t (l.closeAt q t) g.pend
    | none => runEnd q t (if bit (cfg 0x4306 (c + 1) s) q then none else some t) g.pend

/-- MAXWIN of a queue in ns: its longest unbroken open run in the cycle, across the cycle's end; none for no limit
(R504). -/
def maxWin (q : Nat) (l : GateList) : Option Nat :=
  let sp := spans l.cycle 0 l.entries
  if sp.all (fun x => x.1.getLsbD q) then none
  else
    let r := (sp ++ sp).foldl (fun (a : Nat × Nat) x => if x.1.getLsbD q then (a.1 + (x.2.2 - x.2.1), max a.2 (a.1 + (x.2.2 - x.2.1))) else (0, a.2)) (0, 0)
    some r.2

/-- The rate of a port in Gb/s: 400 for each running lane (R252, R488), at most 800 on the jury clock (R506). -/
def portRate (c : Nat) (s : State) : Nat :=
  let w := 400 * laneCount (cod c s).txLanes
  if onJury (tileOf c) s then min w 800 else w

/-- Bits a frame takes on the wire (R488). -/
def wireBits (c len : Nat) (s : State) : Nat := 8 * (len + 20 + (if secured c s then 24 else 0))

/-- A frame of a length fits before its queue's gate closes when it starts at t (R499). -/
def gateFits (c q t len : Nat) (s : State) : Bool :=
  match gateClose c q t s with
  | none => true
  | some x => decide (wireBits c len s * 65536 ≤ (x - t) * portRate c s)

/-- The gate states in force of a port follow its lists at time t of its domain (R498, R501). -/
def gateNow (c : Nat) (s : State) : State :=
  let t := (domOf (gateDom c s) s).counter.lsb
  updGate c (fun g => if !cfgB 0x4303 (c + 1) s then { g with oper := none, pend := [], entry := 0, gates := 0xFFFF#16 }
    else match g.oper with
      | some l => { g with entry := (l.entryAt t).1, gates := (l.entryAt t).2 }
      | none => { g with entry := 0, gates := BitVec.ofNat 16 (cfg 0x4306 (c + 1) s) }) s

/-- The heads that no window of the operational list can pass are discarded and counted (R504). -/
def gateTrimQ (c : Nat) (s : State) (q : Nat) : State :=
  match (gate c s).oper, dieQ c q s with
  | some l, k :: rest =>
    (match maxWin q l with
      | none => s
      | some w =>
        if w * portRate c s < wireBits c (outLen k s) s then
          count 0x430D 1 (countW 0x430C (c + 1) 1 1 (putDie c q rest s))
        else s)
  | _, _ => s

/-- The oversize test of a port's sixteen heads, repeated while heads are discarded. -/
def gateTrim (c : Nat) (s : State) : State :=
  if (gate c s).oper.isNone then s
  else (List.range 16).foldl (fun s q => (dieQ c q s).foldl (fun s _ => gateTrimQ c s q) s) s

/-- The start instant of a list committed at an instant, and its n (R500). -/
def gateStart (l : GateList) (at_ : Nat) : Nat × Nat :=
  let want := at_ + 2000 * 65536
  let n := if want ≤ l.base then 0 else (want - l.base + l.lsb - 1) / l.lsb
  (l.base + n * l.lsb, n)

/-- A list of port c takes its start instant for a commit instant (R500). -/
def gateTime (c : Nat) (l : GateList) (at_ : Nat) (s : State) : GatePend × State :=
  let r := gateStart l at_
  let s1 := updGate c (fun g => { g with moved := decide (0 < r.2), n := r.2 }) s
  (⟨{ l with start := r.1 }, true, false⟩, if 0 < r.2 then count 0x430D 3 s1 else s1)

/-- A list is committed on port c (R500 to R502): a pending list is replaced; without a traceable domain it waits
without a start instant. -/
def gateCommit (c : Nat) (l : GateList) (at_ : Nat) (up : Bool) (s : State) : State :=
  let s1 := if (gate c s).pend.isEmpty then s else count 0x430D 4 s
  if (domOf (gateDom c s) s).traceable && (!up || (cod c s).stage == 6) then
    let r := gateTime c l at_ s1
    updGate c (fun g => { g with pend := [r.1] }) r.2
  else updGate c (fun g => { g with pend := [⟨l, false, up⟩], moved := false, n := 0 }) s1

/-- The pending list of a port becomes operational (R501, R504, R507). -/
def gateTake (c : Nat) (s : State) : State :=
  match (gate c s).pend with
  | [] => s
  | p :: rest =>
    let s1 := updGate c (fun g => { g with oper := some p.list, pend := rest, restepped := false, overrun := false }) s
    gateTrim c (gateNow c (countW 0x430C (c + 1) 3 1 s1))

/-- Pending lists of a port whose start has come are taken in turn. -/
def gateReach (c : Nat) (s : State) : State :=
  match (gate c s).pend with
  | p :: _ => if p.timed ∧ p.list.start ≤ (domOf (gateDom c s) s).counter.lsb then gateTake c s else s
  | [] => s

/-- The ports that have lists. -/
def gatePorts (s : State) : List Nat := s.egr.gates.map (fun g => g.1)

/-- Lists that wait for traceability, and after a cleared start for stage 6, get their start instants at the first
edge at which both hold (R502). -/
def gateWake (c : Nat) (s : State) : State :=
  match (gate c s).pend with
  | [p] =>
    if !p.timed ∧ (domOf (gateDom c s) s).traceable ∧ (!p.up ∨ (cod c s).stage = 6) then
      let r := gateTime c p.list (domOf (gateDom c s) s).counter.lsb s
      updGate c (fun g => { g with pend := [r.1] }) r.2
    else s
  | _ => s

/-- Every list on a stepped domain is re-phased (R503): one whose start lies at or before the new time takes the
entry that covers it, one whose start lies after it is pending again. -/
def rephasePort (c : Nat) (s : State) : State :=
  let g := gate c s
  let t := (domOf (gateDom c s) s).counter.lsb
  let all : List GatePend := (match g.oper with
    | some l => [⟨l, true, false⟩]
    | none => []) ++ g.pend
  let past := all.filter (fun p => p.timed && decide (p.list.start ≤ t))
  let later := all.filter (fun p => !(p.timed && decide (p.list.start ≤ t)))
  if all.all (fun p => !p.timed) then s
  else
    let o := past.getLast?.map (fun p => p.list)
    let started := g.oper != o && o.isSome
    let s1 := updGate c (fun g => { g with oper := o, pend := later, restepped := true }) s
    gateTrim c (gateNow c (count 0x430D 6 (if started then countW 0x430C (c + 1) 3 1 s1 else s1)))

/-- A frame cut to a narrower width in transmission completes at the reduced rate; past its gate close it is a
transmission overrun (R505). -/
def overrunAt (c : Nat) (s : State) : State :=
  match Tab.get none c s.egr.tx with
  | none => s
  | some x =>
    let t := (domOf (gateDom c s) s).counter.lsb
    let done := (t - x.start) * x.rate
    let left := x.bits * 65536 - done
    let r := portRate c s
    if left = 0 ∨ r = 0 ∨ x.rate ≤ r then s
    else
      let s1 := { s with egr := { s.egr with tx := Tab.set c (some { x with start := t, bits := (left + 65535) / 65536, rate := r }) s.egr.tx } }
      match x.close with
      | none => s1
      | some e => if t * r + left ≤ e * r then s1
        else count 0x430D 2 (countW 0x430C (c + 1) 2 1 (updGate c (fun g => { g with overrun := true }) s1))

/-! ## Service order (R485 to R487) -/

/-- Queue q of port c is eligible at time t (R485), its head's length being given. -/
def eligible (c q t len : Nat) (s : State) : Bool :=
  (!cfgB 0x4303 (c + 1) s || (gate c s).gates.getLsbD q) && gateFits c q t len s && (bucket c 32 s).passes
    && (if q < 12 then (bucket c q s).passes else (bucket c (16 + q) s).passes)
    && (cod c s).stage == 6 && s.power.level != 4

/-- The length of the head of each queue that is eligible. -/
def heads (c t : Nat) (s : State) : List (Option Nat) :=
  (List.range 16).map (fun q => match dieQ c q s with
    | [] => none
    | k :: _ => let n := outLen k s
      if eligible c q t n s then some n else none)

/-- Quantum of queue q (R487). -/
def quantum (c q : Nat) (s : State) : Nat := leNat (((cfgBytes 0x4302 (c + 1) s).drop (4 * q)).take 4)

/-- The deficit of a queue. -/
def deficit (c q : Nat) (s : State) : Nat := Tab.get 0 (c * 12 + q) s.egr.deficit
/-- Set a deficit. -/
def setDeficit (c q d : Nat) (s : State) : State := { s with egr := { s.egr with deficit := Tab.put 0 (c * 12 + q) d s.egr.deficit } }

/-- Set the pointer of a port and whether the queue under it has its quantum. -/
def setPointer (c p : Nat) (g : Bool) (s : State) : State :=
  { s with egr := { s.egr with pointer := Tab.put 0 c p s.egr.pointer, granted := Tab.put false c g s.egr.granted } }

/-- Deficit-weighted round robin (R487) over the lengths of eligible heads: the queue served, and the state with the
pointer and the deficits moved. -/
def dwrr (c : Nat) (hs : List (Option Nat)) : Nat → State → Option Nat × State
  | 0, s => (none, s)
  | n + 1, s =>
    let p := Tab.get 0 c s.egr.pointer % 12
    match (hs[p]?).getD none with
    | none => dwrr c hs n (setPointer c ((p + 1) % 12) false s)
    | some len =>
      let s1 := if Tab.get false c s.egr.granted then s else setPointer c p true (setDeficit c p (deficit c p s + quantum c p s) s)
      if len ≤ deficit c p s1 then (some p, setDeficit c p (deficit c p s1 - len) s1)
      else dwrr c hs n (setPointer c ((p + 1) % 12) false s1)

/-- The choice of R486 among the data queues: the queue, whether it is in excess, and the state. -/
def choose (c t : Nat) (s : State) : Option (Nat × Bool) × State :=
  let hs := heads c t s
  let strict := [15, 14, 13, 12].filter (fun q => ((hs[q]?).getD none).isSome)
  match strict.find? (fun q => (bucket c q s).passes) with
  | some q => (some (q, false), s)
  | none =>
    if (hs.take 12).any (·.isSome) then
      match dwrr c hs 2100 s with
      | (some q, s1) => (some (q, false), s1)
      | (none, s1) => (none, s1)
    else match strict with
      | q :: _ => (some (q, true), s)
      | [] => (none, s)

/-- The buckets that a frame of a queue is charged to (R491). -/
def chargeAll (c q len : Nat) (excess : Bool) (s : State) : State :=
  let s1 := charge c 32 len s
  if q < 12 then charge c q len s1 else if excess then charge c (16 + q) len s1 else charge c q len (charge c (16 + q) len s1)

/-! ## The transparent clock (R392, R564) -/

/-- Offset of the PTP message in a frame whose EtherType 0x88F7 is outermost or follows up to two 802.1Q tags. -/
def ptpAt (f : List Byte) : Option Nat :=
  if b16 f 12 = 0x88F7 then some 14
  else if b16 f 12 = 0x8100 then
    if b16 f 16 = 0x88F7 then some 18 else if b16 f 16 = 0x8100 ∧ b16 f 20 = 0x88F7 then some 22 else none
  else none

/-- A transit event message of a domain of TC_DOMAINS: its offset. -/
def transitAt (f : List Byte) (s : State) : Option Nat :=
  match ptpAt f with
  | none => none
  | some o => if b8 f o % 16 ≤ 3 ∧ [1, 2, 3, 4].any (fun i => cfg 0x330C i s == b8 f (o + 4) && cfg 0x330C i s != 255) then some o else none

/-- Add a residence time to the correctionField of the message at an offset. -/
def correct (o : Nat) (res : Int) (f : List Byte) : List Byte :=
  patch (o + 8) (beBytes 8 (((beNat ((f.drop (o + 8)).take 8) : Int) + res) % (2 ^ 64 : Int)).toNat) f

/-! ## Shroud links and frames (R513 to R515, R523) -/

/-- The link that data for the mate takes: 0, or 1 while 0 is down (R517, R523). -/
def mateLink (s : State) : Option Nat := if linkUp 0 s then some 0 else if linkUp 1 s then some 1 else none

/-- A shroud frame without its FCS (R514). -/
def shroudFrame (j kind seq : Nat) (body : List Byte) (s : State) : List Byte :=
  [0x03#8, 0#8, 0#8, 0#8, 0x53#8, 0x48#8] ++ cfgBytes 0x400B ((linkChan j s).getD 0 + 1) s ++ beBytes 2 (cfg 0x4402 0 s)
    ++ [BitVec.ofNat 8 (link j s).version, BitVec.ofNat 8 kind, BitVec.ofNat 8 s.life.address.toNat, BitVec.ofNat 8 j]
    ++ leBytes 8 seq ++ leBytes 2 body.length ++ [0#8, 0#8] ++ body

end Sys2Proof.Machine
end

