-- ==== Sys2Proof/Machine/LaterOps.lean ====
section
/-!
DEFINITION. What a change of a channel, a tile, a domain or the reef level brings with it in the other parts of the
module.
-/
namespace Sys2Proof.Machine

/-- A channel reached stage 6: its PTP ports leave DISABLED, a measurement set is due and its first fit takes
effect at once (R380, R383, R387). -/
def portsUp (c : Nat) (s : State) : State :=
  gateWake c <| makeDue 2 c (updAsym c (fun a => { a with first := true }) (enablePort c 1 (enablePort c 0 s)))
/-- A channel left stage 6: its ports are DISABLED, its estimate freezes, its runs end (R380, R388, R403). -/
def portsDown (c : Nat) (s : State) : State :=
  discardRuns 0x12 (fun r => runChan r.kind r.inst == some c) (freezeAsym c (enablePort c 1 (enablePort c 0 s)))
/-- All four lanes run both ways with none faulty. -/
def fullWidth (c : Nat) (s : State) : Bool :=
  (cod c s).stage == 6 && (cod c s).txLanes == 0xF#4 && (cod c s).rxLanes == 0xF#4 && (cod c s).rxFault == 0
/-- What a change of a channel's lanes or stage brings with it: ports and estimate follow a loss of stage 6, a
reference lane applies its own delay difference, four lanes again make a set due (R380, R383, R387, R388). -/
def settleChan (c : Nat) (s0 s1 : State) : State :=
  if (cod c s0).stage = 6 ∧ (cod c s1).stage ≠ 6 then portsDown c s1
  else
    let s2 := if txRef c s0 = txRef c s1 ∧ rxRef c s0 = rxRef c s1 then s1 else relaneAsym c s1
    let s3 := if (cod c s1).stage = 6 ∧ !fullWidth c s0 ∧ fullWidth c s1 then makeDue 2 c s2 else s2
    let s4 := if (cod c s1).abrupt ∧ laneCount (cod c s1).txLanes < laneCount (cod c s0).txLanes then overrunAt c s3 else s3
    let s5 := if (cod c s1).txLanes = (cod c s0).txLanes then s4 else gateTrim c s4
    freezeAsym c s5
/-- The same for every channel of an engine. -/
def settleChans (t : Nat) (s0 s1 : State) : State := (engChans t).foldl (fun s c => settleChan c s0 s) s1
/-- Runs of kind 3 give way to the channel (R401). -/
def preempt3 (c : Nat) (s : State) : State := discardRuns 0x24 (fun r => r.kind == 3 && r.inst / 4 == c) s
/-- A tile runs on the jury clock: its ports suspend, runs that use its stamps are discarded (R290, R380, R405). -/
def tileOnJury (t : Nat) (s : State) : State :=
  discardRuns 0x15 (fun r => match runChan r.kind r.inst with
    | some c => tileOf c == t
    | none => false) (settlePorts (engChans t) s)
/-- A tile is back on its MDLL: its ports listen again (R380). -/
def tileOffJury (t : Nat) (s : State) : State := settlePorts (engChans t) s
/-- A port's width narrows without notice: the frame in transmission goes on at the reduced rate (R505). -/
def overrun (c : Nat) (s : State) : State := overrunAt c s
/-- Gate lists on a stepped domain are re-phased (R503). -/
def rephase (d : Domain) (s : State) : State :=
  (gatePorts s).foldl (fun s c => if gateDom c s = d then rephasePort c s else s) s
/-- Gate lists that wait for a TRACEABLE domain are judged anew (R502). -/
def gatesWait (s : State) : State := (gatePorts s).foldl (fun s c => gateWake c s) s
/-- The first lock of the output MDLL makes the calibration of every event unit due (R319). -/
def euFirstCal (s : State) : State :=
  [0, 1, 2, 3].foldl (fun s u => if (Tab.find (calKey 1 u) s.cal.dueSince).isSome || (Tab.find (calKey 1 u) s.cal.lastOk).isSome then s else makeDue 1 u s) s
/-- The module holds the time role: it is active, or has no mate paired (R353, R509). -/
def timeRole (s : State) : Bool := s.pair.role != .standby
end Sys2Proof.Machine
end

