-- ==== Sys2Proof/Machine/Optics.lean ====
section
/-!
DEFINITION. The commands of the optical channels and lasers (07).
-/
namespace Sys2Proof.Machine

/-! ## Starting lasers -/

/-- Book a laser bank in a state: 1 starting, 2 lit, 3 brace (R64). -/
def bookBank (t st : Nat) (s : State) : State :=
  let u := if st = 1 then perVariant 18 24 s else if st = 2 then max (perVariant 10 14 s) (Tab.get 0 t s.cal.raised) else perVariant 4 5 s
  setEntry cBank t st u s

/-- The next engine of the staging is requested once the one before has left its starting state (R89). -/
def requestNext (s : State) : State :=
  if s.life.staging && decide (s.life.nextEngine < 24) then
    let t := s.life.nextEngine
    let s1 := updEng t (fun e => { e with bank := .waiting, refusedAt := none }) s
    let own := (if (eng t s).lower.bound then perVariant 2 3 s else 0) + (if (eng t s).upper.bound then perVariant 2 3 s else 0)
    { s1 with life := { s1.life with nextEngine := t + 1 },
              power := { s1.power with waiting := s1.power.waiting ++ [⟨.traffic, .laserBank t, perVariant 18 24 s + own⟩] } }
  else s

/-- Laser j after the bank's start: retired stays, at its set point lit, else failed (R228, R229). -/
def started (reached : BitVec 8) (bias power : List (BitVec 16)) (l : Laser) (j : Nat) : Laser :=
  match l.st with
  | .retired => l
  | .forcedOff => l
  | _ => if reached.getLsbD j then ⟨.lit, bias.getD j 0, power.getD j 0⟩ else ⟨.retired, 0, 0xF060#16⟩

/-- A spare after the start check: bound to a retired laser it is in use; else ready, or failed (R228, R229). -/
def Spare.checked (ok : Bool) (p : Spare) : Spare :=
  if p.st = .failed then p else if !ok then { p with st := .failed } else if p.bound then { p with st := .inUse } else { p with st := .ready }

/-- After the start check the spare of a retired laser is requested unless it is in use or failed (R235). -/
def coverRetired (t : Nat) (s : State) : State :=
  (List.range 8).foldl (fun s j =>
    let l := laser t j s
    if l.st == .retired && !spareServes j (eng t s) && spareFree t j s then askSpare t j false s else s) s

/-- A spare that failed its check raises the alarm, and an entry booked for it is released (R64, R229). -/
def spareChecks (t : Nat) (was s : State) : State :=
  [0, 1].foldl (fun s k =>
    if (spareOf (4 * k) (eng t s)).st == .failed && (spareOf (4 * k) (eng t was)).st != .failed
    then raise .spareCheck (2 * t + k) (setEntry cSpare (2 * t + k) 0 0 s) else s) s

/-- A laser that the start check declared failed is recorded as retired; where no spare is asked for it, or the spare in use
for it failed its check, the alarm of R235 is raised (R229, R231, R235). -/
def startFailures (t : Nat) (was s : State) : State :=
  (List.range 8).foldl (fun s j =>
    let dead := (laser t j s).st == .retired && (laser t j was).st != .retired
    let p := spareOf j (eng t s)
    let asked := p.bound && p.target == j % 4 && p.st != .failed
    let s1 := if dead then queueRec 6 (8 * t + j) true none s else s
    if (dead && !asked) || (spareServes j (eng t was) && p.st == .failed) then raise .laserNoSpare (8 * t + j) s1 else s1) s

/-- LASER_BANK_STARTED (R228, R229, R235): `reached` says which fixed lasers are at their set points, `lo` and `hi`
whether each spare passed its check. -/
def execLaserBankStarted (t : Tile) (reached : BitVec 8) (bias power : List (BitVec 16)) (lo hi : Bool) (s : State) : Out :=
  .next (
    if (eng t s).bank != .starting then s
    else
      let s1 := updEng t (fun e => { e with
        bank := .lit, lasers := e.lasers.mapIdx (fun j l => started reached bias power l j),
        lower := e.lower.checked lo, upper := e.upper.checked hi, refusedAt := none }) s
      let failed := ((List.range 8).filter (fun j => (laser t j s1).st == .retired && (laser t j s).st != .retired)).length
      let s2 := countN 0x200E 3 failed (bookBank t 2 s1)
      let s3 := (engChans t).foldl (fun s c =>
        let s := updCod c (fun d => { d with everUp := false }) s
        if (opt c s).bandState == .dark && (opt c s).enable then toListen c s else s) (spareChecks t s s2)
      requestNext (startFailures t s (coverRetired t s3)))

/-- SUBMOUNT_TEMP_ALARM (R220): the sub-mount temperature, 0.01 °C signed, off 60.0 °C for 1 s. -/
def execSubmountTempAlarm (t : Tile) (temp : BitVec 16) (s : State) : Out :=
  let off := (temp.toInt - 6000).natAbs
  let s1 := updEng t (fun e => { e with temp := temp }) s
  .next (if off > 200 then raise .subMajor t s1 else if off > 50 then raise .subMinor t s1 else s1)

/-! ## Band resolution (R223 to R227) -/

/-- BEACON_HEARD (R223, R224): LISTEN with a pin other than 1 answers a beacon of FAMILY 1 or 2. -/
def execBeaconHeard (c : Chan) (family vari : Fin 16) (caps : BitVec 8) (s : State) : Out :=
  .next (
    if (opt c s).bandState == .listen && (opt c s).pin != 1 && (family == 1 || family == 2) then
      let s1 := updOpt c (fun o => { o with bandState := .answer, lanesLit := 1 }) s
      emit .answer c [2] (preempt3 c (updCod c (fun d => { d with peerFam := family, peerVar := vari, peerCaps := if family == 1 then caps else 0 }) s1))
    else s)

/-- LISTEN_TIMEOUT (R223, R224): without a beacon heard the channel beacons on the lower band, unless pinned
upper; DESIGN CHOICE, assumption 10. -/
def execListenTimeout (c : Chan) (s : State) : Out :=
  .next (
    if (opt c s).bandState == .listen && (opt c s).pin != 2 then
      emit .beacon c [1] (preempt3 c (updOpt c (fun o => { o with bandState := .beacon, lanesLit := 1 }) s))
    else s)

/-- ANSWER_HEARD (R223): BEACON resolves to the lower band and bring-up begins. -/
def execAnswerHeard (c : Chan) (family vari : Fin 16) (caps : BitVec 8) (s : State) : Out :=
  .next (
    if (opt c s).bandState == .beacon && (family == 1 || family == 2) then
      resolve c .lower (updCod c (fun d => { d with peerFam := family, peerVar := vari, peerCaps := if family == 1 then caps else 0 }) s)
    else s)

/-- BEACON_TIMEOUT (R223): counted as unanswered; free, the channel backs off; pinned lower, it continues. -/
def execBeaconTimeout (c : Chan) (s : State) : Out :=
  .next (
    if (opt c s).bandState == .beacon then
      let s1 := count 0x200E 2 (setRc (chanAddr c 0x018) 4 s)
      if (opt c s).pin = 1 then emit .beacon c [1] s1 else toBackoff c s1
    else s)

/-- BACKOFF_EXPIRY (R223). -/
def execBackoffExpiry (c : Chan) (s : State) : Out :=
  .next (if (opt c s).bandState == .backoff then toListen c s else s)

/-- ANSWER_RESOLVED (R223): the answering channel resolves to the upper band. -/
def execAnswerResolved (c : Chan) (s : State) : Out :=
  .next (if (opt c s).bandState == .answer then resolve c .upper s else s)

/-- ANSWER_TIMEOUT (R223): no beacon word for 8 ms. -/
def execAnswerTimeout (c : Chan) (s : State) : Out :=
  .next (if (opt c s).bandState == .answer then toListen c s else s)

/-- BAND_RELEASE (R223, R224): loss of signal on all four received lanes for 50 ms. -/
def execBandRelease (c : Chan) (s : State) : Out :=
  .next (
    if (opt c s).bandState == .resolved && (opt c s).los == 0xF#4 then updAsym c (fun _ => Asym.reset) (toListen c (portsDown c (chanTo c 0 s))) else s)

/-- BAND_UNRESOLVED (R225). -/
def execBandUnresolved (c : Chan) (s : State) : Out :=
  .next (
    let o := opt c s
    if (o.pin == 1 || o.pin == 2) && o.bandState != .resolved && o.bandState != .dark && o.bandState != .disabled then
      raise .unresolved c s
    else s)

/-! ## Laser failure and spares (R231 to R236, R244) -/

/-- A laser that can carry light no more. -/
def gone (l : Laser) : Bool := l.st == .retired || l.st == .forcedOff

/-- LASER_FAILURE (R231, R232, R235): a fixed laser, or with `spare` the spare in use in its place. -/
def execLaserFailure (t : Tile) (j : Fin 8) (spare : Bool) (s : State) : Out :=
  .next (
    if spare then
      if spareServes j (eng t s) then
        let s1 := settleChans t s <| retire t j (laser t j s).st (setEntry cSpare (2 * t + j / 4) 0 0 (updEng t (fun e => setSpare j { (spareOf j e) with st := .failed } e) s))
        raise .laserNoSpare (8 * t + j) s1
      else s
    else if (laser t j s).on then
      let free := spareFree t j s
      let s1 := settleChans t s (retire t j .retired s)
      if free then askSpare t j false s1 else raise .laserNoSpare (8 * t + j) s1
    else s)

/-- SPARE_LOCKED (R234, R422): the spare is locked and switched into the comb port; of a planned switch-in the
fixed laser is declared failed only now. -/
def execSpareLocked (t : Tile) (j : Fin 8) (wlError : BitVec 16) (s : State) : Out :=
  .next (
    let p := spareOf j (eng t s)
    if p.st == .tuning && p.target == j % 4 then
      let s1 := if p.planned then settleChans t s (retire t j .retired s) else s
      let s2 := updEng t (fun e => setSpare j { p with st := .inUse, planned := false, wlError := wlError } e) s1
      let s3 : State := { s2 with cal := { s2.cal with swapped := if s2.cal.swapped.contains t.val then s2.cal.swapped else s2.cal.swapped ++ [t.val] } }
      count 0x200E 4 (queueRec 7 (2 * t + j / 4) true none s3)
    else s)

/-- The check of a planned switch-in (R235, R246). -/
def canSwitch (t j : Nat) (s : State) : Bool := (laser t j s).on && spareFree t j s

/-- PLANNED_SWITCH_IN (R234, R244, R246): LASER_FORCE 1. -/
def execPlannedSwitchIn (q : Req) (t : Tile) (j : Fin 8) (s : State) : Out :=
  .next (roleRequest .operator q (fun _ s =>
    if canSwitch t j s then Res.of (askSpare t j true s) 0 else Res.of s 0x080E#16) s)

/-- LASER_FORCE 2 (R231, R244): the laser is declared failed and retired; no spare is switched in; DEDUCED, assumption 59. -/
def forceOff (t j : Nat) (s : State) : State :=
  if gone (laser t j s) then s else settleChans t s (retire t j .forcedOff s)

/-- LASER_FORCE_OFF (R244, R246, R419): answered 0x0402, it completes when the retirement record commits. -/
def execLaserForceOff (q : Req) (t : Tile) (j : Fin 8) (s : State) : Out :=
  .next (roleRequest .operator q (fun _ s =>
    if gone (laser t j s) then Res.of s 0x080E#16
    else Res.of (queueRec 6 (8 * t + j) true (some q) (forceOff t j s)) 0x0402#16) s)

/-- LASER_FORCE_AUTOMATIC (R244): the field's value 0 lands; a retired laser is not touched. -/
def execLaserForceAutomatic (t : Tile) (j : Fin 8) (s : State) : Out :=
  .next { s with regs := { s.regs with words := Tab.put 0 (chanAddr (8 * t + j) 0x064) 0 s.regs.words } }

/-! ## Receivers (R239 to R241) -/

/-- Set the reported received power of a lane. -/
def setRx (c k : Nat) (p : BitVec 16) (s : State) : State := updOpt c (fun o => { o with rxPower := setAt k p o.rxPower }) s

/-- RX_LOS_ENTER (R240, R262): the lane is in loss of signal, LOS_ANY is set, the coding handles its loss. -/
def execRxLosEnter (c : Chan) (k : Lane) (p : BitVec 16) (s : State) : Out :=
  .next (
    if (opt c s).los.getLsbD k then setRx c k p s
    else
      let s1 := setRc (chanAddr c 0x018) 1 (updOpt c (fun o => { o with los := o.los ||| laneBit k }) (setRx c k p s))
      settleChan c s (laneLostRx c k s1))

/-- RX_LOS_EXIT (R240). -/
def execRxLosExit (c : Chan) (k : Lane) (p : BitVec 16) (s : State) : Out :=
  .next (updOpt c (fun o => { o with los := o.los &&& ~~~(laneBit k) }) (setRx c k p s))

/-- THRESHOLD_CROSSED (R241): 0 the low alarm, 1 the low warning, 2 the high warning; judged only on a lane
out of loss of signal. -/
def execThresholdCrossed (c : Chan) (k : Lane) (which : Fin 3) (p : BitVec 16) (s : State) : Out :=
  .next (
    let s1 := setRx c k p s
    if (opt c s).los.getLsbD k then s1
    else if which = 1 then setRc (chanAddr c 0x018) 8 s1
    else raise .rxPower (c * 4 + k) (setRc (chanAddr c 0x018) 8 s1))

/-- TAP_LIMIT (R238): an adaptive tap has held at a range limit for 10 s. -/
def execTapLimit (c : Chan) (s : State) : Out :=
  .next (if (opt c s).eqMode = 0 then setRc (chanAddr c 0x018) 0x20 s else s)

end Sys2Proof.Machine
end

