-- ==== Sys2Proof/Machine/Coding.lean ====
section
/-!
DEFINITION. The commands of the channel coding, bring-up, width and test loops (08).
-/
namespace Sys2Proof.Machine

/-! ## Taps (R237, R238, R258) -/

/-- A tap pair within its ranges: PRE -16 to 0, POST -24 to 0, together at most 32 (R237). -/
def tapsOk (pre post : BitVec 8) : Bool :=
  decide (-16 ≤ pre.toInt) && decide (pre.toInt ≤ 0) && decide (-24 ≤ post.toInt) && decide (post.toInt ≤ 0) &&
    decide (pre.toInt.natAbs + post.toInt.natAbs ≤ 32)

/-- The taps of a channel mode: TX_EQ in modes 0 and 1 at a bring-up, PRE 0 and POST -6 on lane 0 in mode 2,
and in mode 0 against a KV0480 (R238). -/
def startTaps (c : Nat) (s : State) : List Taps :=
  let b := cfgBytes 0x2005 (c + 1) s
  let eq := lanes.map (fun k => (⟨b.getD (2 * k) 0, b.getD (2 * k + 1) 0⟩ : Taps))
  if (opt c s).eqMode = 2 ∨ ((opt c s).eqMode = 0 ∧ (cod c s).peerFam = 2) then setAt 0 ⟨0, 0xFA#8⟩ eq else eq

/-- Number of a tap of a channel: PRE or POST of a lane. -/
def tapNo (k : Nat) (post : Bool) : Nat := 2 * k + b2n post

/-- A tap has moved in service within the last second (R238). -/
def tapRests (c n : Nat) (s : State) : Bool :=
  (cod c s).stage == 6 && (Tab.find n (cod c s).tapAt).any (fun t => decide (s.now < t + 100000000))

/-- One tap request: 1 raises, 2 lowers, 3 returns to TX_EQ where training allows it; the reply is 1 applied,
2 at a limit, 3 refused by the mode, 0 nothing requested. A request acts once and keeps its reply until hold is sent; in
service one that comes within a second of the tap's last move waits unanswered (R238, R249, R258); DEDUCED, assumption 149. -/
def tapMove (c k : Nat) (post : Bool) (rq : Nat) (s : State) : State × Nat :=
  let n := tapNo k post
  let ack (a : Nat) (s : State) : State × Nat := (updCod c (fun d => { d with tapAck := Tab.put 0 n a d.tapAck }) s, a)
  let old := Tab.get 0 n (cod c s).tapAck
  if rq = 0 then ack 0 s
  else if old ≠ 0 then (s, old)
  else if (opt c s).eqMode != 0 || (cod c s).peerFam == 2 then ack 3 s
  else if tapRests c n s then (s, 0)
  else
    let t := (opt c s).taps.getD k Taps.reset
    let t0 := (startTaps c s).getD k Taps.reset
    let step (b b0 : BitVec 8) : BitVec 8 := if rq = 1 then b + 1 else if rq = 2 then b - 1 else b0
    let x : Taps := if post then ⟨t.pre, step t.post t0.post⟩ else ⟨step t.pre t0.pre, t.post⟩
    if tapsOk x.pre x.post then
      ack 1 (updCod c (fun d => { d with tapAt := if d.stage = 6 then Tab.set n s.now d.tapAt else d.tapAt })
        (updOpt c (fun o => { o with taps := setAt k x o.taps }) s))
    else ack 2 s

/-! ## Bring-up (R253 to R258) -/

/-- CLOCK_RECOVERED (R253): stage 2 to 3; the corrections of the last stage 3 are dropped. Bring-up waits while the tile
is in deep sleep (R67) and while a warm start runs (R95). -/
def execClockRecovered (c : Chan) (s : State) : Out :=
  .next (
    if (cod c s).stage = 2 ∧ (tile (tileOf c) s).sleep ≠ .deep ∧ s.life.state ≠ .restarting then
      let s1 := updOpt c (fun o => { o with taps := startTaps c s }) s
      setCod c (fun d => { d with stage := 3, polInv := 0, laneMap := 0xFFFF#16 }) s1
    else s)

/-- TRAINING_FRAME_RECEIVED (R257, R258): polarity, lane order, capabilities and tap requests of one lane. -/
def execTrainingFrameReceived (c : Chan) (k : Lane) (f : Train) (s : State) : Out :=
  .next (
    if (cod c s).stage != 3 then s
    else
      let s1 := updCod c (fun d => { d with polInv := if f.inverted then d.polInv ||| laneBit k else d.polInv &&& ~~~(laneBit k) }) s
      if !f.idOk then s1
      else
        let shift := 4 * k.val
        let keep : BitVec 16 := ~~~(0xF#16 <<< shift)
        let s2 := updCod c (fun d => { d with
          laneMap := (d.laneMap &&& keep) ||| (BitVec.ofNat 16 f.laneId.val <<< shift),
          peerCaps := if d.peerFam = 1 then f.caps else d.peerCaps }) s1
        let s3 := if f.laneId != k then setRc (chanAddr c 0x110) 4 s2 else s2
        let r1 := tapMove c k false f.preReq s3
        let r2 := tapMove c k true f.postReq r1.1
        emit .training c [k.val, r1.2, r2.2] r2.1)

/-- A stage of bring-up fails: the channel returns to stage 2 on its band; three failures in a row raise the alarm (R255). -/
def stageFails (c : Nat) (s : State) : State :=
  let n := (cod c s).fails + 1
  let s1 := count 0x2110 2 (setRc (chanAddr c 0x110) 2 (detFollow c (setCod c (fun d => { Coding.down 2 d with fails := n }) s)))
  if n ≥ 3 then raise .bringUp c s1 else s1

/-- A lane that is to train has no light and both ends do not set RW (R254). -/
def trainShort (c : Nat) (s : State) : Bool :=
  let need : BitVec 4 := if (cod c s).granted then 0xF else 1
  need &&& ~~~(litLanes c s) != 0 && !bothRw c s

/-- Received lane k's identifier in LANE_MAP, 15 for none. -/
def mapOf (c k : Nat) (s : State) : Nat := ((cod c s).laneMap >>> (4 * k)).toNat % 16

/-- Two received lanes carry one identifier, or a lane with light never had a valid one (R257). -/
def mapBad (c : Nat) (s : State) : Bool :=
  lanes.any (fun k => (mapOf c k s == 15 && !(opt c s).los.getLsbD k) || lanes.any (fun j => decide (j < k) && mapOf c k s != 15 && mapOf c j s == mapOf c k s))

/-- TRAINING_COMPLETE (R254, R257, R258): every training lane RX_READY both ways for 100 frames; stage 3 fails for a lane
without its laser and for a wrong lane order. -/
def execTrainingComplete (c : Chan) (s : State) : Out :=
  .next (
    if (cod c s).stage = 3 then
      if trainShort c s || mapBad c s then stageFails c s
      else setCod c (fun d => { d with stage := 4, tapAck := [], maxLanes := if d.brace then 1 else if d.force then 3 else if d.peerFam = 2 then 1 else 0xF }) s
    else s)

/-- ALIGNMENT_COMPLETE (R253): marker lock and deskew on every lane that the peer's TX_LANES names. -/
def execAlignmentComplete (c : Chan) (peerTx peerMax : BitVec 4) (s : State) : Out :=
  .next (
    if (cod c s).stage = 4 then
      detFollow c (setCod c (fun d => { d with
        stage := 5, rxLanes := peerTx, locked := peerTx, peerMax := peerMax, txLanes := d.train }) s)
    else s)

/-- CHECK_COMPLETE (R253, R254): stage 6, the MAC is up; a channel that lacks a lane comes up reduced. -/
def execCheckComplete (c : Chan) (s : State) : Out :=
  .next (
    if (cod c s).stage = 5 then
      let s1 := setCod c (fun d => { d with stage := 6, fails := 0, everUp := true }) s
      let s2 := updOpt c (fun o => { o with lanesLit := (cod c s1).txLanes }) s1
      let s3 := if widthState (cod c s2) = 2 then enterReduced c s2 else s2
      portsUp c (endAlarm .bringUp c (detFollow c s3))
    else s)

/-- BRINGUP_STAGE_TIMEOUT (R255): a stage fails or times out, the channel returns to stage 2 on its band; three
failures in a row raise the alarm. -/
def execBringupStageTimeout (c : Chan) (s : State) : Out :=
  .next (
    if 2 ≤ (cod c s).stage ∧ (cod c s).stage ≤ 5 then stageFails c s else s)

/-- BRINGUP_ALARM (R255): 3 s without stage 6. -/
def execBringupAlarm (c : Chan) (s : State) : Out :=
  .next (if (cod c s).stage < 6 ∧ (opt c s).bandState == .resolved then raise .bringUp c s else s)

/-- RETRAIN of one channel (R255). -/
def retrain (c : Nat) (s : State) : State :=
  if (opt c s).bandState == .resolved && (cod c s).stage != 7 && (cod c s).stage != 0 then
    portsDown c (chanTo c 2 s)
  else s

/-- RETRAIN (R255, R271): a write of the object at a channel, a group or all channels. -/
def execRetrain (q : Req) (sub : BitVec 8) (s : State) : Out :=
  .next (roleRequest .operator q (fun _ s =>
    if (members sub.toNat s).isEmpty then Res.of s (if sub.toNat < 224 ∨ 240 ≤ sub.toNat then 0x0102#16 else 0x0803#16)
    else Res.of ((members sub.toNat s).foldl (fun s c => retrain c s) s) 0) s)

/-! ## Markers and width (R249 to R264) -/

/-- A lane that joins without marker lock by the announced period is set in RX_FAULT and counted (R260). -/
def joinCheck (c : Nat) (s : State) : State :=
  let d := cod c s
  if d.rxAnn && decide ((d.rxAm - d.rxAt).toNat < 32768) then
    let missing := d.rxNext &&& ~~~d.locked
    let s1 := setCod c (fun d => { d with rxAnn := false, rxLanes := d.rxNext, rxFault := d.rxFault ||| missing }) s
    let s2 := setRc (chanAddr c 0x110) 8 s1
    if missing = 0 then s2 else countN 0x2110 5 (laneCount missing) (setRc (chanAddr c 0x110) 0x80 s2)
  else s

/-- An announced width takes effect at its period (R260); a narrower one is counted as a furl, a wider one as
an unfurl (R271). -/
def widthAt (c : Nat) (s : State) : State :=
  let d := cod c s
  if d.announced && d.txAm == d.atCount then
    let m := d.nextLanes &&& ~~~d.peerFault
    let m := if m = 0 then d.txLanes else m
    let s1 := setTx c m (setCod c (fun d => { d with announced := false, wake := 0 }) s)
    if laneCount m < laneCount d.txLanes then count 0x2110 3 s1
    else if laneCount m > laneCount d.txLanes then count 0x2110 4 s1 else s1
  else s

/-- MARKER_PERIOD (R249, R260, R261): markers go out on every running lane; granted lanes are announced, and
announced widths take effect. -/
def execMarkerPeriod (c : Chan) (s : State) : Out :=
  .next (
    if (cod c s).stage < 4 ∨ (cod c s).stage = 7 then s
    else
      let s1 := updCod c (fun d => { d with txAm := d.txAm + 1 }) s
      let s2 := if (cod c s1).wake != 0 && !(cod c s1).announced then announce c (cod c s1).wake s1 else s1
      let s3 := joinCheck c (widthAt c s2)
      let d := cod c s3
      let s4 := emit .marker c [d.txAm.toNat, d.txLanes.toNat, d.nextLanes.toNat, d.atCount.toNat, d.maxLanes.toNat, d.rxFault.toNat,
        (if d.force then 1 else 0), (if d.abrupt then 1 else 0), (if d.brace then 1 else 0), d.tapStatus, (myCaps c s3).toNat, d.tapLane, b2n d.tapSel] s3
      settleChan c s (updCod c (fun d => { d with abrupt := false, tapStatus := 0 }) s4))

/-- The control fields of a valid marker of the lowest-numbered locked lane (R251, R256, R260 to R264). -/
def takeControl (c : Nat) (m : Marker) (s : State) : State :=
  let s1 := updCod c (fun d => { d with peerCaps := m.caps, peerMax := m.max, peerFault := m.fault, peerForce := m.force }) s
  -- the peer's announcement wakes receivers and books them without a grant (R260)
  let s2 := if m.next != m.tx && (cod c s1).rxNext != m.next then
      setCod c (fun d => { d with rxNext := m.next, rxAt := m.at_, rxAnn := true }) s1 else s1
  -- an abrupt narrowing is followed at once and counts no lane as faulty (R263)
  let s3 := if m.abrupt then
      setRc (chanAddr c 0x110) 8 (setCod c (fun d => { d with rxLanes := m.tx, rxAnn := false }) s2) else s2
  -- RX_FAULT of the peer, and its FORCE, bind this transmitter at once (R262, R263)
  let faulty := (cod c s3).txLanes &&& m.fault
  let s4 := if faulty != 0 then
      (if bothRw c s3 && decide (laneCount faulty ≤ 1) && (opt c s3).laserLost &&& ~~~faulty == 0 then enterReduced c (abruptTo c (~~~faulty) s3)
       else chanDown c s3) else s3
  let s5 := if m.force && (cod c s4).txLanes &&& ~~~m.max != 0 then abruptTo c m.max s4 else s4
  let rq := if m.tapReq = 3 then 0 else m.tapReq
  let r := tapMove c m.tapLane m.tapSel rq
    (updCod c (fun d => { d with tapAck := if rq = 0 then [] else d.tapAck.filter (fun x => x.1 == tapNo m.tapLane m.tapSel) }) s5)
  if rq = 0 then r.1 else updCod c (fun d => { d with tapStatus := r.2, tapLane := m.tapLane, tapSel := m.tapSel }) r.1

/-- A valid marker of a lane without lock gives it lock: the second of two a period apart, or the first of a joining lane
whose count equals that of the locked lanes in the slot. A KV0480's count is ignored (R251, R266); DEDUCED, assumption 150. -/
def gainsLock (c k : Nat) (m : Marker) (s : State) : Bool :=
  let d := cod c s
  let low := lowestLane d.locked
  if low = 4 then (Tab.find k d.amSeen).any (fun a => d.peerFam != 1 || a + 1 == m.am)
  else (d.rxNext ||| m.tx ||| m.next).getLsbD k && match Tab.find low d.amSeen with
    | some a => d.peerFam != 1 || a == m.am || a + 1 == m.am
    | none => true

/-- MARKER_RECEIVED (R250, R251, R258 to R264): a valid marker on received lane k may gain lock, and the lowest-numbered locked lane gives the control fields; a KV0480's fields are ignored (R266). -/
def execMarkerReceived (c : Chan) (k : Lane) (m : Marker) (s : State) : Out :=
  .next (
    if (cod c s).stage < 4 ∨ (cod c s).stage = 7 then s
    else
      let d := cod c s
      let has := d.locked.getLsbD k || gainsLock c k m s
      let s0 := updCod c (fun d => { d with rxAm := m.am, peerRev := m.rev, amSeen := Tab.set k m.am d.amSeen }) s
      let s1 := if has then detFollow c (updCod c (fun d => { d with locked := d.locked ||| laneBit k }) s0) else s0
      let s2 := if (cod c s1).peerFam != 1 then s1
        else if lowestLane (cod c s1).locked = k then joinCheck c (takeControl c m s1) else s1
      let s3 := if !m.fault.getLsbD k && (cod c s2).rxFault.getLsbD k && !(opt c s2).los.getLsbD k && !m.tx.getLsbD k then
          updCod c (fun d => { d with rxFault := d.rxFault &&& ~~~(laneBit k) }) s2 else s2
      let s4 := if m.abrupt then overrun c s3 else s3
      let s5 := if m.next &&& ~~~m.tx != 0 then preempt3 c s4 else s4
      settleChan c s s5)

/-- MARKER_LOCK_LOST (R251, R262): three positions without a valid marker; AM_LOST is set. -/
def execMarkerLockLost (c : Chan) (k : Lane) (s : State) : Out :=
  .next (
    if !(cod c s).locked.getLsbD k then s
    else
      let s1 := setRc (chanAddr c 0x110) 0x20 (updCod c (fun d => { d with locked := d.locked &&& ~~~(laneBit k), amSeen := Tab.erase k d.amSeen }) s)
      settleChan c s (detFollow c (laneLostRx c k s1)))

/-- The channel may furl of itself: both ends set FURL, no lane faulty, nothing holds it unfurled (R261). -/
def mayFurl (c : Nat) (s : State) : Bool :=
  (cod c s).stage == 6 && bothFurl c s && !reduced c s && !(cod c s).announced && s.life.state != .restarting

/-- FURL_DECISION (R261): the rate, in percent of 1.6 Tb/s, has stayed below a threshold for 100 ms. -/
def execFurlDecision (c : Chan) (percent : Nat) (s : State) : Out :=
  .next (
    if chanHeld c s || !mayFurl c s then s
    else
      let m : BitVec 4 :=
        if percent < cfg 0x2104 (c + 1) s ∧ cfg 0x2102 (c + 1) s = 1 then 1
        else if percent < cfg 0x2103 (c + 1) s then 3 else (cod c s).txLanes
      let t := (cod c s).txLanes &&& m
      if t = 0 ∨ t = (cod c s).txLanes then s else announce c t s)

/-- UNFURL_REQUEST (R261): the transmit rate or the buffer calls for more lanes; their modulator entries are
requested as one traffic-class request. -/
def execUnfurlRequest (c : Chan) (s : State) : Out :=
  .next (
    if (cod c s).stage != 6 || s.life.state == .restarting || s.power.level == 4 then s else askUnfurl c (preempt3 c s))

/-- LANE_REJOIN (R262): a transmit lane that is available again rejoins by announcement; a received one is
fault-free again. -/
def execLaneRejoin (c : Chan) (k : Lane) (s : State) : Out :=
  .next (
    if (cod c s).stage != 6 || !combLit (tileOf c) (laserOf (opt c s).band k) s then s
    else
      let s1 := updOpt c (fun o => { o with laserLost := o.laserLost &&& ~~~(laneBit k) }) s
      let s2 := updCod c (fun d => { d with peerFault := d.peerFault &&& ~~~(laneBit k) }) s1
      announce c ((cod c s2).txLanes ||| laneBit k) (preempt3 c s2))

/-! ## PRBS (R268) -/

/-- PRBS_CHECKER_LOCK (R268): a named checker locks; counting starts once all named checkers are locked. -/
def execPrbsCheckerLock (c : Chan) (k : Lane) (s : State) : Out :=
  .next (
    let named := BitVec.ofNat 4 (cfg 0x2109 (c + 1) s)
    if (cod c s).stage = 7 ∧ named.getLsbD k then
      updCod c (fun d => { d with prbsLock := d.prbsLock ||| laneBit k, prbsCount := (d.prbsLock ||| laneBit k) &&& named == named }) s
    else s)

end Sys2Proof.Machine
end

