-- ==== Sys2Proof/Machine/TimeBase.lean ====
section
/-!
DEFINITION. The commands of the time base, the MDLLs, the jury clock and LOCKMON (09).
-/
namespace Sys2Proof.Machine

/-! ## The domains (R275 to R281) -/

/-- A write to a domain is by the host in a session, or by Nymyx's servo (none): only the owner's write is
taken (R276). -/
def byOwner (w : Option Req) (d : Domain) (body : State → Res) (s : State) : State :=
  match w with
  | some q => roleRequest .operator q (fun _ s => if hostOwns d s then body s else Res.of s 0x0810#16) s
  | none => if hostOwns d s then s else (body s).st

/-- TIME_SET of a domain: nanoseconds beyond 999,999,999 are refused (R144, R278). -/
def timeSet (d : Domain) (t : Time96) (s : State) : Res :=
  if t.ns.toNat > 999999999 then Res.of s 0x0301#16 else Res.of (rephase d (setTime d t s)) 0

/-- TIME_SET (R278). -/
def execTimeSet (w : Option Req) (d : Domain) (t : Time96) (s : State) : Out :=
  .next (byOwner w d (timeSet d t) s)

/-- TIME_ADJ of a domain (R278). -/
def timeAdj (d : Domain) (a : BitVec 64) (s : State) : Res :=
  if adjFits d a.toInt s then
    Res.of (if a = 0 then adjTime d a.toInt s else rephase d (adjTime d a.toInt s)) 0
  else Res.of s 0x0301#16

/-- TIME_ADJ (R278). -/
def execTimeAdj (w : Option Req) (d : Domain) (a : BitVec 64) (s : State) : Out :=
  .next (byOwner w d (timeAdj d a) s)

/-- The range of RATE_ADJ (R275). -/
def rateOk (r : Int) : Bool := decide (-1000000000 ≤ r) && decide (r ≤ 1000000000)

/-- A new RATE_ADJ applies from the next mast clock edge (R275). -/
def rateAdj (d : Domain) (r : BitVec 32) (s : State) : Res :=
  if rateOk r.toInt then Res.of (updDom d (fun x => { x with rate := r.toInt }) s) 0 else Res.of s 0x0301#16

/-- RATE_ADJ_WRITE (R275). -/
def execRateAdjWrite (w : Option Req) (d : Domain) (r : BitVec 32) (s : State) : Out :=
  .next (byOwner w d (rateAdj d r) s)

/-- TRACEABLE of a domain, and what waits for it (R277, R502). -/
def traceableWrite (d : Domain) (b : Bool) (s : State) : Res := Res.of (gatesWait (setTraceable d b s)) 0

/-- TRACEABLE_WRITE (R277). -/
def execTraceableWrite (w : Option Req) (d : Domain) (b : Bool) (s : State) : Out :=
  .next (byOwner w d (traceableWrite d b) s)

/-- The presented time as TIME96. -/
def timeOut (s : State) : Time96 := timeOf s.tb.p.toNat

/-- Latch domain A, domain B and the presented time on one edge (R280). -/
def capture (s : State) : State :=
  { s with tb := { s.tb with capA := timeA s, capB := timeOf s.tb.b.counter.lsb, capOut := timeOut s } }

/-- CAPTURE (R280). -/
def execCapture (s : State) : Out := .next (capture s)

/-- OUT_RESYNC (R284): the presented time steps to its domain. -/
def execOutResync (q : Req) (s : State) : Out :=
  .next (roleRequest .operator q (fun _ s => Res.of (stepP s) 0) s)

/-- SLEWING_END (R283): the steps that remain bring |O| below four LSBs; where O is half a step more than
a whole number of steps it stays at four, and the stepper goes on. -/
def execSlewingEnd (s : State) : Out :=
  let o := outOffset s
  let r := (o + 4) % 8 - 4
  .next (if s.tb.slewing && r.natAbs < 4 then
      { s with tb := { s.tb with p := s.tb.p + (o - r), slewing := false, slewAcc := 0 } }
    else s)

/-! ## The MDLLs (R285 to R293) -/

/-- A loop acquires again from the given retry count; from LOCKED its domain leaves it first (R289). -/
def relock (m : Nat) (s : State) : State :=
  match (mdll m s).st with
  | .off => s
  | .locked => if m < 24 then tileOnJury m (mdllLose m s) else mdllLose m s
  | _ => endAlarm .mdllFailed m (updMdll m (fun x => { x with st := .acquiring, retries := 0 }) s)

/-- MDLL_RELOCK (R289, R297): an MDLL in OFF changes nothing. -/
def execMdllRelock (q : Req) (m : BitVec 8) (s : State) : Out :=
  .next (roleRequest .operator q (fun _ s =>
    if m.toNat > 25 then Res.of s 0x0301#16 else Res.of (relock m.toNat s) 0) s)

/-- MDLL_LOCK_REACHED (R286, R289): without the mast clock no loop locks. -/
def execMdllLockReached (m : Fin 26) (s : State) : Out :=
  .next (if (mdll m s).st == .acquiring && s.tb.mastOk then updMdll m (fun x => { x with st := .hold }) s else s)

/-- MDLL_ACQUIRE_TIMEOUT (R289, R293): three retries, then FAILED; DESIGN CHOICE, assumption 60. -/
def execMdllAcquireTimeout (m : Fin 26) (s : State) : Out :=
  .next (
    if (mdll m s).st == .acquiring && s.tb.mastOk then
      if (mdll m s).retries < 3 then updMdll m (fun x => { x with retries := x.retries + 1 }) s
      else raise .mdllFailed m (count 0x3012 3 (updMdll m (fun x => { x with st := .failed, waking := false }) s))
    else s)

/-- Each output with a stored mode is configured at the first lock of the output MDLL (R352). -/
def outputsFirst (s : State) : State :=
  [0, 1, 2, 3].foldl (fun s n =>
    if cfg 0x321C (n + 1) s != 0 && !s.tb.configured then updOut n (fun o => { o with waiting := true }) s else s) s

/-- An MDLL enters LOCKED: its domain moves to it, its alarms end; the output MDLL steps the presented time
and frees the outputs (R289 to R292). -/
def mdllLocked (m : Nat) (s : State) : State :=
  let s1 := updMdll m (fun x => { x with st := .locked, source := .mdll, waking := false }) s
  let s2 := endAlarm .mdllFailed m (endAlarm (mdllAlarm m) m s1)
  if m = 25 then euFirstCal (freeOutputs (outputsFirst (stepP s2)))
  else if m < 24 then tileOffJury m s2
  else s2

/-- MDLL_HOLD_COMPLETE (R289). -/
def execMdllHoldComplete (m : Fin 26) (s : State) : Out :=
  .next (if (mdll m s).st == .hold then mdllLocked m s else s)

/-- The lock of R286 is lost: from LOCKED with its effects, from HOLD back to ACQUIRING with the retry count
unchanged (R289). -/
def loseLock (m : Nat) (s : State) : State :=
  match (mdll m s).st with
  | .locked => if m < 24 then tileOnJury m (mdllLose m s) else mdllLose m s
  | .hold => updMdll m (fun x => { x with st := .acquiring }) s
  | _ => s

/-- MDLL_LOCK_LOST (R286, R289). -/
def execMdllLockLost (m : Fin 26) (freqErr : BitVec 12) (s : State) : Out :=
  .next (loseLock m (updMdll m (fun x => { x with freqErr := freqErr.signExtend 16 }) s))

/-- FREQUENCY_CLAMP (R287): counted, CLAMP set, the domain forced to bypass. -/
def execFrequencyClamp (m : Fin 26) (s : State) : Out :=
  .next (if (mdll m s).st == .off then s else loseLock m (count 0x3012 2 (setRc 0x20018 8 s)))

/-- The domains that would take the jury clock follow JURY_OK (R289). -/
def jurySources (s : State) : State :=
  (List.range 25).foldl (fun s m =>
    match (mdll m s).st with
    | .off => s
    | .locked => s
    | _ => updMdll m (fun x => { x with source := standby m s }) s) s

/-- JURY_FAULT (R287, R289). -/
def execJuryFault (s : State) : Out :=
  .next (
    if !s.tb.juryOk then s
    else raise .juryFault noInst (detLost 202 (jurySources (count 0x3012 4 (setRc 0x20018 0x10 { s with tb := { s.tb with juryOk := false } })))))

/-- JURY_RECOVERED (R287). -/
def execJuryRecovered (s : State) : Out :=
  .next (
    if s.tb.juryOk || !s.tb.running then s
    else endAlarm .juryFault noInst (jurySources { s with tb := { s.tb with juryOk := true } }))

/-- All 208 detectors lose their samples (R310). -/
def detsLost (s : State) : State :=
  { s with vern := { s.vern with helperLocked := false, dets := s.vern.dets.map (fun (k, x) => (k, { x with valid := false, resume := true, freqValid := false })) } }

/-- A path of a mast fault: FREE unless the host has it, the prediction invalid (R336). -/
def pathsFree (s : State) : State :=
  let s1 := [0, 1, 2].foldl (fun s n => if (path n s).st == .host then s else pathFree n s) s
  { s1 with refs := { s1.refs with predValid := false, freq := { s1.refs.freq with hist := [] } } }

/-- MAST_FAULT (R288, R310, R336). -/
def execMastFault (s : State) : Out :=
  .next (
    if !s.tb.running || !s.tb.mastOk then s
    else
      let s1 := count 0x3012 5 (setRc 0x20018 0x20 { s with tb := { s.tb with mastOk := false } })
      let s2 := (List.range 26).foldl (fun s m => loseLock m s) s1
      let s3 := setTraceable .b false (setTraceable .a false s2)
      raise .mastFault noInst (esmcEvents (pathsFree (holdOutputs (detsLost s3)))))

/-- MAST_RECOVERED (R288): MAST_OK has been true for 1 ms. -/
def execMastRecovered (s : State) : Out :=
  .next (
    if !s.tb.running || s.tb.mastOk then s
    else endAlarm .mastFault noInst { s with tb := { s.tb with mastOk := true } })

/-- LOCKMON_ALARM (R294, R295): LOCKMON_MV has stayed outside its band for 10 s; outside 0.60 V to 1.90 V
the alarm is major. -/
def execLockmonAlarm (mv : BitVec 16) (s : State) : Out :=
  let s1 := { s with tb := { s.tb with lockmonMv := mv.toNat } }
  .next (
    if mv.toNat < 600 ∨ 1900 < mv.toNat then raise .lockmonMajor noInst s1
    else if mv.toNat < s.tb.lockLow ∨ s.tb.lockHigh < mv.toNat then raise .lockmonMinor noInst s1
    else s1)

end Sys2Proof.Machine
end

