-- ==== Sys2Proof/Machine/Vernier.lean ====
section
/-!
DEFINITION. The commands of the vernier array: phase detectors, input pulses, event units, traces (10).
-/
namespace Sys2Proof.Machine

/-! ## Detectors (R299 to R310) -/

/-- The source of a roving detector 204 to 207 (R307, R320): shroud lane, or channel and lane. -/
def roveSrc (d : Nat) (s : State) : Nat := cfg 0x3108 (d - 203) s

/-- Whether an output gives edges: configured, not off, its clock in LOCKED (R291, R306). -/
def outRuns (n : Nat) (s : State) : Bool := (outp n s).mode != 0 && !s.pins.outHeld

/-- Whether a detector works in pulse mode (R305, R306). -/
def pulseDet (d : Nat) (s : State) : Bool :=
  if 192 ≤ d ∧ d < 196 then cfg 0x3105 (d - 191) s == 2
  else if 196 ≤ d ∧ d < 200 then (outp (d - 196) s).mode == 1 || (outp (d - 196) s).mode == 2
  else false

/-- Whether the source of a detector is present, by the rules of its kind (R304 to R307). -/
def srcPresent (d : Nat) (s : State) : Bool :=
  if d < 192 then (cod d s).locked != 0 && (cod d s).stage != 7
  else if d < 196 then cfg 0x3105 (d - 191) s == 1 || cfg 0x3105 (d - 191) s == 2
  else if d < 200 then outRuns (d - 196) s
  else if d = 200 then (mdll 25 s).st == .locked
  else if d = 201 then (mdll 24 s).st == .locked
  else if d = 202 then s.tb.juryOk
  else if d = 203 then s.tb.running
  else
    let r := roveSrc d s
    if bit r 15 then (linkChan (b2n (bit r 4)) s).any (fun c => (cod c s).locked != 0) else (cod (min (r / 16 % 256) 191) s).locked.getLsbD (r % 4)

/-- FREQ_WINDOW in mast periods (R302). -/
def freqWindow (s : State) : Int := (cfg 0x3104 0 s : Int) * 10000000

/-- Minus the least-squares slope of U against the sample instant, as a fraction of 10^-15: an instant
counts 10 ns, a unit of U 2^-16 ns, so one unit a period is 1/655,360 (R302). -/
def slopeFreq (h : List (Int × Int)) : Int :=
  let n : Int := h.length
  let st := h.foldl (fun a p => a + p.1) 0
  let su := h.foldl (fun a p => a + p.2) 0
  let stt := h.foldl (fun a p => a + p.1 * p.1) 0
  let stu := h.foldl (fun a p => a + p.1 * p.2) 0
  let den := n * stt - st * st
  if den = 0 then 0 else -((n * stu - st * su) * 1000000000000000 / (den * 655360))

/-- Wrap a phase difference into ±5 ns (R302). -/
def unwrap (d : Int) : Int := if d > 327680 then d - 655360 else if d < -327680 then d + 655360 else d

/-- A new sample enters the history, and DET_FREQ follows from it (R302). -/
def Det.sampled (win t : Int) (x : Det) : Det :=
  let h := ((t, x.u) :: x.hist).takeWhile (fun p => decide (t - win ≤ p.1))
  { x with hist := h, freq := slopeFreq h, freqValid := decide (x.srcAt + win ≤ t) }

/-- The first sample after a break: SRC_CHANGE, unwrapping restarts, whole turns are kept in U (R303). -/
def Det.restart (xn : Int) (t : Int) (pulse : Bool) (x : Det) : Det :=
  { x with u := if pulse then xn else x.u / 655360 * 655360 + xn, x := xn, srcChange := true, resume := false, srcAt := t, hist := [],
           freqValid := false, outRange := false, valid := true, noSource := false }

/-- A later sample: U moves by the unwrapped change, and a departure of more than 2.5 ns from what DET_FREQ
predicts sets UNWRAP_SLIP (R302). -/
def Det.follow (xn : Int) (t : Int) (x : Det) : Det :=
  let dl := unwrap (xn - x.x)
  let dt := match x.hist with
    | p :: _ => t - p.1
    | [] => 0
  let slip := x.freqValid && decide ((dl + x.freq * dt * 655360 / 1000000000000000).natAbs > 163840)
  { x with u := x.u + dl, x := xn, slip := x.slip || slip, valid := true, noSource := false, outRange := false }

/-- The reported phase of a detector (R302). -/
def phase (d : Nat) (s : State) : Int := (det d s).u - detDelay d s

/-- The flags of a detector as DET_STATUS [8:0] (R320, R322). -/
def Det.flags (x : Det) : Nat :=
  (if x.valid then 1 else 0) + x.lane % 4 * 4 + (if x.slip then 16 else 0) + (if x.noSource then 32 else 0) +
    (if x.outRange then 64 else 0) + (if x.srcChange then 128 else 0) + (if x.irregular then 256 else 0)

/-- A sample of a traced detector joins its trace until the asked count is reached (R322). -/
def traceSample (d : Nat) (s : State) : State :=
  match s.vern.trace with
  | none => s
  | some tr =>
    if tr.det = d ∧ !tr.done ∧ tr.recs.length < tr.want then
      let x := det d s
      { s with vern := { s.vern with trace := some { tr with recs := tr.recs ++ [⟨s.vern.beatNumber, BitVec.ofNat 16 x.flags, x.m, x.u⟩] } } }
    else s

/-- A break of the selected slot's detector recomputes the build-out of the frequency path so that its loop
sees the error it last held (R338, R339); `e` is that error; DESIGN CHOICE, assumption 64. -/
def rebuild (d : Nat) (e : Int) (s : State) : State :=
  let p := s.refs.freq
  match p.slot with
  | none => s
  | some k =>
    if slotDet k s = some d then updPath 0 (fun q => { q with buildOut := phase d s - (if q.bridging then q.eHold else e) }) s else s

/-- The loop error of the frequency path on its selected slot (R339). -/
def freqErr (s : State) : Int :=
  match s.refs.freq.slot with
  | none => 0
  | some k => match slotDet k s with
    | none => 0
    | some d => phase d s - s.refs.freq.buildOut

/-- A sample of detector d: x, its instant and M (R301 to R303). -/
def takeSample (d : Nat) (xn t : Int) (m : Nat) (pulse : Bool) (s : State) : State :=
  let x := det d s
  let win := freqWindow s
  let e := freqErr s
  let y := if x.resume then x.restart xn t pulse else if pulse then { x with u := xn, x := xn, valid := true, noSource := false } else x.follow xn t
  let z := { (y.sampled win t) with m := m, seq := x.seq + 1, instant := s.vern.beatNumber.toNat }
  let s1 := updDet d (fun _ => z) s
  let s2 := if x.resume then rebuild d e (count 0x3113 1 s1) else s1
  let s3 := if z.slip && !x.slip then count 0x3113 2 s2 else s2
  traceSample d s3

/-- INPUT_BEAT_EDGE (R301 to R304): `inRange` says whether the source has been within ±20 ppm over the last
64 samples. -/
def execInputBeatEdge (d : Fin 208) (m : Fin 16384) (inRange : Bool) (s : State) : Out :=
  .next (
    if !s.vern.helperLocked || !s.tb.mastOk || pulseDet d s || !srcPresent d s then s
    else if !inRange then
      let s1 := updDet d (fun x => { x with valid := false, outRange := true, noSource := false, resume := true, freqValid := false }) s
      if (det d s).outRange then s1 else count 0x3113 3 s1
    else takeSample d (m.val * 40) ((s.vern.beatNumber.toNat : Int) * 16384 + m.val) m false s)

/-- Reduce a phase difference into [-5 ns, +5 ns) (R309). -/
def reduce5 (v : Int) : Int := (v + 327680) % 655360 - 327680

/-- Refresh a DIFF_PAIR slot at a mast beat edge: both detectors have a valid sample that follows the beat
edge before this one (R309). -/
def diffRefresh (k : Nat) (s : State) : State :=
  let b := cfgBytes 0x3109 (k + 1) s
  let a := leNat (b.take 2)
  let c := leNat (b.drop 2)
  let xa := det a s
  let xc := det c s
  if xa.valid && xc.valid && xa.instant == s.vern.beatNumber.toNat && xc.instant == s.vern.beatNumber.toNat then
    { s with vern := { s.vern with diff := Tab.put ⟨0, false⟩ k ⟨reduce5 ((xa.x - detDelay a s) - (xc.x - detDelay c s)), true⟩ s.vern.diff } }
  else s

/-- MAST_BEAT_EDGE (R300, R309). -/
def execMastBeatEdge (s : State) : Out :=
  .next (
    if !s.vern.helperLocked || !s.tb.mastOk then s
    else
      let s1 := (List.range 8).foldl (fun s k => diffRefresh k s) s
      { s1 with vern := { s1.vern with beatNumber := s1.vern.beatNumber + 1, beatTime := timeA s1 } })

/-- HELPER_UNLOCK (R310). -/
def execHelperUnlock (s : State) : Out :=
  .next (
    if s.vern.helperLocked then
      let s1 := detsLost s
      raise .helper noInst (count 0x3113 4 (setRc 0x30018 1 s1))
    else s)

/-- HELPER_RESUME (R310): 10 ms after the helper locks, each detector's next sample sets SRC_CHANGE. -/
def execHelperResume (s : State) : Out :=
  .next (
    if s.tb.running && s.tb.mastOk && !s.vern.helperLocked then
      endAlarm .helper noInst { s with vern := { s.vern with helperLocked := true } }
    else s)

/-! ## Input pulses (R305, R327) -/

/-- The signed offset of an instant from the nearest whole second, in 2^-16 ns. -/
def secOffset (t : Int) : Int := (t + (lsbPerSec / 2 : Nat)) % (lsbPerSec : Nat) - (lsbPerSec / 2 : Nat)

/-- The time errors a phase slot takes from a pulse: source minus domain, for both domains (R327). -/
def pulseError (n : Nat) (t : Int) (s : State) : State :=
  let b := t + (s.tb.b.counter.lsb : Int) - (s.tb.a.counter.lsb : Int)
  updSlot n (fun x => { x with present := true, timeErr := -(secOffset t), timeErrB := -(secOffset b) }) s

/-- PULSE_INPUT_EDGE (R305): a rising edge at domain A time `t`; more than 1 ms from one second after the
edge before it, it is irregular and not used. -/
def execPulseInputEdge (n : Fin 4) (t : Time96) (s : State) : Out :=
  let d := 192 + n.val
  let a : Int := lsbOf t
  .next (
    if cfg 0x3105 (n + 1) s != 2 || !s.vern.helperLocked || !s.tb.mastOk || (mdll 25 s).st != .locked then s
    else
      let bad := match (det d s).lastPulse with
        | none => false
        | some l => !(det d s).resume && decide ((a - l - (lsbPerSec : Nat)).natAbs > 65536000000)
      if bad then updDet d (fun x => { x with irregular := true }) s
      else
        let s1 := updDet d (fun x => { x with lastPulse := some a }) s
        pulseError n a (takeSample d (secOffset a) (a / 655360) 0 true s1))

/-! ## Event units (R311 to R321) -/

/-- Event unit u. -/
def eu (u : Nat) (s : State) : Eu := Tab.get Eu.reset u s.vern.eus
/-- Change event unit u. -/
def updEu (u : Nat) (f : Eu → Eu) (s : State) : State :=
  { s with vern := { s.vern with eus := Tab.upd Eu.reset u f s.vern.eus } }

/-- EU_MODE, START_SRC, STOP_SRC and the flags of a unit (R322). -/
def euMode (u : Nat) (s : State) : Nat := ((cfgBytes 0x310B (u + 1) s).getD 0 0).toNat
def euStart (u : Nat) (s : State) : Nat := ((cfgBytes 0x310B (u + 1) s).getD 1 0).toNat
def euStop (u : Nat) (s : State) : Nat := ((cfgBytes 0x310B (u + 1) s).getD 2 0).toNat
def euFlags (u : Nat) (s : State) : Nat := ((cfgBytes 0x310B (u + 1) s).getD 3 0).toNat
/-- EU_WINDOW in fs. -/
def euWindow (u : Nat) (s : State) : Int := (leNat (((cfgBytes 0x310B (u + 1) s).drop 8).take 4) : Int) * 10000000
/-- The domain of a unit. -/
def euDomain (u : Nat) (s : State) : Domain := if bit (euFlags u s) 1 then .b else .a

/-- Arm a unit (R313). -/
def euArm (u : Nat) (s : State) : State :=
  updEu u (fun e => { e with armed := true, start := none, heldStop := none, stops := [], epochSeen := (domOf (euDomain u s) s).epoch }) s

/-- EU_ARM (R313, R317). -/
def execEuArm (q : Req) (u : Fin 4) (s : State) : Out :=
  .next (roleRequest .operator q (fun _ s =>
    if (eu u s).calRunning then Res.of s 0x0401#16 else Res.of (euArm u s) 0) s)

/-- Queue a result with its flags, and disarm in single mode (R313, R316): STEPPED and CAL_STALE are added;
a full queue discards the new record. -/
def euResult (u : Nat) (iv : Int) (fl : BitVec 8) (ready : Option Int) (s : State) : State :=
  let e := eu u s
  let ep := (domOf (euDomain u s) s).epoch
  let f := fl ||| (if ep != e.epochSeen then 0x20 else 0) ||| (if e.calValid then 0 else 0x40)
  let r : EuRec := ⟨iv, e.startTime, e.seq, f, (ep <<< 4)⟩
  let full := decide (64 ≤ e.queue.length)
  let s1 := updEu u (fun e => { e with
    armed := bit (euFlags u s) 0, start := none, heldStop := none, readyAt := ready, seq := e.seq + 1, epochSeen := ep,
    overflow := e.overflow || full, queue := if full then e.queue else e.queue ++ [r] }) s
  let s2 := if full then count 0x3113 8 s1 else s1
  let s3 := if fl &&& 2 != 0 then count 0x3113 6 s2 else s2
  if fl &&& 4 != 0 then count 0x3113 5 s3 else s3

/-- An edge was missed: flag and count (R312, R314). -/
def euMissed (u : Nat) (s : State) : State := count 0x3113 7 (updEu u (fun e => { e with missed := true }) s)

/-- An interpolator is blind for 40 ns after each edge it captured (R312). -/
def blind (last : Option Int) (t : Int) : Bool :=
  match last with
  | none => false
  | some l => decide (t < l + 40000000)

/-- A start edge that the interpolator captured. -/
def startEdge (u : Nat) (t : Int) (time : Time96) (s : State) : State :=
  let e := eu u s
  let early := match e.readyAt with
    | none => false
    | some r => decide (t < r)
  match euMode u s with
  | 3 => euResult u 0 1 none (updEu u (fun e => { e with startTime := time }) s)
  | 2 => if e.start.isSome then euMissed u s
         else if early then s
         else updEu u (fun e => { e with start := some t, startTime := time }) s
  | 1 =>
    if e.start.isSome || early then s
    else
      let s1 := updEu u (fun e => { e with start := some t, startTime := time }) s
      match e.heldStop with
      | some h => if t - h < 2000 ∧ euStart u s ≠ euStop u s then euResult u 0 3 (some (h + 40000000)) s1 else s1
      | none => s1
  | _ => s

/-- A stop edge that the interpolator captured (R313, R314). -/
def stopEdge (u : Nat) (t : Int) (s : State) : State :=
  let e := eu u s
  match euMode u s with
  | 2 => updEu u (fun e => { e with stops := t :: e.stops.filter (fun x => decide (t - 2 * euWindow u s ≤ x)) }) s
  | 1 =>
    match e.start with
    | none => updEu u (fun e => { e with heldStop := some t }) s
    | some t0 =>
      if euStart u s = euStop u s ∧ t - t0 < 40000000 then s
      else if 2000 ≤ t - t0 then euResult u (t - t0) 1 (some (t + 40000000)) s
      else if -2000 < t - t0 then euResult u 0 3 (some (t + 40000000)) s
      else s
  | _ => s

/-- EVENT_EDGE (R311 to R315): an edge at `t` fs of the output MDLL's count reaches the start or the stop
interpolator; `time` is its time in the unit's domain. -/
def execEventEdge (u : Fin 4) (stop : Bool) (t : Int) (time : Time96) (s : State) : Out :=
  .next (
    let e := eu u s
    if (mdll 25 s).st != .locked || !e.armed || e.calRunning then s
    else if stop then
      if blind e.blindStop t then (if e.start.isSome then euMissed u s else s)
      else stopEdge u t (updEu u (fun e => { e with blindStop := some t }) s)
    else
      if blind e.blindStart t then (if e.start.isNone then euMissed u s else s)
      else startEdge u t time (updEu u (fun e => { e with blindStart := some t }) s))

/-- EU_TIMEOUT_EXPIRY (R313). -/
def execEuTimeoutExpiry (u : Fin 4) (s : State) : Out :=
  .next (if (eu u s).armed && (eu u s).start.isSome && euMode u s == 1 then euResult u 0 4 none s else s)

/-- The stop of a window nearest the start; of two equally near the earlier (R314). -/
def nearest (t0 : Int) : List Int → Option Int
  | [] => none
  | x :: l => match nearest t0 l with
    | none => some x
    | some y => if (x - t0).natAbs < (y - t0).natAbs ∨ ((x - t0).natAbs = (y - t0).natAbs ∧ x < y) then some x else some y

/-- EU_WINDOW_END (R314). -/
def execEuWindowEnd (u : Fin 4) (s : State) : Out :=
  .next (
    match (eu u s).start with
    | none => s
    | some t0 =>
      if !(eu u s).armed || euMode u s != 2 then s
      else
        let w := euWindow u s
        let same := euStart u s = euStop u s
        let cand := (eu u s).stops.filter (fun x => decide ((x - t0).natAbs ≤ w.natAbs ∧ ¬(same ∧ (x - t0).natAbs < 40000000)))
        let ready := some (t0 + w + 40000000)
        match nearest t0 cand with
        | none => euResult u 0 8 ready s
        | some x => if (x - t0).natAbs < 2000 then euResult u 0 3 ready s else euResult u (x - t0) 1 ready s)

/-- Pop the oldest record of a unit into its read shadow (R321). -/
def euPop (u : Nat) (s : State) : State := updEu u (fun e => { e with popped := e.queue.head?, queue := e.queue.drop 1 }) s

/-- EU_RESULT_POP (R321). -/
def execEuResultPop (u : Fin 4) (s : State) : Out := .next (euPop u s)

/-! ## Traces (R322) -/

/-- A DET_TRACE_REQ write: detector 0 to 207, count 1 to 4,096; one trace at a time (R322). -/
def detTraceReq (d n : Nat) (s : State) : Res :=
  if 207 < d ∨ n < 1 ∨ 4096 < n then Res.of s 0x0301#16
  else match s.vern.trace with
    | some tr => if tr.done then Res.of { s with vern := { s.vern with trace := some ⟨d, n, [], false⟩ } } 0 else Res.of s 0x0401#16
    | none => Res.of { s with vern := { s.vern with trace := some ⟨d, n, [], false⟩ } } 0

/-- DET_TRACE_REQUEST (R322). -/
def execDetTraceRequest (q : Req) (d n : BitVec 16) (s : State) : Out :=
  .next (roleRequest .operator q (fun _ s => detTraceReq d.toNat n.toNat s) s)

/-- DET_TRACE_COMPLETE (R322). -/
def execDetTraceComplete (s : State) : Out :=
  .next (
    match s.vern.trace with
    | some tr => if tr.want ≤ tr.recs.length then { s with vern := { s.vern with trace := some { tr with done := true } } } else s
    | none => s)

end Sys2Proof.Machine
end

