-- ==== Sys2Proof/Machine/Refs.lean ====
section
/-!
DEFINITION. The commands of the references, the servo and the outputs (11).
-/
namespace Sys2Proof.Machine

/-! ## Qualification (R327 to R329) -/

/-- A slot is enabled. -/
def slotOn (k : Nat) (s : State) : Bool := cfgB 0x3200 (k + 1) s
/-- SLOT_KIND: 0 frequency, 1 phase, 2 time. -/
def slotKind (k : Nat) (s : State) : Nat := cfg 0x3202 (k + 1) s

/-- The detector of a slot is valid. -/
def slotValid (k : Nat) (s : State) : Bool :=
  match slotDet k s with
  | none => false
  | some d => (det d s).valid

/-- The distance of a slot's frequency from the holdover prediction, 10^-15: its frequency against the mast
clock plus the steer in force, less the predicted steer (R328, R335); DESIGN CHOICE, assumption 13. -/
def deviation (k : Nat) (s : State) : Int :=
  match slotDet k s with
  | none => 0
  | some d => (det d s).freq + s.refs.steer - s.refs.predict

/-- A slot's frequency is within limits; one not yet measured counts as within (R328); DESIGN CHOICE, assumption 13. -/
def withinLimits (k : Nat) (s : State) : Bool :=
  match slotDet k s with
  | none => false
  | some d =>
    if !(det d s).freqValid then true
    else if s.refs.predValid then decide ((deviation k s).natAbs ≤ cfg 0x3209 0 s * 1000000)
    else decide ((det d s).freq.natAbs ≤ 4600000000)

/-- The present cause against a slot's frequency qualification: 0 none, 1 absent, 2 beyond limits (R327, R328). -/
def freqCause (k : Nat) (s : State) : Nat :=
  if !slotValid k s || ((k == 4 || k == 5) && !mateSource s) then 1 else if !withinLimits k s then 2 else 0

/-- The slot's time error is available (R327). -/
def timeAvail (k : Nat) (s : State) : Bool := slotTime k s

/-- The present cause against a slot's time qualification. -/
def timeCause (k : Nat) (s : State) : Nat :=
  if !slotValid k s || ((k == 4 || k == 5) && !mateSource s) then 1 else if !timeAvail k s then 7 else if !withinLimits k s then 2 else 0

/-- Whether the cause of a reason is gone (R329). -/
def gone329 (r cause : Nat) (k : Nat) (s : State) : Bool :=
  cause == 0 &&
    match r with
    | 3 => qlOf k s != 15
    | 4 => qlOf k s != 0
    | 5 => decide ((deviation k s).natAbs ≤ 2000000)
    | _ => true

/-- One evaluation of a qualification that no timer moves (R329). -/
def judgeQ (k cause : Nat) (s : State) (q : Qualif) : Qualif :=
  match q.st with
  | .disabled => q
  | .qualifying => q
  | .qualified => if cause = 0 then q else ⟨.holdOff, cause⟩
  | .holdOff => if cause = 0 then ⟨.qualified, 0⟩ else ⟨.holdOff, cause⟩
  | .failed =>
    if gone329 q.reason cause k s then (if cfg 0x3206 (k + 1) s = 0 then ⟨.qualified, 0⟩ else ⟨.waitRestore, q.reason⟩) else q
  | .waitRestore => if gone329 q.reason cause k s then q else ⟨.failed, if cause = 0 then q.reason else cause⟩

/-- Judge both qualifications of a slot. -/
def judgeSlot (k : Nat) (s : State) : State :=
  updSlot k (fun x => { x with freq := judgeQ k (freqCause k s) s x.freq, time := judgeQ k (timeCause k s) s x.time }) s

/-- A slot is qualified for a path (R329). -/
def qualFor (n k : Nat) (s : State) : Bool :=
  !mateBarred k s && (slot k s).freq.st == .qualified && (n == 0 || ((slot k s).time.st == .qualified && slotKind k s != 0 && slotServes n k s))

/-- A slot that a path selected is in hold-off and in nothing worse. -/
def holdFor (n k : Nat) (s : State) : Bool :=
  let ok (q : Qualif) : Bool := q.st == .qualified || q.st == .holdOff
  !qualFor n k s && !mateBarred k s && ok (slot k s).freq && (n == 0 || (ok (slot k s).time && slotKind k s != 0))

/-! ## Ranking and selection (R333 to R335) -/

/-- The rank of a slot for a path, lower is better: QL number (none last) or class, then priority (R333); DEDUCED, assumption 62. -/
def rank (n k : Nat) (s : State) : Nat :=
  let first := if n = 0 then (if cfgB 0x320C 0 s then (if qlOf k s = 0 then 16 else qlOf k s) else 0) else clsOf k s
  first * 256 + cfg 0x3203 (k + 1) s

/-- The best-ranked of a list of slots, the lowest-numbered of equals. -/
def bestOf (n : Nat) (s : State) : List Nat → Option Nat
  | [] => none
  | k :: l => match bestOf n s l with
    | none => some k
    | some j => if rank n k s ≤ rank n j s then some k else some j

/-- The slots qualified for a path. -/
def cands (n : Nat) (s : State) : List Nat := (List.range 16).filter (fun k => qualFor n k s)

/-- What a path selects (R334): the forced slot while it is qualified; the selected slot while it is
qualified and nothing ranks better, or REVERTIVE is false; else the best. A standby that follows its mate takes slot 4,
else slot 5, while qualified (R512). -/
def select (n : Nat) (s : State) : Option Nat :=
  let f := cfg 0x3216 (n + 1) s
  let follow := s.pair.role == .standby && cfgB 0x4403 0 s
  if cfgB 0x3217 (n + 1) s then none
  else if follow && qualFor n 4 s then some 4
  else if follow && qualFor n 5 s then some 5
  else if f < 16 then (if qualFor n f s then some f else none)
  else
    let best := bestOf n s (cands n s)
    match (path n s).slot, best with
    | some k, some b => if qualFor n k s && (!cfgB 0x320D 0 s || rank n k s == rank n b s) then some k else some b
    | _, b => b

/-- Disqualify a slot with reason 5: counted, DISAGREE (R335, R356). -/
def disagree (k : Nat) (s : State) : State :=
  count 0x3225 4 (setRc 0x40018 0x10 (updSlot k (fun x => { x with freq := failQ 5 x.freq }) s))

/-- One pair of slots of the best rank (R335). -/
def judgePair (i j : Nat) (s : State) : State :=
  match slotDet i s, slotDet j s with
  | some a, some b =>
    if !qualFor 0 i s || !qualFor 0 j s || !(det a s).freqValid || !(det b s).freqValid
        || decide (((det a s).freq - (det b s).freq).natAbs ≤ 2000000) then s
    else if !s.refs.predValid then raise .disagreeNone noInst s
    else
      let di := (deviation i s).natAbs
      let dj := (deviation j s).natAbs
      if 2000000 < di ∧ 2000000 < dj then raise .disagreeBoth noInst (pathOut 0 (freqErr s) (disagree j (disagree i s)))
      else if 2000000 < di then disagree i s
      else if 2000000 < dj then disagree j s
      else if dj < di then disagree i s else disagree j s
  | _, _ => s

/-- The pairs of a list. -/
def pairsOf : List Nat → List (Nat × Nat)
  | [] => []
  | k :: l => l.map (fun j => (k, j)) ++ pairsOf l

/-- The comparison of R335. -/
def judgeRank (s : State) : State :=
  match bestOf 0 s (cands 0 s) with
  | none => s
  | some b => (pairsOf ((cands 0 s).filter (fun k => rank 0 k s == rank 0 b s))).foldl (fun s p => judgePair p.1 p.2 s) s

/-! ## The paths (R336 to R344) -/

/-- SERVO_STEP_LIMIT in 2^-16 ns. -/
def stepLimit (s : State) : Nat := cfg 0x321B 0 s * 65536

/-- The time error of a slot against a path's domain. -/
def timeErrOf (n k : Nat) (s : State) : Int := if n = 2 then (slot k s).timeErrB else (slot k s).timeErr

/-- A time path in ACQUIRING applies an error beyond SERVO_STEP_LIMIT once as a TIME_ADJ; the step clears
TRACEABLE (R342, R344). -/
def stepPath (n k : Nat) (s : State) : State :=
  let e := timeErrOf n k s
  if n = 0 ∨ e.natAbs ≤ stepLimit s ∨ !adjFits (pathDom n) e s then s
  else
    let s1 := rephase (pathDom n) (adjTime (pathDom n) e (setTraceable (pathDom n) false s))
    updPath n (fun p => { p with fromHold := false }) (updSlot k (fun x => if n = 2 then { x with timeErrB := 0 } else { x with timeErr := 0 }) s1)

/-- A time path that selects a channel slot ends what a takeover seeded for its domain (R530). -/
def endSeed (n k : Nat) (s : State) : State :=
  if k < 6 then s
  else if n = 1 then { s with pair := { s.pair with seedA := none } }
  else if n = 2 then { s with pair := { s.pair with seedB := none } }
  else s

/-- A slot is selected outside ACQUIRING and LOCKED: the path acquires it; the frequency path builds out from
HOLDOVER with the error held at its entry (R336); DESIGN CHOICE, assumption 63. -/
def acquire (n k : Nat) (s : State) : State :=
  let hold := (path n s).st == .holdover
  let s1 := updPath n (fun p => { p with st := .acquiring, slot := some k, bridging := false, bound := 0, fromHold := hold,
                                         buildOut := 0, switching := if n = 0 && hold then some k else none }) s
  stepPath n k (endAlarm .holdoverLost n (endSeed n k s1))

/-- A time path takes a new slot: beyond SERVO_STEP_LIMIT it acquires (R341). -/
def timeSwitch (n k : Nat) (s : State) : State :=
  let s1 := endSeed n k (count 0x3225 1 (setRc 0x40018 4 (updPath n (fun p => { p with slot := some k, bridging := false }) s)))
  if stepLimit s < (timeErrOf n k s).natAbs then
    stepPath n k (updPath n (fun p => { p with st := .acquiring, fromHold := false }) s1)
  else s1

/-- A change of selection: the frequency path opens its window of 64 beats, a time path takes the slot at
once (R339, R341). -/
def startSwitch (n k : Nat) (s : State) : State :=
  if n = 0 then updPath 0 (fun p => { p with switching := some k }) s else timeSwitch n k s

/-- Bridging begins (R338): the loop error is held. -/
def bridge (n : Nat) (s : State) : State :=
  if (path n s).bridging then s else updPath n (fun p => { p with bridging := true, eHold := if n = 0 then freqErr s else 0 }) s

/-- Bridging ends because the slot came back: the frequency path's build-out is recomputed (R338). -/
def unbridge (n : Nat) (s : State) : State :=
  if !(path n s).bridging then s
  else if n = 0 then
    match s.refs.freq.slot.bind (fun k => slotDet k s) with
    | some d => updPath 0 (fun p => { p with bridging := false, buildOut := phase d s - p.eHold }) s
    | none => updPath 0 (fun p => { p with bridging := false }) s
  else updPath n (fun p => { p with bridging := false }) s

/-- LOCKED with slot k0 selected. -/
def evalLocked (n k0 : Nat) (s : State) : State :=
  if holdFor n k0 s then bridge n s
  else if qualFor n k0 s then
    let s1 := unbridge n s
    match select n s1 with
    | some k => if k = k0 then s1 else startSwitch n k s1
    | none => pathOut n (freqErr s1) s1
  else match select n s with
    | some k => startSwitch n k (bridge n s)
    | none => if cfg 0x3216 (n + 1) s < 16 || cfgB 0x3217 (n + 1) s then pathOut n (freqErr s) s else pathHoldover n (freqErr s) s

/-- ACQUIRING with slot k0 selected. -/
def evalAcquiring (n k0 : Nat) (s : State) : State :=
  if !qualFor n k0 s then pathOut n (freqErr s) s
  else match select n s with
    | none => pathOut n (freqErr s) s
    | some k => if k = k0 then stepPath n k s else startSwitch n k s

/-- Evaluate one path (R334, R336, R340). -/
def evalPath (n : Nat) (s : State) : State :=
  let p := path n s
  match p.switching with
  | some k =>
    if qualFor n k s then s
    else if p.st == .locked then bridge n (updPath n (fun p => { p with switching := none }) s)
    else pathOut n (freqErr s) s
  | none =>
    match p.st with
    | .host => if n = 0 then updPath 0 (fun p => { p with slot := select 0 s }) s else s
    | .locked => match p.slot with
      | some k => evalLocked n k s
      | none => pathHoldover n 0 s
    | .acquiring => match p.slot with
      | some k => evalAcquiring n k s
      | none => pathOut n 0 s
    | _ => match select n s with
      | some k => acquire n k s
      | none => s

/-- The mean of a list, 0 for none. -/
def mean (l : List Int) : Int := if l.length = 0 then 0 else l.foldl (fun a b => a + b) 0 / (l.length : Int)

/-- A free value of ±1 ppm in 10^-15: what a loop filter answers, whose coefficients R343 leaves to the
module; DESIGN CHOICE, assumption 14. -/
def freeRate (s : State) : Int := (drawn 2000000001 s : Int) - 1000000000

/-- The update of the oven every 10 ms (R336, R338, R343, R348): a locked loop's steers enter the mean of the
last 600 s. -/
def servoFreq (s : State) : State :=
  let p := s.refs.freq
  match p.st with
  | .host => s
  | .free => s
  | .holdover => { s with refs := { s.refs with steer := s.refs.predict } }
  | .lost => { s with refs := { s.refs with steer := s.refs.predict } }
  | _ =>
    if p.bridging then { s with refs := { s.refs with steer := s.refs.predict } }
    else
      let v := freeRate s
      let s1 := draw { s with refs := { s.refs with steer := v } }
      if p.st == .locked && p.switching.isNone then updPath 0 (fun p => { p with hist := (v :: p.hist).take 60000 }) s1 else s1

/-- The update of a time path's RATE_ADJ (R336, R338, R343); in bridging its mean over 60 s. -/
def servoTime (n : Nat) (s : State) : State :=
  let p := path n s
  if p.st != .acquiring && p.st != .locked then s
  else if p.bridging then updDom (pathDom n) (fun d => { d with rate := mean p.hist }) s
  else
    let v := freeRate s
    draw (updPath n (fun p => { p with hist := (v :: p.hist).take 6000 }) (updDom (pathDom n) (fun d => { d with rate := v }) s))

/-- The servo's engines work: no warm start, no migration of their role (R350). -/
def servoRuns (s : State) : Bool := s.life.state != .restarting && !migratingRole .servo s && s.tb.running

/-- SELECTION_EVALUATION (R327 to R344): `absent` are the detectors with no event of their own, coax and
roving, whose source is found absent; `drift` is what the ageing model adds to the mean steer (R423),
10^-15; DESIGN CHOICE, assumption 67. -/
def execSelectionEvaluation (absent : List Nat) (drift : Int) (s : State) : Out :=
  .next (
    let s0 := (absent.filter (fun d => decide (192 ≤ d ∧ d < 208))).foldl (fun s d => detLost d s) s
    if !servoRuns s0 then s0
    else
      let s0 := { s0 with refs := { s0.refs with predict := mean s0.refs.freq.hist + drift } }
      let s1 := (List.range 16).foldl (fun s k => judgeSlot k s) s0
      let s2 := [0, 1, 2].foldl (fun s n => evalPath n s) (judgeRank s1)
      gatesWait (esmcEvents (selectPorts (followTrace (servoTime 2 (servoTime 1 (servoFreq s2)))))))

/-- SWITCH_COMPLETE (R339): the means of both phases over the same 64 beats give the build-out. -/
def execSwitchComplete (meanOld meanNew : Int) (s : State) : Out :=
  .next (
    let p := s.refs.freq
    match p.switching with
    | none => s
    | some k =>
      let e := if p.bridging || p.fromHold then p.eHold else meanOld - p.buildOut
      let s1 := updPath 0 (fun p => { p with slot := some k, switching := none, bridging := false, buildOut := meanNew - e }) s
      esmcEvents (count 0x3225 1 (setRc 0x40018 4 s1)))

/-- Change one of a slot's two qualifications. -/
def updQ (k : Nat) (time : Bool) (f : Qualif → Qualif) (s : State) : State :=
  updSlot k (fun x => if time then { x with time := f x.time } else { x with freq := f x.freq }) s
/-- One of a slot's two qualifications. -/
def qualif (k : Nat) (time : Bool) (s : State) : Qualif := if time then (slot k s).time else (slot k s).freq

/-- QUALIFY_TIMER (R329). -/
def execQualifyTimer (k : Fin 16) (time : Bool) (s : State) : Out :=
  .next (if (qualif k time s).st == .qualifying && servoRuns s then updQ k time (fun _ => ⟨.qualified, 0⟩) s else s)

/-- SLOT_HOLDOFF_EXPIRY (R329): FAILED with the reason stored. -/
def execSlotHoldoffExpiry (k : Fin 16) (time : Bool) (s : State) : Out :=
  .next (if (qualif k time s).st == .holdOff && servoRuns s then updQ k time (fun q => ⟨.failed, q.reason⟩) s else s)

/-- WAIT_TO_RESTORE_EXPIRY (R329). -/
def execWaitToRestoreExpiry (k : Fin 16) (time : Bool) (s : State) : Out :=
  .next (if (qualif k time s).st == .waitRestore && servoRuns s then updQ k time (fun _ => ⟨.qualified, 0⟩) s else s)

/-- PATH_LOCKED (R336, R344): a time path sets TRACEABLE. -/
def execPathLocked (n : Fin 3) (s : State) : Out :=
  .next (
    if (path n s).st == .acquiring && (path n s).switching.isNone && servoRuns s then
      let s1 := updPath n (fun p => { p with st := .locked, fromHold := false }) s
      let s2 := if n = 0 then s1 else setTraceable (pathDom n) true s1
      gatesWait (esmcEvents (followTrace (endAlarm .holdoverLost n s2)))
    else s)

/-- ACQUISITION_TIMEOUT (R336): 600 s without lock. -/
def execAcquisitionTimeout (n : Fin 3) (s : State) : Out :=
  .next (
    if (path n s).st == .acquiring && servoRuns s then
      let s1 := match (path n s).slot with
        | some k => updQ k (n != 0) (failQ 6) s
        | none => s
      esmcEvents (pathOut n (freqErr s) s1)
    else s)

/-- PATH_LOCK_LOSS (R336): the error has been beyond the loss limit of R337 for 1 s. -/
def execPathLockLoss (n : Fin 3) (s : State) : Out :=
  .next (
    if (path n s).st == .locked && servoRuns s then
      esmcEvents (raise .lockLoss n (updPath n (fun p => { p with st := .acquiring, switching := none, bridging := false, fromHold := false }) s))
    else s)

/-- The bound of a time path (R349): 1 ps/s while the frequency path is LOCKED, else the frequency path's. -/
def timeBound (n : Nat) (s : State) : State :=
  if (path n s).st != .holdover && (path n s).st != .lost then s
  else updPath n (fun p => { p with holdSec := p.holdSec + 1, bound := if s.refs.freq.st = .locked then p.bound + 1 else s.refs.freq.bound }) s

/-- A path beyond HOLDOVER_LIMIT enters LOST (R336, R344, R349). -/
def lostCheck (n : Nat) (s : State) : State :=
  if (path n s).st = .holdover ∧ cfg 0x3218 0 s * 1000 < (path n s).bound then
    let s1 := count 0x3225 3 (setRc 0x40018 1 (updPath n (fun p => { p with st := .lost }) s))
    raise .holdoverLost n (if n = 0 then s1 else setTraceable (pathDom n) false s1)
  else s

/-- HOLDOVER_BOUND_UPDATE (R348, R349, R424): every second. The frequency path's bound is B0 + Uy u + ½ Ud u² +
UkT Σ|T − T600|, with B0 in ps, Uy in 10^-15, Ud in 10^-18 per second, UkT in 10^-15 per kelvin and the sum
in mK s; a locked second counts into LOCKED_TIME. -/
def execHoldoverBoundUpdate (b0 uy ud uk sumT : Nat) (s : State) : Out :=
  .next (
    if !servoRuns s then s
    else
      let s1 := if s.refs.freq.st = .locked then { s with refs := { s.refs with lockedSec := s.refs.lockedSec + 1 } } else s
      let s2 := if s1.refs.freq.st = .holdover ∨ s1.refs.freq.st = .lost then
          updPath 0 (fun p =>
            let u := p.holdSec + 1
            { p with holdSec := u, bound := b0 + uy * u / 1000 + ud * u * u / 2000000 + uk * sumT / 1000000 }) s1
        else s1
      let s3 := lostCheck 2 (lostCheck 1 (lostCheck 0 (timeBound 2 (timeBound 1 s2))))
      gatesWait (selectPorts s3))

/-- HOLDOVER_READY (R348): LOCKED for 300 s in total; the prediction is valid. -/
def execHoldoverReady (s : State) : Out :=
  .next (if s.refs.freq.st == .locked then { s with refs := { s.refs with ready := true, predValid := true } } else s)

/-- The frequency path leaves the host: HOLDOVER if ready, FREE otherwise (R346). -/
def ovenBack (s : State) : State := esmcEvents (if s.refs.ready then pathHoldover 0 0 s else pathFree 0 s)

/-- STEER_WATCHDOG (R346): counts no time in a warm start. -/
def execSteerWatchdog (s : State) : Out :=
  .next (
    if cfg 0x3211 0 s = 1 ∧ s.life.state != .restarting then
      raise .steerWatchdog noInst (ovenBack (count 0x3225 5 (setRc 0x40018 8 (setVal 0x3211 0 [0] s))))
    else s)

/-! ## ESMC (R330 to R332) -/

/-- The table of QL numbers: an SSM code with the enhanced code, or 0xFF without the extended TLV; anything
else is QL-DNU (R330, R331); DESIGN CHOICE, assumption 66. -/
def qlNumber (ssm essm : Nat) : Option Nat :=
  match ssm, essm with
  | 0x2, 0x21 => some 1 | 0x2, 0x20 => some 2 | 0x2, 0x23 => some 3 | 0x2, 0xFF => some 4
  | 0x4, 0xFF => some 5 | 0x8, 0xFF => some 6 | 0xB, 0x22 => some 7 | 0xB, 0xFF => some 8 | 0xF, 0xFF => some 15
  | _, _ => none

/-- The slots that take a channel. -/
def slotsOf (c : Nat) (s : State) : List Nat := (List.range 16).filter (fun k => slotChan k s == some c)

/-- A QL arrives for a slot: DNU or failed at once fails a qualified slot (R329, R331). -/
def slotQl (k q : Nat) (ext : Bool) (eeecs eecs : Nat) (s : State) : State :=
  let r := if q = 15 then 3 else 4
  let f (x : Qualif) : Qualif := if (q = 15 ∨ q = 0) ∧ (x.st = .qualified ∨ x.st = .holdOff) then ⟨.failed, r⟩ else x
  updSlot k (fun x => { x with ql := q, extTlv := ext, eeecs := eeecs, eecs := eecs, freq := f x.freq }) s

/-- ESMC_PDU_RECEIVED (R331): the extended TLV gives the enhanced code and the counts of cascaded clocks. -/
def execEsmcPduReceived (c : Chan) (ssm : Fin 16) (tlv : Option (Nat × Nat × Nat)) (s0 : State) : Out :=
  let s := updTsu (tileOf c) (fun u => { u with rxLevel := u.rxLevel - 1 }) s0
  .next (
    if !esmcOn c s || (cod c s).stage != 6 then s
    else
      let q := qlNumber ssm (match tlv with
        | some t => t.1
        | none => 0xFF)
      let n := match tlv with
        | some t => t.2
        | none => (0, 0)
      let s1 := if q.isNone then count 0x3225 6 s else s
      esmcEvents ((slotsOf c s).foldl (fun s k => slotQl k (q.getD 15) tlv.isSome n.1 n.2 s) s1))

/-- ESMC_QL_TIMEOUT (R331): no information PDU for 5 s. -/
def execEsmcQlTimeout (c : Chan) (s : State) : Out :=
  .next (
    if !esmcOn c s then s
    else esmcEvents ((slotsOf c s).foldl (fun s k => count 0x3225 6 (slotQl k 0 false 0 0 s)) s))

/-- The fields of the extended TLV: eEECs raised by one, EECs, the mixed and the partial-chain flag (R332). -/
def esmcChain (s : State) : List Int :=
  match s.refs.freq.slot with
  | some k => [(slot k s).eeecs + 1, (slot k s).eecs, if (slot k s).eecs != 0 then 1 else 0, if (slot k s).extTlv then 0 else 1]
  | none => [1, 0, 0, 1]

/-- ESMC_INFO_SEND (R332, R350): one information PDU on each enabled channel. -/
def execEsmcInfoSend (s : State) : Out :=
  .next (
    if !servoRuns s then s
    else (List.range 192).foldl (fun s c =>
      if esmcOn c s && (cod c s).stage == 6 then
        emit .esmc c ([0, (txQlOf c s : Int)] ++ esmcChain s) { s with refs := { s.refs with txQl := Tab.put 7 c (txQlOf c s) s.refs.txQl } }
      else s) s)

/-! ## Outputs (R351 to R354) -/

/-- An output is gated by OUT_PAIR (R353); DEDUCED, assumption 135. -/
def pairGated (n : Nat) (s : State) : Bool := cfgB 0x3223 (n + 1) s && !timeRole s

/-- An output is held at 0 V (R29, R291, R353). -/
def squelched (n : Nat) (s : State) : Bool :=
  let d := outDomain s
  let p := if cfg 0x3008 0 s = 0 then s.refs.timeA else s.refs.timeB
  let q := cfg 0x3221 (n + 1) s
  s.pins.outHeld || (outp n s).mode == 0 || pairGated n s
    || (decide (1 ≤ q) && !(domOf d s).traceable)
    || (q == 2 && !hostOwns d s && p.st == .holdover)

/-- The TOD pair is idle (R43, R353). -/
def todIdle (s : State) : Bool := (outp 0 s).mode != 1 || squelched 0 s

/-- OUTPUT_CONFIG_EFFECT (R352): the first whole second of P at least 1 s after the commit; the first
configuration after a cleared start steps P (R284). -/
def execOutputConfigEffect (n : Fin 4) (s : State) : Out :=
  .next (
    if !(outp n s).waiting || (mdll 25 s).st != .locked then s
    else
      let b := cfgBytes 0x321D (n + 1) s
      let s1 := updOut n (fun o => { o with
        mode := cfg 0x321C (n + 1) s, period := cfg 0x321E (n + 1) s, width := cfg 0x321F (n + 1) s,
        freqN := leNat (b.take 2), freqD := leNat (b.drop 2), phase := cfgI 8 0x3220 (n + 1) s, waiting := false }) s
      let s2 := updDet (196 + n) (fun x => { x with resume := true, lastPulse := none, valid := false }) s1
      if s2.tb.configured || (outp n s2).mode == 0 then s2
      else stepP { s2 with tb := { s2.tb with configured := true } })

/-- Move a value towards a target by at most a step. -/
def towards (v target : Int) (step : Nat) : Int :=
  if (target - v).natAbs ≤ step then target else if v < target then v + step else v - step

/-- The period of a pulse output in ns. -/
def outPeriod (o : Output) : Nat := if o.mode = 1 then 1000000000 else o.period

/-- What OUT_SLEW moves in one period of a pulse output, in 2^-16 ns (R352, R354). -/
def outStep (o : Output) (s : State) : Nat := cfg 0x3009 0 s * 65536 * outPeriod o / 1000000000000

/-- OUT_PHASE in force moves to the setting: slewed within OUT_STEP_LIMIT, at once beyond it (R352); DESIGN CHOICE, assumption 65. -/
def phaseMove (n : Nat) (s : State) : State :=
  updOut n (fun o =>
    let t := cfgI 8 0x3220 (n + 1) s
    { o with phase := if (t - o.phase).natAbs ≤ cfg 0x300A 0 s * 65536 then towards o.phase t (outStep o s) else t }) s

/-- Alignment to an input (R354): detector 196 + n has sensed the output's edge, detector 192 + m the
input's. -/
def alignMove (n : Nat) (s : State) : State :=
  let a := cfg 0x3222 (n + 1) s
  if a = 0 then updOut n (fun o => { o with aligned := false, corr := 0 }) s
  else
    let m := a - 1
    if !(det (192 + m) s).valid || !(det (196 + n) s).valid then updOut n (fun o => { o with aligned := false }) s
    else
      let o := outp n s
      let target := o.corr - ((det (196 + n) s).x - (det (192 + m) s).x - o.phase)
      if 65536000 < target.natAbs then
        let s1 := updOut n (fun o => { o with aligned := false, alignFail := true }) s
        if standing .alignFail n s then s1 else raise .alignFail n (count 0x3225 7 s1)
      else
        let c := towards o.corr target (outStep o s)
        endAlarm .alignFail n (updOut n (fun o => { o with corr := c, aligned := decide ((target - c).natAbs ≤ 4) }) s)

/-- OUTPUT_PULSE_EDGE (R351, R352, R354): the edge falls due at the present P; `sensed` is the offset from the
whole second of domain A that detector 196 + n measures of it. -/
def execOutputPulseEdge (n : Fin 4) (sensed : Int) (s : State) : Out :=
  .next (
    if squelched n s || ((outp n s).mode != 1 && (outp n s).mode != 2) then s
    else
      let o := outp n s
      let p := s.tb.p
      let close := match o.lastEdge with
        | none => false
        | some l => decide (p - l < (outPeriod o * 32768 : Nat))
      if close then
        updOut n (fun o => { o with omitted := true }) (if n = 0 then { s with refs := { s.refs with todMark := true } } else s)
      else
        let s1 := emit .pulse n [p + o.phase + o.corr] (updOut n (fun o => { o with lastEdge := some p }) s)
        let s2 := if s1.vern.helperLocked && s1.tb.mastOk then
            takeSample (196 + n) sensed (domA s1 / 655360) 0 true (updDet (196 + n) (fun x => { x with lastPulse := some (domA s1 : Int) }) s1) else s1
        let s3 := if n = 0 then { s2 with refs := { s2.refs with todSec := (p - o.phase + (lsbPerSec / 2 : Nat)) / (lsbPerSec : Nat) } } else s2
        alignMove n (phaseMove n s3))

/-! ## What a commit of set 5 sets in force (R329, R345 to R347, R352) -/

/-- A slot follows its enable and kind. -/
def slotCommit (k : Nat) (s : State) : State :=
  let on := slotOn k s
  let f (want : Bool) (q : Qualif) : Qualif := if !want then ⟨.disabled, 0⟩ else if q.st = .disabled then ⟨.qualifying, 0⟩ else q
  updSlot k (fun x => { x with freq := f on x.freq, time := f (on && slotKind k s != 0) x.time }) s

/-- A time path follows DOMAIN_OWNER (R347). -/
def ownerCommit (n : Nat) (s : State) : State :=
  if cfg 0x3210 n s = 1 then
    (if (path n s).st == .host then s
     else updPath n (fun p => { p with st := .host, slot := none, bridging := false, switching := none, bound := 0 }) s)
  else if (path n s).st == .host then pathFree n s else s

/-- The oven follows OVEN_OWNER (R345, R346). -/
def ovenCommit (s : State) : State :=
  if cfg 0x3211 0 s = 1 then
    (if s.refs.freq.st == .host then s
     else updPath 0 (fun p => { p with st := .host, bridging := false, switching := none, bound := 0 }) s)
  else if s.refs.freq.st == .host then ovenBack s else s

/-- An output whose mode, frequency, period or width differs from what is in force waits for its whole second
(R352). -/
def outCommit (n : Nat) (s : State) : State :=
  let b := cfgBytes 0x321D (n + 1) s
  let o := outp n s
  if o.mode != cfg 0x321C (n + 1) s || o.period != cfg 0x321E (n + 1) s || o.width != cfg 0x321F (n + 1) s
      || o.freqN != leNat (b.take 2) || o.freqD != leNat (b.drop 2) then
    updOut n (fun o => { o with waiting := true }) s
  else if o.mode = 3 then updOut n (fun o => { o with phase := cfgI 8 0x3220 (n + 1) s }) s
  else s

/-- A commit of set 5 takes effect. -/
def refsCommit (s : State) : State :=
  let s1 := (List.range 16).foldl (fun s k => slotCommit k s) s
  let s2 := ovenCommit (ownerCommit 2 (ownerCommit 1 s1))
  esmcEvents ([0, 1, 2, 3].foldl (fun s n => outCommit n s) s2)

end Sys2Proof.Machine
end

