-- ==== Sys2Proof/Machine/Ptp.lean ====
section
/-!
DEFINITION. The commands of the Halyard engine and telecom PTP, and the TOD message (11, 12).
-/
namespace Sys2Proof.Machine

/-! ## Sending (R363, R369 to R371) -/

/-- STAMP_FLAGS of a stamp (R367). -/
def stampFlags (ref i : Nat) (coarse : Bool) (s : State) : BitVec 8 :=
  BitVec.ofNat 8 (ref % 4 * 64 + (domOf (instDom i s) s).epoch.toNat % 16 * 4 + (if instDom i s = .b then 2 else 0) + (if coarse then 1 else 0))

/-- Register address of offset o of the time stamp unit of tile t (R394). -/
def tsuAddr (t o : Nat) : Nat := 0x50000 + t * 0x800 + o

/-- A transmit stamp joins its tile's queue of 32; a full queue loses it (R369, R370). -/
def stampTx (e : TxEntry) (s : State) : State :=
  let t := tileOf e.chan
  if (tsu t s).queue.length < 32 then updTsu t (fun u => { u with queue := u.queue ++ [e], stamps := u.stamps + 1 }) s
  else setRc (tsuAddr t 0x18) 4 (updTsu t (fun u => { u with overflows := u.overflows + 1 }) s)

/-- The engine takes the entry of an identifier. -/
def takeStamp (t : Nat) (id : BitVec 16) (s : State) : State :=
  updTsu t (fun u => { u with queue := u.queue.filter (fun e => e.id != id) }) s

/-- The entry of an identifier is in the queue. -/
def hasStamp (t : Nat) (id : BitVec 16) (s : State) : Bool := (tsu t s).queue.any (fun e => e.id == id)

/-- SYNC_SEND (R364, R368, R371): the stamp `t1` of a one-step Sync goes into the message; of a two-step one it
goes through the queue, and the Follow_Up leaves once the engine has `taken` it; DESIGN CHOICE, assumption 72. -/
def execSyncSend (c : Chan) (inst : PtpInst) (id : BitVec 16) (t1 : Time96) (taken : Bool) (s : State) : Out :=
  let i := instNo inst
  .next (
    if (port c i s).st != .master then s
    else
      let co := txCoarse c s
      if cfgB 0x3306 (i + 1) s then count 0x331B 1 (sendPtp .sync c i 0 co [1, lsbOf t1] s)
      else
        let n : Int := (seqOf c i 0 s).toNat
        let s1 := stampTx ⟨id, c, stampFlags (txRef c s) i co s, t1⟩ (count 0x331B 1 (sendPtp .sync c i 0 co [0, 0] s))
        if taken && hasStamp (tileOf c) id s1 then sendPtp .followUp c i 8 co [n, lsbOf t1] (takeStamp (tileOf c) id s1) else s1)

/-! ## Receiving (R364, R390) -/

/-- The last sequenceId accepted of a source port and message type. -/
def lastSeq (src : BitVec 64) (pn : BitVec 16) (ty : Nat) (l : List (BitVec 64 × BitVec 16 × Nat × BitVec 16)) : Option (BitVec 16) :=
  match l.find? (fun x => x.1 == src && x.2.1 == pn && x.2.2.1 == ty) with
  | some x => some x.2.2.2
  | none => none

/-- Why a message is not accepted, by HALYARD_COUNTS: 6 unicast, 7 ICV, 8 key, 9 replay, 0 accepted (R364, R390); DEDUCED, assumption 69. -/
def refuseMsg (c i ty : Nat) (h : PtpHdr) (s : State) : Nat :=
  if h.unicast then 6
  else
    let auth := if authMode i s = 0 then 0 else match h.icv with
      | none => if authMode i s = 2 then 7 else 0
      | some v =>
        if !(acceptKeys i s).any (fun k => k.id == v.key && k.spp == v.spp) then 8 else if v.ok then 0 else 7
    if auth ≠ 0 then auth
    else match lastSeq h.src h.port ty (port c i s).heard with
      | none => 0
      | some q => if 1 ≤ (h.seq - q).toNat ∧ (h.seq - q).toNat ≤ 32767 then 0 else 9

/-- A port takes messages: it is not DISABLED, SUSPENDED or FAULTY (R380). -/
def portTakes (p : PtpPort) : Bool := p.st != .disabled && p.st != .suspended && p.st != .faulty

/-- Receive a message: it leaves the tile's control queue, is refused and counted, or noted and handed on. -/
def receive (c i ty : Nat) (h : PtpHdr) (body : State → State) (s : State) : State :=
  let s0 := updTsu (tileOf c) (fun u => { u with rxLevel := u.rxLevel - 1 }) s
  if !portTakes (port c i s0) then s0
  else match refuseMsg c i ty h s0 with
    | 0 => body (updPort c i (fun p => { p with heard :=
        (h.src, h.port, ty, h.seq) :: p.heard.filter (fun x => !(x.1 == h.src && x.2.1 == h.port && x.2.2.1 == ty)) }) s0)
    | n => count 0x331B n s0

/-- A receive stamp is taken. -/
def rxStamp (c : Nat) (s : State) : State := updTsu (tileOf c) (fun u => { u with rxStamps := u.rxStamps + 1 }) s

/-! ## The exchange (R377 to R379) -/

/-- Void exchanges are counted. -/
def voids (n : Nat) (s : State) : State := if n = 0 then s else countN 0x331B 4 n s

/-- All elements of a list are equal. -/
def allSame : List (BitVec 4) → Bool
  | a :: b :: l => a == b && allSame (b :: l)
  | _ => true

/-- The reference lanes of a channel now. -/
def lanesNow (c : Nat) (s : State) : List Nat := [rxRef c s, txRef c s]

/-- The mean path delay in force as measured by peer delay, or by the exchange (R378). -/
def exDelay (e : Exchange) : Int :=
  ((e.t2.getD 0 - e.t1.getD 0) + (e.t4.getD 0 - e.t3.getD 0)) / 2

/-- A delay within 2 ns of the filtered mean, once it holds 16 exchanges (R377). -/
def delayOk (d : Int) (p : PtpPort) : Bool := p.mpdN < 16 || decide ((d - p.mpd / 65536).natAbs ≤ 131072)

/-- The exponential mean with a time constant of 64 exchanges (R378); DESIGN CHOICE, assumption 18. -/
def filterDelay (d : Int) (p : PtpPort) : PtpPort :=
  { p with mpd := if p.mpdN = 0 then d * 65536 else p.mpd + (d * 65536 - p.mpd) / 64, mpdN := p.mpdN + 1 }

/-- A valid exchange: counted, its offset reported and handed to the servo; 16 of them with an asymmetry in force
make an UNCALIBRATED port SLAVE (R378 to R380). -/
def goodExchange (c i : Nat) (off : Int) (s : State) : State :=
  let s1 := offerOffset c i off (count 0x331B 3 (updPort c i (fun p =>
    { p with recent := (s.now, off) :: p.recent.filter (fun x => decide (s.now ≤ x.1 + 100000000)), goodN := p.goodN + 1 }) s))
  if (port c i s1).st = .uncalibrated ∧ 16 ≤ (port c i s1).goodN ∧ asymState c s1 ≠ 0 then updPort c i (fun p => { p with st := .slave }) s1 else s1

/-- Judge a complete exchange with all four stamps (R377). -/
def judgeExchange (c i : Nat) (e : Exchange) (s : State) : State :=
  let p := port c i s
  let d := exDelay e
  if !e.bad && allSame e.own && allSame e.peer && e.lanes == lanesNow c s && decide (s.now ≤ e.reqAt + 4 * interval i s) && delayOk d p then
    goodExchange c i (e.t2.getD 0 - e.t1.getD 0 - d - delayAsym c s) (updPort c i (filterDelay d) s)
  else voids 1 s

/-- Peer delay serves instance i. -/
def peerDelay (i : Nat) (s : State) : Bool := i == 0 && cfg 0x3307 0 s == 2

/-- Under peer delay a Sync with its t1 gives an offset with the filtered delay (R377, R378). -/
def judgeSync (c i : Nat) (e : Exchange) (s : State) : State :=
  let p := port c i s
  if p.mpdN = 0 then s
  else if !e.bad && allSame e.own && allSame e.peer && e.lanes == lanesNow c s then
    goodExchange c i (e.t2.getD 0 - e.t1.getD 0 - p.mpd / 65536 - delayAsym c s) s
  else voids 1 s

/-- The port measures offsets. -/
def measures (p : PtpPort) : Bool := p.st == .passive || p.st == .uncalibrated || p.st == .slave

/-- SYNC_RECEIVED (R365, R371, R377): stamped `t2`; a Sync without its Follow_Up voids the exchanges of the one
before. -/
def execSyncReceived (c : Chan) (inst : PtpInst) (h : PtpHdr) (twoStep : Bool) (ts t2 : Time96) (s : State) : Out :=
  let i := instNo inst
  .next (receive c i 0 h (fun s =>
    let s0 := rxStamp c (count 0x331B 2 s)
    if !measures (port c i s0) then s0
    else
      let p := port c i s0
      let lost := (p.reqs.filter (fun e => e.t1.isNone)).length + (if p.ex.t2.isSome && p.ex.t1.isNone && p.reqs.isEmpty then 1 else 0)
      let w := drawn (interval i s0 + 1) s0
      let e : Exchange := { Exchange.none with
        t1 := if twoStep then none else some ((lsbOf ts : Int) + h.corr), t2 := some (lsbOf t2 : Int), syncSeq := h.seq, wait := w,
        own := [BitVec.ofNat 4 (domOf (instDom i s0) s0).epoch.toNat], peer := [h.epoch], lanes := lanesNow c s0, bad := h.coarse || rxCoarse c s0 }
      let s1 := draw (voids lost (updPort c i (fun p => { p with ex := e, reqs := p.reqs.filter (fun e => e.t1.isSome) }) s0))
      if peerDelay i s1 && !twoStep then judgeSync c i e s1 else s1) s)

/-- FOLLOW_UP_RECEIVED (R371, R377): t1 of its Sync. -/
def execFollowUpReceived (c : Chan) (inst : PtpInst) (h : PtpHdr) (syncSeq : BitVec 16) (ts : Time96) (s : State) : Out :=
  let i := instNo inst
  .next (receive c i 8 h (fun s =>
    let f (e : Exchange) : Exchange :=
      if e.t2.isSome && e.t1.isNone && e.syncSeq == syncSeq then { e with t1 := some ((lsbOf ts : Int) + h.corr) } else e
    let p := port c i s
    let ready := (p.reqs.map f).filter (fun e => e.t1.isSome && e.t4.isSome)
    let s1 := updPort c i (fun p => { p with ex := f p.ex, reqs := (p.reqs.map f).filter (fun e => !(e.t1.isSome && e.t4.isSome)) }) s
    let s2 := ready.foldl (fun s e => judgeExchange c i e s) s1
    if peerDelay i s2 && measures p && p.ex.t1.isNone && (f p.ex).t1.isSome then judgeSync c i (f p.ex) s2 else s2) s)

/-- DELAY_REQ_SEND (R371): a Delay_Req, or under peer delay a Pdelay_Req; `t3` is its stamp, and `taken` says
whether the engine has taken it from the queue. -/
def execDelayReqSend (c : Chan) (inst : PtpInst) (id : BitVec 16) (t3 : Time96) (taken : Bool) (s : State) : Out :=
  let i := instNo inst
  .next (
    let p := port c i s
    let co := txCoarse c s
    let ep := BitVec.ofNat 4 (domOf (instDom i s) s).epoch.toNat
    if peerDelay i s then
      if !portTakes p then s
      else
        let q := seqOf c i 2 s
        let s1 := stampTx ⟨id, c, stampFlags (txRef c s) i co s, t3⟩ (sendPtp .pdelayReq c i 2 co [] s)
        let got := taken && hasStamp (tileOf c) id s1
        let s2 := if got then takeStamp (tileOf c) id s1 else s1
        updPort c i (fun p => { p with pd := { Exchange.none with t1 := if got then some (lsbOf t3 : Int) else none, reqSeq := q, id := id,
                                                                  reqAt := s.now, own := [ep], lanes := lanesNow c s, bad := co } }) s2
    else if !measures p || p.ex.t2.isNone then s
    else
      let q := seqOf c i 1 s
      let s1 := stampTx ⟨id, c, stampFlags (txRef c s) i co s, t3⟩ (sendPtp .delayReq c i 1 co [] s)
      let got := taken && hasStamp (tileOf c) id s1
      let s2 := if got then takeStamp (tileOf c) id s1 else s1
      updPort c i (fun p => { p with reqs := p.reqs ++ [{ p.ex with
        t3 := if got then some (lsbOf t3 : Int) else none, reqSeq := q, id := id, reqAt := s.now, own := ep :: p.ex.own,
        bad := p.ex.bad || co || (p.ex.lanes != lanesNow c s) }] }) s2)

/-- DELAY_REQ_RECEIVED (R368, R371): a MASTER port answers with the stamp `t4`. -/
def execDelayReqReceived (c : Chan) (inst : PtpInst) (h : PtpHdr) (t4 : Time96) (s : State) : Out :=
  let i := instNo inst
  .next (receive c i 1 h (fun s =>
    let s1 := rxStamp c s
    if (port c i s1).st = .master then sendPtp .delayResp c i 9 (rxCoarse c s1) [h.seq.toNat, (lsbOf t4 : Int)] s1 else s1) s)

/-- DELAY_RESP_RECEIVED (R377, R378): `reqSeq` names the Delay_Req, `ts` holds t4. -/
def execDelayRespReceived (c : Chan) (inst : PtpInst) (h : PtpHdr) (reqSeq : BitVec 16) (ts : Time96) (s : State) : Out :=
  let i := instNo inst
  .next (receive c i 9 h (fun s =>
    match (port c i s).reqs.find? (fun e => e.reqSeq == reqSeq && e.t4.isNone) with
    | none => s
    | some e =>
      let e1 := { e with t4 := some ((lsbOf ts : Int) - h.corr), peer := h.epoch :: e.peer, bad := e.bad || h.coarse }
      let rest := (port c i s).reqs.filter (fun x => !(x.reqSeq == reqSeq))
      if e1.t3.isNone then voids 1 (updPort c i (fun p => { p with reqs := rest }) s)
      else if e1.t1.isNone then updPort c i (fun p => { p with reqs := rest ++ [e1] }) s
      else judgeExchange c i e1 (updPort c i (fun p => { p with reqs := rest }) s)) s)

/-- PDELAY_REQ_RECEIVED (R371): stamped `t2`, answered at `t3`, with a Follow_Up when two-step. -/
def execPdelayReqReceived (c : Chan) (h : PtpHdr) (id : BitVec 16) (t2 t3 : Time96) (taken : Bool) (s : State) : Out :=
  .next (receive c 0 2 h (fun s =>
    let s1 := rxStamp c s
    let co := rxCoarse c s1
    if !peerDelay 0 s1 then s1
    else if cfgB 0x3306 1 s1 then sendPtp .pdelayResp c 0 3 co [h.seq.toNat, 1, (lsbOf t3 : Int) - lsbOf t2] s1
    else
      let s2 := stampTx ⟨id, c, stampFlags (txRef c s1) 0 co s1, t3⟩ (sendPtp .pdelayResp c 0 3 co [h.seq.toNat, 0, (lsbOf t2 : Int)] s1)
      if taken && hasStamp (tileOf c) id s2 then
        sendPtp .pdelayFollowUp c 0 10 co [h.seq.toNat, (lsbOf t3 : Int)] (takeStamp (tileOf c) id s2) else s2) s)

/-- A peer-delay exchange that holds all its stamps: its delay enters the filter (R377, R378). -/
def judgePdelay (c : Nat) (e : Exchange) (turn : Int) (s : State) : State :=
  let d := ((e.t4.getD 0 - e.t1.getD 0) - turn) / 2
  if e.t1.isSome && !e.bad && allSame e.own && allSame e.peer && e.lanes == lanesNow c s && delayOk d (port c 0 s) then
    updPort c 0 (fun p => { filterDelay d p with pd := Exchange.none }) s
  else voids 1 (updPort c 0 (fun p => { p with pd := Exchange.none }) s)

/-- PDELAY_RESP_RECEIVED (R371): stamped `t4`; one-step, correctionField holds the turnaround. -/
def execPdelayRespReceived (c : Chan) (h : PtpHdr) (reqSeq : BitVec 16) (twoStep : Bool) (ts t4 : Time96) (s : State) : Out :=
  .next (receive c 0 3 h (fun s =>
    let s1 := rxStamp c s
    let e := (port c 0 s1).pd
    if !peerDelay 0 s1 || e.reqSeq != reqSeq || e.reqAt = 0 && e.own.isEmpty then s1
    else
      let e1 := { e with t4 := some (lsbOf t4 : Int), peer := [h.epoch], bad := e.bad || h.coarse || rxCoarse c s1,
                         own := BitVec.ofNat 4 (domOf (instDom 0 s1) s1).epoch.toNat :: e.own }
      if twoStep then updPort c 0 (fun p => { p with pd := { e1 with t2 := some ((lsbOf ts : Int) + h.corr) } }) s1
      else judgePdelay c e1 h.corr s1) s)

/-- PDELAY_RESP_FOLLOW_UP_RECEIVED (R371). -/
def execPdelayRespFollowUpReceived (c : Chan) (h : PtpHdr) (reqSeq : BitVec 16) (ts : Time96) (s : State) : Out :=
  .next (receive c 0 10 h (fun s =>
    let e := (port c 0 s).pd
    match e.t2 with
    | none => s
    | some t2 => if e.reqSeq != reqSeq then s else judgePdelay c { e with peer := h.epoch :: e.peer } ((lsbOf ts : Int) + h.corr - t2) s) s)

/-! ## Announce (R380, R381) -/

/-- ANNOUNCE_SEND (R371, R381): the own dataset, with HELLO on Halyard (R372). -/
def execAnnounceSend (c : Chan) (inst : PtpInst) (s : State) : Out :=
  let i := instNo inst
  .next (
    if (port c i s).st != .master then s
    else
      let d := ownDs i s
      let hello : List Int := if i = 0 then helloData c s else []
      sendPtp .announce c i 11 (txCoarse c s)
        ([(d.gm.toNat : Int), 128, d.cls.toNat, d.prio2.toNat, d.steps.toNat, d.utc.toInt, d.flags.toNat, d.src.toNat] ++ hello) s)

/-- HELLO (R376): the highest version both ends report; with none the port turns FAULTY. -/
def helloRecv (c : Nat) (h : Hello) (s : State) : State :=
  let v := min h.vmax (halyardMax s)
  let ok := decide (h.vmin ≤ v) && decide (halyardMin s ≤ v)
  settlePort c 0 (updPort c 0 (fun p => { p with version := if ok then v else 0, noVersion := !ok, peerChan := h.chan }) s)

/-- ANNOUNCE_RECEIVED (R380): qualified after ANNOUNCE_TIMEOUT intervals of continuous receipt. -/
def execAnnounceReceived (c : Chan) (inst : PtpInst) (h : PtpHdr) (a : Announce) (s : State) : Out :=
  let i := instNo inst
  .next (receive c i 11 h (fun s =>
    let n := (port c i s).annRun + 1
    let s1 := updPort c i (fun p => { p with annRun := n, annOk := decide (cfg 0x3305 (i + 1) s ≤ n), ann := some a, peerId := h.src, peerPort := h.port }) s
    let s2 := match a.hello with
      | some x => if i = 0 then helloRecv c x s1 else s1
      | none => s1
    comparePort c i false (offerClass c s2)) s)

/-- ANNOUNCE_TIMEOUT (R380). -/
def execAnnounceTimeout (c : Chan) (inst : PtpInst) (s : State) : Out :=
  let i := instNo inst
  .next (
    if portTakes (port c i s) then comparePort c i true (offerClass c (updPort c i (fun p => { p with annRun := 0, annOk := false }) s)) else s)

/-! ## Signaling (R372 to R376) -/

/-- Answer a HOLD request (R374). -/
def holdAnswer (c ms reason : Nat) (s : State) : State :=
  sendPtp .signaling c 0 12 (txCoarse c s) [3, if reason = 0 then ms else 0, reason]
    (updPort c 0 (fun p => { p with holdOut := if reason = 0 then ms else 0 }) s)

/-- A HOLD request (R374): a furled direction unfurls under a background grant. -/
def holdRequest (c ms : Nat) (s : State) : State :=
  let d := cod c s
  if ms = 0 then updPort c 0 (fun p => { p with holdOut := 0 }) s
  else if s.power.level = 4 then holdAnswer c ms 4 s
  else if reduced c s || d.stage != 6 then holdAnswer c ms 3 s
  else if s.power.level ≠ 0 then holdAnswer c ms 1 (countRefusal s)
  else
    let new := unfurlTarget c s &&& ~~~d.txLanes
    if new = 0 then holdAnswer c ms 0 s
    else if fits .background (2 * laneCount new) s then holdAnswer c ms 0 (countGrant (unfurlGranted c s))
    else holdAnswer c ms 1 (countRefusal s)

/-- A SKEW TLV (R373, R386): for equal SET and PEER_SET a DELTA that departs by more than 2 ps is a
disagreement. -/
def skewRecv (c : Nat) (k : Skew) (s : State) : State :=
  let a := asym c s
  let differs := k.peerSet == a.set && a.used == k.set && a.st != 0 && decide (131 < (k.delta + outMinusIn c s).natAbs)
  let s1 := updAsym c (fun a => { a with peer := some k, peerAt := s.now, differ := differs }) s
  if differs then raise .asymDisagree c (count 0x331B 12 s1) else s1

/-- The data of a SKEW TLV (R373). -/
def skewData (c : Nat) (s : State) : List Int :=
  let a := asym c s
  let up := (opt c s).band == .upper
  let d (k : Nat) : Int := slewVal 1 (4 * c + k) s - slewVal 1 (4 * c) s
  [(a.set.toNat : Int), a.used.toNat, asymState c s, bandNo (!up), txRef c s, rxRef c s, lsbOf a.measured] ++ a.skew ++ a.sigmas.map Int.ofNat
    ++ [d 1, d 2, d 3, ownWave c 0 s, ownWave c 1 s, ownWave c 2 s, ownWave c 3 s, a.a, a.lam0, outMinusIn c s, a.sigma, a.resid]

/-- Send the SKEW TLV in a Signaling message (R373). -/
def sendSkew (c : Nat) (s : State) : State :=
  if portTakes (port c 0 s) then sendPtp .signaling c 0 12 (txCoarse c s) (2 :: skewData c s) s else s

/-- SIGNALING_RECEIVED (R372 to R376). -/
def execSignalingReceived (c : Chan) (h : PtpHdr) (g : Sig) (s : State) : Out :=
  .next (receive c 0 12 h (fun s =>
    match g with
    | .hello x => helloRecv c x s
    | .skew k => skewRecv c k s
    | .holdReq ms => if ms ≤ 10000 then holdRequest c ms s else s
    | .holdAns ms r => updPort c 0 (fun p => { p with holdIn := if r = 0 then ms else 0 }) s
    | .l1sync f => updPort c 0 (fun p => { p with l1sync := f }) s) s)

/-- HOLD_EXPIRY (R374): `mine` names the hold this end granted, else the one the peer granted. -/
def execHoldExpiry (c : Chan) (mine : Bool) (s : State) : Out :=
  .next (updPort c 0 (fun p => if mine then { p with holdOut := 0 } else { p with holdIn := 0 }) s)

/-- SKEW_SEND (R373). -/
def execSkewSend (c : Chan) (s : State) : Out := .next (sendSkew c s)

/-- L1_SYNC_SEND (R375): TCR and RCR set, CR on the channel of the selected frequency slot, OPE clear. -/
def execL1SyncSend (c : Chan) (s : State) : Out :=
  .next (
    if !portTakes (port c 0 s) then s
    else
      let cr := match s.refs.freq.slot with
        | some k => slotChan k s == some c.val
        | none => false
      sendPtp .signaling c 0 12 (txCoarse c s) [4, if cr then 7 else 3] s)

/-! ## The transmit queue (R370) -/

/-- TXQ_STALE (R370): the oldest entry has not been taken for 10 ms. -/
def execTxqStale (t : Tile) (s : State) : Out :=
  .next (
    if (tsu t s).queue.isEmpty then s
    else setRc (tsuAddr t 0x18) 8 (updTsu t (fun u => { u with queue := u.queue.drop 1, stales := u.stales + 1 }) s))

/-- TX_STAMP_MISSING (R370): the exchange is void, a lost stamp is counted. -/
def execTxStampMissing (c : Chan) (inst : PtpInst) (id : BitVec 16) (s : State) : Out :=
  let i := instNo inst
  .next (
    let p := port c i s
    if hasStamp (tileOf c) id s then s
    else
      let n := (p.reqs.filter (fun e => e.id == id && e.t3.isNone)).length
      let m := if p.pd.id == id && p.pd.t1.isNone && !p.pd.own.isEmpty then 1 else 0
      let s1 := updPort c i (fun p => { p with reqs := p.reqs.filter (fun e => !(e.id == id && e.t3.isNone)), pd := if m = 1 then Exchange.none else p.pd }) s
      voids (n + m) (count 0x331B 5 s1))

/-- Discard the entries of a tile's queue (R370). -/
def txqFlush (t : Nat) (s : State) : State := updTsu t (fun u => { u with queue := [] }) s

/-- TXQ_FLUSH (R370). -/
def execTxqFlush (t : Tile) (s : State) : Out := .next (txqFlush t s)

/-! ## TOD (R355) -/

/-- One bit of the CRC of R355. -/
def crcBit (b : Bool) (c : BitVec 16) : BitVec 16 :=
  if (c.getLsbD 15) != b then (c <<< 1) ^^^ 0x1021#16 else c <<< 1

/-- CRC-16 x^16 + x^12 + x^5 + 1 over bytes, most significant bit first (R355). -/
def crc16 (l : List Byte) : BitVec 16 :=
  l.foldl (fun c b => [7, 6, 5, 4, 3, 2, 1, 0].foldl (fun c k => crcBit (b.getLsbD k) c) c) 0xFFFF#16

/-- The 24 bytes of the TOD message (R355). -/
def todBytes (s : State) : List Byte :=
  let d := outDomain s
  let p := domPath d s
  let pr := timeProps d s
  let cls := match p.slot with
    | some k => clsOf k s
    | none => 255
  let ql := match s.refs.freq.slot with
    | some k => if s.refs.freq.st = .locked then qlOf k s else 7
    | none => 7
  let st := p.st.code + (if s.refs.todMark then 64 else 0) + (if (domOf d s).traceable then 128 else 0)
  let body := leBytes 2 0x59D7 ++ leBytes 1 1 ++ leBytes 1 24 ++ leBytesI 6 s.refs.todSec ++ leBytes 2 pr.1.toNat
    ++ leBytes 1 (pr.2.1.toNat % 8) ++ leBytes 1 st ++ leBytes 1 cls ++ leBytes 1 ql ++ leBytes 1 (cfg 0x3008 0 s)
    ++ leBytes 1 s.refs.todSeq.toNat ++ leBytes 2 (min 65535 (p.bound / 1000)) ++ leBytes 2 0
  body ++ leBytes 2 (crc16 body).toNat

/-- TOD_MESSAGE (R355). -/
def execTodMessage (s : State) : Out :=
  .next (
    if todIdle s then s
    else
      let s1 := emit .tod 0 ((todBytes s).map (fun b => (b.toNat : Int))) s
      { s1 with refs := { s1.refs with todSeq := s1.refs.todSeq + 1, todMark := false } })

/-- A commit of set 6 takes effect: ports follow PTP_MODE, keys and modes (R380). -/
def ptpCommit (s : State) : State :=
  (List.range 192).foldl (fun s c => settlePort c 1 (settlePort c 0 (enablePort c 1 (enablePort c 0 s)))) s

end Sys2Proof.Machine
end

