-- ==== Sys2Proof/Machine/Cal.lean ====
section
/-!
DEFINITION. The commands of calibration in service and ageing, and of the asymmetry sets (10, 12, 13).
-/
namespace Sys2Proof.Machine

/-- The calibration role works: some engine has it, it does not migrate, and no warm start runs (R100, R410). -/
def calActive (s : State) : Bool :=
  s.life.spar.any (fun e => e.role == .cal && e.power == .running) && s.life.state != .restarting && !migratingRole .cal s

/-! ## Scheduling (R399, R403, R404) -/

/-- Hours in mast periods. -/
def hours (n : Nat) : Nat := n * 360000000000

/-- A run of a kind and instance was accepted within a number of hours. -/
def okWithin (kind inst h : Nat) (s : State) : Bool :=
  match Tab.find (calKey kind inst) s.cal.lastOk with
  | some t => decide (s.now < t + hours h)
  | none => false

/-- The channels that enabled slots name (R383). -/
def slotChans (s : State) : List Nat := (List.range 16).filterMap (fun k => if slotOn k s then slotChan k s else none)

/-- The due runs in order of service (R399): kind 2 on channels of enabled slots, kind 1, kind 2 on others, kind 4
an hour after its last accepted run, kind 3 a day after, in its gap; DESIGN CHOICE, assumption 71. -/
def dueRuns (s : State) : List (Nat × Nat) :=
  let sl := slotChans s
  let of (f : CalDue → Bool) : List (Nat × Nat) := (s.cal.due.filter f).map (fun d => (d.kind, d.inst))
  of (fun d => d.kind == 2 && sl.contains d.inst) ++ of (fun d => d.kind == 1) ++ of (fun d => d.kind == 2 && !sl.contains d.inst)
    ++ ([0, 1, 2, 3].filter (fun n => (outp n s).mode != 0 && !okWithin 4 n 1 s)).map (fun n => (4, n))
    ++ ((List.range 768).filter (fun n => laneGap n s && !okWithin 3 n 24 s)).map (fun n => (3, n))

/-- Ask the peer for a hold of 3,000 ms before a set (R383). -/
def askHold (c : Nat) (s : State) : State := sendPtp .signaling c 0 12 (txCoarse c s) [3, 3000, 0] s

/-- Try the due runs in order until one is granted, refused, or found short of a measured precondition `pre`; the
flag says that this evaluation is done. -/
def tryRun (pre : Nat) (a : State × Bool) (r : Nat × Nat) : State × Bool :=
  let s := a.1
  if a.2 || !calEnabled r.1 s || calRuns r.1 r.2 s || calBusy r.1 s then a
  else
    let n := calFails r.1 r.2 s
    if n = 4 ∧ (cod r.2 s).stage = 6 ∧ fullWidth r.2 s ∧ s.power.level = 0 then (deferRun r.1 r.2 4 (askHold r.2 s), a.2)
    else if n ≠ 0 then (deferRun r.1 r.2 n s, a.2)
    else if pre ≠ 0 then (deferRun r.1 r.2 pre s, true)
    else if s.power.level ≠ 0 then (deferRun r.1 r.2 1 s, true)
    else if fits .background (runUnits r.1) s then (startRun r.1 r.2 s, true)
    else (deferRun r.1 r.2 1 (countRefusal s), true)

/-- The runs in progress whose preconditions no longer hold are discarded (R403, R404). -/
def dropRuns (s : State) : State :=
  s.cal.runs.foldl (fun s r =>
    let n := if s.power.level ≠ 0 then 1 else calFails r.kind r.inst (updUnit r.inst (fun e => if r.kind = 1 then { e with calRunning := false } else e) s)
    if n = 0 then s else discardRun (0x10 + n) r s) s

/-- CAL_EVALUATION (R399, R404): `pre` is the measured precondition, 2, 3 or 9, that the first due run lacks, 0 for
none; `warm` are the units whose die has moved more than 3 K since their table (R319). -/
def execCalEvaluation (pre : Fin 10) (warm : List (Fin 4)) (s : State) : Out :=
  .next (
    if !calActive s then s
    else
      let s0 := warm.foldl (fun (s : State) (u : Fin 4) => makeDue 1 u.val s) s
      let s1 := [0, 1, 2, 3].foldl (fun s u =>
        if (Tab.find (calKey 1 u) s.cal.lastOk).isSome && !okWithin 1 u 24 s then makeDue 1 u s else s) s0
      let s2 := dropRuns s1
      let s3 := if s2.life.state = .stopping then s2 else ((dueRuns s2).foldl (tryRun pre) (s2, false)).1
      s3)

/-- ASYM_SET_DUE (R383). -/
def execAsymSetDue (c : Chan) (s : State) : Out := .next (if (cod c s).stage = 6 then makeDue 2 c s else s)

/-- ASYM_MEASURE of a channel (R383, R395): its preconditions other than the hold must be met now. -/
def asymMeasure (c : Nat) (s : State) : Res :=
  if s.life.state = .stopping then Res.of s 0x0401#16
  else if !fullWidth c s || (shroudLink c s).isSome || txCoarse c s || !s.vern.helperLocked || !s.tb.mastOk || (mdll 25 s).st != .locked || looped c s || s.power.level != 0 then
    Res.of s 0x0816#16
  else Res.of (askHold c (makeDue 2 c s)) 0

/-- ASYM_MEASURE (R383). -/
def execAsymMeasure (q : Req) (c : Chan) (s : State) : Out :=
  .next (roleRequest .operator q (fun _ s => asymMeasure c s) s)

/-- A run started by a host write is not queued: 0x0601 where the level forbids it or it does not fit (R68). -/
def hostRun (kind inst : Nat) (s : State) : Res :=
  if s.power.level ≠ 0 then Res.of s 0x0601#16
  else if fits .background (runUnits kind) s then Res.of (startRun kind inst s) 0
  else Res.of (countRefusal s) 0x0601#16

/-- EU_CALIBRATE of a unit (R319): 0x0401 while it is armed or calibrates; DESIGN CHOICE, assumption 20. -/
def euCalibrate (u : Nat) (s : State) : Res :=
  if s.life.state = .stopping ∨ (unit u s).armed ∨ (unit u s).calRunning then Res.of s 0x0401#16
  else if !calEnabled 1 s || calFails 1 u s != 0 || calBusy 1 s || !calActive s then Res.of s 0x0817#16
  else hostRun 1 u s

/-- EU_CALIBRATE (R319). -/
def execEuCalibrate (q : Req) (u : Fin 4) (s : State) : Out :=
  .next (roleRequest .operator q (fun _ s => euCalibrate u s) s)

/-- The instances a kind of CAL_RUN has (R425). -/
def calInsts (kind : Nat) : Nat := if kind = 3 then 768 else 4

/-- CAL_RUN (R68, R425). -/
def calRun (kind inst : Nat) (s : State) : Res :=
  if kind ≠ 1 ∧ kind ≠ 3 ∧ kind ≠ 4 then Res.of s 0x0301#16
  else if s.life.state = .stopping then Res.of s 0x0401#16
  else if !calEnabled kind s || decide (calInsts kind ≤ inst) || calRuns kind inst s || calFails kind inst s != 0 || calBusy kind s
      || (kind == 3 && !laneGap inst s) || (kind == 4 && (outp inst s).mode == 0) || !calActive s then Res.of s 0x0817#16
  else hostRun kind inst s

/-- CAL_RUN (R425). -/
def execCalRun (q : Req) (kind : BitVec 8) (inst : BitVec 16) (s : State) : Out :=
  .next (roleRequest .operator q (fun _ s => calRun kind.toNat inst.toNat s) s)

/-! ## Outcomes (R404, R407 to R411) -/

/-- A difference in 2^-16 ns exceeds a number of fs. -/
def beyondFs (d : Int) (fs : Nat) : Bool := decide (fs * 65536 < d.natAbs * 1000000)

/-- Judge a result against CAL_JUMP_LIMIT (R409): beyond it, it is held, unless it confirms the held one within 2 ps
or three standard errors. -/
def jumpOk (kind inst : Nat) (v cur target : Int) (sigma : Nat) (s : State) : Bool :=
  let lim := cfg 0x3402 0 s
  if beyondFs (v - cur) lim || beyondFs (v - target) lim then
    match Tab.find (calKey kind inst) s.cal.held with
    | some h => !beyondFs (v - h) (max 2000 (3 * sigma))
    | none => false
  else true

/-- Hold a result with reason 0x23 (R409). -/
def holdRun (kind inst : Nat) (v : Int) (resid : Nat) (s : State) : State :=
  let r := (s.cal.runs.find? (fun r => r.kind == kind && r.inst == inst)).getD ⟨kind, inst, timeA s, s.now⟩
  let s1 := endRun kind inst { s with cal := { s.cal with held := Tab.set (calKey kind inst) v s.cal.held } }
  logInfo .calOutcome (calKey kind inst) (count 0x340F 4 (logCal ⟨r.start, (s.now - r.at_) / 100000, kind, 3, 0x23, inst, 4096, resid⟩ s1))

/-- A held result is no longer held. -/
def unhold (kind inst : Nat) (s : State) : State := { s with cal := { s.cal with held := Tab.erase (calKey kind inst) s.cal.held } }

/-- Target of a slewed quantity in 2^-16 ns. -/
def slewTarget (kind inst : Nat) (s : State) : Int := (Tab.get ⟨0, 0⟩ (calKey kind inst) s.cal.slews).target / 1000000000

/-- Discard the run of a kind and instance. -/
def discardOf (reason kind inst : Nat) (s : State) : State := discardRuns reason (fun r => r.kind == kind && r.inst == inst) s

/-- The ranges of R385: a above zero, λ0 from 1,290 to 1,340 nm, 8a/L from 0.070 to 0.110 with L the filtered mean
path delay over 4,896 ns/km. -/
def fitRange (a lam0 : Nat) (mpd : Int) : Bool :=
  decide (0 < a) && decide (1290000 ≤ lam0 ∧ lam0 ≤ 1340000) && decide (0 < mpd)
    && decide (700000 * mpd ≤ (a : Int) * 8 * 4896 * 65536) && decide ((a : Int) * 8 * 4896 * 65536 ≤ 1100000 * mpd)

/-- A finished asymmetry set (R384 to R387). -/
def asymDone (c a lam0 resid sigma : Nat) (half : Bool) (skew : List Int) (sigmas : List Nat) (s : State) : State :=
  let i := slotInst c s
  if cfg 0x3311 0 s < resid then count 0x331B 11 (discardOf 0x20 2 c s)
  else if !fitRange a lam0 ((port c i s).mpd / 65536) then count 0x331B 11 (discardOf 0x22 2 c s)
  else
    let old := asym c s
    let fresh := match old.peer with
      | some p => if s.now ≤ old.peerAt + 2 * cfg 0x3310 0 s * 100000000 then p.set else 0xFFFF#16
      | none => 0xFFFF#16
    let s1 := updAsym c (fun x => { x with st := 1, half := half, a := a, lam0 := lam0, resid := resid, sigma := sigma, skew := skew, sigmas := sigmas,
                                           measured := timeOf (domOf (instDom 0 s) s).counter.lsb,
                                           set := x.set + 1, used := if half then 0xFFFF#16 else fresh, first := false, fitAt := s.now }) s
    let v := fitAsym c s1
    if old.first then sendSkew c (count 0x331B 10 (acceptRun 2 c 12288 resid (stepSlew 2 c v s1)))
    else if jumpOk 2 c v (slewVal 2 c s) (slewTarget 2 c s) sigma s then
      sendSkew c (count 0x331B 10 (acceptRun 2 c 12288 resid (unhold 2 c (aimSlew 2 c v s1))))
    else holdRun 2 c v resid s

/-- A finished loop delay of lane n = 4c + k: the change is split between transmit and receive (R411). -/
def laneDone (n : Nat) (loop : Int) (sigma : Nat) (s : State) : State :=
  if 50 < sigma then discardOf 0x20 3 n s
  else
    let old := laneCal n s
    if jumpOk 3 n loop old.loop old.loop sigma s then
      let d := loop - old.loop
      let w : Int := 350 + (Config.laneShare n % 301 : Nat)
      let tx := slewTarget 1 n s + w * d / 1000
      let rx := old.rx + (1000 - w) * d / 1000
      let s1 := updLane n (fun x => { x with loop := loop, rx := rx, inferred := false }) (aimSlew 1 n tx s)
      let s2 := if (det (n / 4) s1).lane = n % 4 then aimSlew 0 (n / 4) rx s1 else s1
      acceptRun 3 n 4096 sigma (unhold 3 n s2)
    else holdRun 3 n loop sigma s

/-- A finished output driver delay. -/
def driverDone (n : Nat) (v : Int) (sigma : Nat) (s : State) : State :=
  if 100 < sigma then discardOf 0x20 4 n s
  else if jumpOk 4 n v (slewVal 3 n s) (slewTarget 3 n s) sigma s then acceptRun 4 n 4096 sigma (unhold 4 n (aimSlew 3 n v s))
  else holdRun 4 n v sigma s

/-- A finished tap table (R318). -/
def tapDone (u : Nat) (empty : Bool) (widest : Nat) (s : State) : State :=
  if empty || decide (6000 < widest) then discardOf 0x22 1 u s
  else acceptRun 1 u 4194304 0 (updUnit u (fun e => { e with calValid := true, calTime := timeA s, calWidest := widest }) s)

/-- CAL_RUN_COMPLETE (R404, R409, R411). -/
def execCalRunComplete (kind inst : Nat) (r : CalRes) (s : State) : Out :=
  .next (
    if !calRuns kind inst s then s
    else match r with
      | .lost n => discardOf (0x10 + n) kind inst s
      | .short => discardOf 0x21 kind inst s
      | .preempted => discardOf 0x24 kind inst s
      | .tap e w => if kind = 1 then tapDone inst e w s else s
      | .asym a l rs sg h sk se => if kind = 2 then asymDone inst a l rs sg h sk se s else s
      | .lane v sg => if kind = 3 then laneDone inst v sg s else s
      | .driver v sg => if kind = 4 then driverDone inst v sg s else s)

/-- One step of a slew: at most CAL_SLEW x 1 ms (R407), which is CAL_SLEW x 65,536 units of 10^-9 LSB. -/
def Slew.step (n : Nat) (x : Slew) : Slew :=
  { x with value := if (x.target - x.value).natAbs ≤ n then x.target else if x.value < x.target then x.value + n else x.value - n }

/-- CAL_SLEW_TICK (R407, R410). -/
def execCalSlewTick (s : State) : Out :=
  .next (
    if !calActive s then s
    else { s with cal := { s.cal with slews := s.cal.slews.map (fun p => (p.1, p.2.step (cfg 0x3401 0 s * 65536))) } })

/-- CAL_OVERDUE (R406). -/
def execCalOverdue (kind inst : Nat) (s : State) : Out :=
  .next (
    if (Tab.find (calKey kind inst) s.cal.dueSince).isSome && !standing .calOverdue (calKey kind inst) s then
      raise .calOverdue (calKey kind inst) (count 0x340F 7 s)
    else s)

/-! ## The record store (R417 to R419) -/

/-- The waiting records in the order of writing: urgent ones first, a record at most once an hour (R419). -/
def nextRec (s : State) : Option RecWait :=
  match s.cal.waiting.find? (fun w => w.urgent) with
  | some w => some w
  | none => s.cal.waiting.find? (fun w => match Tab.find (calKey w.kind w.inst) s.cal.records with
    | some r => decide (r.at_ + hours 1 ≤ s.now)
    | none => true)

/-- A flash write may start (R65, R67, R70, R77, R102): a background request, or a repair request in step 5 of a
shutdown, never at level 4. -/
def flashOk (s : State) : Bool :=
  if s.life.state = .stopping ∧ s.life.shutStep = 5 then s.power.level != 4 && fits .repair 4 s
  else s.power.level == 0 && fits .background 4 s

/-- The values a written record keeps. -/
def recValues (w : RecWait) (s : State) : State :=
  let put (k n : Nat) (v : Int) (s : State) : State := { s with cal := { s.cal with stored := Tab.put 0 (calKey k n) v s.cal.stored } }
  match w.kind with
  | 1 => { s with cal := { s.cal with tapRec := Tab.set w.inst ((unit w.inst s).calTime, (unit w.inst s).calWidest) s.cal.tapRec } }
  | 2 =>
    let s1 := put 0 w.inst (laneCal w.inst s).rx (put 1 w.inst (slewTarget 1 w.inst s) s)
    { s1 with cal := { s1.cal with laneRec := Tab.put LaneCal.reset w.inst { laneCal w.inst s with margin := 0 } s1.cal.laneRec } }
  | 3 => put 2 w.inst (slewTarget 2 w.inst s) s
  | 4 => put 3 w.inst (slewTarget 3 w.inst s) s
  | 7 =>
    let e := eng (w.inst / 2) s
    put 7 w.inst ((if w.inst % 2 = 0 then e.lower else e.upper).target + 1 : Nat) s
  | 6 => { s with cal := { s.cal with retired := if s.cal.retired.contains w.inst then s.cal.retired else s.cal.retired ++ [w.inst] } }
  | 8 => { s with cal := { s.cal with raisedRec := Tab.put 0 w.inst (Tab.get 0 w.inst s.cal.raised) s.cal.raisedRec } }
  | 9 => match Tab.find w.inst s.cal.ages with
    | some a => { s with cal := { s.cal with ageRec := Tab.set w.inst a s.cal.ageRec } }
    | none => s
  | _ => s

/-- A record is committed to the bank that does not hold the valid one, its SEQ raised by one (R417); a waiting
LASER_FORCE write completes (R419). -/
def commitRec (w : RecWait) (s : State) : State :=
  let k := calKey w.kind w.inst
  let r := (Tab.find k s.cal.records).getD ⟨true, 0, 0, 0⟩
  let s1 := { s with cal := { s.cal with waiting := s.cal.waiting.filter (fun x => !(x.kind == w.kind && x.inst == w.inst)),
                                         records := Tab.set k ⟨!r.bankB, r.seq + 1, s.now, recFormat s⟩ s.cal.records } }
  let s2 := endAlarm .recordFailed k (count 0x340F 6 (recValues w s1))
  match w.req with
  | some q => complete q 0 [] s2
  | none => s2

/-- RECORD_WRITE (R417, R585): `fails` readbacks failed; after the second the record waits on and an alarm is raised. -/
def execRecordWrite (fails : Fin 3) (s : State) : Out :=
  .next (
    match nextRec s with
    | none => s
    | some w =>
      if !recWritable s then s
      else if !flashOk s then countRefusal s
      else
        let s1 := { countGrant s with cal := { (countGrant s).cal with failures := (countGrant s).cal.failures + BitVec.ofNat 32 fails } }
        if fails = 2 then raise .recordFailed (calKey w.kind w.inst) s1 else commitRec w s1)

/-! ## Receivers and ageing (R412 to R414, R421, R422) -/

/-- Move one of a lane's settings by a unit within its range (R413): 0 CTLE, 1 to 3 the slicers, 4 AGC_TARGET. -/
def adaptSet (n : Nat) (up : Bool) (x : LaneCal) : LaneCal :=
  let d : Int := if up then 1 else -1
  let nat (v : Nat) : Nat := (max 0 (min 15 ((v : Int) + d))).toNat
  match n with
  | 0 => { x with ctle := nat x.ctle }
  | 4 => { x with agc := nat x.agc }
  | k => { x with slice := setAt (k - 1) (max (-32) (min 31 (x.slice.getD (k - 1) 0 + d))) x.slice }

/-- RX_ADAPT_TRIAL (R413): the step of one unit is kept where `better`. -/
def execRxAdaptTrial (c : Chan) (k : Lane) (set : Fin 5) (up better : Bool) (s : State) : Out :=
  .next (
    if better && calEnabled 5 s && (cod c s).stage == 6 && (cod c s).locked.getLsbD k && s.power.level != 4 && s.life.state != .restarting then
      updLane (4 * c + k) (adaptSet set up) s
    else s)

/-- RX_MARGIN_ALARM (R414): the margin of a lane has been below RX_MARGIN_WARN for 60 s. -/
def execRxMarginAlarm (c : Chan) (k : Lane) (margin : BitVec 16) (s : State) : Out :=
  let s1 := updLane (4 * c + k) (fun x => { x with margin := margin }) s
  .next (if margin.toInt < (cfg 0x3406 0 s : Nat) then raise .rxMargin (4 * c + k) s1 else endAlarm .rxMargin (4 * c + k) s1)

/-- LANE_INFERRED (R412): 30 days without an accepted run; the delays follow the mean change of the measured lanes
of the engine and band. -/
def execLaneInferred (c : Chan) (k : Lane) (dtx drx : Int) (s : State) : Out :=
  let n := 4 * c.val + k.val
  .next (
    let s1 := updLane n (fun x => { x with inferred := true, rx := x.rx + drx }) (aimSlew 1 n (slewTarget 1 n s + dtx) s)
    if (det c s1).lane = k then aimSlew 0 c (laneCal n s1).rx s1 else s1)

/-- A laser reaches its spare switch-in point (R422): a planned switch-in with SPARE_AUTO at level 0, an alarm that
waits for the host otherwise, a major alarm where the band's spare is in use or failed. -/
def switchPoint (t j : Nat) (s : State) : State :=
  if !(laser t j s).on then s
  else if !spareFree t j s then raise .switchNoSpare (8 * t + j) s
  else if cfgB 0x3405 0 s && s.power.level == 0 then count 0x340F 8 (askSpare t j true s)
  else raise .switchInPoint (8 * t + j) s

/-- Re-planning after an accepted refit (R422). A raised allowance is not lowered, but for the first plan after a
switch-in, which is made anew. -/
def replan (code inst : Nat) (f : AgeFit) (s : State) : State :=
  if code = 6 then
    { s with tb := { s.tb with lockLow := max 600 (f.mean - 450), lockHigh := min 1900 (f.mean + 450) } }
  else if code = 2 then
    let t := inst / 8
    let now := if s.cal.swapped.contains t then perVariant 10 14 s else max (perVariant 10 14 s) (Tab.get 0 t s.cal.raised)
    let units := if now < f.units then f.units else if s.cal.swapped.contains t then 0 else Tab.get 0 t s.cal.raised
    let s0 : State := { s with cal := { s.cal with raised := Tab.put 0 t units s.cal.raised, swapped := s.cal.swapped.filter (fun x => x != t) } }
    let s1 := if units = Tab.get 0 t s.cal.raised then s0 else queueRec 8 t true none s0
    let s2 := if (eng t s1).bank == .lit then bookBank t 2 s1 else s1
    if f.reached || decide (f.days < cfg 0x3404 0 s2) then switchPoint t (inst % 8) s2 else s2
  else s

/-- AGEING_REFIT (R421, R422): accepted where the residual is at most three times the factory noise. -/
def execAgeingRefit (code inst : Nat) (f : AgeFit) (s : State) : Out :=
  .next (
    if !calActive s then s
    else if 3 * f.noise < f.resid then logCal ⟨timeA s, 0, code, 2, 0x20, inst, 0, f.resid⟩ s
    else
      let s1 := { s with cal := { s.cal with ages := Tab.set (calKey code inst) ⟨f.flags, f.words, timeA s, f.days⟩ s.cal.ages } }
      replan code inst f (queueRec 9 (calKey code inst) false none (count 0x340F 5 s1)))

end Sys2Proof.Machine
end

