-- ==== Sys2Proof/Machine/Fwd.lean ====
section
/-!
DEFINITION. The commands of the forwarding pipeline, its tables and meters (14).
-/
namespace Sys2Proof.Machine

/-! ## Frames (R427 to R446, R459, R460, R482, R520, R523) -/

/-- Count a discard of the pipeline (R446). -/
def fwdDrop (r : Nat) (s : State) : State := count 0x400F r s

/-- The channel MAC accepts a frame (R252, R513); DESIGN CHOICE, assumption 85. -/
def macAccepts (c : Nat) (f : List Byte) (s : State) : Bool :=
  let max_ := if (shroudLink c s).isSome then 10304 else cfg 0x2106 (c + 1) s
  decide (64 ≤ f.length + 4) && decide (f.length + 4 ≤ max_) && b16 f 12 != 0x8808

/-- An instance on the channel takes the frame (R362): its destination, sdoId and domain are those of the instance. -/
def instTakes (c i : Nat) (f : List Byte) (s : State) : Bool :=
  let da := beNat (f.take 6)
  let want := if i = 1 ∧ cfg 0x330B 0 s = 1 then 0x011B19000000 else 0x0180C200000E
  instOn c i s && b16 f 12 == 0x88F7 && da == want && b8 f 14 / 16 == (if i = 0 then 3 else 0) && b8 f 18 == cfg 0x3301 (i + 1) s

/-- A frame of the control path: taken by an instance, ESMC, MKA or shroud (R76, R362, R363, R560); DEDUCED, assumption 94. -/
def isControl (c : Nat) (f : List Byte) (s : State) : Bool :=
  instTakes c 0 f s || instTakes c 1 f s || (b16 f 12 == 0x888E && beNat (f.take 6) == 0x0180C2000003)
    || (esmcOn c s && b16 f 12 == 0x8809 && beNat (f.take 6) == 0x0180C2000002)

/-- What MACsec makes of a received data frame (R563): 0 passes, else the word of TRUST_COUNTS that counts its
discard; an unknown AN counts with the ICV failures; DESIGN CHOICE, assumption 23; DESIGN CHOICE, assumption 95. -/
def secFate (c : Nat) (x : RxSec) (s : State) : Nat :=
  if macPolicy c s = 0 then 0
  else match x with
    | .clear => if (ca c s).sak then 10 else if macPolicy c s = 1 then 0 else 10
    | .sealed icv win an =>
      if !(ca c s).sak || !an || !icv then 8 else if !win then 9 else 0

/-- The action of the classifier entry that wins, or of an entry that does nothing (R436, R437). -/
def actionOf (c : Nat) (p : Parsed) (s : State) : BitVec 96 :=
  (classify (searchKey c (cfg 0x4008 (c + 1) s) (p.dmac == beNat (cfgBytes 0x400B (c + 1) s)) p) s.fwd.tables.classif).getD 0

/-- The parse stage's discards (R433 to R435): a reason, or 0; DEDUCED, assumption 76. -/
def parseFate (c : Nat) (p : Parsed) (act : BitVec 96) (s : State) : Nat :=
  let redirected := field act 94 92 == 2
  if p.bad then 1
  else if 0x0180C2000000 ≤ p.dmac ∧ p.dmac ≤ 0x0180C200000F then 3
  else if cfg 0x4007 (c + 1) s = 1 then 0
  else if p.dmac ≠ beNat (cfgBytes 0x400B (c + 1) s) ∧ !redirected then 3
  else if (p.kind = 3 ∧ !bit (cfg 0x400A (c + 1) s) 0) ∨ (p.kind = 1 ∧ !bit (cfg 0x400A (c + 1) s) 1)
      ∨ (p.kind = 2 ∧ !bit (cfg 0x400A (c + 1) s) 2) then 2
  else 0

/-- Classification and lookup (R427 steps 2 and 3): a reason, or the route. A frame that is not looked up keeps its
stack and its TTL. -/
def lookupFrame (c : Nat) (p : Parsed) (act : BitVec 96) (s : State) : Nat × Option Route :=
  let vrf := if act.getLsbD 69 then field act 68 57 else cfg 0x4008 (c + 1) s
  let plain (k t : Nat) : Nat × Option Route := (0, some ⟨k, t, none, none, none, { Edit.none with stack := p.stack }⟩)
  if field act 94 92 = 1 then (10, none)
  else if field act 94 92 = 2 then plain (field act 91 90) (field act 89 70)
  else if cfg 0x4007 (c + 1) s = 1 then (if cfg 0x4009 (c + 1) s = 0xFFFFFFFF then (9, none) else plain 0 (cfg 0x4009 (c + 1) s))
  else if p.kind = 0 then (2, none)
  else routeFrame p vrf s.fwd.tables

/-- The mirror sessions of a frame at stage 6 (R482): the one the classifier names, and those of ingress port
mirroring. -/
def inMirrors (c : Nat) (act : BitVec 96) (s : State) : List Nat :=
  (List.range 16).filter (fun n => (act.getLsbD 32 && field act 31 28 == n && mirrorFlag n 0 s) || (mirrorFlag n 1 s && mirrorSource n c s))

/-- A replica of a frame goes to the mate (R523), or is discarded and counted while no link is up; DEDUCED, assumption 83. -/
def replicate (st : Nat) (e : BitVec 128) (num nh : Nat) (k : Copy) (s : State) : State :=
  match mateLink s with
  | none => count 0x4413 9 s
  | some j =>
    let fl := (if field e 126 125 = 1 then 1 else 0) + (if field e 126 125 = 2 then 2 else 0)
    let body := leBytes 2 st ++ [BitVec.ofNat 8 fl, BitVec.ofNat 8 (k.cls + 16 * k.col)] ++ leBytes 4 num ++ leBytes 4 nh ++ leBytes 4 0
      ++ k.raw ++ leBytes 4 (crc32 k.raw).toNat
    let f := shroudFrame j 6 0 body s
    fabPut { k with raw := f, edit := Edit.none, way := .shroud, mc := none, out := (linkChan j s).getD 0, len := f.length + 4 } s

/-- Hand a frame to the fabric (R427 step 6, R465, R480): once for each distinct egress tile. -/
def handOver (k : Copy) (s : State) : State :=
  match k.mc with
  | none => fabPut k s
  | some g =>
    let ts := mcTargets g k.ing s
    (mcTiles ts []).foldl (fun s t => fabPut { k with out := ((ts.find? (fun x => tileOf x.2 == t)).getD (0, 8 * t)).2 } s) s

/-- The class of a frame: of the classifier, the entry, or the QoS input map (R437, R459); DESIGN CHOICE, assumption 79. -/
def classOf (c : Nat) (p : Parsed) (act : BitVec 96) (r : Route) (s : State) : Nat :=
  if act.getLsbD 56 then field act 55 52 else match r.cls with
    | some n => n
    | none => qosIn c p s % 16

/-- The meter of a frame: of the classifier, the entry, or DEFAULT_METER (R437, R462). -/
def meterFor (c : Nat) (act : BitVec 96) (r : Route) (s : State) : Option Nat :=
  if act.getLsbD 51 then some (field act 50 33) else match r.meter with
    | some n => some n
    | none => if cfg 0x4102 (c + 1) s ≤ 262143 then some (cfg 0x4102 (c + 1) s) else none

/-- Stages 5 and 6 of a frame that passed the stream function: class, meter, discards of red and remark, mirror
copies, hand-over (R427, R456, R458 to R460, R482). -/
def finishFrame (c : Nat) (p : Parsed) (act : BitVec 96) (r : Route) (way : Way) (mc : Option Nat) (op : SeqOp) (rep : Option (Nat × Nat × Nat))
    (f : List Byte) (a : Arrival) (s : State) : State :=
  let cls := classOf c p act r s
  let col0 := min (qosIn c p s / 16 % 4) 2
  let len := f.length + 4
  let m : Nat × State := match meterFor c act r s with
    | none => (0, s)
    | some i => meterFrame i len col0 a.half.val s
  let red := match meterFor c act r s with
    | none => false
    | some i => (meterCfg i s).flags.getLsbD 1 && m.1 == 2
  if red || bit (remarkOf c cls m.1 s) 15 then fwdDrop 11 m.2
  else
    let k : Copy := { raw := f, edit := { r.edit with seq := op }, way := way, mc := mc, ing := c,
                      out := match way with
                        | .hop n => field (row n s.fwd.tables.nh).bits 254 247
                        | _ => 0
                      cls := cls, col := m.1, epoch := s.fwd.epoch, len := len, entry := s.now, origin := s.now,
                      arrive := some a.stamp, coarse := rxCoarse c s, cand := [], made := 0 }
    let x := mirrorAll f c (inMirrors c act s) k m.2
    let s2 := match rep with
      | some (st, num, nh) => replicate st (streamCfg st s) num nh k x.2
      | none => x.2
    handOver x.1 s2

/-- Stage 4 and the stream function (R427, R444, R479, R520 to R523). -/
def resolveFrame (c : Nat) (p : Parsed) (act : BitVec 96) (r : Route) (f : List Byte) (a : Arrival) (s : State) : State :=
  let g := row r.target s.fwd.tables.mcGroup
  let nh := resolveNh c p r.kind r.target s
  if r.kind = 2 ∧ (g.st ≠ .live ∨ !g.bits.getLsbD 63) then fwdDrop 9 s
  else if r.kind ≠ 2 ∧ nh.1 ≠ 0 then fwdDrop nh.1 s
  else if r.kind ≠ 2 ∧ !nhUsable nh.2 s then fwdDrop 9 s
  else
    let way : Way := .hop nh.2
    let mc := if r.kind = 2 then some r.target else none
    match (match r.stream with
      | some n => some n
      | none => xcStream c s) with
    | none => finishFrame c p act r way mc .none none f a s
    | some st =>
      if a.overload && (streamCfg st s).getLsbD 127 then count 0x4413 10 s
      else
        let x := streamFn st p none s
        if !x.1 then x.2.2.2
        else
          let e := streamCfg st s
          let rep := if e.getLsbD 127 && e.getLsbD 121 then some (st, x.2.2.1, nh.2) else none
          finishFrame c p act r way mc x.2.1 rep f a x.2.2.2

/-- The pipeline (R427): every discard is counted under its reason. -/
def pipeline (c : Nat) (f : List Byte) (a : Arrival) (s : State) : State :=
  let p := parseOn c f s
  if (p.high ∧ 65536 < a.waiting + (f.length + 4)) ∨ (!p.high ∧ (49152 ≤ a.waiting ∨ 65536 < a.waiting + (f.length + 4))) then fwdDrop 14 s
  else
    let act := actionOf c p s
    match parseFate c p act s with
    | 0 =>
      match lookupFrame c p act s with
      | (_, some r) => resolveFrame c p act r f a s
      | (n, none) => fwdDrop n s
    | n => fwdDrop n s

/-- A Halyard, PTP or ESMC frame waits in the control queue of its tile, of 256 frames; with the queue full it is
discarded and counted (R363). -/
def controlIn (c : Nat) (f : List Byte) (s : State) : State :=
  let t := tileOf c
  if b16 f 12 = 0x888E then s
  else if 256 ≤ (tsu t s).rxLevel then count 0x331B 6 (setRc (tsuAddr t 0x18) 2 s)
  else updTsu t (fun u => { u with rxLevel := u.rxLevel + 1 }) s

/-- FRAME_RECEIVED (R427): a frame of channel c without its FCS, as the MAC and MACsec hand it on; DESIGN CHOICE, assumption 74. A shroud
channel discards any but the shroud frames, which have rows of their own, and counts it under reason 2 (R513); DESIGN CHOICE, assumption 148. -/
def execFrameReceived (c : Chan) (f : List Byte) (x : RxSec) (a : Arrival) (s : State) : Out :=
  .next (
    if (cod c s).stage ≠ 6 ∨ !macAccepts c f s then s
    else
      let s1 := traffic c 1 (f.length + 4) (traffic c 0 1 s)
      if (shroudLink c s).isSome then fwdDrop 2 s1
      else if isControl c f s then controlIn c f s1
      else if s.power.level = 4 then fwdDrop 15 s1
      else match secFate c x s with
        | 0 => pipeline c f a s1
        | n => count 0x601D n s1)

/-! ## Tables (R451, R453, R461, R462) -/

/-- A commit naming a set is scheduled. -/
def setScheduled (n : Nat) (s : State) : Bool := s.commits.scheduled.any (fun c => c.sets.contains n)

/-- Record a table failure in the session (R449, R461). -/
def setTxnFail (q : Req) (sub reason op : Nat) (mate : Bool) (s : State) : State :=
  updSession q.sess (fun e => { e with txnFail := txnFailBytes sub reason op mate }) s

/-- TABLE_WRITE takes the operation (R451): not an entry of its tables that is FREE or DRAINING; an index beyond its table
names none and is left to R449. -/
def tableWriteTakes (o : TxnOp) (s : State) : Bool :=
  o.op == 1 && (o.tbl == 1 || o.tbl == 6
    || ((o.tbl == 3 || o.tbl == 4) && (decide (tableSize o.tbl ≤ o.idx) || (row o.idx (s.fwd.tables.stated o.tbl)).st == .live)))

/-- TABLE_WRITE (R451): one WRITE of an entry without states, or of a LIVE next hop or ECMP group; DESIGN CHOICE, assumption 93. -/
def tableWrite (q : Req) (d : List Byte) (s : State) : Res :=
  if 188 < d.length then Res.of s 0x0302#16
  else if setScheduled 8 s then Res.of s 0x0401#16
  else match readOps 1 d with
    | some [o] =>
      if !tableWriteTakes o s then
        Res.of (setTxnFail q 0 1 0 false s) 0x0819#16
      else
        let r := checkOp 8 0 (extRefs s) o s.fwd.tables
        if r.2 ≠ 0 then Res.of (setTxnFail q 0 r.2 0 false s) 0x0819#16
        else Res.of (updTables (fun _ => r.1) s) 0
    | _ => Res.of (setTxnFail q 0 10 0 false s) 0x0819#16

/-- TABLE_WRITE (R451). -/
def execTableWrite (q : Req) (d : List Byte) (s : State) : Out := .next (roleRequest .operator q (fun _ s => tableWrite q d s) s)

/-- State of a row as TABLE_READ codes it. -/
def RowSt.code : RowSt → Nat
  | .free => 0 | .live => 1 | .draining => 2

/-- Entry data as the WRITE data of its table (R447, R461). -/
def entryBytes (code idx : Nat) (t : Tables) : List Byte :=
  if code = 1 then leBytes 16 (Tab.get 0 idx t.label).toNat
  else if code = 6 then
    let e := Tab.get Classif.reset idx t.classif
    leBytes 80 e.key.toNat ++ leBytes 80 e.mask.toNat ++ leBytes 12 e.action.toNat
  else if code = 7 then
    let m := Tab.get MeterCfg.reset idx t.meters
    [BitVec.ofNat 8 m.mode, m.flags, 0#8, 0#8] ++ leBytes 4 m.rate1 ++ leBytes 4 m.rate2 ++ leBytes 4 m.burst1 ++ leBytes 4 m.burst2 ++ leBytes 4 0
  else if code = 10 then leBytes 16 (Tab.get 0 idx t.streams).toNat
  else leBytes (writeLen code) (row idx (t.stated code)).bits.toNat

/-- TABLE_READ_REQ (R461): the entry goes into the session's TABLE_READ with its state and references; an absent one
is answered by TABLE_READ with reason 2 or 9. -/
def tableReadReq (q : Req) (d : List Byte) (s : State) : Res :=
  let code := (d.getD 0 0).toNat
  let fam := (d.getD 1 0).toNat
  let idx := leNat ((d.drop 4).take 4)
  if d.length ≠ 24 then Res.of s 0x0302#16
  else if code = 0 ∨ 10 < code ∨ (code = 2 ∧ fam ≠ 4 ∧ fam ≠ 6) ∨ (code ≠ 2 ∧ fam ≠ 0) then Res.of s 0x0301#16
  else
    let put (b : List Byte) (err : Nat) : Res := Res.of (updSession q.sess (fun e => { e with tableRead := b, tableErr := err }) s) 0
    let t := s.fwd.tables
    if code = 2 then
      let pfx := [BitVec.ofNat 8 idx, BitVec.ofNat 8 fam] ++ (d.drop 2).take 2 ++ (d.drop 8).take 16
      match (prefixOf pfx).bind (fun k => Tab.find k t.prefixes) with
      | none => put [] 9
      | some r => put (pfx ++ leBytes 8 r.toNat ++ [3#8, 0#8, 0#8, 0#8] ++ leBytes 4 0) 0
    else if tableSize code ≤ idx then put [] 2
    else put (entryBytes code idx t ++ [BitVec.ofNat 8 (if isStated code then (row idx (t.stated code)).st.code else 3), 0#8, 0#8, 0#8]
               ++ leBytes 4 (if isStated code then refCount code idx (extRefs s) t else 0)) 0

/-- TABLE_READ_REQ (R461). -/
def execTableReadReq (q : Req) (d : List Byte) (s : State) : Out := .next (roleRequest .operator q (fun _ s => tableReadReq q d s) s)

/-- METER_READ_REQ (R462): METER_STATE then gives the meter as it stands at the initiate request. -/
def meterReadReq (q : Req) (n : Nat) (s : State) : Res :=
  if 262143 < n then Res.of s 0x0301#16 else Res.of (updSession q.sess (fun e => { e with meterReq := n + 1 }) s) 0

/-- METER_READ_REQ (R462). -/
def execMeterReadReq (q : Req) (n : BitVec 32) (s : State) : Out := .next (roleRequest .operator q (fun _ s => meterReadReq q n.toNat s) s)

/-- METER_STATE of a meter (R462). -/
def meterBytes (n : Nat) (s : State) : List Byte :=
  let m := meterSt n s
  entryBytes 7 n s.fwd.tables ++ leBytes 8 m.t1 ++ leBytes 8 m.t2
    ++ ((List.range 3).map (fun i => leBytes 8 (m.frames.getD i 0) ++ leBytes 8 (m.bytes.getD i 0))).flatten

/-- EPOCH_DRAIN_COMPLETE (R453). -/
def execEpochDrainComplete (s : State) : Out := .next (drainAll s)

end Sys2Proof.Machine
end

