-- ==== Sys2Proof/Machine/Switch.lean ====
section
/-!
DEFINITION. The commands of the fabric, the output buffers, the overflow store, the egress scheduler, the shapers
and the gate lists (15, 16).
-/
namespace Sys2Proof.Machine

/-! ## Fabric and buffers (R465, R469, R472) -/

/-- The head of a fabric queue is of high priority (R465). -/
def headHigh (l : List Copy) : Option Bool := l.head?.map (fun k => decide (12 ≤ k.cls) && !k.isMirror)

/-- The ingress tile that the link into a tile serves next: high priority first, round robin within each (R465). -/
def nextIngress (et : Nat) (s : State) : Option (Nat × Bool) :=
  let find (h : Bool) : Option Nat :=
    ((List.range 24).map (fun i => (Tab.get 0 (et * 2 + b2n h) s.sw.turn + i) % 24)).find? (fun it => headHigh (fabQ it et s) == some h)
  match find true with
  | some it => some (it, true)
  | none => (find false).map (fun it => (it, false))

/-- A copy crosses into a tile and is admitted or replicated there (R465, R469, R480). -/
def crossInto (room : Bool) (et : Nat) (s : State) : State :=
  match nextIngress et s with
  | none => s
  | some (it, h) =>
    match fabQ it et s with
    | [] => s
    | k :: rest =>
      let s1 := putFab it et rest { s with sw := { s.sw with turn := Tab.put 0 (et * 2 + b2n h) ((it + 1) % 24) s.sw.turn } }
      (engChans et).foldl (fun s c => gateTrim c s) (deliver room et k s1)

/-- FABRIC_DELIVERY (R469): one copy reaches a tile; `room` says that the tile's spill queue has room for it. -/
def execFabricDelivery (et : Tile) (room : Bool) (s : State) : Out := .next (crossInto room et s)

/-- FABRIC_WAIT_EXPIRY (R465): the head of a fabric queue has waited 2 µs; DEDUCED, assumption 88. -/
def execFabricWaitExpiry (it et : Tile) (s : State) : Out :=
  .next (match fabQ it et s with
    | k :: rest => if k.entry + 200 ≤ s.now then bufDrop 9 k (putFab it et rest s) else s
    | [] => s)

/-- The copies at the front of a queue that are 197 µs old (R472). -/
def oldHeads (now : Nat) (l : List Copy) : List Copy := l.takeWhile (fun k => decide (k.origin + 19700 ≤ now))

/-- ON_DIE_RESIDENCE_EXPIRY (R472). -/
def execOnDieResidenceExpiry (c : Chan) (q : Fin 16) (s : State) : Out :=
  .next (
    let l := dieQ c q s
    let old := oldHeads s.now l
    gateTrim c (old.foldl (fun s k => bufDrop 6 k s) (if old.isEmpty then s else putDie c q (l.drop old.length) s)))

/-! ## The overflow store (R475 to R477, R483) -/

/-- OVF_STACKS_AWAKE (R475): the granted stacks have woken. -/
def execOvfStacksAwake (s : State) : Out :=
  .next (if s.sw.ovf.st = .opening ∧ unitsOf cOvf 0 s ≠ 0 then
      ovfLevel { s with sw := { s.sw with ovf := { s.sw.ovf with st := .open_, emptyAt := s.now } } }
    else s)

/-- The bin of a copy has reached OVF_AGE_LIMIT (R475). -/
def binOld (k : Copy) (s : State) : Bool := decide (k.entry / 25000 * 25000 + cfg 0x4205 0 s * 100000 ≤ s.now)

/-- Age the tail of one queue; in self-refresh the cells are freed when the state ends. -/
def ageTail (s : State) (n : Nat) : State :=
  let l := Tab.get [] n s.sw.ovf.tails
  let old := l.filter (fun k => binOld k s)
  if old.isEmpty then s
  else
    let s1 := old.foldl (fun s k => bufDrop 7 k s) (putTail (n / 16) (n % 16) (l.filter (fun k => !binOld k s)) s)
    if s.sw.ovf.st = .selfRefresh then { s1 with sw := { s1.sw with ovf := { s1.sw.ovf with stale := s1.sw.ovf.stale + cellsOf old } } } else s1

/-- OVF_AGEING_TICK (R475): the bins that have reached the limit are discarded whole. -/
def execOvfAgeingTick (s : State) : Out := .next (ovfSettle ((s.sw.ovf.tails.map (fun t => t.1)).foldl ageTail s))

/-- Whether the store returns a frame to a queue now (R477); DEDUCED, assumption 91. -/
def returns (c q : Nat) (s : State) : Bool :=
  (s.sw.ovf.st == .open_ || s.sw.ovf.st == .draining) && !(tailQ c q s).isEmpty && decide (queueCells c q s < returnPoint c q s)

/-- OVF_RETURN (R477): the head of a tail comes back on die; one with an uncorrectable error is discarded (R475). -/
def execOvfReturn (c : Chan) (q : Fin 16) (bad : Bool) (s : State) : Out :=
  .next (if returns c q s then
      match tailQ c q s with
      | [] => s
      | k :: rest =>
        let s1 := putTail c q rest s
        let s2 := if bad then bufDrop 10 k s1 else tally 8 c q 1 (putDie c q (dieQ c q s1 ++ [{ k with origin := s.now }]) s1)
        gateTrim c (ovfSettle s2)
    else s)

/-- OVF_IDLE_CLOSE (R475): an open store was empty for 1 s. -/
def execOvfIdleClose (s : State) : Out :=
  .next (if s.sw.ovf.st = .open_ ∧ storeEmpty s ∧ s.sw.ovf.emptyAt + 100000000 ≤ s.now then ovfClose s else s)

/-- A stack fails: every frame is discarded, entries and requests end, the stacks are retested (R475). -/
def ovfFail (s : State) : State :=
  let all := (s.sw.ovf.tails.map (fun t => t.2)).flatten
  let s1 := setEntry cOvf 0 0 0 { s with
    sw := { s.sw with ovf := { s.sw.ovf with st := .failed, tails := [], stale := 0, retest := true } }
    power := { s.power with waiting := s.power.waiting.filter (fun w => w.what != .ovfOpen) } }
  raise .ovfFailed noInst (all.foldl (fun s k => bufDrop 10 k s) s1)

/-- OVF_STACK_FAILURE (R475). -/
def execOvfStackFailure (s : State) : Out :=
  .next (match s.sw.ovf.st with
    | .closed => s
    | .failed => s
    | _ => ovfFail s)

/-- OVF_RETEST_COMPLETE (R475): the stacks that pass. -/
def execOvfRetestComplete (pass : BitVec 4) (s : State) : Out :=
  .next (if s.sw.ovf.st = .failed ∧ s.sw.ovf.retest then
      let s1 := { s with sw := { s.sw with ovf := { s.sw.ovf with retest := false, memStacks := pass } } }
      if 3 ≤ laneCount pass then
        let s2 := endAlarm .ovfFailed noInst (setOvf .closed s1)
        if pass = 0xF#4 then endAlarm .ovfThree noInst s2 else if standing .ovfThree noInst s2 then s2 else raise .ovfThree noInst s2
      else s1
    else s)

/-- OVF_RETRY (R483): TRUE retests the stacks of a FAILED store. -/
def ovfRetry (v : Bool) (s : State) : Res :=
  Res.of (if v ∧ s.sw.ovf.st = .failed then { s with sw := { s.sw with ovf := { s.sw.ovf with retest := true } } } else s) 0

/-- OVF_RETRY (R483). -/
def execOvfRetry (q : Req) (v : Bool) (s : State) : Out := .next (roleRequest .operator q (fun _ s => ovfRetry v s) s)

/-! ## The egress scheduler (R485 to R494) -/

/-- Record the frame a port sends; DESIGN CHOICE, assumption 87. -/
def sending (c q t len : Nat) (s : State) : State :=
  { s with egr := { s.egr with tx := Tab.set c (some ⟨t, wireBits c len s, portRate c s, gateClose c q t s⟩) s.egr.tx } }

/-- The transparent clock on a frame about to leave (R392, R564). -/
def transit (c : Nat) (k : Copy) (f : List Byte) (stamp : Int) (s : State) : List Byte × State :=
  match k.way, transitAt f s, k.arrive with
  | .hop _, some o, some a =>
    if macPolicy c s ≠ 0 ∨ macPolicy k.ing s ≠ 0 then (f, count 0x601D 11 s)
    else
      let s1 := if k.coarse || txCoarse c s then setRc (tsuAddr (tileOf c) 0x18) 1 s else s
      (correct o (stamp - a) f, s1)
  | _, _, _ => (f, s)

/-- Mirror copies of a frame as transmitted (R482); DEDUCED, assumption 89. -/
def egressMirror (c : Nat) (k : Copy) (f : List Byte) (s : State) : State :=
  match k.way with
  | .hop _ => (mirrorAll f c ((List.range 16).filter (fun n => mirrorFlag n 2 s && mirrorSource n c s)) k s).2
  | _ => s

/-- A protected frame takes the next PN; where it reaches 0xC000_0000_0000_0000 the key server rekeys (R562). -/
def nextPn (c : Nat) (s : State) : State :=
  if !secured c s then s
  else
    let s1 := updCa c (fun x => { x with pn := x.pn + 1 }) s
    if 0xC000000000000000 ≤ (ca c s1).pn ∧ (ca c s1).server ∧ !(ca c s1).rekey ∧ s1.life.state ≠ .restarting then distribute c s1 else s1

/-- The frame chosen from queue q leaves (R488, R491, R507, R592). -/
def sendFrame (c q t : Nat) (k : Copy) (f : List Byte) (stamp : Int) (s : State) : State :=
  let len := f.length + 4
  let x := transit c k f stamp (sending c q t len s)
  let s1 := if macPolicy c s ≠ 0 ∧ !secured c s then count 0x601D 10 x.2 else nextPn c x.2
  let s2 := emit .frame c ((q : Int) :: x.1.map (fun b => (b.toNat : Int))) s1
  egressMirror c k x.1 (tally 4 c q len (tally 3 c q 1 (traffic c 3 len (traffic c 2 1 (countW 0x430C (c + 1) 0 1 s2)))))

/-- EGRESS_SELECT (R486): the port is free at `off` LSBs after the last mast edge, and its data queues are offered;
`stamp` is the egress stamp of the frame that leaves. A head that the rewrite discards, or that policy 2 holds back,
leaves without a charge. -/
def egressSelect (c off : Nat) (stamp : Int) (s0 : State) : State :=
  let s := gateTrim c s0
  let t := (domOf (gateDom c s) s).counter.lsb + off
  match choose c t s with
  | (none, s1) => s1
  | (some (q, excess), s1) =>
    match dieQ c q s with
    | [] => s1
    | k :: rest =>
      match rewrite k s with
      | (0, f) =>
        if macPolicy c s = 2 ∧ !secured c s then gateTrim c (count 0x601D 10 (putDie c q rest s))
        else gateTrim c (sendFrame c q t k f stamp (putDie c q rest (chargeAll c q (f.length + 4) excess s1)))
      | (r, _) => gateTrim c (fwdDrop r (putDie c q rest s))

/-- EGRESS_SELECT (R486). -/
def execEgressSelect (c : Chan) (off : Nat) (stamp : Int) (s : State) : Out := .next (egressSelect c off stamp s)

/-- SHAPER_REFILL (R490). -/
def execShaperRefill (s : State) : Out :=
  .next ((s.egr.buckets.map (fun b => b.1)).foldl (fun s n => updBucket (n / 64) (n % 64) Bucket.refill s) s)

/-- Mark the buckets of a port that a forgive names (R493). -/
def forgive (v : BitVec 32) (s : State) (c : Nat) : State :=
  let mark (n : Nat) (s : State) : State := updBucket c n (fun b => { b with forgive := true }) s
  let s1 := (List.range 16).foldl (fun s q => if v.getLsbD q then (if q < 12 then mark q s else mark (16 + q) (mark q s)) else s) s
  if v.getLsbD 16 then mark 32 s1 else s1

/-- SHAPER_FORGIVE (R493, R507). -/
def shaperForgive (sub : BitVec 8) (v : BitVec 32) (s : State) : Res :=
  match members sub.toNat s with
  | [] => Res.of s (if sub.toNat < 224 ∨ 240 ≤ sub.toNat then 0x0102#16 else 0x0803#16)
  | l => Res.of (count 0x430D 5 (l.foldl (forgive v) s)) 0

/-- SHAPER_FORGIVE (R493). -/
def execShaperForgive (q : Req) (sub : BitVec 8) (v : BitVec 32) (s : State) : Out :=
  .next (roleRequest .operator q (fun _ s => shaperForgive sub v s) s)

/-- GATE_ENTRY_CHANGE (R498). -/
def execGateEntryChange (c : Chan) (s : State) : Out := .next (if (gate c s).oper.isSome then gateNow c s else s)

/-- GATE_LIST_START (R501). -/
def execGateListStart (c : Chan) (s : State) : Out := .next (gateReach c s)

end Sys2Proof.Machine
end

