-- ==== Sys2Proof/Machine/PairOps.lean ====
section
/-!
DEFINITION. Shared operations of the mated-pair unit: pairing, roles, heartbeats, arbitration, takeover, checkpoints,
handover, resynchronisation (17).
-/
namespace Sys2Proof.Machine

/-- Change the pair part. -/
def updPair (f : Pair → Pair) (s : State) : State := { s with pair := f s.pair }

/-- A mate is paired (R510). -/
def paired (s : State) : Bool := s.gleno.pairSess.isSome
/-- This module is side B (R9). -/
def sideB (s : State) : Bool := s.life.address.getLsbD 0
/-- The mate's address (R9). -/
def mateAddress (s : State) : Nat := (s.life.address ^^^ 1#5).toNat
/-- The mate is paired and both its heartbeats are lost (R524). -/
def mateLost (s : State) : Bool := paired s && !s.pair.shroudHb && !s.pair.glenoHb
/-- The mate is paired and a heartbeat of it is present (R167). -/
def matePresent (s : State) : Bool := paired s && (s.pair.shroudHb || s.pair.glenoHb)
/-- This module owns the node's time outputs (R102). -/
def ownsOutputs (s : State) : Bool := paired s && s.pair.role == .active
/-- Coding of a role (R515). -/
def PairRole.code : PairRole → Nat
  | .unpaired => 0 | .standby => 1 | .active => 2

/-- A sealed frame or pair record is accepted under the keys of the pair session (R207, R515); one that fails is
discarded and counted. -/
def pairSealed (x : Seal) (ok : State → State) (s : State) : State :=
  if !paired s then count 0x120A 5 s
  else if !x.ok then count 0x120A 4 s
  else match seqAccept x.seq s.pair.rxHigh s.pair.rxMask with
    | none => count 0x120A 5 s
    | some (h, m) => ok (updPair (fun p => { p with rxHigh := some h, rxMask := m }) s)

/-- SEQ of the next sealed frame that this module sends; DESIGN CHOICE, assumption 130. -/
def nextSeq (s : State) : Nat × State := (s.pair.txSeq, updPair (fun p => { p with txSeq := p.txSeq + 1 }) s)

/-- Send a sealed frame on a shroud link. -/
def sendShroud (k : EmitKind) (j : Nat) (f : List Int) (s : State) : State :=
  let x := nextSeq s
  emit k ((linkChan j s).getD 0) ((j : Int) :: (x.1 : Int) :: f) x.2

/-- Send a pair record: over the shroud while it is up, else over the pair session on Gleno (R514, R524). The first
field says which: 1 handover notice, 2 its confirmation, 3 resynchronisation request, 4 to 8 of commits; DESIGN CHOICE, assumption 134. -/
def sendPair (f : List Int) (s : State) : State :=
  match mateLink s with
  | some j => sendShroud .pairRecord j f s
  | none => if paired s then (let x := nextSeq s; emit .pairRecord 255 ((x.1 : Int) :: f) x.2) else s

/-! ## Roles (R509 to R511, R527) -/

/-- After a change of role every follower of it is judged anew. -/
def roleSettle (s : State) : State := gatesWait (esmcEvents (selectPorts s))

/-- Change the own role (R511): ROLE_EPOCH rises above both values, or takes the witness's. -/
def setRole (r : PairRole) (epoch : Option (BitVec 32)) (s : State) : State :=
  if s.pair.role = r then s
  else
    let up := BitVec.ofNat 32 (max s.pair.epoch.toNat s.pair.mateEpoch.toNat + 1)
    setRc 0xB0018 0x20 (updPair (fun p => { p with role := r, epoch := epoch.getD up }) s)

/-- The DUAL_ACTIVE condition follows what both modules report. -/
def judgeDual (s : State) : State :=
  if s.pair.role = .active ∧ s.pair.mateRole = 2 ∧ matePresent s then
    if standing .dualActive noInst s then s else raise .dualActive noInst (setRc 0xB0018 0x10 s)
  else endAlarm .dualActive noInst s

/-! ## Resynchronisation (R532) -/

/-- This module's pair-scoped sets differ from the mate's (R170, R172). -/
def diverged (s : State) : Bool := s.commits.pairState == 2 || s.commits.scopeChanged

/-- PAIR_STATE becomes 0: the pair is coherent. -/
def coherent (s : State) : State :=
  endAlarm .pairDiverged noInst { s with commits := { s.commits with pairState := 0, scopeChanged := false } }

/-- The pair is diverged (R170). -/
def setDiverged (s : State) : State :=
  let s1 := { s with commits := { s.commits with pairState := 2 } }
  if standing .pairDiverged noInst s1 then s1 else raise .pairDiverged noInst s1

/-- A diverged standby starts its resynchronisation as soon as a shroud link is up. -/
def resyncGo (s : State) : State :=
  if s.pair.role = .standby ∧ s.commits.pairState = 2 ∧ !s.pair.resync ∧ shroudUp s then
    sendPair [3] (updPair (fun p => { p with resync := true }) s)
  else s

/-- A standby resynchronises: nothing where both hold the same state, else from the active module. -/
def resynchronise (mateDiverged : Bool) (s : State) : State :=
  if s.pair.mateNumber = s.commits.pairNumber ∧ !diverged s ∧ !mateDiverged then coherent s
  else resyncGo { s with commits := { s.commits with pairState := 2 } }

/-! ## Checkpoints (R528, R529) -/

/-- The checkpoint held is fresh. -/
def ckptFresh (s : State) : Bool :=
  match s.pair.held with
  | none => false
  | some k => decide (s.now ≤ k.at_ + cfg 0x4406 0 s * 100000)

/-- The 16 bytes of a path. -/
def pathBytes (n : Nat) (s : State) : List Byte :=
  let p := path n s
  let trace := n != 0 && (domOf (pathDom n) s).traceable
  let cls := match p.slot with
    | some k => clsOf k s
    | none => 255
  [BitVec.ofNat 8 p.st.code, BitVec.ofNat 8 (p.slot.getD 255), BitVec.ofNat 8 cls, BitVec.ofNat 8 (b2n trace + 2 * b2n (readyFor n s))]
    ++ leBytes 4 (p.bound / 1000) ++ leBytes 8 0

/-- The instance that serves a domain, Halyard first. -/
def domInst (d : Domain) (s : State) : Nat := if instDom 0 s = d then 0 else 1

/-- Remaining wait-to-restore time in s: timers are the sender's, so a slot that waits reports its whole SLOT_WTR;
DESIGN CHOICE, assumption 132. -/
def wtrLeft (k : Nat) (s : State) : Nat :=
  if (slot k s).freq.st = .waitRestore ∨ (slot k s).time.st = .waitRestore then cfg 0x3206 (k + 1) s else 0

/-- A checkpoint (R528). -/
def ckptBytes (s : State) : List Byte :=
  let props (d : Domain) : List Byte := let t := timeProps d s; leBytes 2 t.1.toNat ++ [t.2.1, t.2.2]
  let gm (d : Domain) : List Byte := let a := ownDs (domInst d s) s; beBytes 8 a.gm.toNat ++ leBytes 2 a.steps.toNat ++ leBytes 2 0
  let ch := esmcChain s
  let ch8 (i : Nat) : Byte := BitVec.ofInt 8 (ch.getD i 0)
  leBytes 4 s.pair.ckptSeq.toNat ++ timeBytes (timeA s) ++ leBytes 4 s.pair.epoch.toNat ++ leBytes 4 s.commits.pairNumber.toNat
    ++ pathBytes 0 s ++ pathBytes 1 s ++ pathBytes 2 s ++ props .a ++ props .b ++ gm .a ++ gm .b
    ++ [BitVec.ofNat 8 (txQlOf 255 s), ch8 0, ch8 1, 0#8]
    ++ ([0, 1, 2, 3].map (fun n => leBytesI 4 (outp n s).corr ++ [s.refs.todSeq - 1, BitVec.ofNat 8 (b2n (outp n s).aligned), 0#8, 0#8])).flatten
    ++ ([0, 1, 2, 3].map (fun k => [BitVec.ofNat 8 (slot k s).freq.st.code, BitVec.ofNat 8 (slot k s).time.st.code] ++ leBytes 2 (wtrLeft k s))).flatten
    ++ leBytes 4 0

/-- The links that are up. -/
def upLinks (s : State) : List Nat := [0, 1].filter (fun j => linkUp j s)

/-- Send a checkpoint on every link that is up, or its reduced form over Gleno (R528). -/
def sendCkpt (s : State) : State :=
  let s1 := updPair (fun p => { p with ckptSeq := p.ckptSeq + 1, sent := ((p.ckptSeq + 1, s.now) :: p.sent).take 16 }) s
  let b := (ckptBytes s1).map (fun x => (x.toNat : Int))
  match upLinks s1 with
  | [] => if paired s1 then (let x := nextSeq s1; emit .checkpoint 255 ((x.1 : Int) :: b.take 108) x.2) else s1
  | l => l.foldl (fun s j => sendShroud .checkpoint j b s) s1

/-! ## Takeover (R530) -/

/-- A number in a checkpoint. -/
def ckNat (b : List Byte) (o n : Nat) : Nat := leNat ((b.drop o).take n)

/-- Coding of a qualification state, read back. -/
def qualOf (n : Nat) : Qual :=
  match n with
  | 1 => .qualifying | 2 => .qualified | 3 => .holdOff | 4 => .failed | 5 => .waitRestore | _ => .disabled

/-- One of slots 0 to 3 takes the checkpoint's states where its own source is present and within limits. -/
def seedSlot (b : List Byte) (s : State) (k : Nat) : State :=
  let f := qualOf (ckNat b (140 + 4 * k) 1)
  let t := qualOf (ckNat b (141 + 4 * k) 1)
  updSlot k (fun x => { x with freq := if x.freq.st != .disabled && freqCause k s == 0 then { x.freq with st := f } else x.freq,
                               time := if x.time.st != .disabled && timeCause k s == 0 then { x.time with st := t } else x.time }) s

/-- Seed the time state from a checkpoint. -/
def seedFrom (b : List Byte) (s : State) : State :=
  let bound (n : Nat) (s : State) : State :=
    if (path n s).st = .holdover then updPath n (fun p => { p with bound := max p.bound (ckNat b (28 + 16 * n) 4 * 1000) }) s else s
  let seed (d : Nat) : Seed :=
    ⟨BitVec.ofNat 64 (beNat ((b.drop (80 + 12 * d)).take 8)), BitVec.ofNat 16 (ckNat b (88 + 12 * d) 2),
      (BitVec.ofNat 16 (ckNat b (72 + 4 * d) 2), b.getD (74 + 4 * d) 0, b.getD (75 + 4 * d) 0)⟩
  let own (n : Nat) : Bool := match (path n s).slot with
    | some k => decide (6 ≤ k)
    | none => false
  let s1 := bound 2 (bound 1 (bound 0 s))
  let s2 := setTraceable .b ((b.getD 59 0).getLsbD 0) (setTraceable .a ((b.getD 43 0).getLsbD 0) s1)
  let s3 := updPair (fun p => { p with seedA := if own 1 then none else some (seed 0), seedB := if own 2 then none else some (seed 1) }) s2
  if b.length < 160 then s3
  else
    let secs := (s.tb.p / (lsbPerSec : Nat)).toNat - lsbOf (timeOfBytes ((b.drop 4).take 12)) / lsbPerSec
    let s4 := { s3 with refs := { s3.refs with todSeq := b.getD 112 0 + BitVec.ofNat 8 secs + 1 } }
    let s5 := [0, 1, 2, 3].foldl (fun s n => updOut n (fun o => { o with corr := signedOf 4 (ckNat b (108 + 8 * n) 4), aligned := (b.getD (113 + 8 * n) 0).getLsbD 0 }) s) s4
    [0, 1, 2, 3].foldl (seedSlot b) s5

/-- A path that selects slot 4 or 5 acts as on a failure after hold-off (R329, R530). -/
def leaveMate (s : State) (n : Nat) : State := if mateFollows n s then evalPath n s else s

/-- The module becomes active: paths leave the mate, the time state is seeded or cleared. -/
def becomeActive (epoch : Option (BitVec 32)) (s : State) : State :=
  let s1 := setRole .active epoch (updPair (fun p => { p with arbitrating := false, holdoff := false, refused := false, exch := none }) s)
  let s2 := [0, 1, 2].foldl leaveMate s1
  let s3 := if ckptFresh s2 then
      match s2.pair.held with
      | some k => seedFrom k.bytes s2
      | none => s2
    else raise .takeoverStale noInst (setTraceable .b false (setTraceable .a false s2))
  judgeDual (roleSettle { s3 with pair := { s3.pair with lastTakeover := timeA s3 } })

/-- A takeover (R530), or the alarm of a module that TAKEOVER_INHIBIT holds back (R524). -/
def takeover (epoch : Option (BitVec 32)) (s : State) : State :=
  if s.pair.inhibit then raise .takeoverInhibited noInst (updPair (fun p => { p with arbitrating := false, holdoff := false }) s)
  else logInfo .takeover 0 (becomeActive epoch (count 0x4413 1 s))

/-! ## Handover (R102, R531) -/

/-- Conditions at the start of a handover: the mate is standby, holds a checkpoint younger than 1 s, and is not
inhibited. -/
def handoverOk (s : State) : Bool :=
  ownsOutputs s && matePresent s && s.pair.mateRole == 1 && !s.pair.mateFlags.getLsbD 5
    && s.pair.sent.any (fun x => x.1 == s.pair.mateCkpt && decide (s.now < x.2 + 100000000))

/-- The first whole second of P at least 200 ms ahead. -/
def handoverSecond (s : State) : Nat := ((s.tb.p.toNat + 200000000 * 65536 + (lsbPerSec - 1)) / lsbPerSec)

/-- Start a handover: a checkpoint, then the notice of second N. -/
def startHandover (req : Option Req) (stop : Bool) (s : State) : State :=
  let n := handoverSecond s
  sendPair [1, n] (updPair (fun p => { p with handover := some ⟨req, stop, false, n, false⟩ }) (sendCkpt s))

/-- A handover is abandoned: ROLE_SWAP completes with 0x081C; STOP with 0x0801, and the module is RUNNING. -/
def abandonHandover (s : State) : State :=
  match s.pair.handover with
  | none => s
  | some h =>
    let s1 := updPair (fun p => { p with handover := none }) s
    match h.req with
    | none => s1
    | some q =>
      if h.stop then
        complete q 0x0801#16 [] { s1 with life := { s1.life with state := .running, shutStep := 0, stopStatus := 0, stopReq := none } }
      else complete q 0x081C#16 [] s1

/-- Steps 3 and 4 of an orderly shutdown (R102): Halyard, PTP and ESMC stop, the last ESMC message says do-not-use,
ingress stops. -/
def shutFromStep3 (s : State) : State :=
  let s1 := { s with life := { s.life with shutStep := 4 } }
  let s2 := (List.range 192).foldl (fun s c => if esmcOn c s && (cod c s).stage == 6 then emit .esmc c [0, 15] s else s) s1
  (List.range 192).foldl (fun s c => enablePort c 1 (enablePort c 0 s)) s2

/-- Second N on this module: the outgoing side becomes standby, the incoming side active. -/
def handoverNow (h : Handover) (s : State) : State :=
  let s1 := count 0x4413 2 (updPair (fun p => { p with handover := none }) s)
  if h.incoming then logInfo .takeover 0 (becomeActive none s1)
  else
    let s2 := roleSettle (judgeDual (setRole .standby none s1))
    match h.req with
    | none => s2
    | some q =>
      let s3 := complete q 0#16 [] s2
      if h.stop then shutFromStep3 { s3 with life := { s3.life with stopReq := none } } else s3

/-! ## Heartbeats lost and returned (R516, R524, R525) -/

/-- A port of Gleno is trained. -/
def portTrained (s : State) : Bool := s.gleno.m0 == .trained || s.gleno.m1 == .trained

/-- Send an arbitration request in the next slot (R525). -/
def sendArb (s : State) : State :=
  count 0x4413 4 (emit .arbitration (s.pair.witness.getD 0)
    [(s.life.address.toNat / 2 * 2 : Nat), b2n (sideB s), 1, s.pair.epoch.toNat, lsbOf s.pair.lastHb]
    (updPair (fun p => { p with arbitrating := true }) s))

/-- The standby starts the procedure of R525. A trained port without a witness leaves the witness unreachable at once;
without a trained port ARB_TIMEOUT counts first; DEDUCED, assumption 128. -/
def arbitrate (s : State) : State :=
  if !portTrained s then s
  else if s.pair.witness.isSome then sendArb s
  else setRc 0xB0018 4 (updPair (fun p => { p with holdoff := true }) s)

/-- Both heartbeats of the mate are lost (R524, R525, R532). -/
def mateGone (s : State) : State :=
  let s1 := abandonHandover (updPair (fun p => { p with resync := false }) s)
  match s1.pair.role with
  | .active => if standing .mateLost noInst s1 then s1 else raise .mateLost noInst s1
  | .standby => if s1.pair.mateStopped then takeover none s1 else arbitrate s1
  | .unpaired => s1

/-- A heartbeat of the mate is present: arbitration ends, lost alarms end, its stop or a second active module acts
(R524, R525, R527). -/
def mateBeat (s : State) : State :=
  let s1 := endAlarm .mateLost noInst (updPair (fun p => { p with arbitrating := false, holdoff := false, refused := false }) s)
  if s1.pair.role = .standby ∧ s1.pair.mateStopped then takeover none s1
  else if s1.pair.role = .active ∧ s1.pair.mateRole = 2 then
    let s2 := judgeDual s1
    if sideB s2 then resynchronise false (roleSettle (judgeDual (setRole .standby none (count 0x4413 3 s2)))) else s2
  else judgeDual s1

/-- The mate's Gleno heartbeat in its slot frame (R194, R205, R516). -/
def mateGleno (g : GBeat) (s : State) : State :=
  if !paired s then s
  else
    mateBeat (endAlarm .glenoMateLost noInst
      (updPair (fun p => { p with
        glenoHb := true
        mateRole := g.role.val
        mateStopped := g.stopped
        lastHb := timeA s
        mateFlags := (p.mateFlags &&& 0xFE#8) ||| (if g.restarting then 1#8 else 0#8) }) s))

/-! ## Pairing (R510) -/

/-- The pair session is granted: scope and roles are settled, and the standby resynchronises where it must (R167, R510,
R532). -/
def pairComplete (i : PairInfo) (s : State) : State :=
  let s1 := updPair (fun p => { p with mateSerial := i.serial, mateEpoch := i.epoch, mateNumber := i.number, mateRole := i.role.val,
                                       glenoHb := true, mateStopped := false, rxHigh := none, rxMask := 0, txSeq := 1,
                                       epoch := BitVec.ofNat 32 (max p.epoch.toNat i.epoch.toNat), lastHb := timeA s }) s
  let mineActive := s1.pair.role == .active
  let role : PairRole :=
    if mineActive && i.role == 2 then (if sideB s1 then .standby else .active)
    else if mineActive then .active else if i.role = 2 then .standby else if sideB s1 then .standby else .active
  let scope := cfg 0x1107 0 s1
  let s2 := if scope = i.scope.toNat then s1
    else raise .scopeDiffers noInst (if sideB s1 then markStored 0x1107 0 (setVal 0x1107 0 (leBytes 4 i.scope.toNat) s1) else s1)
  let yields := mineActive && i.role == 2 && sideB s1
  let s3 := judgeDual (setRole role none (if yields then count 0x4413 3 s2 else s2))
  let s4 := if s3.pair.role = .standby then resynchronise i.diverged s3
    else if i.number = s3.commits.pairNumber ∧ !diverged s3 ∧ !i.diverged then coherent s3
    else { s3 with commits := { s3.commits with pairState := 2 } }
  roleSettle (if starting s4 ∧ s4.life.stage < 5 then reachStage 5 s4 else s4)

/-- Open the pair handshake as side A (R213, R510). -/
def openPair (s : State) : State :=
  let free := s.gleno.handshakes.filter (fun h => !h.pair)
  let h : Handshake := { id := 0x8000, peer := mateAddress s, role := .observer, version := 0, session := 0, pair := true }
  emit .pairing (mateAddress s) [1] { s with gleno := { s.gleno with handshakes := free ++ [h] } }

end Sys2Proof.Machine
end

