-- ==== Sys2Proof/Machine/Pair.lean ====
section
/-!
DEFINITION. The commands of the mated pair: pairing, shroud links, heartbeats, arbitration, time exchange, checkpoints,
replicas and streams, handover (17).
-/
namespace Sys2Proof.Machine

/-! ## Pairing (R510) -/

/-- PAIRING_TIMEOUT (R87, R510): 200 ms after stage 4 without pairing; the module is unpaired, and stage 5 is reached; DEDUCED, assumption 137. -/
def execPairingTimeout (s : State) : Out :=
  .next (if paired s ∨ s.life.stage < 4 ∨ !cfgB 0x4400 0 s then s
    else
      let s1 := setRole .unpaired none s
      if starting s1 ∧ s1.life.stage < 5 then reachStage 5 s1 else s1)

/-- PAIRING_RETRY (R510): side A opens the pair session; side B waits for it. -/
def execPairingRetry (s : State) : Out :=
  .next (if paired s ∨ !cfgB 0x4400 0 s ∨ !accepting s ∨ sideB s then s else openPair s)

/-- PAIR_SESSION_RENEW (R510): side A opens a new pair session; roles stay. -/
def execPairSessionRenew (s : State) : Out := .next (if paired s ∧ !sideB s ∧ accepting s then openPair s else s)

/-! ## Shroud links (R514) -/

/-- SHROUD_HELLO_SEND (R514). -/
def execShroudHelloSend (s : State) : Out :=
  .next ([0, 1].foldl (fun s j =>
    if linkLit j s then emit .hello ((linkChan j s).getD 0) [s.factory.serial.toNat, s.life.address.toNat, j, shroudMax s, shroudMin s] s else s) s)

/-- SHROUD_HELLO_RECEIVED (R514, R515): a hello of the mate confirms the link and settles its version; one that names
another module or link marks it miscabled. -/
def execShroudHelloReceived (j : Fin 2) (serial : BitVec 64) (addr : BitVec 8) (lnk vmax vmin : Fin 256) (s : State) : Out :=
  .next (if !linkLit j s ∨ !paired s then s
    else if serial ≠ s.pair.mateSerial ∨ addr.toNat ≠ mateAddress s ∨ lnk.val ≠ j.val then
      let s1 := updLink j (fun l => { l with miscabled := true, hello := false }) s
      if standing .shroudMiscabled j s1 then s1 else raise .shroudMiscabled j s1
    else
      let v := if max (shroudMin s) vmin ≤ min (shroudMax s) vmax then min (shroudMax s) vmax else 0
      let s1 := endAlarm .shroudMiscabled j (updLink j (fun l => { l with miscabled := false, hello := true, version := v }) s)
      if v ≠ 0 then endAlarm .shroudVersion j s1 else if standing .shroudVersion j s1 then s1 else raise .shroudVersion j s1)

/-! ## Heartbeats (R515, R516, R524) -/

/-- A link whose hello agrees: heartbeats go on it before one of the mate has verified; DESIGN CHOICE, assumption 25. -/
def linkTalks (j : Nat) (s : State) : Bool := linkLit j s && (link j s).hello && !(link j s).miscabled && (link j s).version != 0

/-- FLAGS of the own heartbeat (R515). -/
def beatFlags (s : State) : Nat :=
  b2n (s.life.state == .restarting) + 2 * b2n (s.life.state == .stopped || s.life.state == .thermalStop) + 4 * b2n (stands 1 s)
    + 8 * b2n (stands 2 s) + 16 * b2n (!s.pair.glenoHb) + 32 * b2n s.pair.inhibit
    + 64 * b2n (s.pair.resync || (s.pair.role == .active && s.pair.mateFlags.getLsbD 6))

/-- The body of the own heartbeat (R515). -/
def beatBody (s : State) : List Int :=
  [s.pair.hbCount.toNat, s.pair.role.code, beatFlags s, s.pair.epoch.toNat, s.commits.pairNumber.toNat, s.pair.ckptSeq.toNat, txQlOf 255 s,
    (ownDs (domInst .a s) s).cls.toNat, (esmcChain s).getD 0 0, (esmcChain s).getD 1 0]

/-- SHROUD_HEARTBEAT_SEND (R514, R515). -/
def execShroudHeartbeatSend (s : State) : Out :=
  .next (match [0, 1].filter (fun j => linkTalks j s && paired s) with
    | [] => s
    | l => l.foldl (fun s j => sendShroud .heartbeat j (beatBody s) s) (updPair (fun p => { p with hbCount := p.hbCount + 1 }) s))

/-- A verified heartbeat (R511, R515, R516, R518). -/
def beatTaken (j : Nat) (h : Beat) (s : State) : State :=
  let ended := s.pair.mateFlags.getLsbD 6 && !h.flags.getLsbD 6
  let s1 := updLink j (fun l => { l with beat := true }) (updPair (fun p =>
    { p with shroudHb := true, mateRole := h.role.val, mateFlags := h.flags, mateStopped := h.flags.getLsbD 1, mateNumber := h.number,
             mateCkpt := h.ckpt, mateEpoch := h.epoch, epoch := BitVec.ofNat 32 (max p.epoch.toNat h.epoch.toNat), mateQl := h.ql.val,
             mateCls := h.cls.toNat, mateCount := h.eeec.toNat * 256 + h.eec.toNat, lastHb := timeA s }) s)
  let s2 := [4, 5].foldl (fun s k => updSlot k (fun x => { x with cls := h.cls.toNat }) (slotQl k h.ql true h.eeec.toNat h.eec.toNat s)) s1
  let s3 := if s2.pair.role = .active ∧ ended ∧ h.number = s2.commits.pairNumber ∧ s2.commits.pairState = 2 then coherent s2 else s2
  resyncGo (mateBeat (endAlarm .shroudLost noInst s3))

/-- SHROUD_HEARTBEAT_RECEIVED (R516). -/
def execShroudHeartbeatReceived (j : Fin 2) (x : Seal) (h : Beat) (s : State) : Out :=
  .next (if linkTalks j s then pairSealed x (beatTaken j h) s else s)

/-- SHROUD_HEARTBEAT_LOST (R516, R524): three intervals without a heartbeat that verifies; DEDUCED, assumption 127. -/
def execShroudHeartbeatLost (s : State) : Out :=
  .next (if !s.pair.shroudHb then s
    else
      let s1 := updLink 0 (fun l => { l with beat := false }) (updLink 1 (fun l => { l with beat := false })
        (updPair (fun p => { p with shroudHb := false, missed := p.missed + 3 }) s))
      let s2 := raise .shroudLost noInst (setRc 0xB0018 2 (count 0x4413 7 s1))
      judgeDual (if mateLost s2 then mateGone s2 else s2))

/-- The mate's Gleno heartbeat is lost (R205, R516, R524). -/
def glenoLost (s : State) : State :=
  if !s.pair.glenoHb then s
  else
    let s1 := raise .glenoMateLost noInst (setRc 0xB0018 1 (count 0x4413 8 (updPair (fun p => { p with glenoHb := false }) s)))
    judgeDual (if mateLost s1 then mateGone s1 else s1)

/-- GLENO_HEARTBEAT_LOST (R516). -/
def execGlenoHeartbeatLost (s : State) : Out := .next (glenoLost s)

/-! ## Arbitration (R525) -/

/-- ARBITRATION_ANSWER (R525); DESIGN CHOICE, assumption 129. -/
def execArbitrationAnswer (grant : Bool) (epoch : BitVec 32) (s : State) : Out :=
  .next (if !s.pair.arbitrating ∨ !mateLost s ∨ s.pair.role ≠ .standby then s
    else if grant then takeover (some epoch) s
    else setRc 0xB0018 8 (count 0x4413 5 (updPair (fun p => { p with arbitrating := false, refused := true, holdoff := false }) s)))

/-- ARBITRATION_RETRY (R525). -/
def execArbitrationRetry (s : State) : Out :=
  .next (if s.pair.refused ∧ mateLost s ∧ s.pair.role = .standby ∧ s.pair.witness.isSome ∧ portTrained s then sendArb s else s)

/-- ARB_TIMEOUT_EXPIRY (R525): the witness is unreachable; a refusal of this loss stands. -/
def execArbTimeoutExpiry (s : State) : Out :=
  .next (if !mateLost s ∨ s.pair.role ≠ .standby ∨ s.pair.holdoff then s
    else
      let s1 := setRc 0xB0018 4 (count 0x4413 6 s)
      if s.pair.refused then s1 else updPair (fun p => { p with holdoff := true }) s1)

/-- SILENCE_HOLDOFF_EXPIRY (R525). -/
def execSilenceHoldoffExpiry (s : State) : Out :=
  .next (if s.pair.holdoff ∧ mateLost s ∧ s.pair.role = .standby then takeover none s else s)

/-! ## Time over the shroud (R517) -/

/-- Domain B minus domain A. -/
def bMinusA (s : State) : Int := (s.tb.b.counter.lsb : Int) - s.tb.a.counter.lsb

/-- STAMP_FLAGS of a shroud stamp in domain A (R367). -/
def shroudFlags (j : Nat) (rx : Bool) (s : State) : Nat :=
  let c := (linkChan j s).getD 0
  (if rx then rxRef c s else txRef c s) * 64 + s.tb.a.epoch.toNat % 16 * 4 + b2n (if rx then rxCoarse c s else txCoarse c s)

/-- SHROUD_TIME_SYNC_SEND (R517): `t1` is the transmit stamp in 2^-16 ns. -/
def execShroudTimeSyncSend (t1 : Int) (s : State) : Out :=
  .next (match mateLink s with
    | some j =>
      if s.pair.role ≠ .active then s
      else
        let s1 := updPair (fun p => { p with exNo := p.exNo + 1 }) s
        sendShroud .shroudSync j [1, s1.pair.exNo.toNat, shroudFlags j false s, t1, bMinusA s] s1
    | none => s)

/-- SHROUD_SYNC_RECEIVED (R369, R517): the standby stamps the arrival `t2`; the stamp `t3` of its request goes through the tile's queue. -/
def execShroudSyncReceived (j : Fin 2) (x : Seal) (ex : BitVec 16) (flags : BitVec 8) (t1 dba t2 t3 : Int) (s : State) : Out :=
  .next (if !linkUp j s then s
    else pairSealed x (fun s =>
      if s.pair.role ≠ .standby then s
      else
        let c := (linkChan j s).getD 0
        let e : ShroudEx := ⟨j, ex, t1, t2, t3, dba, bMinusA s, s.tb.a.epoch, s.tb.b.epoch,
          flags.getLsbD 0 || rxCoarse c s || txCoarse c s, s.now⟩
        let s1 := stampTx ⟨ex, c, BitVec.ofNat 8 (shroudFlags j false s), timeOf t3.toNat⟩ (rxStamp c s)
        let got := hasStamp (tileOf c) ex s1
        sendShroud .shroudReq j [2, ex.toNat, shroudFlags j false s] (updPair (fun p => { p with exch := if got then some e else none }) (takeStamp (tileOf c) ex s1))) s)

/-- SHROUD_REQUEST_RECEIVED (R517): the active module answers with the arrival `t4`. -/
def execShroudRequestReceived (j : Fin 2) (x : Seal) (ex : BitVec 16) (t4 : Int) (s : State) : Out :=
  .next (if !linkUp j s then s
    else pairSealed x (fun s =>
      if s.pair.role ≠ .active then s
      else sendShroud .shroudAnswer j [3, ex.toNat, shroudFlags j true s, t4] (rxStamp ((linkChan j s).getD 0) s)) s)

/-- The offsets of an exchange (R517); the mean of the last second is the slot's time error, source minus domain. -/
def shroudOffsets (e : ShroudEx) (t4 : Int) (s : State) : State :=
  let a := ((e.t2 - e.t1) - (t4 - e.t3)) / 2
  let b := a + (e.bma - e.dba)
  let s1 := updPair (fun p => { p with offs := p.offs.filter (fun x => decide (s.now ≤ x.2.1 + 100000000)) ++ [(e.link, s.now, a, b)] }) s
  let l := mateOffs e.link s1
  updSlot (4 + e.link) (fun x => { x with timeErr := -mean (l.map (fun o => o.2.2.1)), timeErrB := -mean (l.map (fun o => o.2.2.2)), present := true }) s1

/-- SHROUD_ANSWER_RECEIVED (R517): a late answer, a fine-invalid stamp or an epoch change voids the exchange; `same`
says that the active module's epoch is that of its sync. -/
def execShroudAnswerReceived (j : Fin 2) (x : Seal) (ex : BitVec 16) (flags : BitVec 8) (same : Bool) (t4 : Int) (s : State) : Out :=
  .next (if !linkUp j s then s
    else pairSealed x (fun s =>
      match s.pair.exch with
      | none => s
      | some e =>
        let s1 := updPair (fun p => { p with exch := none }) s
        if e.ex ≠ ex ∨ e.link ≠ j.val ∨ s.pair.role ≠ .standby ∨ e.bad ∨ flags.getLsbD 0 ∨ !same ∨ e.epochA ≠ s.tb.a.epoch ∨ e.epochB ≠ s.tb.b.epoch
            ∨ e.at_ + 6250000 < s.now ∨ onJury (tileOf ((linkChan j s).getD 0)) s then s1
        else shroudOffsets e t4 s1) s)

/-! ## Checkpoints (R528, R529) -/

/-- CHECKPOINT_SEND (R528): delayed while a warm start runs or the mated-pair role migrates. -/
def execCheckpointSend (s : State) : Out :=
  .next (if s.pair.role ≠ .active ∨ s.life.state = .restarting ∨ migratingRole .pair s then s else sendCkpt s)

/-- A verified checkpoint: a reduced one replaces a full one only where that is not fresh (R529); DESIGN CHOICE, assumption 68. -/
def ckptTaken (b : List Byte) (s : State) : State :=
  let keepFull := b.length < 160 && ckptFresh s && s.pair.held.any (fun k => decide (160 ≤ k.bytes.length))
  let s1 := updPair (fun p =>
    { p with held := if keepFull then p.held else some ⟨b, s.now⟩, ckptSeq := BitVec.ofNat 32 (ckNat b 0 4),
             mateEpoch := BitVec.ofNat 32 (ckNat b 16 4), epoch := BitVec.ofNat 32 (max p.epoch.toNat (ckNat b 16 4)),
             mateTraceA := (b.getD 43 0).getLsbD 0, mateTraceB := (b.getD 59 0).getLsbD 0 }) s
  gatesWait (followTrace s1)

/-- CHECKPOINT_RECEIVED (R529). -/
def execCheckpointReceived (x : Seal) (b : List Byte) (s : State) : Out :=
  .next (pairSealed x (fun s => if s.pair.role = .standby ∧ (b.length = 160 ∨ b.length = 108) then ckptTaken b s else s) s)

/-! ## Replicas and streams (R522, R523) -/

/-- A replica of the mate goes through this module's own next hop (R523). -/
def replicaTaken (c : Nat) (body : List Byte) (a : Arrival) (s : State) : State :=
  let st := ckNat body 0 2
  let cq := (body.getD 3 0).toNat
  let nh := ckNat body 8 4
  let f := (body.drop 16).take (body.length - 20)
  if a.overload && (streamCfg st s).getLsbD 127 then count 0x4413 10 s
  else
    let p := parseOn c f s
    let x := streamFn st p (some (ckNat body 4 4)) s
    if !x.1 then x.2.2.2
    else if !nhUsable nh x.2.2.2 then fwdDrop 9 x.2.2.2
    else
      let s1 := x.2.2.2
      fabPut { raw := f, edit := { Edit.none with stack := p.stack, seq := x.2.1 }, way := .hop nh, mc := none, ing := c,
               out := field (row nh s1.fwd.tables.nh).bits 254 247, cls := cq % 16, col := min (cq / 16 % 4) 2, epoch := s1.fwd.epoch,
               len := f.length + 4, entry := s1.now, origin := s1.now, arrive := some a.stamp, coarse := rxCoarse c s1, cand := [], made := 0 } s1

/-- REPLICA_RECEIVED (R523): at level 4 it is discarded (R533). -/
def execReplicaReceived (j : Fin 2) (body : List Byte) (a : Arrival) (s : State) : Out :=
  .next (match linkChan j s with
    | none => s
    | some c =>
      if !linkUp j s ∨ body.length < 20 then s
      else if s.power.level = 4 then count 0x4413 9 s
      else replicaTaken c body a s)

/-- STREAM_RESET_TIMEOUT (R522). -/
def execStreamResetTimeout (n : BitVec 16) (s : State) : Out :=
  .next (if field (streamCfg n.toNat s) 127 125 = 6 ∧ !(stream n.toNat s).takeAny then
      updStream n.toNat (fun x => Stream.add 5 1 { x with takeAny := true }) s
    else s)

/-- STREAM_STATE of a stream (R535). -/
def streamBytes (n : Nat) (s : State) : List Byte :=
  let x := stream n s
  entryBytes 10 n s.fwd.tables ++ leBytes 4 x.next ++ leBytes 4 x.recov ++ [BitVec.ofNat 8 (b2n x.takeAny), 0#8, 0#8, 0#8]
    ++ ((List.range 7).map (fun i => leBytes 8 (x.counts.getD i 0))).flatten

/-- STREAM_READ_REQ (R535). -/
def execStreamReadReq (q : Req) (n : BitVec 16) (s : State) : Out :=
  .next (roleRequest .operator q (fun _ s => Res.of (updSession q.sess (fun e => { e with streamRead := streamBytes n.toNat s }) s) 0) s)

/-! ## Handover and resynchronisation (R531, R532) -/

/-- ROLE_SWAP (R531): TRUE starts a handover or is refused; DESIGN CHOICE, assumption 133. -/
def roleSwap (q : Req) (v : Bool) (s : State) : Res :=
  if !v then Res.of s 0
  else if s.pair.handover.isSome ∨ !handoverOk s then Res.of s 0x081C#16
  else Res.of (startHandover (some q) false s) 0x0402#16

/-- ROLE_SWAP (R531). -/
def execRoleSwap (q : Req) (v : Bool) (s : State) : Out := .next (roleRequest .operator q (fun _ s => roleSwap q v s) s)

/-- HANDOVER_NOTICE_RECEIVED (R531): the standby confirms second `n`. -/
def execHandoverNoticeReceived (x : Seal) (n : Nat) (s : State) : Out :=
  .next (pairSealed x (fun s =>
    if s.pair.role = .standby ∧ !s.pair.inhibit then sendPair [2, n] (updPair (fun p => { p with handover := some ⟨none, false, true, n, true⟩ }) s) else s) s)

/-- HANDOVER_CONFIRMED (R531). -/
def execHandoverConfirmed (x : Seal) (s : State) : Out :=
  .next (pairSealed x (updPair (fun p => { p with handover := p.handover.map (fun h => { h with confirmed := true }) })) s)

/-- HANDOVER_CONFIRM_TIMEOUT (R531). -/
def execHandoverConfirmTimeout (s : State) : Out :=
  .next (match s.pair.handover with
    | some h => if h.confirmed then s else abandonHandover s
    | none => s)

/-- HANDOVER_SECOND_N (R531). -/
def execHandoverSecondN (s : State) : Out :=
  .next (match s.pair.handover with
    | some h => if h.confirmed ∧ ((h.second * lsbPerSec : Nat) : Int) ≤ s.tb.p then handoverNow h s else s
    | none => s)

/-- PAIR_RESYNC (R532, R536). -/
def pairResync (v : Bool) (s : State) : Res :=
  if !v then Res.of s 0
  else if s.pair.role ≠ .standby ∨ !paired s ∨ s.pair.resync then Res.of s 0x081D#16
  else Res.of (resynchronise false s) 0

/-- PAIR_RESYNC (R532). -/
def execPairResync (q : Req) (v : Bool) (s : State) : Out := .next (roleRequest .operator q (fun _ s => pairResync v s) s)

/-- WITNESS_REGISTER (R526): FALSE withdraws the writing session. -/
def execWitnessRegister (q : Req) (v : Bool) (s : State) : Out :=
  .next (roleRequest .operator q (fun _ s =>
    Res.of (updPair (fun p => { p with witness := if v then some q.sess else if p.witness = some q.sess then none else p.witness }) s) 0) s)

end Sys2Proof.Machine
end

