-- ==== Sys2Proof/Machine/SessOps.lean ====
section
/-!
DEFINITION. Shared operations on sessions and their end, two-part requests, and the certificate rules (05, 06, 18, 19).
-/
namespace Sys2Proof.Machine

/-! ## Requests answered 0x0402 that act at once -/

/-- A request whose check gives a status; where that is `go` the act follows the answer. -/
def requestThen (need : Role) (q : Req) (go : Status) (check : State → Status) (act : State → State) (s : State) : State :=
  let s1 := roleRequest need q (fun _ s => Res.of s (check s)) s
  if admits q need s ∧ check s = go then act s1 else s1

/-! ## Closing sessions (R165, R174, R212, R526) -/

/-- A download of a session ends (R177, R574): UPDATE_RESULT 7, the flash entry is released. -/
def endDownload (s : State) : State :=
  match s.upd.download with
  | none => s
  | some _ => setEntry cFlash 3 0 0 { s with upd := { s.upd with download := none, outcome := 7, reason := 0, release := 0 } }

/-- A counter snapshot slot is freed; a sweep into it ends. -/
def freeCtr (k : Nat) (s : State) : State :=
  { s with obs := { s.obs with slots := Tab.erase k s.obs.slots, sweepBusy := if s.obs.sweepBusy = some k then none else s.obs.sweepBusy } }

/-- A session closes: its staged values go with it, snapshot slots it took are freed, guards it holds open close, it is
no longer the witness, its download ends. A commit it scheduled still applies. -/
def closeSession (n : Nat) (s : State) : State :=
  if (session n s).isNone then s
  else
    let s1 : State := { s with
                       gleno := { s.gleno with sessions := Tab.erase n s.gleno.sessions }
                       snaps := s.snaps.filter (fun x => x.2.owner != n)
                       regs := { s.regs with blocks := s.regs.blocks.foldl (fun t b => if b.2.open_ = some n then Tab.put Block.reset b.1 { b.2 with open_ := none } t else t) s.regs.blocks }
                       pair := { s.pair with witness := if s.pair.witness = some n then none else s.pair.witness } }
    let s2 := ((s1.obs.slots.filter (fun x => x.2.owner == n)).map (fun x => x.1)).foldl (fun s k => freeCtr k s) s1
    if s2.upd.download = some n then endDownload s2 else s2

/-- Close the sessions a test names. -/
def closeWhere (f : Session → Bool) (s : State) : State :=
  ((s.gleno.sessions.filter (fun x => f x.2)).map (fun x => x.1)).foldl (fun s n => closeSession n s) s

/-- The pair session closes: the module is unpaired (R510). -/
def unpair (s : State) : State :=
  judgeDual (setRole .unpaired none
    { s with gleno := { s.gleno with pairSess := none }
             pair := { s.pair with shroudHb := false, glenoHb := false, arbitrating := false, holdoff := false, handover := none, resync := false }
             commits := { s.commits with pairState := 3 } })

/-! ## Shutdown (R102) -/

/-- Steps 1 to 4 of a shutdown without a handover. -/
def beginStop (s : State) : State :=
  shutFromStep3 { s with life := { s.life with state := .stopping, stopStatus := 1, shutStep := 3 } }

/-! ## Chains and roles (R550 to R555) -/

/-- The reference time for a chain check: domain A while traceable, else the island clock while valid (R550). -/
def chainTime (s : State) : Option Nat := refTime s

/-- A chain validates to an anchor of a use. -/
def chainMeets (chain : List Byte) (use : Nat) (s : State) : Bool :=
  [1, 2, 3, 4, 5, 6, 7, 8].any (fun i => cfg 0x6007 i s == use && !(cfgBytes 0x6006 i s).isEmpty
    && Config.validates chain (cfgBytes 0x6006 i s) (cfgBytes 0x6008 0 s) (chainTime s))

/-- The role that a host chain permits (R551). -/
def chainRole (chain : List Byte) (s : State) : Option Role :=
  if chainMeets chain 2 s then some .custodian else if chainMeets chain 1 s then some .operator
  else if chainMeets chain 0 s then some .observer else none

/-- A chain check without a reference time leaves validity unchecked and is counted (R550). -/
def checked (s : State) : State :=
  let un := (chainTime s).isNone
  let s1 := { s with trust := { s.trust with unchecked := un } }
  if un then count 0x601D 2 s1 else s1

/-- Close every session whose chain no longer permits its role (R553); a service session rests on the service root. -/
def recheckSessions (s : State) : State :=
  closeWhere (fun e => match e.role with
    | .service => false
    | r => match chainRole e.chain s with
      | some p => !roleMeets p r
      | none => true) (checked s)

/-! ## Zeroisation (R544, R545) -/

/-- Erase operator secrets; a retired module stays retired (R545); DEDUCED, assumption 47. -/
def zeroise (s : State) : State :=
  let keep := s.dict.vals.filter (fun v => !([0x6005, 0x6006, 0x6007, 0x6008].contains (v.1 / 256)))
  let t := s.trust
  let s1 := { s with
    dict := { s.dict with vals := keep }
    trust := { t with ldevid := false, ldevChain := [], pendKey := false, csr := [], genReq := none, halKeys := [], cas := [], state := if t.state = 3 then 3 else 0,
                      counters := setAt 3 (let n := t.counters.getD 3 0; if n = 0xFFFFFFFF then n else n + 1) t.counters }
    commits := { s.commits with scheduled := s.commits.scheduled.filter (fun c => !c.sets.contains 13) } }
  let s2 := count 0x601D 5 (closeWhere (fun _ => true) s1)
  settlePorts (List.range 192) s2

/-- Erase everything and retire: an orderly stop without handover follows where the module runs (R545). -/
def zeroiseAll (s : State) : State :=
  let s1 := zeroise s
  let s2 := unpair { s1 with trust := { s1.trust with idevid := false, state := 3 }, regs := { s1.regs with assetTag := 0 } }
  if s2.life.nymyx ∧ s2.life.state ≠ .stopping ∧ s2.life.state ≠ .stopped ∧ s2.life.state ≠ .thermalStop then beginStop s2 else s2

/-- Raise a monotonic counter by one; it stays at its maximum (R540). -/
def bumpCounter (i : Nat) (s : State) : State :=
  { s with trust := { s.trust with counters := setAt i (let n := s.trust.counters.getD i 0; if n = 0xFFFFFFFF then n else n + 1) s.trust.counters } }

/-! ## Flash writes and background grants (R65, R68, R70) -/

/-- A background activity of some units may start: level 0 and room (R68, R70); nothing is granted while the reef role
migrates (R69). -/
def backgroundFits (units : Nat) (s : State) : Bool := s.power.level == 0 && fits .background units s && !migratingRole .reef s

end Sys2Proof.Machine
end

