-- ==== Sys2Proof/Machine/Trust.lean ====
section
/-!
DEFINITION. The commands of the Amber island: tamper watch, zeroisation, keys, attestation, MACsec, Halyard keys (18).
-/
namespace Sys2Proof.Machine

/-- Change the trust part. -/
def updTrust (f : Trust → Trust) (s : State) : State := { s with trust := f s.trust }

/-! ## Tamper watch (R541 to R543) -/

/-- Raise an alarm of a tamper event, at once or when Nymyx runs (R542). -/
def tamperAlarm (a : Alarm) (cls : Nat) (s : State) : State :=
  if s.life.nymyx then raise a cls s else updTrust (fun t => { t with owed := t.owed ++ [a] }) s

/-- Set the tamper lock: sessions below custodian and the service role close (R543). -/
def tamperLock (s : State) : State :=
  closeWhere (fun e => e.role != .custodian) (updTrust (fun t => { t with lock := true, service := none }) s)

/-- A tamper event of a class 1 to 6 under its policy (R541, R542). -/
def tamper (cls : Nat) (s : State) : State :=
  let pol := cfg 0x6011 cls s
  let s1 := updTrust (fun t => { t with classes := t.classes ||| BitVec.ofNat 6 (2 ^ (cls - 1)), log := (⟨islandClock s, cls, pol⟩ :: t.log).take 16 }) s
  let s2 := count 0x601D 4 (bumpCounter 2 s1)
  match pol with
  | 0 => tamperAlarm .tamperRecord cls s2
  | 1 => tamperAlarm .tamperLock cls (tamperLock s2)
  | 2 => tamperAlarm .tamperZero cls (zeroise s2)
  | _ => logInfo .tamperInfo cls (zeroiseAll s2)

/-- TAMPER_EVENT (R541): class `k` + 1. -/
def execTamperEvent (k : Fin 6) (s : State) : Out := .next (tamper (k + 1) s)

/-- TAMPER_ACK (R543): TRUE clears the lock and the pending classes. -/
def tamperAck (v : Bool) (s : State) : Res :=
  if !v then Res.of s 0
  else
    let s1 := updTrust (fun t => { t with lock := false, classes := 0 }) s
    Res.of ([1, 2, 3, 4, 5, 6].foldl (fun s c => endAlarm .tamperLock c s) s1) 0

/-- TAMPER_ACK (R543). -/
def execTamperAck (q : Req) (v : Bool) (s : State) : Out := .next (roleRequest .custodian q (fun _ s => tamperAck v s) s)

/-- ZEROISE 0x5A01 (R544, R546): answered 0x0402, completed, then done. -/
def execZeroiseOperatorSecrets (q : Req) (s : State) : Out :=
  .next (requestThen .custodian q 0x0402#16 (fun _ => 0x0402#16) (fun s => zeroise (complete q 0#16 [] s)) s)

/-- ZEROISE 0x5A02 (R545, R546). -/
def execZeroiseAll (q : Req) (s : State) : Out :=
  .next (requestThen .custodian q 0x0402#16 (fun _ => 0x0402#16) (fun s => zeroiseAll (complete q 0#16 [] s)) s)

/-! ## Keys and attestation (R548, R556) -/

/-- The boot and trust role migrates (R99). -/
def bootMigrates (s : State) : Bool := migratingRole .boot s

/-- LDEVID_GENERATE (R538, R548); DESIGN CHOICE, assumption 50. -/
def ldevGenerate (q : Req) (v : Bool) (s : State) : Res :=
  if !v then Res.of s 0
  else if s.trust.entropy ∨ bootMigrates s ∨ s.trust.genReq.isSome then Res.of s 0x0401#16
  else Res.of (updTrust (fun t => { t with genReq := some q }) s) 0x0402#16

/-- LDEVID_GENERATE (R548). -/
def execLdevidGenerate (q : Req) (v : Bool) (s : State) : Out := .next (roleRequest .custodian q (fun _ s => ldevGenerate q v s) s)

/-- LDEVID_GENERATED (R548): the pending pair replaces the one before; its request is a free value. -/
def execLdevidGenerated (s : State) : Out :=
  .next (match s.trust.genReq with
    | none => s
    | some q => complete q 0#16 [] (draw (updTrust (fun t => { t with genReq := none, pendKey := true, csr := Config.freeBytes s.draws }) s)))

/-- ATTEST_REQUEST (R538, R556): a nonce of 32 bytes, the key, three reserved bytes. -/
def attestRequest (q : Req) (v : List Byte) (e : Session) (s : State) : Res :=
  let k := (v.getD 32 0).toNat
  if v.length ≠ 36 then Res.of s 0x0302#16
  else if 1 < k then Res.of s 0x0301#16
  else if bootMigrates s ∨ e.attestReq.isSome ∨ s.trust.entropy then Res.of s 0x0401#16
  else if k = 1 ∧ !s.trust.ldevid then Res.of s 0x081F#16
  else Res.of (updSession q.sess (fun e => { e with attestReq := some q, nonce := v }) s) 0x0402#16

/-- ATTEST_REQUEST (R556). -/
def execAttestRequest (q : Req) (v : List Byte) (s : State) : Out := .next (roleRequest .custodian q (fun e s => attestRequest q v e s) s)

/-- Code of the variant: 0 L10, 1 E20. -/
def variantCode (s : State) : Nat := match s.factory.variant with
  | .l10 => 0
  | .e20 => 1

/-- ISLAND_STATUS (R567). -/
def islandStatus (s : State) : Nat :=
  b2n s.trust.clockOk + 2 * b2n s.trust.lock + 256 * s.trust.classes.toNat + 16384 * b2n s.trust.entropy + 32768 * b2n s.trust.unchecked

/-- The island clock as TIME96, zero while not valid (R539). -/
def islandTime (s : State) : Time96 := if s.trust.clockOk then timeOf (islandClock s * lsbPerSec / 32768) else Time96.zero

/-- Bytes 0 to 311 of an attestation report (R556). -/
def attestBody (nonce : List Byte) (s : State) : List Byte :=
  let settings := (s.dict.stored.map (fun v => leBytes 3 v.1 ++ leBytes 4 v.2.length ++ v.2)).flatten
  let anchors := ([1, 2, 3, 4, 5, 6, 7, 8].map (fun i => cfgBytes 0x6006 i s ++ cfgBytes 0x6007 i s)).flatten ++ cfgBytes 0x6008 0 s
  [1#8, nonce.getD 32 0, 0#8, 0#8] ++ padTo 32 nonce ++ leBytes 8 s.factory.serial.toNat
    ++ [BitVec.ofNat 8 (variantCode s), s.factory.stepping, BitVec.ofNat 8 s.trust.state, 0#8] ++ ((imageInForce s).drop 8).take 4
    ++ (s.trust.counters.map (fun c => leBytes 4 c.toNat)).flatten ++ leBytes 4 s.factory.romVersion.toNat
    ++ padTo 48 s.trust.measured ++ padTo 48 s.trust.resVerified ++ digest settings ++ digest anchors ++ timeBytes (islandTime s)
    ++ timeBytes (timeA s) ++ leBytes 4 (islandStatus s) ++ leBytes 4 0

/-- ATTEST_REPORT_READY (R556): the report of a session, its signature a free value. -/
def execAttestReportReady (n : Nat) (s : State) : Out :=
  .next (match session n s with
    | none => s
    | some e => match e.attestReq with
      | none => s
      | some q =>
        let r := attestBody e.nonce s ++ padTo 96 (Config.freeBytes s.draws)
        complete q 0#16 [] (count 0x601D 6 (draw (putSession n { e with attest := r, attestReq := none } s))))

/-! ## Service role and counters (R540, R555) -/

/-- The service role closes with its sessions. -/
def endService (s : State) : State := closeWhere (fun e => e.role == .service) (updTrust (fun t => { t with service := none }) s)

/-- SERVICE_OPEN (R543, R555): minutes of 6 · 10^9 mast periods. -/
def serviceOpen (m : Nat) (s : State) : Res :=
  if 1440 < m then Res.of s 0x0301#16
  else if m = 0 then Res.of (endService s) 0
  else if s.trust.lock then Res.of s 0x0401#16
  else Res.of (updTrust (fun t => { t with service := some (s.now + m * 6000000000) }) s) 0

/-- SERVICE_OPEN (R555). -/
def execServiceOpen (q : Req) (m : BitVec 16) (s : State) : Out := .next (roleRequest .custodian q (fun _ s => serviceOpen m.toNat s) s)

/-- SERVICE_EXPIRY (R555). -/
def execServiceExpiry (s : State) : Out :=
  .next (match s.trust.service with
    | some t => if t ≤ s.now then endService s else s
    | none => s)

/-- COUNTER_INCREMENT (R540). -/
def counterIncrement (n : Nat) (s : State) : Res :=
  if n < 5 ∨ 7 < n then Res.of s 0x0301#16
  else if s.trust.counters.getD n 0 = 0xFFFFFFFF then Res.of s 0x0820#16
  else Res.of (bumpCounter n s) 0

/-- COUNTER_INCREMENT (R540). -/
def execCounterIncrement (q : Req) (n : BitVec 8) (s : State) : Out := .next (roleRequest .custodian q (fun _ s => counterIncrement n.toNat s) s)

/-- ENTROPY_FAULT (R538). -/
def execEntropyFault (s : State) : Out :=
  .next (if s.trust.entropy then s else raise .entropy noInst (count 0x601D 12 (updTrust (fun t => { t with entropy := true }) s)))

/-- ENTROPY_RETEST (R538). -/
def execEntropyRetest (pass : Bool) (s : State) : Out :=
  .next (if s.trust.entropy ∧ pass then endAlarm .entropy noInst (updTrust (fun t => { t with entropy := false }) s) else s)

/-- ISLAND_CLOCK_SET (R539): from domain A while the inlet is powered and it is traceable. -/
def execIslandClockSet (s : State) : Out :=
  .next (if s.life.state ≠ .unpowered ∧ s.tb.a.traceable then
      updTrust (fun t => { t with clock := domA s * 32768 / lsbPerSec, clockAt := s.now, clockOk := true }) s
    else s)

/-! ## MACsec (R559 to R563) -/

/-- Own SCI of a channel: its address and port 1; PRESUMED, assumption 147. -/
def ownSci (c : Nat) (s : State) : Nat := beNat (cfgBytes 0x400B (c + 1) s) * 65536 + 1
/-- Own key server priority. -/
def ownPrio (c : Nat) (s : State) : Nat := ((cfgBytes 0x6016 (c + 1) s).getD 1 0).toNat
/-- This end is the key server: better priority, then better SCI, lower being better (R562); PRESUMED, assumption 147. -/
def keyServer (c : Nat) (m : MkaPdu) (s : State) : Bool :=
  decide (ownPrio c s < m.prio.toNat) || (ownPrio c s == m.prio.toNat && decide (ownSci c s < m.sci.toNat))

/-- MKA runs on a channel: a policy, a CAK, the channel up. -/
def mkaRuns (c : Nat) (s : State) : Bool := macPolicy c s != 0 && !(ca c s).cak.isEmpty && (cod c s).stage == 6

/-- No live peer: the SAs end, MKA failures raise a minor alarm (R563). -/
def noPeer (c : Nat) (s : State) : State :=
  let s1 := updCa c (fun x => { x with live := false, sak := false, rekey := false }) s
  if standing .macsecPeer c s1 then s1 else raise .macsecPeer c s1

/-- A valid MKA PDU of a live peer. -/
def mkaLive (c : Nat) (m : MkaPdu) (s : State) : State :=
  let srv := keyServer c m s
  let s1 := endAlarm .macsecPeer c (updCa c (fun x => { x with live := true, server := srv }) s)
  if srv then
    let x := ca c s1
    let s2 := if x.rekey ∧ m.installed = some x.keyNo then updCa c (fun x => { x with sak := true, rekey := false, pn := 1 }) s1 else s1
    if ((!(ca c s2).sak ∧ !(ca c s2).rekey) ∨ m.rekey) ∧ s2.life.state ≠ .restarting ∧ !s2.trust.entropy then distribute c s2 else s2
  else match m.sak with
    | none => s1
    | some k => if (ca c s1).sak ∧ (ca c s1).keyNo = k.2 then s1
      else updCa c (fun x => { x with sak := true, rekey := false, an := k.1.val, keyNo := k.2, pn := 1 }) s1

/-- MKA_PDU_RECEIVED (R562, R563). -/
def execMkaPduReceived (c : Chan) (m : MkaPdu) (s : State) : Out :=
  .next (if !mkaRuns c s then s
    else if !m.icvOk then (if standing .macsecPeer c s then s else raise .macsecPeer c s)
    else if !m.suite then noPeer c s
    else if !m.live then s
    else mkaLive c m s)

/-- MKA_HELLO_SEND (R559, R563): not in a warm start; a hello carries an SAK in distribution. -/
def execMkaHelloSend (s : State) : Out :=
  .next (if s.life.state = .restarting then s
    else (List.range 192).foldl (fun s c =>
      if mkaRuns c s then
        let x := ca c s
        emit .mka c [ownPrio c s, ownSci c s, b2n x.live, b2n (x.server && x.rekey), x.an, x.keyNo.toNat, b2n x.sak] s
      else s) s)

/-- MKA_PEER_TIMEOUT (R563): no live peer for 6 s. -/
def execMkaPeerTimeout (c : Chan) (s : State) : Out := .next (if (ca c s).live then count 0x601D 7 (noPeer c s) else s)

/-- The answer of a write to a subindex that names no member (R156). -/
def noMember (sub : BitVec 8) : Status := if sub.toNat < 224 ∨ 240 ≤ sub.toNat then 0x0102#16 else 0x0803#16

/-- MACSEC_CAK (R562, R567). -/
def cakWrite (sub : BitVec 8) (v : List Byte) (s : State) : Res :=
  let n := (v.getD 0 0).toNat
  match members sub.toNat s with
  | [] => Res.of s (noMember sub)
  | l =>
    if v.length ≠ 68 then Res.of s 0x0302#16
    else if n = 0 ∨ 32 < n then Res.of s 0x0301#16
    else Res.of (l.foldl (fun s c => updCa c (fun _ => { Ca.reset with ckn := (v.drop 4).take n, cak := v.drop 36 }) s) s) 0

/-- MACSEC_CAK_WRITE (R562). -/
def execMacsecCakWrite (q : Req) (sub : BitVec 8) (v : List Byte) (s : State) : Out :=
  .next (roleRequest .custodian q (fun _ s => cakWrite sub v s) s)

/-- A rekey of one channel: the key server distributes, the other end asks for it. -/
def rekeyOne (s : State) (c : Nat) : State :=
  if !mkaRuns c s ∨ !(ca c s).live then s
  else if (ca c s).server then distribute c s
  else emit .mka c [ownPrio c s, ownSci c s, 1, 2] (updCa c (fun x => { x with rekey := true }) s)

/-- MACSEC_REKEY (R562). -/
def rekeyWrite (sub : BitVec 8) (v : Bool) (s : State) : Res :=
  match members sub.toNat s with
  | [] => Res.of s (noMember sub)
  | l => if !v then Res.of s 0 else if s.trust.entropy then Res.of s 0x0401#16 else Res.of (l.foldl rekeyOne s) 0

/-- MACSEC_REKEY (R562). -/
def execMacsecRekey (q : Req) (sub : BitVec 8) (v : Bool) (s : State) : Out := .next (roleRequest .custodian q (fun _ s => rekeyWrite sub v s) s)

/-! ## Halyard keys (R565, R566) -/

/-- HALYARD_KEY (R565). -/
def keyWrite (sub : Nat) (v : List Byte) (s : State) : Res :=
  let id := BitVec.ofNat 32 (leNat (v.take 4))
  if sub < 1 ∨ 16 < sub then Res.of s 0x0102#16
  else if v.length ≠ 56 then Res.of s 0x0302#16
  else if id ≠ 0 ∧ s.trust.halKeys.any (fun x => x.1 != sub && x.2.id == id) then Res.of s 0x081F#16
  else
    let k : HalKey := ⟨id, v.getD 4 0 &&& 3#8, v.getD 5 0, leNat ((v.drop 8).take 8), leNat ((v.drop 16).take 8), v.drop 24⟩
    let s1 := updTrust (fun t => { t with halKeys := if id = 0 then Tab.erase sub t.halKeys else Tab.set sub k t.halKeys }) s
    Res.of (settlePorts (List.range 192) s1) 0

/-- HALYARD_KEY_WRITE (R565). -/
def execHalyardKeyWrite (q : Req) (sub : BitVec 8) (v : List Byte) (s : State) : Out :=
  .next (roleRequest .custodian q (fun _ s => keyWrite sub.toNat v s) s)

/-- HALYARD_KEY_ROLLOVER (R566): the keys in force follow the reference time; ports without a key fault. -/
def execHalyardKeyRollover (s : State) : Out := .next (settlePorts (List.range 192) s)

end Sys2Proof.Machine
end

