-- ==== Sys2Proof/Machine/Update.lean ====
section
/-!
DEFINITION. The commands of firmware update, and the boot ROM's work on the regions (19).
-/
namespace Sys2Proof.Machine

/-- Change the update part. -/
def updUpd (f : Update → Update) (s : State) : State := { s with upd := f s.upd }

/-! ## Images (R570, R571) -/


/-- The verification of a region (R571): 0, or the first reason that applies; `v` is the verdict on what only the
bytes' cryptography shows: 5 chain, 6 signature, 8 readback, 0 none of them. -/
def verifyImage (b : List Byte) (v : Nat) (s : State) : Nat :=
  let rsv := ((b.drop 36).take 92 ++ (b.drop 224).take 32).all (fun x => x == 0)
  if hdr b 0 4 ≠ 0x584D594E ∨ hdr b 4 1 ≠ 1 ∨ 4 ≤ hdr b 5 1 ∨ !rsv then 1
  else if hdr b 6 2 ≠ 0x3072 ∨ !bit (hdr b 5 1) (variantCode s) then 2
  else if 4352 + hdr b 32 4 ≠ b.length ∨ hdr b 32 4 = 0 ∨ 67104512 < hdr b 32 4 then 3
  else if s.factory.romVersion.toNat < hdr b 16 4 then 4
  else if v = 5 ∨ v = 6 then v
  else if hdr b 8 4 < (s.trust.counters.getD 0 0).toNat then 7
  else if v = 8 then 8 else 0

/-- RELEASE of a region as a register. -/
def releaseOf (b : List Byte) : BitVec 32 := BitVec.ofNat 32 (hdr b 8 4)

/-- Write the record (R572): sequence and time. -/
def writeRecord (s : State) : State := updUpd (fun u => { u with seq := u.seq + 1, written := timeA s }) s

/-- Set UPDATE_RESULT. -/
def setResult (o r : Nat) (rel : BitVec 32) (s : State) : State := updUpd (fun u => { u with outcome := o, reason := r, release := rel }) s

/-! ## Download (R573 to R575) -/

/-- The key of UPDATE_IMAGE. -/
def imageKey : ObjKey := key 0x6100 0

/-- The initiate request of UPDATE_IMAGE (R102, R173, R176, R573). -/
def downloadInit (q : Req) (len : Nat) (e : Session) (s : State) : Res :=
  if bootMigrates s ∨ e.transfer.isSome ∨ s.life.state = .stopping then Res.of s 0x0401#16
  else if 1 < s.upd.state ∨ s.upd.download.isSome ∨ s.upd.verifyReq.isSome then Res.of s 0x0822#16
  else if len < 4353 ∨ 67108864 < len then Res.of s 0x0302#16
  else if !backgroundFits 4 s then Res.of (countRefusal s) 0x0601#16
  else
    let s1 := countGrant (setEntry cFlash 3 1 4 (updUpd (fun u => { u with state := 0, staging := [], rejected := false, download := some q.sess }) s))
    Res.of (writeRecord (updSession q.sess (fun e => { e with transfer := some ⟨imageKey, true, len, [], 0⟩ }) s1)) 0

/-- UPDATE_DOWNLOAD_INITIATE (R573). -/
def execUpdateDownloadInitiate (q : Req) (len : Nat) (s : State) : Out := .next (roleRequest .custodian q (fun e s => downloadInit q len e s) s)

/-- IMAGE_VERIFIED (R575). -/
def execImageVerified (v : Fin 9) (s : State) : Out :=
  .next (match s.upd.verifyReq with
    | none => s
    | some q =>
      let r := verifyImage s.upd.staging v s
      let rel := releaseOf s.upd.staging
      let s1 := updUpd (fun u => { u with verifyReq := none }) s
      if r = 0 then
        complete q 0#16 [] (writeRecord (count 0x610B 1 (setResult 1 0 rel (updUpd (fun u => { u with state := 1, stagingDigest := digest u.staging }) s1))))
      else complete q 0x0823#16 [] (count 0x610B 2 (setResult 2 r rel s1)))

/-! ## Activation and confirmation (R576, R580, R589) -/

/-- Arm a staged image. -/
def armRes (s : State) : Res :=
  if bootMigrates s then Res.of s 0x0401#16
  else if s.upd.state ≠ 1 ∨ s.upd.download.isSome then Res.of s 0x0822#16
  else Res.of (writeRecord (updUpd (fun u => { u with state := 2 }) s)) 0

/-- UPDATE_ARM (R576). -/
def execUpdateArm (q : Req) (s : State) : Out := .next (roleRequest .custodian q (fun _ s => armRes s) s)

/-- UPDATE_DISARM (R576). -/
def disarm (s : State) : Res :=
  if bootMigrates s then Res.of s 0x0401#16
  else if s.upd.state ≠ 2 then Res.of s 0x0822#16 else Res.of (writeRecord (updUpd (fun u => { u with state := 1 }) s)) 0

/-- UPDATE_DISARM (R576). -/
def execUpdateDisarm (q : Req) (s : State) : Out := .next (roleRequest .custodian q (fun _ s => disarm s) s)

/-- Confirmation (R580, R581, R584): counter 0 rises to the release, the preserved settings go, the reserve refresh waits
for its grant. -/
def confirm (s : State) : State :=
  let rel := releaseOf s.upd.active
  let c0 := s.trust.counters.getD 0 0
  let s1 := updTrust (fun t => { t with counters := setAt 0 (if c0.toNat < rel.toNat then rel else c0) t.counters }) s
  let s2 := setResult 4 0 rel (updUpd (fun u => { u with state := 5, block := 0, preserved := none }) s1)
  let s3 := raise .reserveInvalid noInst (count 0x610B 3 (writeRecord s2))
  { s3 with power := { s3.power with waiting := s3.power.waiting ++ [⟨.background, .flashWrite 3, 4⟩] } }

/-- The status of a write of UPDATE_CONFIRM. -/
def confirmStatus (s : State) : Status := if bootMigrates s then 0x0401#16 else if s.upd.state ≠ 4 then 0x0822#16 else 0x0402#16

/-- UPDATE_CONFIRM_ACCEPT (R580): completed once the record commits. -/
def execUpdateConfirmAccept (q : Req) (s : State) : Out :=
  .next (requestThen .custodian q 0x0402#16 confirmStatus (fun s => complete q 0#16 [] (confirm s)) s)

/-- UPDATE_REJECT (R580). -/
def execUpdateReject (q : Req) (s : State) : Out :=
  .next (requestThen .custodian q 0x0402#16 confirmStatus (fun s => complete q 0#16 [] (writeRecord (updUpd (fun u => { u with starts := 3 }) s))) s)

/-- UPDATE_DISCARD (R589): TRUE with a staged or armed image. -/
def discard (v : Bool) (s : State) : Res :=
  if bootMigrates s then Res.of s 0x0401#16
  else if !v then Res.of s 0
  else if s.upd.state ≠ 1 ∧ s.upd.state ≠ 2 then Res.of s 0x0822#16
  else Res.of (writeRecord (setResult 6 0 (releaseOf s.upd.staging) (updUpd (fun u => { u with state := 0, staging := [], stagingDigest := [] }) s))) 0

/-- UPDATE_DISCARD (R589). -/
def execUpdateDiscard (q : Req) (v : Bool) (s : State) : Out := .next (roleRequest .custodian q (fun _ s => discard v s) s)

/-- AUTO_CONFIRM_EXPIRY (R583). -/
def execAutoConfirmExpiry (s : State) : Out :=
  .next (let m := cfg 0x6108 0 s
    if s.upd.state = 4 ∧ m ≠ 0 ∧ s.upd.since + m * 6000000000 ≤ s.now ∧ s.upd.clean ∧ s.life.stage = 7 ∧ s.life.nymyx then confirm s else s)

/-! ## Copies (R577 to R581) -/

/-- One block of 1 MiB. -/
def blockSize : Nat := 1048576

/-- A destination with block n of a source copied into it. -/
def copyBlock (src dst : List Byte) (n : Nat) : List Byte :=
  dst.take (n * blockSize) ++ (src.drop (n * blockSize)).take blockSize ++ dst.drop ((n + 1) * blockSize)

/-- The blocks of a region in use. -/
def blocksOf (b : List Byte) : Nat := (b.length + blockSize - 1) / blockSize

/-- The image that runs is measured (R558). -/
def bootRuns (r : Region) (s : State) : State :=
  let b := match r with
    | .active => s.upd.active
    | .staging => s.upd.staging
    | .reserve => s.upd.reserve
  updTrust (fun t => { t with measured := digest b }) (updUpd (fun u => { u with runs := some r }) s)

/-- The boot ROM's copy begins or ends: its flash-write entry is booked without a grant, or released (R579). While it is
not booked, the boot ROM copies nothing. -/
def bootCopies (on : Bool) (s : State) : State := setEntry cFlash 3 1 (if on then 4 else 0) s

/-- A revert starts (R578): the reserve must verify; without it staging runs in place, or nothing runs. -/
def bootRevert (vR vS : Nat) (s : State) : State :=
  let r := verifyImage s.upd.reserve vR s
  if r = 0 then
    bootCopies true (writeRecord (updTrust (fun t => { t with resVerified := digest s.upd.reserve }) (updUpd (fun u => { u with state := 6, block := if u.state = 6 then u.block else 0 }) s)))
  else
    let s1 := updUpd (fun u => { u with failures := u.failures ++ [r] }) s
    if verifyImage s.upd.staging vS s = 0 then bootRuns .staging s1 else updUpd (fun u => { u with failures := u.failures ++ [verifyImage u.staging vS s] }) s1

/-- The active image is verified, and runs or reverts. -/
def bootActive (vA vR vS : Nat) (s : State) : State :=
  let r := verifyImage s.upd.active vA s
  if r = 0 then bootRuns .active s else bootRevert vR vS (updUpd (fun u => { u with failures := u.failures ++ [r] }) s)

/-- The boot ROM's action at a start that clears the time base (R577, R578). -/
def bootRom (vA vR vS : Nat) (s0 : State) : State :=
  let s := updUpd (fun u => { u with runs := none, failures := [] }) s0
  let vs := verifyImage s.upd.staging vS s
  if s.upd.state = 2 then
    if vs = 0 then bootCopies true (writeRecord (updUpd (fun u => { u with state := 3, block := 0 }) s))
    else bootActive vA vR vS (writeRecord (updUpd (fun u => { u with state := 0, failures := u.failures ++ [vs] }) s))
  else if s.upd.state = 3 then
    if vs = 0 then bootCopies true s else bootRevert vR vS (updUpd (fun u => { u with failures := u.failures ++ [vs] }) s)
  else if s.upd.state = 4 then
    if s.upd.starts < 3 then
      let s1 := bootActive vA vR vS s
      if s1.upd.state = 4 then writeRecord (updUpd (fun u => { u with starts := u.starts + 1 }) s1) else s1
    else bootRevert vR vS s
  else if s.upd.state = 6 then bootRevert vR vS s
  else bootActive vA vR vS s

/-- FLASH_COPY_BLOCK (R577, R579): one block from staging or reserve to active; no block starts at level 4. -/
def execFlashCopyBlock (s : State) : Out :=
  .next (
    if s.life.nymyx ∨ s.life.state ≠ .starting ∨ s.power.level = 4 ∨ unitsOf cFlash 3 s = 0 ∨ (s.upd.state ≠ 3 ∧ s.upd.state ≠ 6) then s
    else
      let src := if s.upd.state = 3 then s.upd.staging else s.upd.reserve
      let s1 := writeRecord (updUpd (fun u => { u with active := copyBlock src u.active u.block, block := u.block + 1 }) s)
      if s1.upd.block < blocksOf src then s1
      else
        let s2 := bootCopies false (updUpd (fun u => { u with active := src, block := 0 }) s1)
        if s.upd.state = 3 then bootRuns .active (setResult 3 0 (releaseOf src) (updUpd (fun u => { u with state := 4, starts := 1 }) s2))
        else bootRuns .active (count 0x610B 4 (setResult 5 0 (releaseOf src) (updUpd (fun u => { u with state := 0, starts := 0, rejected := true }) s2))))

/-- The refresh gives its grant back and waits for another (R70, R581). -/
def deferRefresh (s : State) : State :=
  let s1 := setEntry cFlash 3 0 0 s
  { s1 with power := { s1.power with waiting := s1.power.waiting ++ [⟨.background, .flashWrite 3, 4⟩] } }

/-- RESERVE_REFRESH_BLOCK (R70, R77, R581): a block under the grant; above level 0 the block in progress completes and the
rest waits for a new grant; the last block ends the refresh. -/
def execReserveRefreshBlock (s : State) : Out :=
  .next (
    if s.upd.state ≠ 5 ∨ unitsOf cFlash 3 s = 0 ∨ !s.life.nymyx then s
    else
      let s1 := writeRecord (updUpd (fun u => { u with reserve := copyBlock u.active u.reserve u.block, block := u.block + 1 }) s)
      if s1.upd.block < blocksOf s1.upd.active then (if s.power.level = 0 then s1 else deferRefresh s1)
      else
        let s2 := updUpd (fun u => { u with reserve := u.active, reserveDigest := digest u.active, state := 0, block := 0, starts := 0, staging := [] }) s1
        endAlarm .reserveInvalid noInst (setEntry cFlash 3 0 0 (writeRecord s2)))

/-- BOOT_ROM_RETRY (R578): active, reserve and staging are verified in turn, and the first that passes runs. -/
def execBootRomRetry (vA vR vS : Fin 9) (s : State) : Out :=
  .next (
    if s.upd.runs.isSome ∨ s.life.nymyx ∨ s.life.state ≠ .starting ∨ s.life.stage = 0 ∨ unitsOf cFlash 3 s ≠ 0 then s
    else if verifyImage s.upd.active vA s = 0 then bootRuns .active s
    else if verifyImage s.upd.reserve vR s = 0 then bootRuns .reserve s
    else if verifyImage s.upd.staging vS s = 0 then bootRuns .staging s
    else s)

end Sys2Proof.Machine
end

