-- ==== Sys2Proof/Machine/Observe.lean ====
section
/-!
DEFINITION. The commands of counters, snapshots of counters, alarms, the event log and instruction sampling (20).
-/
namespace Sys2Proof.Machine

/-- Change the observability part. -/
def updObs (f : Obs → Obs) (s : State) : State := { s with obs := f s.obs }

/-! ## Counter cells (R591 to R596) -/

/-- The key of the count object word behind a cell, if a count of it is held (R591); DESIGN CHOICE, assumption 5. -/
def keyOfCell (n : Nat) (s : State) : Option Nat := (s.obs.counts.find? (fun x => Config.cellOf x.1 == n)).map (fun x => x.1)

/-- Whether cell n and the cell above it are a chained pair, n even (R594). -/
def pairedCell (n : Nat) (s : State) : Bool :=
  n % 2 == 0 && (decide (n < 1536) || (decide (1536 ≤ n) && decide (n < 1664) && progChained (n - 1536) s))

/-- The value of a cell (R591): the halves of a traffic count, a programmable counter, or a word of a count object. -/
def cellValue (n : Nat) (s : State) : Word :=
  if n < 1536 then
    let v := Tab.get 0 (n / 2) s.obs.traffic
    if n % 2 = 0 then v.truncate 32 else (v >>> 32).truncate 32
  else if n < 1664 then Tab.get 0 (n - 1536) s.obs.prog
  else match keyOfCell n s with
    | some k => Tab.get 0 k s.obs.counts
    | none => 0

/-- Clear a cell on the edge of its read (R595, R599). -/
def clearCell (n : Nat) (s : State) : State :=
  if n < 1536 then
    let v := Tab.get 0 (n / 2) s.obs.traffic
    let v1 := if n % 2 = 0 then (v >>> 32) <<< 32 else (v <<< 32) >>> 32
    updObs (fun o => { o with traffic := Tab.put 0 (n / 2) v1 o.traffic }) s
  else if n < 1664 then updObs (fun o => { o with prog := Tab.put 0 (n - 1536) 0 o.prog }) s
  else match keyOfCell n s with
    | some k => updObs (fun o => { o with counts := Tab.put 0 k 0 o.counts }) s
    | none => s

/-! ## Counter snapshots (R599 to R601) -/

/-- The lowest free counter snapshot slot. -/
def freeSlot (s : State) : Option Nat := [1, 2, 3, 4].find? (fun k => (Tab.find k s.obs.slots).isNone)

/-- CTR_SNAP_AT names an instant at least 100 µs and at most 10 s ahead in a TRACEABLE domain A (R600). -/
def snapTimeOk (t : Time96) (s : State) : Bool :=
  s.tb.a.traceable && decide (domA s + 100000 * 65536 ≤ lsbOf t) && decide (lsbOf t ≤ domA s + 10 * lsbPerSec)

/-- CTR_SNAP_REQUEST (R599, R600): the answer carries the slot. -/
def ctrSnapRequest (q : Req) (f n : Nat) (clear : Bool) (e : Session) (s : State) : Res :=
  let at_ := e.ctrSnapAt
  if n = 0 ∨ 8192 < f + n then Res.of s 0x0301#16
  else if at_ ≠ Time96.zero ∧ !snapTimeOk at_ s then Res.of s 0x0824#16
  else match freeSlot s with
    | none => Res.of s 0x080A#16
    | some k =>
      let c : CtrSnap := { owner := q.sess, first := f, count := n, clear := clear,
                           at_ := if at_ = Time96.zero then none else some (lsbOf at_), started := false, done := false, stepped := false,
                           firstRead := Time96.zero, lastRead := Time96.zero, cells := [], ovf := [] }
      ⟨updSession q.sess (fun e => { e with ctrSnapAt := Time96.zero }) (updObs (fun o => { o with slots := Tab.set k c o.slots }) s), 0, [BitVec.ofNat 8 k]⟩

/-- CTR_SNAP_REQUEST (R599): F, N and the clear flag in bit 0. -/
def execCtrSnapRequest (q : Req) (f n : BitVec 16) (flags : BitVec 8) (s : State) : Out :=
  .next (roleRequest .operator q (fun e s => ctrSnapRequest q f.toNat n.toNat (flags.getLsbD 0) e s) s)

/-- One edge of the sweep into a slot: cell n is copied, a chained pair whole on its even cell, its odd cell passing
idle; with the clear flag what is copied is cleared (R599); DESIGN CHOICE, assumption 142. -/
def sweepEdge (k n : Nat) (c : CtrSnap) (s : State) : State :=
  if n < c.first + c.cells.length then updObs (fun o => { o with sweepCell := n }) s
  else
    let two := pairedCell n s
    let ns := if two && decide (n + 1 < c.first + c.count) then [n, n + 1] else [n]
    let c1 : CtrSnap := { c with
      cells := c.cells ++ ns.map (fun i => cellValue i s)
      ovf := c.ovf ++ ns.map (fun i => s.obs.ovfMap.contains i)
      lastRead := timeA s }
    let s1 := updObs (fun o => { o with slots := Tab.set k c1 o.slots, sweepCell := n }) s
    if c.clear then (if two then clearCell (n + 1) (clearCell n s1) else clearCell n s1) else s1

/-- The sweep in progress moves on by one mast clock edge. -/
def sweepTick (s : State) : State :=
  match s.obs.sweepBusy with
  | none => s
  | some k => match Tab.find k s.obs.slots with
    | none => s
    | some c => if s.obs.sweepCell + 1 < c.first + c.count then sweepEdge k (s.obs.sweepCell + 1) c s else s

/-- Nothing is commanded: one edge of the mast clock passes (R274, R599); DESIGN CHOICE, assumption 1. -/
def idle (s : State) : State := sweepTick (mastTick s)

/-- COUNTER_SWEEP_START (R599, R600): the first edge of a sweep that is due, while no other runs. -/
def execCounterSweepStart (k : Fin 5) (s : State) : Out :=
  .next (match Tab.find k.val s.obs.slots with
    | none => s
    | some c =>
      let due := match c.at_ with
        | none => true
        | some t => decide (t ≤ domA s)
      if c.started ∨ s.obs.sweepBusy.isSome ∨ !due then s
      else
        let c1 : CtrSnap := { c with started := true, firstRead := timeA s }
        sweepEdge k.val c.first c1 (updObs (fun o => { o with sweepBusy := some k.val }) s))

/-- COUNTER_SWEEP_COMPLETE (R601): the last cell of the sweep is copied; DESIGN CHOICE, assumption 51. -/
def execCounterSweepComplete (s : State) : Out :=
  .next (match s.obs.sweepBusy with
    | none => s
    | some k => match Tab.find k s.obs.slots with
      | none => s
      | some c =>
        if c.cells.length < c.count then s
        else updObs (fun o => { o with slots := Tab.set k { c with done := true } o.slots, sweepBusy := none,
                                       sweepFirst := c.firstRead, sweepLast := c.lastRead }) s)

/-- CTR_SNAP_RELEASE (R601). -/
def execCtrSnapRelease (q : Req) (k : BitVec 8) (s : State) : Out :=
  .next (roleRequest .operator q (fun _ s =>
    if k.toNat < 1 ∨ 4 < k.toNat then Res.of s 0x0301#16 else Res.of (freeCtr k.toNat s) 0) s)

/-- The content of a counter snapshot slot (R601). -/
def ctrSnapBytes (c : CtrSnap) : List Byte :=
  let bits (i : Nat) : Nat := ((List.range 32).filter (fun j => c.ovf.getD (32 * i + j) false)).foldl (fun n j => n + 2 ^ j) 0
  timeBytes c.firstRead ++ timeBytes c.lastRead ++ leBytes 2 c.first ++ leBytes 2 c.count
    ++ [BitVec.ofNat 8 (b2n c.clear + 2 * b2n c.at_.isSome + 4 * b2n c.stepped), 0, 0, 0]
    ++ (c.cells.map (fun w => leBytes 4 w.toNat)).flatten ++ ((List.range ((c.count + 31) / 32)).map (fun i => leBytes 4 (bits i))).flatten

/-! ## Alarms (R603, R605) -/

/-- End every standing event alarm a test names. -/
def endEvents (f : Alarm → Bool) (s : State) : State :=
  (s.obs.alarms.filter (fun x => !x.alarm.condition && f x.alarm)).foldl (fun s x => endAlarm x.alarm x.inst s) s

/-- ALARM_ACK (R605): the standing event alarms of a code, or of all codes. -/
def execAlarmAck (q : Req) (code : BitVec 16) (s : State) : Out :=
  .next (roleRequest .operator q (fun _ s => Res.of (endEvents (fun a => code == 0xFFFF#16 || alarmCode a == code.toNat) s) 0) s)

/-- ALARM_HOLD_EXPIRY (R603): an event alarm ends. -/
def execAlarmHoldExpiry (a : Alarm) (inst : Nat) (s : State) : Out := .next (if a.condition then s else endAlarm a inst s)

/-! ## The event log (R607, R608) -/

/-- The records not yet written go to the flash ring; the oldest leave a full ring. -/
def flushEvents (s : State) : State :=
  let n := s.obs.unwritten
  let new := s.obs.events.drop (s.obs.events.length - n)
  let all := s.obs.flash ++ new
  countN 0x7015 2 n (updObs (fun o => { o with flash := all.drop (all.length - flashRing), unwritten := 0 }) s)

/-- EVENT_LOG_FLUSH (R65, R607): under the grant of a flash write, which ends with it; DEDUCED, assumption 52. -/
def execEventLogFlush (s : State) : Out :=
  .next (if s.obs.unwritten = 0 ∨ !s.life.nymyx ∨ s.life.state = .restarting then s
    else if !flashOk s then countRefusal s
    else flushEvents (countGrant s))

/-! ## Instruction sampling (R609 to R611) -/

/-- A role runs on some engine. -/
def roleRuns (r : SparRole) (s : State) : Bool := s.life.nymyx && s.life.spar.any (fun e => e.role == r && e.power == .running)

/-- SAMPLE_CONFIG: engine mask, event, period, duration. -/
def sampleMask (s : State) : Nat := leNat ((cfgBytes 0x7011 0 s).take 2)
/-- The event that is sampled. -/
def sampleEvent (s : State) : Nat := ((cfgBytes 0x7011 0 s).getD 2 0).toNat

/-- Sampling ends with a reason (R610). -/
def endSampling (reason : Nat) (s : State) : State :=
  if s.obs.sampling then setEntry cSample 0 0 0 (updObs (fun o => { o with sampling := false, sampleEnd := reason }) s) else s

/-- SAMPLE_START TRUE (R610). -/
def sampleStart (s : State) : Res :=
  if s.obs.sampling ∨ sampleMask s = 0 ∨ !roleRuns .obs s then Res.of s 0x0825#16
  else if !backgroundFits 1 s then Res.of (countRefusal s) 0x0601#16
  else Res.of (countGrant (setEntry cSample 0 1 1 (updObs (fun o => { o with sampling := true, sampleEnd := 0 }) s))) 0

/-- SAMPLE_START (R610). -/
def execSampleStart (q : Req) (s : State) : Out := .next (roleRequest .operator q (fun _ s => sampleStart s) s)

/-- SAMPLE_STOP (R610): SAMPLE_START FALSE. -/
def execSampleStop (q : Req) (s : State) : Out := .next (roleRequest .operator q (fun _ s => Res.of (endSampling 2 s) 0) s)

/-- SAMPLE_DURATION_EXPIRY (R610). -/
def execSampleDurationExpiry (s : State) : Out :=
  .next (if leNat ((cfgBytes 0x7011 0 s).drop 8) = 0 then s else endSampling 1 s)

/-- Coding of a Spar role (R107). -/
def sparCode : SparRole → Nat
  | .spare => 0 | .boot => 1 | .gleno => 2 | .reef => 3 | .servo => 4 | .halyard => 5 | .cal => 6 | .pair => 7 | .tables => 8
  | .channels => 9 | .obs => 10 | .failed => 0xFE | .retired => 0xFF

/-- INSTRUCTION_SAMPLE (R609, R611): `flags`, `pc`, `data`, `latency`, `stall` and `interval` are what the taps show;
DESIGN CHOICE, assumption 53. -/
def execInstructionSample (e : SparNo) (flags : BitVec 8) (pc data : Word) (latency : BitVec 16) (stall : Fin 5) (interval : Word) (s : State) : Out :=
  .next (match s.life.spar[e.val]? with
    | none => s
    | some x =>
      if !s.obs.sampling ∨ !bit (sampleMask s) e.val ∨ x.power ≠ .running then s
      else if 4096 ≤ s.obs.samples.length then
        setRc 0x60018 2 (count 0x7015 3 (updObs (fun o => { o with discarded := o.discarded + 1 }) s))
      else
        let t := timeA s
        let r : Sample := ⟨⟨t.sec, t.ns, 0⟩, e.val, sparCode x.role, sampleEvent s, flags &&& 0xF#8, pc, data, latency, BitVec.ofNat 8 stall.val, interval⟩
        updObs (fun o => { o with samples := o.samples ++ [r] }) s)

/-- One sample record (R611). -/
def sampleBytes (r : Sample) : List Byte :=
  timeBytes r.time ++ [BitVec.ofNat 8 r.engine, BitVec.ofNat 8 r.role, BitVec.ofNat 8 r.event, r.flags] ++ leBytes 4 r.pc.toNat
    ++ leBytes 4 r.dataAddr.toNat ++ leBytes 2 r.latency.toNat ++ [r.stall, 0] ++ leBytes 4 r.interval.toNat

/-! ## Programmable counters (R596) -/

/-- The bits of a select that are fields. -/
def progBits : Word := 0xF80FFF00#32

/-- A select takes effect: its cell is zeroed, with CHAIN of an even counter the one above too. -/
def putProg (p : Nat) (v : Word) (s : State) : State :=
  let w := v &&& progBits
  let both := p % 2 == 0 && w.getLsbD 27
  let s1 := updObs (fun o => { o with progSel := Tab.put 0 p w o.progSel, prog := Tab.put 0 p 0 o.prog }) s
  let s2 := if both then updObs (fun o => { o with prog := Tab.put 0 (p + 1) 0 o.prog }) s1 else s1
  markStored 0x7006 (p + 1) (setVal 0x7006 (p + 1) (leBytes 4 w.toNat) s2)

/-- PROG_SELECT (R596, R613): a write of counter `sub` - 1. -/
def progSelect (sub : Nat) (v : Word) (s : State) : Res :=
  if sub < 1 ∨ 128 < sub then Res.of s 0x0102#16 else Res.of (putProg (sub - 1) v s) 0

/-- PROG_SELECT (R596). -/
def execProgSelect (q : Req) (sub : BitVec 8) (v : Word) (s : State) : Out := .next (roleRequest .operator q (fun _ s => progSelect sub.toNat v s) s)

end Sys2Proof.Machine
end

