-- ==== Sys2Proof/Machine/Reef.lean ====
section
/-!
DEFINITION. The commands of the ledger, the reef levels, level 4 and sleep (02).
-/
namespace Sys2Proof.Machine

/-- Change the power part. -/
def updPower (f : Power → Power) (s : State) : State := { s with power := f s.power }

/-- Change the life part. -/
def updLife (f : Life → Life) (s : State) : State := { s with life := f s.life }

/-- The reef role runs (R69, R95). -/
def reefRuns (s : State) : Bool := s.life.nymyx && s.life.state != .restarting && !migratingRole .reef s

/-! ## Requests (R65, R66, R72) -/

/-- The lanes an unfurl of a channel would wake. -/
def unfurlNew (c : Nat) (s : State) : BitVec 4 := unfurlTarget c s &&& ~~~(cod c s).txLanes

/-- The units a request needs now (R64): an unfurl's by the lanes it would wake. -/
def needs (w : Waiting) (s : State) : Nat :=
  match w.what with
  | .unfurl c => 2 * laneCount (unfurlNew c s)
  | .holdUnfurl c => 2 * laneCount (unfurlNew c s)
  | .repairUnfurl c => 2 * laneCount (unfurlNew c s)
  | _ => w.units

/-- The level's own rule refuses a request (R70, R72): background from level 1, the overflow store from level 2,
unfurling at level 3, and every traffic request while an excess stays booked at level 3. -/
def barred (w : Waiting) (s : State) : Bool :=
  let unf := match w.what with
    | .unfurl _ => true
    | .holdUnfurl _ => true
    | _ => false
  (w.cls == .background && decide (1 ≤ s.power.level)) || (w.what == .ovfOpen && decide (2 ≤ s.power.level))
    || (unf && decide (3 ≤ s.power.level))
    || (w.cls == .traffic && s.power.level == 3 && decide (admissible .traffic s < booked s))

/-- A waiting request can be granted now. -/
def grantable (w : Waiting) (s : State) : Bool :=
  reefRuns s && s.power.level != 4 && !barred w s && fits w.cls (needs w s) s

/-- The waiting request that is served next: in class order, within a class in order of arrival (R65). -/
def nextGrant (s : State) : Option Waiting :=
  let of (c : Cls) : Option Waiting := s.power.waiting.find? (fun w => w.cls == c && grantable w s)
  match of .repair with
  | some w => some w
  | none => match of .traffic with
    | some w => some w
    | none => of .background

/-- Remove a request from the waiting ones. -/
def unwait (a : Ask) (s : State) : State := updPower (fun p => { p with waiting := p.waiting.filter (fun w => w.what != a) }) s

/-- A granted bank start: the bank and the lit entries of the spares already in use are booked (R228, R64). -/
def bankGrant (t : Nat) (s : State) : State :=
  let e := eng t s
  let u := perVariant 2 3 s
  let s1 := bookBank t 1 (updEng t (fun e => { e with
    bank := .starting, refusedAt := none, lower := e.lower.start, upper := e.upper.start
    lasers := e.lasers.map (fun l => if l.st = .dark then { l with st := .starting } else l) }) s)
  let s2 := if e.lower.bound then setEntry cSpare (2 * t) 1 u s1 else s1
  let s3 := if e.upper.bound then setEntry cSpare (2 * t + 1) 1 u s2 else s2
  endAlarm .bankRefused t s3

/-- What a grant starts, with its units booked. -/
def applyGrant (w : Waiting) (s : State) : State :=
  match w.what with
  | .laserBank t => bankGrant t s
  | .tileWake t => setEntry cSlice (4 * t) 1 4 (setEntry cTile t 1 14 s)
  | .sliceWake t => setEntry cSlice (4 * t + (tile t s).slices) 1 4 s
  | .unfurl c => unfurlGranted c (preempt c s)
  | .bringUp c => setCod c (fun d => { d with granted := true, train := trainLanes c s, stage := 2 }) s
  | .holdUnfurl c => unfurlGranted c s
  | .repairUnfurl c => unfurlGranted c (preempt c s)
  | .ovfOpen => setEntry cOvf 0 1 100 s
  | .spareLaser e k => setEntry cSpare (2 * e + k) 1 (perVariant 2 3 s)
      (updEng e (fun x => if k = 0 then { x with lower := { x.lower with st := .tuning } } else { x with upper := { x.upper with st := .tuning } }) s)
  | .sparMigration r =>
      let m := s.life.migrating.find? (fun m => m.failedE == r)
      match m with
      | none => s
      | some m => setEntry cSpar m.target 1 3 (updLife (fun l => { l with migrating := l.migrating.map (fun x => if x.failedE = r then { x with granted := true } else x) }) s)
  | .calRun k i => startRun k i s
  | .sparClock e => setEntry cSpar e 1 3 (updLife (fun l => { l with spar := match l.spar[e]? with
      | some x => setAt e { x with power := .running } l.spar
      | none => l.spar }) s)
  | .flashWrite n => setEntry cFlash n 1 4 s
  | .shutdownFlush => updLife (fun l => { l with shutStep := 5 }) s

/-- Grant a waiting request: counted, removed, applied. The channel of an unfurl is settled. -/
def grant (w : Waiting) (s : State) : State :=
  let s1 := applyGrant w (countGrant (unwait w.what s))
  match w.what with
  | .unfurl c => settleChan c s s1
  | .holdUnfurl c => settleChan c s s1
  | .repairUnfurl c => settleChan c s s1
  | .bringUp c => settleChan c s s1
  | _ => s1

/-! ## Levels (R70 to R74) -/

/-- Firmware download of a session is aborted by the rise to level 1 (R574). -/
def abortDownload (s : State) : State :=
  match s.upd.download with
  | none => s
  | some n => endDownload (updSession n (fun e => { e with transfer := none }) s)

/-- A channel's loop or PRBS settings took effect or changed (R267, R268): it leaves stage 6 for the loop, or returns
to stage 2 on its band. -/
def loopSettle (c : Nat) (s : State) : State :=
  let l : BitVec 4 := BitVec.ofNat 4 (cfg 0x2109 (c + 1) s)
  let s1 :=
    if looped c s then
      let s2 := if (cod c s).stage = 7 then s else chanTo c 7 s
      setCod c (fun d => { d with wake := l, prbsLock := 0, prbsErr := if l = 0 then d.prbsErr else (lanes.map (fun k => if l.getLsbD k then 0 else d.prbsErr.getD k 0)),
                                  prbsBits := if l = 0 then d.prbsBits else 0, prbsCount := false }) s2
    else if (cod c s).stage = 7 then chanTo c (if (opt c s).bandState == .resolved then 2 else 0) s
    else s
  settleChan c s (setEntry cPrbs c 1 (if l = 0 then 0 else 1) s1)

/-- Every hold that a peer asked for ends (R70, R374). -/
def endHolds (s : State) : State := (List.range 192).foldl (fun s c => updPort c 0 (fun p => { p with holdOut := 0 }) s) s

/-- Running background activity ends at level 1 (R70): calibration runs, holds, sampling, PRBS, a download. -/
def endBackground (reason : Nat) (s : State) : State :=
  let s1 := discardRuns reason (fun _ => true) s
  let s2 := endHolds s1
  let s3 := endSampling 3 s2
  let s4 := (List.range 192).foldl (fun s c =>
    if cfg 0x2109 (c + 1) s = 0 then s else loopSettle c (setVal 0x2109 (c + 1) [0] s)) s3
  abortDownload s4

/-- Furl channels by force until a total fits (R73, R402): runs and holds of a furled channel end. -/
def furlTo (target : Nat) (s : State) : State :=
  let s1 := furlUntil 192 target s
  (s1.power.forcedFurls.drop s.power.forcedFurls.length).foldl (fun s c => updPort c 0 (fun p => { p with holdOut := 0 }) (preempt c s)) s1

/-- What a level stops as it is entered (R70); DESIGN CHOICE, assumption 41. -/
def levelStops (s : State) : State :=
  match s.power.level with
  | 1 => endBackground 0x11 s
  | 2 => ovfLevel s
  | 3 => furlTo (admissible .traffic s) s
  | _ => s

/-- The level rises one step, counted; a rise within 10 s of a fall makes the next fall long (R72, R74). -/
def riseOne (s : State) : State :=
  if 3 ≤ s.power.level then s
  else
    let soon := match s.power.lastFall with
      | some t => decide (s.now < t + 1000000000)
      | none => false
    levelStops (count 0x130D 3 (updPower (fun p => { p with level := p.level + 1, longFall := p.longFall || soon }) s))

/-- The level rises to a bound, step by step. -/
def riseTo (n : Nat) (s : State) : State :=
  (List.range 3).foldl (fun s _ => if s.power.level < n then riseOne s else s) s

/-- The lowest level that the floor and the die warning allow (R74, R75). -/
def levelFloor (s : State) : Nat := max (min 3 (cfg 0x1303 0 s)) (if s.power.derate then 2 else 0)

/-- The booked total exceeds the admissible total of the traffic class. -/
def excess (s : State) : Bool := decide (admissible .traffic s + furlRelease s < booked s)

/-- The alarm of a ceiling below the floor follows the excess at level 3 (R72). -/
def floorAlarm (s : State) : State :=
  if excess s && s.power.level == 3 then (if standing .ceilingBelowFloor noInst s then s else raise .ceilingBelowFloor noInst s)
  else endAlarm .ceilingBelowFloor noInst s

/-! ## Refusals (R66, R67, R72) -/

/-- Note the first refusal of a bank's request, which R67 times. -/
def noteRefused (a : Ask) (s : State) : State :=
  match a with
  | .laserBank t => updEng t (fun e => { e with refusedAt := some (e.refusedAt.getD s.now) }) s
  | _ => s

/-- A refused bring-up request of a channel that both ends may furl: lane 0 trains alone (R254). -/
def bringUpAlone (c : Nat) (s : State) : State :=
  if bothFurl c s then setCod c (fun d => { d with granted := false, train := laneBit 0, stage := 2 }) (unwait (.bringUp c) s) else s

/-- What the refused requester does beyond waiting (R67, R254, R374). -/
def refusedAct (w : Waiting) (s : State) : State :=
  match w.what with
  | .bringUp c => bringUpAlone c s
  | .holdUnfurl c => unwait (.holdUnfurl c) s
  | a => noteRefused a s

/-- A request does not fit, or its level forbids it: counted; a repair request raises the level to 3 and furls until it
fits, a traffic request that lacks room raises it one step (R66, R72). -/
def refuse (w : Waiting) (s : State) : State :=
  let s1 := countRefusal s
  if barred w s then refusedAct w s1
  else match w.cls with
    | .repair =>
      let s2 := riseTo 3 s1
      let s3 := furlTo (admissible .repair s2 - needs w s2) s2
      if grantable w s3 then grant w s3 else s3
    | .traffic => refusedAct w (riseOne s1)
    | .background => refusedAct w s1

/-- A waiting request is put to the reef controller: granted, refused, or left waiting while the role or level 4 grants
nothing (R69, R77). -/
def present (w : Waiting) (s : State) : State :=
  if !reefRuns s || s.power.level == 4 then s
  else if grantable w s then grant w s else refuse w s

/-- Put the waiting request for something to the reef controller; DESIGN CHOICE, assumption 38; DEDUCED, assumption 40. -/
def presentAsk (a : Ask) (s : State) : State :=
  match s.power.waiting.find? (fun w => w.what == a) with
  | some w => present w s
  | none => s

/-! ## Fresh requests -/

/-- Every queue of data frames is empty. -/
def queuesEmpty (s : State) : Bool := s.sw.fab.isEmpty && s.sw.queues.isEmpty && s.sw.ovf.tails.isEmpty

/-- A request for something that is not waiting yet, where the element's state calls for it. -/
def freshAsk (a : Ask) (s : State) : Option Waiting :=
  match a with
  | .laserBank t => if (eng t s).bank == .waiting then some ⟨.traffic, a, perVariant 18 24 s⟩ else none
  | .tileWake t => if (tile t s).sleep == .deep && unitsOf cTile t s == 0 && s.life.mode != 2 && s.life.nymyx && t < 24 then some ⟨.traffic, a, 18⟩ else none
  | .sliceWake t => if ((tile t s).sleep == .awake || (tile t s).sleep == .light) && (tile t s).slices < 4 && unitsOf cSlice (4 * t + (tile t s).slices) s == 0
                    then some ⟨.traffic, a, 4⟩ else none
  | .unfurl c => if (cod c s).stage == 6 && unfurlNew c s != 0 && c < 192 then some ⟨.traffic, a, 2 * laneCount (unfurlNew c s)⟩ else none
  | .bringUp c => if (cod c s).stage == 1 && (cod c s).peerFam != 2 then some ⟨.traffic, a, 6⟩ else none
  | .holdUnfurl c => if (cod c s).stage == 6 && unfurlNew c s != 0 then some ⟨.background, a, 2 * laneCount (unfurlNew c s)⟩ else none
  | .repairUnfurl c => if (cod c s).stage == 6 && reduced c s && unfurlNew c s != 0 then some ⟨.repair, a, 2 * laneCount (unfurlNew c s)⟩ else none
  | .ovfOpen => if s.sw.ovf.st == .opening && unitsOf cOvf 0 s == 0 then some ⟨.traffic, a, 100⟩ else none
  | .spareLaser e k => if (let p := if k = 0 then (eng e s).lower else (eng e s).upper; p.bound && p.st == .ready) && (eng e s).bank == .lit
                       then some ⟨.repair, a, perVariant 2 3 s⟩ else none
  | .sparMigration r => if s.life.migrating.any (fun m => m.failedE == r && !m.granted) then some ⟨.repair, a, 3⟩ else none
  | .calRun _ _ => none
  | .sparClock e => if (match s.life.spar[e]? with | some x => x.power == .stopped | none => false) && !s.life.braced.contains e then some ⟨.traffic, a, 3⟩ else none
  | .flashWrite n => if n == 3 && s.upd.state == 5 && unitsOf cFlash 3 s == 0 then some ⟨.background, a, 4⟩ else none
  | .shutdownFlush => if s.life.state == .stopping && s.life.shutStep == 4 && queuesEmpty s then some ⟨.repair, a, 0⟩ else none

/-- REEF_REQUEST (R65): an element asks for a state of higher draw. A request already waiting is put again. -/
def execReefRequest (a : Ask) (s : State) : Out :=
  .next (
    if s.power.waiting.any (fun w => w.what == a) then presentAsk a s
    else match freshAsk a s with
      | none => s
      | some w => presentAsk a (updPower (fun p => { p with waiting := p.waiting ++ [w] }) s))

/-- REEF_GRANT (R65): the waiting request that is next in order and fits is granted. -/
def execReefGrant (s : State) : Out :=
  .next (match nextGrant s with
    | some w => grant w s
    | none => s)

/-- REQUEST_RETRY (R67): a refused request is repeated. -/
def execRequestRetry (a : Ask) (s : State) : Out := .next (presentAsk a s)

/-- BANK_REFUSED_ALARM (R67): a bank start has been refused for 10 s. -/
def execBankRefusedAlarm (t : Tile) (s : State) : Out :=
  .next (match (eng t s).bank, (eng t s).refusedAt with
    | .waiting, some n => if n + 1000000000 ≤ s.now && !standing .bankRefused t s then raise .bankRefused t s else s
    | _, _ => s)

/-! ## Evaluation (R58, R60, R61, R63, R72, R74, R75) -/

/-- LEDGER_EVALUATION (R60, R61, R72): `mv` and `cur` are the 1 ms averages of bus voltage and blade current, `lowest`
the ledger voltage of R61, none where every sample was excluded. A booked total above the admissible total raises the
level one step; a level below the floor rises to it; DESIGN CHOICE, assumption 36; DEDUCED, assumption 37. -/
def execLedgerEvaluation (mv cur : BitVec 16) (lowest : Option (BitVec 16)) (s : State) : Out :=
  let s1 := updPower (fun p => { p with busMv := mv.toNat, inlet10mA := cur.toNat, ledgerMv := match lowest with
    | some v => v.toNat
    | none => p.ledgerMv }) s
  .next (
    if !reefRuns s || s.power.level == 4 then s1
    else
      let s2 := riseTo (levelFloor s1) s1
      let s3 := if !excess s2 then s2 else if s2.power.level < 3 then riseOne s2 else furlTo (admissible .traffic s2) s2
      floorAlarm s3)

/-- REEF_LEVEL_FALL (R74): the level falls one step, never below the floor; forced furls end with level 3; DESIGN CHOICE, assumption 42. -/
def execReefLevelFall (s : State) : Out :=
  .next (
    let l := s.power.level
    if !reefRuns s || l == 0 || l == 4 || decide (l ≤ levelFloor s) || decide (admissible .traffic s < booked s + cfg 0x1300 0 s / 20) then s
    else
      let s1 := updPower (fun p => { p with level := l - 1, lastFall := some s.now, longFall := false }) s
      floorAlarm (if l = 3 then endForced s1 else if l = 2 then ovfLevel s1 else s1))

/-- UNDER_DECLARED_DRAW (R63): the measured current has exceeded the ceiling for 10 ms. -/
def execUnderDeclaredDraw (cur : BitVec 16) (s : State) : Out :=
  let s1 := updPower (fun p => { p with inlet10mA := cur.toNat }) s
  .next (
    if !reefRuns s || decide (cur.toNat ≤ cfg 0x1300 0 s) then s1
    else
      let s2 := count 0x130D 5 (if s.power.level < 3 then riseOne s1 else s1)
      if s.power.underDecl then s2 else raise .underDeclared noInst (updPower (fun p => { p with underDecl := true }) s2))

/-- UNDER_DECLARED_CLEAR (R63): the current has stayed within the ceiling for 1 s. -/
def execUnderDeclaredClear (cur : BitVec 16) (s : State) : Out :=
  let s1 := updPower (fun p => { p with inlet10mA := cur.toNat }) s
  .next (
    if cfg 0x1300 0 s < cur.toNat then s1
    else endAlarm .underDeclared noInst (updPower (fun p => { p with underDecl := false }) s1))

/-- DIE_WARNING (R49, R75): a major alarm, the level at least 2, the admissible total nine tenths. -/
def execDieWarning (die : BitVec 8) (s : State) : Out :=
  let s1 := raise .dieWarning die.toNat (updPower (fun p => { p with derate := true }) s)
  .next (if reefRuns s && s.power.level != 4 then riseTo 2 s1 else s1)

/-- DIE_WARNING_END (R75): every die has been 5 K below its warning threshold for 60 s. -/
def execDieWarningEnd (s : State) : Out :=
  let s1 := updPower (fun p => { p with derate := false }) s
  .next ((s1.obs.alarms.filter (fun x => x.alarm == .dieWarning)).foldl (fun s x => endAlarm .dieWarning x.inst s) s1)

/-! ## Level 4 (R76 to R79) -/

/-- The lanes a channel keeps in brace: lane 0, or its lowest-numbered running lane (R263). -/
def braceLanes (d : Coding) : BitVec 4 := if d.txLanes.getLsbD 0 || d.txLanes = 0 then 1#4 else laneBit (lowestLane d.txLanes)

/-- Brace on one channel (R76, R77, R263): an unfurl in progress is abandoned; below stage 6 lane 0 goes on alone. -/
def braceChan (s : State) (c : Nat) : State :=
  let d := cod c s
  if d.stage = 6 then
    let m := braceLanes d
    let s1 := abruptTo c m s
    let s2 := setCod c (fun d => { d with maxLanes := m, force := true, brace := true, announced := false, wake := 0, unfurlAsk := false, abrupt := true }) s1
    settleChan c s (unwait (.unfurl c) s2)
  else if 1 ≤ d.stage ∧ d.stage < 6 then setCod c (fun d => { d with train := d.train &&& 1#4 }) s
  else s

/-- Brace on one engine (R76, R77, R230): a lit bank drops to brace bias but for lasers 0 and 4; a starting bank stops
and waits to repeat its request. -/
def braceBank (s : State) (t : Nat) : State :=
  match (eng t s).bank with
  | .lit => bookBank t 3 (updEng t (fun e => { e with bank := .brace, lasers := e.lasers.mapIdx (fun j l =>
      if j ≠ 0 ∧ j ≠ 4 ∧ l.st = .lit then { l with st := .brace } else l) }) s)
  | .starting =>
    let e := eng t s
    let own := (if e.lower.bound then perVariant 2 3 s else 0) + (if e.upper.bound then perVariant 2 3 s else 0)
    let s1 := updEng t (fun e => { e with
      bank := .waiting, lower := e.lower.off, upper := e.upper.off
      lasers := e.lasers.map (fun l => if l.st = .starting then { l with st := .dark } else l) }) s
    let s2 := setEntry cSpare (2 * t) 0 0 (setEntry cSpare (2 * t + 1) 0 0 (setEntry cBank t 0 0 s1))
    updPower (fun p => { p with waiting := p.waiting ++ [⟨.traffic, .laserBank t, perVariant 18 24 s + own⟩] }) s2
  | _ => s

/-- Book a tile's entries as its state gives (R64). -/
def bookTile (t : Nat) (s : State) : State :=
  let x := tile t s
  let u := match x.sleep with
    | .deep => 0
    | .brace => 1
    | _ => 14
  let st := match x.sleep with
    | .brace => 2
    | _ => 1
  [0, 1, 2, 3].foldl (fun s k => setEntry cSlice (4 * t + k) 1 (if k < x.slices then 4 else 0) s) (setEntry cTile t st u s)

/-- Brace on one tile (R76): its slices sleep, its MACsec unit drops to brace. -/
def braceTile (s : State) (t : Nat) : State :=
  let x := tile t s
  let s1 := if x.sleep = .deep ∨ x.sleep = .brace then s
    else bookTile t (updTile t (fun y => { y with sleep := .brace, slices := 0, resume := x.sleep, resumeSlices := x.slices }) s)
  if unitsOf cMacsec t s1 = 4 then setEntry cMacsec t 2 1 s1 else s1

/-- The engines whose clocks stop in brace: calibration, observability and both table engines (R76). -/
def braceEngines (s : State) : List Nat :=
  (List.range 16).filter (fun e => match s.life.spar[e]? with
    | some x => x.power == .running && (x.role == .cal || x.role == .obs || x.role == .tables)
    | none => false)

/-- Set what the clock of a Spar engine does and book it. -/
def sparPower (p : SparPower) (s : State) (e : Nat) : State :=
  match s.life.spar[e]? with
  | none => s
  | some x => setEntry cSpar e 1 (if p = .running then 3 else 0) (updLife (fun l => { l with spar := setAt e { x with power := p } l.spar }) s)

/-- Put a dip record at the head of the dip log and into the event log (R79, R82). -/
def dipRecord (d : Dip) (s : State) : State := logInfo .dip noInst (updPower (fun p => { p with dipLog := (d :: p.dipLog).take 16 }) s)

/-- LEVEL_4_ENTRY (R76, R77, R79): `lowest` in mV and `below` in 10 µs are what the record of this entry holds; DESIGN CHOICE, assumption 30. -/
def execLevel4Entry (lowest below : BitVec 16) (s : State) : Out :=
  .next (
    if s.power.level = 4 ∨ s.life.state = .unpowered ∨ s.life.state = .reset then s
    else
      let d : Dip := ⟨timeA s, lowest.toNat, below.toNat⟩
      let s1 := count 0x130D 4 (updPower (fun p => { p with level := 4, before4 := p.level, dipPending := some d }) s)
      let s2 := abortDownload (endSampling 3 (discardRuns 0x24 (fun _ => true) s1))
      let s3 := endHolds s2
      let s4 := (List.range 192).foldl (fun s c => if cfg 0x2109 (c + 1) s = 0 then s else loopSettle c (setVal 0x2109 (c + 1) [0] s)) s3
      let s5 := (List.range 24).foldl braceBank ((List.range 192).foldl braceChan s4)
      let s6 := ovfBrace ((List.range 24).foldl braceTile s5)
      let es := braceEngines s6
      dipRecord d (es.foldl (sparPower .stopped) (updLife (fun l => { l with braced := es }) s6)))

/-- An engine returns to full bias (R78, R230). -/
def unbraceBank (s : State) (t : Nat) : State :=
  if (eng t s).bank = .brace then
    bookBank t 2 (updEng t (fun e => { e with bank := .lit, lasers := e.lasers.map (fun l => if l.st = .brace then { l with st := .lit } else l) }) s)
  else s

/-- A tile wakes to the state brace interrupted, its slices and its MACsec unit with it (R78). -/
def unbraceTile (s : State) (t : Nat) : State :=
  let x := tile t s
  let s1 := if x.sleep = .brace then bookTile t (updTile t (fun y => { y with sleep := x.resume, slices := x.resumeSlices }) s) else s
  if unitsOf cMacsec t s1 = 1 then setEntry cMacsec t 1 4 s1 else s1

/-- A channel's MAX_LANES widens and BRACE clears; a forced furl of level 3 stays while that level stands (R263). -/
def unbraceChan (s : State) (c : Nat) : State :=
  if (cod c s).brace then
    let f := s.power.forcedFurls.contains c
    updCod c (fun d => { d with brace := false, force := f, maxLanes := if f then 3#4 else 0xF#4 }) s
  else s

/-- What a level and those below it stop, off the booked total (R78). -/
def reduction (l : Nat) (s : State) : Nat :=
  let bg := (s.power.entries.filter (fun e => let c := e.1 / 65536; c == cCal || c == cPrbs || c == cSample)).foldl (fun n e => n + e.2.units) 0
  (if 1 ≤ l then bg else 0) + (if 2 ≤ l ∧ (s.sw.ovf.st = .open_ ∨ s.sw.ovf.st = .draining) then unitsOf cOvf 0 s else 0)

/-- The level taken when level 4 ends: the one before it if its total fits, else the lowest that fits, at most 3 and not
below the floor. -/
def levelAfter4 (s : State) : Nat :=
  let ok (l : Nat) : Bool := decide (booked s ≤ admissible .traffic s + reduction l s)
  let l := if ok s.power.before4 then s.power.before4 else if ok 0 then 0 else if ok 1 then 1 else if ok 2 then 2 else 3
  max l (levelFloor s)

/-- The level in force stops what it and those below it stop, from level 0 up. -/
def takeLevel (n : Nat) (s : State) : State :=
  (List.range n).foldl (fun s k => levelStops (updPower (fun p => { p with level := k + 1 }) s)) (updPower (fun p => { p with level := 0 }) s)

/-- LEVEL_4_EXIT (R78): the exit condition of R58 has held at `mv`. Lasers, tiles, slices and store return, the level is
chosen anew, channels ask for their unfurls. -/
def execLevel4Exit (mv : BitVec 16) (lowest : Option (BitVec 16)) (s : State) : Out :=
  .next (
    if s.power.level ≠ 4 ∨ mv.toNat ≤ 40000 ∨ mv.toNat ≤ s.power.warnInForce * 100 + 500 then s
    else
      let s0 := updPower (fun p => { p with busMv := mv.toNat, dipPending := none, ledgerMv := match lowest with
        | some v => v.toNat
        | none => p.ledgerMv }) s
      let s1 := (List.range 24).foldl unbraceTile ((List.range 24).foldl unbraceBank s0)
      let s2 := updLife (fun l => { l with braced := [] }) (s1.life.braced.foldl (sparPower .running) s1)
      let n := levelAfter4 (ovfResume (updPower (fun p => { p with level := 0 }) s2))
      let s3 := if n = 3 then s2 else updPower (fun p => { p with forcedFurls := [] }) s2
      let s4 := (List.range 192).foldl unbraceChan (ovfResume (takeLevel n s3))
      floorAlarm ((List.range 192).foldl (fun s c => if (cod c s).stage = 6 then askUnfurl c s else s) s4))

/-- SUPPLY_RESET and RESET end level 4 by clearing it; the pending record of a level 4 that a reset cut short is put in
place of the one its entry wrote (R79). -/
def dipPop (s : State) : State :=
  match s.power.dipPending with
  | some d => updPower (fun p => { p with dipLog := match p.dipLog with
      | x :: t => if x = d then t else x :: t
      | [] => [] }) s
  | none => s

/-! ## Sleep (R80, R81) -/

/-- A copy in some queue of a tile, or a frame on one of its ports. -/
def tileFrames (t : Nat) (s : State) : Bool :=
  s.sw.fab.any (fun x => x.1 / 24 == t || x.1 % 24 == t) || s.sw.queues.any (fun x => x.1 / 128 == t)
    || (engChans t).any (fun c => (Tab.get none c s.egr.tx).isSome)

/-- TILE_LIGHT_SLEEP (R80, R81): the awake entry stays booked. -/
def execTileLightSleep (t : Tile) (s : State) : Out :=
  .next (if (tile t s).sleep = .awake ∧ !tileFrames t s then updTile t (fun x => { x with sleep := .light }) s else s)

/-- TILE_LIGHT_WAKE (R80, R81): no new grant. -/
def execTileLightWake (t : Tile) (s : State) : Out :=
  .next (if (tile t s).sleep = .light then updTile t (fun x => { x with sleep := .awake }) s else s)

/-- Deep sleep of a tile: its entries are released and its MDLL stops (R80, R289, R370). -/
def deepSleep (t : Nat) (s : State) : State :=
  let s1 := bookTile t (updTile t (fun _ => TileState.reset) s)
  txqFlush t (tileOffJury t { s1 with tb := { s1.tb with mdlls := Tab.erase t s1.tb.mdlls } })

/-- TILE_DEEP_SLEEP (R80): all eight channels down and no frame queued. -/
def execTileDeepSleep (t : Tile) (s : State) : Out :=
  .next (
    if ((tile t s).sleep = .awake ∨ (tile t s).sleep = .light) ∧ (engChans t).all (fun c => (cod c s).stage == 0) ∧ !tileFrames t s
    then deepSleep t s else s)

/-- TILE_DEEP_WAKE (R80, R289): under its grant; the tile's MDLL starts. -/
def execTileDeepWake (t : Tile) (s : State) : Out :=
  .next (
    if (tile t s).sleep = .deep ∧ unitsOf cTile t s ≠ 0 then mdllStart t true (updTile t (fun _ => ⟨.awake, 1, .deep, 0⟩) s) else s)

/-- SLICE_SLEEP (R80): one slice stays awake while the tile is awake. -/
def execSliceSleep (t : Tile) (s : State) : Out :=
  .next (
    let x := tile t s
    if (x.sleep = .awake ∨ x.sleep = .light) ∧ 1 < x.slices then bookTile t (updTile t (fun x => { x with slices := x.slices - 1 }) s) else s)

/-- SLICE_WAKE (R80): under its grant. -/
def execSliceWake (t : Tile) (s : State) : Out :=
  .next (
    let x := tile t s
    if (x.sleep = .awake ∨ x.sleep = .light) ∧ x.slices < 4 ∧ unitsOf cSlice (4 * t.val + x.slices) s ≠ 0 then
      updTile t (fun x => { x with slices := x.slices + 1 }) s
    else s)

/-- SPAR_CLOCK_STOP (R80): the engine of an idle role stops its clock; its entry is released. -/
def execSparClockStop (e : SparNo) (s : State) : Out :=
  .next (match s.life.spar[e.val]? with
    | none => s
    | some x => if x.power = .running ∧ s.life.nymyx then sparPower .stopped s e else s)

end Sys2Proof.Machine
end

