-- ==== Sys2Proof/Machine/Life.lean ====
section
/-!
DEFINITION. The commands of the contacts, the start, resets, warm starts, Spar migration and the stop (01, 03).
-/
namespace Sys2Proof.Machine

/-! ## Stored settings (R151 to R153, R584) -/

/-- The values the stored settings keep once every pending one is saved. -/
def savedStore (s : State) : Tab (List Byte) :=
  s.dict.pendSave.foldl (fun t k => match Tab.find k s.dict.vals with
    | some v => Tab.set k v t
    | none => Tab.erase k t) s.dict.stored

/-- Save every pending value to flash. -/
def saveSettings (s : State) : State :=
  { s with dict := { s.dict with stored := savedStore s, pendSave := [] }
           upd := { s.upd with settingsFmt := hdr (imageInForce s) 20 2 } }

/-- Objects kept in the Amber island (R567): anchors and their uses, the deny list, the tamper policy. -/
def islandObj (k : ObjKey) : Bool := [0x6005, 0x6006, 0x6007, 0x6008, 0x6011].contains (k / 256)

/-- One channel takes its optical settings without the effects of a change (R223, R242). -/
def takeOptic (c : Nat) (s : State) : State :=
  let b := cfgBytes 0x2005 (c + 1) s
  updOpt c (fun o => { o with pin := cfg 0x2000 (c + 1) s, enable := cfgB 0x2001 (c + 1) s, eqMode := cfg 0x2004 (c + 1) s,
                              taps := lanes.map (fun k => ⟨b.getD (2 * k) 0, b.getD (2 * k + 1) 0⟩) }) s

/-- Settings of bucket n of port c, from QUEUE_SHAPER or PORT_SHAPER: enabled, rate, burst (R489, R507); n as in
`bucket`. -/
def shaper (c n : Nat) (s : State) : Bool × Nat × Nat :=
  if n = 32 then
    let b := cfgBytes 0x4301 (c + 1) s
    ((b.getD 0 0).getLsbD 0, leNat ((b.drop 4).take 4), leNat ((b.drop 8).take 4))
  else
    let b := (cfgBytes 0x4300 (c + 1) s).drop (20 * (n % 16))
    let o := if 16 ≤ n then 12 else 4
    ((b.getD 0 0).getLsbD 0, leNat ((b.drop o).take 4), leNat ((b.drop (o + 4)).take 4))

/-- The buckets of a port: single or committed 0 to 15, peak 28 to 31, port 32. -/
def bucketNos : List Nat := List.range 16 ++ [28, 29, 30, 31, 32]

/-- At a cleared start every bucket takes its stored rate and burst, full and without debt (R489). -/
def freshBuckets (c : Nat) (s : State) : State :=
  bucketNos.foldl (fun s n => let x := shaper c n s; updBucket c n (fun _ => ⟨x.2.2 * 1024, 0, x.2.1, x.2.2, none, false, x.1, none⟩) s) s

/-- A stored gate list of an enabled port waits for stage 6 and a traceable domain (R502). -/
def storedGate (c : Nat) (s : State) : State :=
  if cfgB 0x4303 (c + 1) s then
    match gateListOf (cfgBytes 0x4304 (c + 1) s) with
    | some l => updGate c (fun g => { g with pend := [⟨l, false, true⟩] }) (gateNow c s)
    | none => gateNow c s
  else s

/-- The parts of the state that keep a setting in force beside the dictionary take it. -/
def takeSetting (s : State) (k : ObjKey) : State :=
  let c := k % 256 - 1
  match k / 256 with
  | 0x2000 => takeOptic c s
  | 0x2001 => takeOptic c s
  | 0x2004 => takeOptic c s
  | 0x2005 => takeOptic c s
  | 0x4300 => freshBuckets c s
  | 0x4301 => freshBuckets c s
  | 0x4303 => storedGate c s
  | 0x1110 => { s with dict := { s.dict with members := Tab.put 0 (k % 256 - 1) (BitVec.ofNat 192 (cfg 0x1110 (k % 256) s)) s.dict.members } }
  | 0x5007 => { s with regs := { s.regs with modeSticky := s.regs.modeSticky ||| (if cfgB 0x5007 (k % 256) s then BitVec.ofNat 16 (2 ^ c) else 0) } }
  | 0x7006 => updObs (fun o => { o with progSel := Tab.put 0 c (BitVec.ofNat 32 (cfg 0x7006 (k % 256) s)) o.progSel }) s
  | _ => s

/-- Everything a start takes from the settings in force (R107, R151, R216, R336, R345, R347, R489, R502). -/
def takeSettings (s : State) : State :=
  let s1 := (s.dict.vals.map (fun x => x.1)).foldl takeSetting s
  let s2 : State := { s1 with
    power := { s1.power with warnInForce := cfg 0x1301 0 s1 }
    life := { s1.life with mode := cfg 0x1400 0 s1 }
    gleno := { s1.gleno with masterTime := cfg 0x1202 0 s1, etherType := cfg 0x1206 0 s1 } }
  ovenCommit (ownerCommit 2 (ownerCommit 1 ((List.range 16).foldl (fun s k => slotCommit k s) s2)))

/-! ## What a start keeps (R93) -/

/-- An installed CA after a cleared start: CAK and CKN stay, nothing is live (R93, R563). -/
def Ca.cold (x : Ca) : Ca := { Ca.reset with ckn := x.ckn, cak := x.cak }

/-- The lasers and spares of an engine at a cleared start, from the committed records (R231, R235, R419). -/
def storedLasers (s : State) : State :=
  let s1 := s.cal.retired.foldl (fun s n => updEng (n / 8) (fun e => { e with lasers := setAt (n % 8) ⟨.retired, 0, 0xF060#16⟩ e.lasers }) s) s
  (List.range 48).foldl (fun s n =>
    let t := (Tab.get 0 (calKey 7 n) s.cal.stored).toNat
    if t = 0 then s else updEng (n / 2) (fun e => setSpare (4 * (n % 2)) { Spare.reset with target := t - 1, bound := true } e) s) s1

/-- Calibration at a cleared start: what the records hold; slewed quantities step to it (R308, R408, R418). -/
def Cal.cold (x : Cal) : Cal :=
  { Cal.reset with
    records := x.records, stored := x.stored, retired := x.retired, tapRec := x.tapRec, laneRec := x.laneRec, ageRec := x.ageRec
    raisedRec := x.raisedRec, ages := x.ageRec, raised := x.raisedRec, failures := x.failures, lanes := x.laneRec
    slews := (x.stored.filter (fun e => decide (1024 ≤ e.1 ∧ e.1 < 4096))).map (fun e => (e.1, ⟨e.2 * 1000000000, e.2 * 1000000000⟩)) }

/-- The event units at a cleared start: a valid record holds the table of a unit (R318, R418); DEDUCED, assumption 143. -/
def storedUnits (s : State) : Tab Eu :=
  s.cal.tapRec.map (fun r => (r.1, { Eu.reset with calValid := true, calTime := r.2.1, calWidest := r.2.2 }))

/-- The entries of the linked Gleno ports, which a start from the Spar stage keeps (R64, R105). -/
def keepPorts (old s : State) : State :=
  setEntry cGleno 0 1 (unitsOf cGleno 0 old) (setEntry cGleno 1 1 (unitsOf cGleno 1 old) s)

/-- The state a start with a cause begins from: what R93 keeps, and the settings in force for it. The inlet keeps
powered memory for every cause but 1 and 2; DESIGN CHOICE, assumption 24; DEDUCED, assumption 31; DESIGN CHOICE, assumption 43;
DESIGN CHOICE, assumption 141. -/
def clearFor (cause : Nat) (s : State) : State :=
  let warmMem := !(cause == 1 || cause == 2)
  let store := if s.dict.clearArmed then [] else s.dict.stored
  let force := if s.dict.clearArmed then [] else if warmMem then savedStore s else s.dict.stored
  let r := State.reset
  let base : State := { r with
    factory := s.factory, pins := { s.pins with outHeld := true, lockmonZero := true }
    life := { Life.reset with
      address := if cause = 6 then s.life.address else 0, latched := cause == 6 && s.life.latched
      regulators := warmMem, oven := .warming, laserQual := warmMem && s.life.laserQual
      spar := s.life.spar.map (fun e => if e.role = .failed then ⟨.failed, .off⟩ else if e.role = .retired then ⟨.retired, .off⟩ else ⟨.spare, .off⟩)
      retired := s.life.retired, thermalStops := s.life.thermalStops, resetCause := s.life.resetCause }
    power := { Power.reset with
      busMv := s.power.busMv, inlet10mA := s.power.inlet10mA, ledgerMv := s.power.ledgerMv
      derate := warmMem && cause != 6 && s.power.derate
      dipLog := s.power.dipLog, dipPending := s.power.dipPending, cellMv := s.power.cellMv, cellStatus := s.power.cellStatus }
    regs := { Regs.reset with assetTag := s.regs.assetTag }
    dict := { Dict.reset with
      vals := (s.dict.vals.filter (fun x => islandObj x.1)).foldl (fun t x => Tab.set x.1 x.2 t) force
      stored := store, pendSave := if warmMem && !s.dict.clearArmed then s.dict.pendSave else [] }
    gleno := if cause = 6 then { Gleno.reset with m0 := s.gleno.m0, m1 := s.gleno.m1, mark0 := s.gleno.mark0, mark1 := s.gleno.mark1 } else Gleno.reset
    obs := { Obs.reset with
      flash := s.obs.flash, nextSeq := s.obs.nextSeq
      events := if warmMem then s.obs.events else [], unwritten := if warmMem then s.obs.unwritten else 0 }
    vern := { Vernier.reset with eus := storedUnits s }
    refs := { Refs.reset with stored := s.refs.stored, steer := s.refs.stored }
    cal := Cal.cold s.cal
    trust := { s.trust with genReq := none, service := none, cas := s.trust.cas.map (fun x => (x.1, x.2.cold)) }
    upd := { s.upd with download := none, verifyReq := none, confirmReq := none, runs := none }
    wire := s.wire, now := s.now, started := s.now, draws := s.draws, pending := s.pending }
  takeSettings (storedLasers ((if cause = 6 then keepPorts s else id) (setEntry cOven 0 1 30 (setEntry cBase 0 1 60 base))))

/-- Enter RESET (R86): everything stops and is cleared as the cause gives; DEDUCED, assumption 26. -/
def intoReset (h : Hold) (cause : Nat) (s : State) : State :=
  let s1 := clearFor cause s
  contacts { s1 with life := { s1.life with state := .reset, hold := h, pendingCause := BitVec.ofNat 8 cause, regulators := s1.life.regulators && cause != 2 } }

/-- Enter STARTING with a cause (R86, R92, R107, R540); DEDUCED, assumption 44. -/
def beginStart (cause : BitVec 8) (since : Nat) (s : State) : State :=
  let s1 : State := { s with
    life := { s.life with state := .starting, hold := .none, resetCause := cause, pendingCause := 0 }
    pins := { s.pins with lockmonZero := false }, started := since }
  contacts (count 0x140A 2 (bumpCounter 1 s1))

/-! ## Inlet and reset (R40, R57, R58, R86) -/

/-- INLET_APPLIED (R46, R64, R86): the base entry is booked; a reversed inlet does nothing. -/
def execInletApplied (mv : BitVec 16) (reversed : Bool) (s : State) : Out :=
  .next (
    if reversed ∨ s.life.state ≠ .unpowered then s
    else
      let s1 := setEntry cOven 0 1 30 (setEntry cBase 0 1 60 s)
      { s1 with power := { s1.power with busMv := mv.toNat, ledgerMv := mv.toNat }, life := { s1.life with oven := .warming }, started := s1.now })

/-- START_PERMITTED (R57, R86): STARTING, or RESET while RESET_N is low; DESIGN CHOICE, assumption 9. -/
def execStartPermitted (mv : BitVec 16) (s : State) : Out :=
  .next (
    if s.life.state ≠ .unpowered ∨ unitsOf cBase 0 s = 0 ∨ mv.toNat < 40000 then s
    else
      let s1 := updPower (fun p => { p with busMv := mv.toNat, ledgerMv := mv.toNat }) s
      if s.pins.resetN then beginStart 1 s.started s1
      else contacts { s1 with life := { s1.life with state := .reset, hold := .powerOn, pendingCause := 1, regulators := true } })

/-- INLET_REMOVED (R83, R86): UNPOWERED; the island goes on from its cell. -/
def execInletRemoved (s : State) : Out :=
  .next (
    if s.life.state = .unpowered ∧ unitsOf cBase 0 s = 0 then s
    else
      let s1 := clearFor 1 s
      contacts { s1 with
        life := { s1.life with state := .unpowered, oven := .cold, regulators := false, laserQual := false }
        power := { s1.power with entries := [], busMv := 0, inlet10mA := 0, ledgerMv := 0 } })

/-- The states that a supply, RESET_N or over-voltage reset leaves (R86). -/
def canReset (s : State) : Bool :=
  match s.life.state with
  | .unpowered => false
  | .reset => false
  | _ => true

/-- RESET_N_ASSERTED (R40, R86): RESET_N has been low for 10 µs. -/
def execResetNAsserted (s : State) : Out :=
  let s1 : State := { s with pins := { s.pins with resetN := false } }
  .next (if canReset s1 then intoReset .none 3 s1 else s1)

/-- RESET_N_RELEASE (R40, R86): RESET_N rises after `ns`. A pulse of 1 to 10 µs that did not reset is logged. -/
def execResetNRelease (ns : Nat) (s : State) : Out :=
  .next (
    if s.pins.resetN then
      (if 1000 ≤ ns ∧ ns < 10000 ∧ s.life.state ≠ .unpowered then logInfo .rejectedResetPulse noInst s else s)
    else
      let s1 : State := { s with pins := { s.pins with resetN := true } }
      if s1.life.state = .reset ∧ (s1.life.hold = .none ∨ s1.life.hold = .powerOn) then beginStart s1.life.pendingCause s1.now s1 else s1)

/-- RESET_END (R86): the cause is removed at the inlet voltage `mv`; while RESET_N is low the module stays in RESET. -/
def execResetEnd (mv : BitVec 16) (s : State) : Out :=
  .next (
    let ok := match s.life.hold with
      | .supply => decide (40000 ≤ mv.toNat)
      | .overVoltage => decide (mv.toNat < 60000)
      | .timed => true
      | _ => false
    if s.life.state ≠ .reset ∨ !ok then s
    else
      let s1 := updPower (fun p => { p with busMv := mv.toNat, ledgerMv := mv.toNat }) s
      if s.pins.resetN then beginStart s.life.pendingCause (if s.life.hold = .supply then s.now - 10000000 else s.now) s1
      else updLife (fun l => { l with hold := .none }) s1)

/-- SUPPLY_RESET (R58, R79, R86): below 33.0 V; a level 4 in progress leaves its record, of `lowest` and `below`, for the
next start. The regulators are off, whatever else holds a RESET; DESIGN CHOICE, assumption 27. -/
def execSupplyReset (lowest below : BitVec 16) (s : State) : Out :=
  .next (
    if s.life.state = .unpowered then s
    else
      let d := if s.power.level = 4 then s.power.dipPending.map (fun d => { d with lowest := lowest.toNat, below := below.toNat }) else none
      let s1 := updPower (fun p => { p with dipPending := d, busMv := lowest.toNat }) (if s.power.level = 4 then dipPop s else s)
      intoReset .supply 2 s1)

/-- OVER_VOLTAGE_ALARM (R58): above 60.0 V for 1 ms. -/
def execOverVoltageAlarm (mv : BitVec 16) (s : State) : Out :=
  .next (if s.life.state = .unpowered ∨ mv.toNat ≤ 60000 then s else raise .overVoltage noInst (updPower (fun p => { p with busMv := mv.toNat }) s))

/-- OVER_VOLTAGE_STOP (R58, R86): 64.0 V; RESET with the regulators running. -/
def execOverVoltageStop (mv : BitVec 16) (s : State) : Out :=
  let s1 := updPower (fun p => { p with busMv := mv.toNat }) s
  .next (
    if mv.toNat < 64000 then s
    else if canReset s then intoReset .overVoltage 4 (raise .overVoltageStop noInst s1)
    else if s.life.state = .reset ∧ s.life.hold ≠ .supply then updLife (fun l => { l with hold := .overVoltage }) s1
    else s1)

/-! ## The cold start (R35, R36, R87 to R91) -/

/-- Failed engines are tested: one that passes returns to the spare pool, one that fails is retired (R101). -/
def testEngines (pass : BitVec 16) (s : State) : State :=
  (List.range 16).foldl (fun s e => match s.life.spar[e]? with
    | some x =>
      if x.role ≠ .failed then s
      else if pass.getLsbD e then updLife (fun l => { l with spar := setAt e ⟨.spare, .off⟩ l.spar }) s
      else updLife (fun l => { l with spar := setAt e ⟨.retired, .off⟩ l.spar, retired := l.retired ||| BitVec.ofNat 16 (2 ^ e) }) s
    | none => s) s

/-- The time base starts (R87, R90, R107, R289): both domains take the island's seconds while its clock is valid; stage 0
is timed back from this instant; the core and the output MDLL acquire. -/
def startTimeBase (s : State) : State :=
  let sec := if s.trust.clockOk then islandClock s / 32768 else 0
  let c : Counter := ⟨sec * lsbPerSec, 0⟩
  let tb : TimeBase := { TimeBase.reset with
    running := true, a := { DomainState.reset with counter := c }, b := { DomainState.reset with counter := c }
    p := c.lsb, mastOk := true, juryOk := true, lockLow := s.tb.lockLow, lockHigh := s.tb.lockHigh }
  let back := (s.now - s.started) * 655360
  let t0 := if back ≤ c.lsb then timeOf (c.lsb - back) else Time96.zero
  let s1 := updLife (fun l => { l with regulators := true, startTimes := setAt 0 t0 l.startTimes })
    { s with tb := tb, gleno := { s.gleno with m0 := s.gleno.m0.train, m1 := s.gleno.m1.train } }
  reachStage 1 (mdllStart 25 false (mdllStart 24 false s1))

/-- REGULATORS_VALID (R85, R87, R90, R101, R577): `pass` is what the tests of failed engines show, `vA`, `vR`, `vS` the
verdicts of the boot ROM on the three regions, `lapsed` whether the cell lost the island. -/
def execRegulatorsValid (pass : BitVec 16) (vA vR vS : Fin 9) (lapsed : Bool) (s : State) : Out :=
  .next (
    if s.life.state ≠ .starting ∨ s.tb.running then s
    else
      let s1 := if lapsed then tamper 6 (updTrust (fun t => { t with clockOk := false }) (updPower (fun p => { p with cellStatus := 2 }) s)) else s
      bootRom vA vR vS (startTimeBase (testEngines pass s1)))

/-- The module enters STRAP FAULT (R36, R201). -/
def strapFault (s : State) : State :=
  let s1 : State := { s with gleno := { s.gleno with state := .silent } }
  contacts (raise .strapFault noInst (holdOutputs { s1 with life := { s1.life with state := .strapFault } }))

/-- ADDRESS_LATCHED (R35, R36): sixteen agreeing samples; address 0 or 1 is a strap fault. -/
def execAddressLatched (s : State) : Out :=
  .next (
    if s.life.state ≠ .starting ∨ !s.life.regulators ∨ s.life.latched then s
    else if s.pins.straps.toNat < 2 then strapFault s
    else updLife (fun l => { l with address := s.pins.straps, latched := true }) s)

/-- STRAP_FAULT (R36). -/
def execStrapFault (s : State) : Out :=
  .next (if s.life.state = .starting ∧ s.life.regulators ∧ !s.life.latched then strapFault s else s)

/-- STRAP_CHANGE (R37): the levels change; the latched address does not; DEDUCED, assumption 46. -/
def execStrapChange (straps : BitVec 5) (s : State) : Out :=
  let s1 : State := { s with pins := { s.pins with straps := straps } }
  .next (if s.life.latched ∧ straps ≠ s.pins.straps then raise .strapChange noInst s1 else s1)

/-- The roles in the order of their engines (R97). -/
def roleOrder : List SparRole :=
  [.boot, .gleno, .reef, .servo, .servo, .halyard, .halyard, .halyard, .cal, .pair, .tables, .tables, .channels, .obs]

/-- Roles go to the engines in order, a failed or retired engine skipped (R97). -/
def placeRoles : List SparRole → List SparEngine → List SparEngine
  | _, [] => []
  | rs, e :: es =>
    if e.role = .failed ∨ e.role = .retired then { e with power := .off } :: placeRoles rs es
    else match rs with
      | [] => ⟨.spare, .off⟩ :: placeRoles [] es
      | r :: t => ⟨r, .running⟩ :: placeRoles t es

/-- Book every Spar engine as its clock runs (R64). -/
def bookSpars (s : State) : State :=
  (List.range 16).foldl (fun s e => setEntry cSpar e 1 (match s.life.spar[e]? with
    | some x => if x.power = .running then 3 else 0
    | none => 0) s) s

/-- The engines that hold a role. -/
def enginesOf (r : SparRole) (s : State) : List Nat :=
  (List.range 16).filter (fun e => match s.life.spar[e]? with
    | some x => x.role == r
    | none => false)

/-- Assign the roles (R97). -/
def assignRoles (s : State) : State :=
  let s1 := bookSpars (updLife (fun l => { l with spar := placeRoles roleOrder l.spar, migrating := [] }) s)
  { s1 with ptp := { s1.ptp with engines := enginesOf .halyard s1 } }

/-- Free engines left: spare and not the target of a migration. -/
def freeEngines (s : State) : List Nat :=
  (enginesOf .spare s).filter (fun e => !s.life.migrating.any (fun m => m.target == e))

/-- The settings of an image of another format are set aside, or its own come back (R584). -/
def formatCheck (s : State) : State :=
  let f := hdr (imageInForce s) 20 2
  if f = s.upd.settingsFmt then s
  else
    let old := (s.upd.settingsFmt, s.dict.stored)
    let isl := s.dict.vals.filter (fun x => islandObj x.1)
    match s.upd.preserved with
    | some (g, t) =>
      if g = f then
        takeSettings { s with dict := { s.dict with stored := t, vals := isl.foldl (fun a x => Tab.set x.1 x.2 a) t, pendSave := [] }
                              upd := { s.upd with settingsFmt := f, preserved := none, settingsReset := false } }
      else s
    | none =>
      raise .settingsReset noInst (takeSettings { s with dict := { s.dict with stored := [], vals := isl, pendSave := [] }
                                                         upd := { s.upd with settingsFmt := f, preserved := some old, settingsReset := true } })

/-- Alarms that the start owes: tamper events, failed verifications, conditions whose cause still stands (R85, R101,
R542, R543, R578, R605). -/
def owedAlarms (s : State) : State :=
  let s1 := s.trust.owed.foldl (fun s a => raise a noInst s) s
  let s2 := updTrust (fun t => { t with owed := [] }) s1
  let s3 := s2.upd.failures.foldl (fun s n => raise .updateFailed n (logInfo .updateInfo n s)) s2
  let s4 := updUpd (fun u => { u with failures := [], since := s.now, clean := true }) s3
  let s5 := if s4.power.cellStatus = 1 then raise .cellLow noInst s4 else if s4.power.cellStatus = 2 then raise .watchLapsed noInst s4 else s4
  let s6 := if s5.trust.lock ∧ !standing .tamperLock noInst s5 then raise .tamperLock noInst s5 else s5
  let s7 := if s6.trust.entropy then raise .entropy noInst s6 else s6
  let s8 := if s7.upd.state = 5 then raise .reserveInvalid noInst s7 else s7
  let s9 := if (freeEngines s8).length < 2 then raise .sparesLow noInst s8 else s8
  if s9.power.derate then raise .dieWarning noInst s9 else s9

/-- What the factory record puts in the place of a lost record, by its kind and instance (R418). -/
def factoryValues (kind n : Nat) (s : State) : State :=
  let un (k : Nat) (s : State) : State := { s with cal := { s.cal with stored := Tab.erase (calKey k n) s.cal.stored } }
  match kind with
  | 1 => updUnit n (fun e => { e with calValid := false }) { s with cal := { s.cal with tapRec := Tab.erase n s.cal.tapRec } }
  | 2 => updLane n (fun _ => LaneCal.reset) (stepSlew 1 n 0 (un 0 (un 1 { s with cal := { s.cal with laneRec := Tab.erase n s.cal.laneRec } })))
  | 3 => stepSlew 2 n 0 (un 2 s)
  | 4 => stepSlew 3 n 0 (un 3 s)
  | 6 => { s with cal := { s.cal with retired := s.cal.retired.filter (fun x => x != n) } }
  | 7 => un 7 s
  | 8 => { s with cal := { s.cal with raised := Tab.erase n s.cal.raised, raisedRec := Tab.erase n s.cal.raisedRec } }
  | _ => let k := calKey (kind - 9) n
    { s with cal := { s.cal with ages := Tab.erase k s.cal.ages, ageRec := Tab.erase k s.cal.ageRec } }

/-- A record that neither bank holds: the factory record applies, the history restarts, an alarm is raised (R418). -/
def loseRecord (s : State) (k : Nat) : State :=
  raise .recordLost k (factoryValues (k / 1024) (k % 1024) { s with cal := { s.cal with records := Tab.erase k s.cal.records } })

/-- The records whose FORMAT the image in force does not read, which are not valid (R418); DEDUCED, assumption 145. -/
def unreadable (s : State) : List Nat :=
  (s.cal.records.filter (fun r => decide (r.2.fmt < oldestFormat s) || decide (hdr (imageInForce s) 22 1 < r.2.fmt))).map (fun r => r.1)

/-- NYMYX_STARTED (R79, R87, R97, R101, R201, R418, R545, R584): stage 3. `lost` are the keys of the calibration records
that neither bank holds. -/
def execNymyxStarted (lost : List Nat) (s : State) : Out :=
  .next (
    if s.life.state ≠ .starting ∨ s.life.nymyx ∨ !s.tb.running ∨ s.upd.runs.isNone then s
    else
      let s1 := formatCheck (assignRoles (updLife (fun l => { l with nymyx := true }) s))
      let s2 := reachStage 3 s1
      let s3 : State := { s2 with gleno := { s2.gleno with state := if s2.gleno.state = .off ∧ s2.life.latched ∧ portTrained s2 then .listen else s2.gleno.state } }
      let s4 := match s3.power.dipPending with
        | some d => dipRecord d (updPower (fun p => { p with dipPending := none }) s3)
        | none => s3
      let s5 := contacts (owedAlarms ((lost ++ (unreadable s4).filter (fun k => !lost.contains k)).foldl loseRecord s4))
      if s5.trust.state = 3 then beginStop s5 else s5)

/-- START_DEADLINE_MISSED (R87): a stage of the start misses its deadline; DESIGN CHOICE, assumption 28. -/
def execStartDeadlineMissed (stage : Fin 8) (s : State) : Out :=
  .next (if starting s ∧ s.life.stage < stage.val then raise .startDeadline stage.val s else s)

/-- OVEN_WARM (R91): warm-up ends with its entry. -/
def execOvenWarm (s : State) : Out :=
  .next (if s.life.oven = .warming then setEntry cOven 0 2 6 (updLife (fun l => { l with oven := .steady }) s) else s)

/-- STAGE_7_REACHED (R87, R88): the oven is warm and every channel of every lit engine is up or timed out; DEDUCED, assumption 29. -/
def execStage7Reached (s : State) : Out :=
  .next (if starting s ∧ s.life.oven = .steady ∧ s.tb.running then
    updLife (fun l => { l with state := .running }) (reachStage 7 s) else s)

/-! ## Lasers (R38, R39, R89) -/

/-- Every laser off, with what its loss brings to every channel (R38, R350). -/
def lightsOut (s : State) : State := (List.range 192).foldl (fun s1 c => settleChan c s s1) (lasersOff s)

/-- LASER_EN_FALL (R38). -/
def execLaserEnFall (s : State) : Out :=
  let s1 : State := { s with pins := { s.pins with laserEn := false }, life := { s.life with laserQual := false } }
  .next (lightsOut s1)

/-- LASER_EN_QUALIFIED (R39): high for 10 ms without interruption. -/
def execLaserEnQualified (s : State) : Out :=
  .next { s with pins := { s.pins with laserEn := true }, life := { s.life with laserQual := s.life.state != .unpowered } }

/-- LASER_RELEASE (R89, R107): it acts in start mode 1 alone. -/
def execLaserRelease (q : Req) (v : Bool) (s : State) : Out :=
  .next (roleRequest .operator q (fun _ s => Res.of (if v ∧ s.life.mode = 1 then updLife (fun l => { l with released := true }) s else s) 0) s)

/-- STAGING_INSTANT (R39, R89): S plus the address delay; the bank of engine 0 is requested. -/
def execStagingInstant (s : State) : Out :=
  .next (
    let ok := (s.life.state = .starting ∨ s.life.state = .running) ∧ s.life.nymyx ∧ roleRuns .reef s ∧ s.life.laserQual
      ∧ (s.life.mode = 0 ∨ (s.life.mode = 1 ∧ s.life.released)) ∧ !s.life.staging
    if ok then requestNext (updLife (fun l => { l with staging := true, nextEngine := 0 }) (if starting s then reachStage 6 s else s)) else s)

/-! ## Temperature, coolant, cell (R49, R84, R86, R105) -/

/-- REVERSED_FLOW (R49). -/
def execReversedFlow (s : State) : Out := .next (if s.life.state = .unpowered ∨ s.life.state = .reset then s else raise .reversedFlow noInst s)

/-- Every tile in deep sleep (R102, R105). -/
def tilesDown (s : State) : State :=
  (List.range 24).foldl (fun s t => if (tile t s).sleep = .deep ∧ unitsOf cTile t s = 0 then s else deepSleep t s) s

/-- Every queued frame is discarded, the overflow store closed (R105). -/
def dropFrames (s : State) : State :=
  let s1 := setEntry cOvf 0 0 0 { s with sw := { s.sw with fab := [], queues := [], ovf := { s.sw.ovf with st := if s.sw.ovf.st = .failed then .failed else .closed, tails := [] } } }
  { s1 with egr := { s1.egr with deficit := [], tx := [] } }

/-- THERMAL_STOP (R86, R105): lasers off, tiles down, frames discarded, outputs at 0 V; no handover; DEDUCED, assumption 35. -/
def execThermalStop (s : State) : Out :=
  .next (
    if s.life.state = .starting ∨ s.life.state = .running ∨ s.life.state = .restarting ∨ s.life.state = .stopping then
      let s1 := abandonHandover s
      let s2 := updLife (fun l => { l with state := .thermalStop, shutStep := 0, stopStatus := 0, stopReq := none, staging := false
                                           thermalStops := s.now :: l.thermalStops.filter (fun t => decide (s.now < t + 8640000000000)) }) s1
      let s3 := holdOutputs (tilesDown (dropFrames (lightsOut (discardRuns 0x24 (fun _ => true) s2))))
      contacts (updPower (fun p => { p with waiting := [] }) s3)
    else s)

/-- THERMAL_RECOVERY (R86, R88, R92): a start from the Spar stage, with the boot ROM's verdicts as at REGULATORS_VALID; or
STOPPED after three stops in 24 h. -/
def execThermalRecovery (pass : BitVec 16) (vA vR vS : Fin 9) (s : State) : Out :=
  .next (
    if s.life.state ≠ .thermalStop then s
    else
      let n := (s.life.thermalStops.filter (fun t => decide (s.now < t + 8640000000000))).length
      if 3 ≤ n then raise .thermalRepeat noInst (updLife (fun l => { l with state := .stopped, stopStatus := 2 }) s)
      else
        let s1 := startTimeBase (testEngines pass (beginStart 6 s.now (clearFor 6 s)))
        bootRom vA vR vS (reachStage 2 s1))

/-- CELL_TEST (R84): below 2,700 mV the cell is low. -/
def execCellTest (mv : BitVec 16) (s : State) : Out :=
  let s1 := updPower (fun p => { p with cellMv := mv.toNat }) s
  .next (
    if s.life.state = .unpowered then s
    else if mv.toNat < 2700 then
      let s2 := updPower (fun p => { p with cellStatus := 1 }) s1
      if standing .cellLow noInst s2 then s2 else raise .cellLow noInst s2
    else if s.power.cellStatus = 1 then endAlarm .cellLow noInst (updPower (fun p => { p with cellStatus := 0 }) s1)
    else s1)

/-! ## Warm starts (R92, R94 to R96, R107, R558, R582) -/

/-- A session loses what R95 and R165 discard: staged values and an open transfer of a download; its scheduled commits
are recorded with 0x0701. -/
def warmSession (s : State) (n : Nat) : State :=
  let mine := s.commits.scheduled.filter (fun c => c.sess == n)
  let recs := mine.map (fun c => (⟨c.requested, Time96.zero, c.mask, 0x0701#16, 0#16, 0#8, 0#16, c.pairNo⟩ : CommitRec))
  updSession n (fun e => { e with staged := [], recGen := [], results := (recs.reverse ++ e.results).take 8 }) s

/-- Enter RESTARTING, or begin the warm start again (R86, R95); DEDUCED, assumption 32. -/
def warmStart (cause : BitVec 8) (s : State) : State :=
  let s1 := abortDownload (endSampling 4 (discardRuns 0x24 (fun _ => true) (abandonHandover s)))
  let s2 := (s1.gleno.sessions.map (fun x => x.1)).foldl warmSession s1
  let s3 : State := { s2 with
    commits := { s2.commits with scheduled := [], exchange := none, scopeEx := none, mateCommit := none,
                                   pairState := if s2.commits.pairState = 1 then 0 else s2.commits.pairState }
    power := { s2.power with waiting := s2.power.waiting.filter (fun w => match w.what with
      | .sparMigration _ => false
      | _ => true) }
    upd := { s2.upd with clean := false }
    life := { s2.life with fromState := if s2.life.state = .restarting then s2.life.fromState else s2.life.state, state := .restarting, restartCause := cause } }
  settlePorts (List.range 192) (count 0x140A 1 s3)

/-- A cold restart by the host, or from STOPPED (R86, R92). -/
def coldRestart (s : State) : State := intoReset .timed 5 s

/-- Status of a RESTART write (R107). -/
def restartStatus (v : Nat) (s : State) : Status :=
  if v ≠ 1 ∧ v ≠ 2 then 0x0301#16
  else match s.life.state with
    | .running => 0
    | .starting => if v = 2 then 0 else 0x0401#16
    | .stopped => 0
    | _ => 0x0401#16

/-- What an accepted RESTART does. The answer is on its way before the module resets. -/
def restartAct (q : Req) (v : Nat) (s : State) : State :=
  if s.life.state = .running ∧ v = 1 then warmStart 7 s
  else coldRestart (emit .slotFrame q.sess [q.id.toNat, 0] s)

/-- RESTART of a value (R107); DESIGN CHOICE, assumption 45. -/
def restart (q : Req) (v : Nat) (s : State) : State := requestThen .operator q 0 (restartStatus v) (restartAct q v) s

/-- RESTART_WARM (R107): value 1. -/
def execRestartWarm (q : Req) (s : State) : Out := .next (restart q 1 s)

/-- RESTART_COLD (R107): value 2, or either value in STOPPED. -/
def execRestartCold (q : Req) (v : BitVec 8) (s : State) : Out := .next (restart q v.toNat s)

/-- UPDATE_ARM_RESTART (R576): arm, then restart cold. -/
def execUpdateArmRestart (q : Req) (s : State) : Out :=
  .next (
    let ok (s : State) : Status := if (s.life.state ≠ .running ∧ s.life.state ≠ .starting ∧ s.life.state ≠ .stopped) then 0x0401#16 else (armRes s).code
    requestThen .custodian q 0 ok (fun s => coldRestart (emit .slotFrame q.sess [q.id.toNat, 0] (armRes s).st)) s)

/-- NYMYX_FATAL_FAULT (R86, R582): on probation it counts as an unconfirmed start; the fourth resets with cause 8; DEDUCED, assumption 33. -/
def execNymyxFatalFault (s : State) : Out :=
  .next (
    let ok := (s.life.state = .starting ∧ 3 ≤ s.life.stage) ∨ s.life.state = .running ∨ s.life.state = .stopping ∨ s.life.state = .restarting
    if ¬ ok then s
    else if s.upd.state = 4 then
      (if 3 ≤ s.upd.starts then intoReset .timed 8 s
       else warmStart 8 (writeRecord (updUpd (fun u => { u with starts := u.starts + 1 }) s)))
    else warmStart 8 s)

/-- The events of the hardware buffer enter the working ring (R607). -/
def drainWarm (s : State) : State := (s.obs.warmBuf).foldl (fun s e => pushEvent e s) (updObs (fun o => { o with warmBuf := [] }) s)

/-- Whether every role has an engine. -/
def rolesPlaced (s : State) : Bool := roleOrder.all (fun r => decide ((roleOrder.filter (fun x => x == r)).length ≤ (enginesOf r s).length)) && s.life.migrating.isEmpty

/-- WARM_START_COMPLETE (R86, R92, R558): the module returns to the state it came from; `v` is the verdict on the image,
whose failure resets with cause 9. -/
def execWarmStartComplete (v : Fin 9) (s : State) : Out :=
  .next (
    if s.life.state ≠ .restarting then s
    else if verifyImage (imageInForce s) v s ≠ 0 then intoReset .timed 9 s
    else
      let s1 := updLife (fun l => { l with state := l.fromState, resetCause := l.restartCause }) s
      let s2 := if rolesPlaced s1 then s1 else assignRoles s1
      settlePorts (List.range 192) (drainWarm s2))

/-- WARM_START_TIMEOUT (R96): 5 s after the first entry. -/
def execWarmStartTimeout (s : State) : Out := .next (if s.life.state = .restarting then intoReset .timed 9 s else s)

/-! ## The orderly stop (R102 to R104) -/

/-- Status of a STOP write (R102). -/
def stopStatus (v : Nat) (s : State) : Status :=
  match s.life.state with
  | .running => if v = 1 ∧ ownsOutputs s then (if handoverOk s then 0x0402#16 else 0x0801#16) else 0
  | .stopping => 0
  | .stopped => 0
  | _ => 0x0401#16

/-- An accepted STOP. -/
def stopAct (q : Req) (v : Nat) (s : State) : State :=
  if s.life.state ≠ .running then s
  else if v = 1 ∧ ownsOutputs s then
    startHandover (some q) true (updLife (fun l => { l with state := .stopping, stopStatus := 1, shutStep := 2, stopReq := some q }) s)
  else beginStop s

/-- STOP of a value. -/
def stop (q : Req) (v : Nat) (s : State) : State :=
  let st := stopStatus v s
  requestThen .operator q (if st = 0x0402#16 then st else 0) (stopStatus v) (stopAct q v) s

/-- STOP_ORDERLY (R102). -/
def execStopOrderly (q : Req) (s : State) : Out := .next (stop q 1 s)

/-- STOP_NO_HANDOVER (R102). -/
def execStopNoHandover (q : Req) (s : State) : Out := .next (stop q 2 s)

/-- SHUTDOWN_FLUSH_TIMEOUT (R102): 1 s after step 5 began; what was not written is lost. -/
def execShutdownFlushTimeout (s : State) : Out :=
  .next (if s.life.state = .stopping ∧ s.life.shutStep = 5 then updLife (fun l => { l with shutStep := 6 }) s else s)

/-- The writes of step 5: records, settings and the event log, where a repair grant allows. -/
def flushAll (s : State) : State :=
  if s.power.level = 4 ∨ !fits .repair 4 s then s
  else flushEvents (saveSettings (s.cal.waiting.foldl (fun s w => commitRec w s) s))

/-- Step 6: lasers off, outputs at 0 V, every engine but those of three roles stopped, tiles in deep sleep. -/
def shutDown (s : State) : State :=
  let s1 := holdOutputs (tilesDown (dropFrames (lightsOut s)))
  let s2 := (List.range 16).foldl (fun s e => match s.life.spar[e]? with
    | some x => if x.power = .running ∧ x.role ≠ .boot ∧ x.role ≠ .gleno ∧ x.role ≠ .reef then sparPower .stopped s e else s
    | none => s) s1
  updPower (fun p => { p with waiting := [] }) (updLife (fun l => { l with state := .stopped, stopStatus := 2, shutStep := 0, staging := false }) s2)

/-- SHUTDOWN_COMPLETE (R102, R104): the queues are empty, the writes done or given up. -/
def execShutdownComplete (s : State) : Out :=
  .next (
    if s.life.state ≠ .stopping ∨ s.life.shutStep < 4 ∨ !queuesEmpty s then s
    else shutDown (if s.life.shutStep = 6 then s else flushAll (updLife (fun l => { l with shutStep := 5 }) s)))

/-! ## Spar migration (R98 to R101) -/

/-- What the failure of an engine does to its role until it is resumed (R99, R574, R610). -/
def roleLost (r : SparRole) (s : State) : State :=
  match r with
  | .cal => discardRuns 0x24 (fun _ => true) s
  | .obs => endSampling 5 s
  | .boot => abortDownload s
  | .tables => (s.gleno.sessions.map (fun x => x.1)).foldl (fun s n =>
      updSession n (fun e => { e with staged := e.staged.filter (fun v => !([0x4000, 0x4100, 0x4407].contains (v.key / 256))) }) s) s
  | .halyard => settlePorts (List.range 192) s
  | .servo => s
  | _ => s

/-- The engine of a role that gives way when no spare is free (R100). -/
def giveWay (r : SparRole) (s : State) : Option Nat :=
  if r ≠ .obs ∧ (enginesOf .obs s) ≠ [] then (enginesOf .obs s).head?
  else if r ≠ .cal ∧ (enginesOf .cal s) ≠ [] then (enginesOf .cal s).head? else none

/-- SPAR_ENGINE_FAILURE (R98 to R100); DEDUCED, assumption 34; DEDUCED, assumption 39. -/
def execSparEngineFailure (e : SparNo) (s : State) : Out :=
  .next (match s.life.spar[e.val]? with
    | none => s
    | some x =>
      if x.power = .off ∨ x.role = .spare ∨ x.role = .failed ∨ x.role = .retired ∨ !s.life.nymyx ∨ s.life.state = .restarting then s
      else
        let s1 := setEntry cSpar e 0 0 (updLife (fun l => { l with spar := setAt e ⟨.failed, .off⟩ l.spar }) s)
        match freeEngines s1 with
        | t :: _ =>
          let hw := x.role == .reef
          let s2 := updLife (fun l => { l with migrating := l.migrating ++ [⟨x.role, e.val, t, hw⟩] }) s1
          if hw then roleLost x.role (setEntry cSpar t 1 3 s2)
          else presentAsk (.sparMigration e) (roleLost x.role (updPower (fun p => { p with waiting := p.waiting ++ [⟨.repair, .sparMigration e, 3⟩] }) s2))
        | [] => match giveWay x.role s1 with
          | some t =>
            let r := (s1.life.spar.getD t ⟨.spare, .off⟩).role
            let s2 := raise .roleStopped t (roleLost r s1)
            roleLost x.role (updLife (fun l => { l with spar := setAt t ⟨.spare, .running⟩ l.spar, migrating := l.migrating ++ [⟨x.role, e.val, t, true⟩] }) s2)
          | none => warmStart 8 (raise .sparExhausted e.val s1))

/-- ROLE_MIGRATION_RESUMED (R98): the role of failed engine `e` resumes on its new engine. -/
def execRoleMigrationResumed (e : SparNo) (s : State) : Out :=
  .next (match s.life.migrating.find? (fun m => m.failedE == e.val) with
    | none => s
    | some m =>
      if !m.granted then s
      else
        let s1 := updLife (fun l => { l with spar := setAt m.target ⟨m.role, .running⟩ l.spar
                                             migrating := l.migrating.filter (fun x => x.failedE != e.val) }) s
        let s2 := logInfo .migration m.target (count 0x140A 3 s1)
        settlePorts (List.range 192) { s2 with ptp := { s2.ptp with engines := s2.ptp.engines.map (fun x => if x = e.val then m.target else x) } })

end Sys2Proof.Machine
end

