-- ==== Sys2Proof/Machine/ObjOps.lean ====
section
/-!
DEFINITION. What the values of the dictionary do: the consistency rules of each commit set (step 4 of R162), what each
value takes with it as it comes into force (R164), and the draw of a new state (05, and the set tables of 07 to 18).
-/
namespace Sys2Proof.Machine

/-! ## Values -/

/-- Put a value in force, and to be saved where it is stored (R151, R152). -/
def putObj (k : ObjKey) (v : List Byte) (s : State) : State :=
  markStored (k / 256) (k % 256) (setVal (k / 256) (k % 256) v s)

/-- Put staged values in force, without their effects. -/
def putAll (l : List Staged) (s : State) : State := l.foldl (fun s v => putObj v.key v.value s) s

/-- A register write changed the field behind an object: every staged value of it is marked (R137); DEDUCED, assumption 110. -/
def touchStaged (k : ObjKey) (s : State) : State :=
  { s with gleno := { s.gleno with sessions := s.gleno.sessions.map (fun x =>
      (x.1, { x.2 with staged := x.2.staged.map (fun v => if v.key = k then { v with touched := true } else v) })) } }

/-- The staged transactions of an object in subindex order (R447). -/
def txnsOf (idx : Nat) (l : List Staged) : List (Nat × List Byte) :=
  (List.range 9).filterMap (fun n => (l.find? (fun v => v.key == key idx n)).map (fun v => (n, v.value)))

/-- The epoch that the commit of these transactions makes DRAINING entries wait in (R453). -/
def txnEpoch (l : List Staged) (s : State) : Nat :=
  if frees (txnsOf 0x4000 l) then (s.fwd.epoch + 1) % 8 else s.fwd.epoch

/-- The tables that the staged transactions of sets 8, 9 and 12 leave, or the object, subindex, operation and reason
that fails (R449, R521). -/
def txnTables (l : List Staged) (s : State) : Tables × Option (Nat × Nat × Nat × Nat) :=
  let e := txnEpoch l s
  let ext := extRefs s
  match checkTxns 8 e ext (txnsOf 0x4000 l) s.fwd.tables with
  | (t, some f) => (t, some (0x4000, f))
  | (t8, none) => match checkTxns 9 e ext (txnsOf 0x4100 l) t8 with
    | (t, some f) => (t, some (0x4100, f))
    | (t9, none) => match checkTxns 12 e ext (txnsOf 0x4407 l) t9 with
      | (t, some f) => (t, some (0x4407, f))
      | (t12, none) => (t12, none)

/-! ## Consistency rules (step 4 of R162); the state has every staged value in force -/

/-- The slot of the reference that a path has selected runs on a channel (R269). -/
def selectedOn (c : Nat) (s : State) : Bool :=
  [0, 1, 2].any (fun n => match (path n s).slot with
    | some k => slotChan k s == some c
    | none => false)

/-- A set of thresholds is in strictly increasing order (R241). -/
def thresholdsOk (b : List Byte) : Bool :=
  let v (i : Nat) : Int := signedOf 2 (leNat ((b.drop (2 * i)).take 2))
  decide (v 0 < v 1) && decide (v 1 < v 2) && decide (v 2 < v 3)

/-- An event unit's configuration (R311, R322). -/
def euFault (u : Nat) (s : State) : Status :=
  let bad (n : Nat) : Bool := decide (n < 4) && cfg 0x3105 (n + 1) s == 0
  if 12 ≤ euStart u s ∨ 12 ≤ euStop u s then 0x0301#16
  else if euMode u s ≠ 0 ∧ (bad (euStart u s) ∨ bad (euStop u s)) then 0x0811#16 else 0

/-- The kinds that the slot table allows (R324, R326). -/
def slotKindOk (k : Nat) (s : State) : Bool :=
  if k < 4 then (slotKind k s == 0 && cfg 0x3105 (k + 1) s == 1) || (slotKind k s == 1 && cfg 0x3105 (k + 1) s == 2)
  else slotKind k s != 1

/-- A mate slot's detector names its shroud receive lane (R326). -/
def mateRoveOk (k : Nat) (s : State) : Bool :=
  let r := roveSrc (200 + k) s
  bit r 15 && bit r 4 == (k == 5)

/-- The slots and the alignment inputs of set 5 (R326). -/
def refFault (s : State) : Bool :=
  let on := (List.range 16).filter (fun k => slotOn k s)
  let chans := (on.filter (fun k => decide (6 ≤ k))).filterMap (fun k => slotChan k s)
  on.any (fun k => !slotKindOk k s || ((k == 4 || k == 5) && !mateRoveOk k s))
    || chans.any (fun c => decide (1 < (chans.filter (fun d => d == c)).length))
    || [1, 2, 3, 4].any (fun n => cfg 0x3222 n s != 0
        && (cfg 0x3105 (cfg 0x3222 n s) s != 2 || !(cfg 0x321C n s == 1 || cfg 0x321C n s == 2)))

/-- The values of an output, each where its mode uses it (R351). -/
def outFault (n : Nat) (s : State) : Bool :=
  let b := cfgBytes 0x321D n s
  let f := leNat (b.take 2)
  let d := leNat (b.drop 2)
  match cfg 0x321C n s with
  | 1 => decide (1000000000 ≤ cfg 0x321F n s)
  | 2 => 1000000000 % cfg 0x321E n s != 0 || decide (cfg 0x321E n s ≤ cfg 0x321F n s)
  | 3 => 100000000 * f % d != 0 || decide (100000000 * f / d < 1000000) || decide (500000000 < 100000000 * f / d)
  | _ => false

/-- The telecom intervals and the transparent-clock domains (R371, R395). -/
def ptpFault (s : State) : Bool :=
  [1, 2, 3, 4].any (fun n => cfg 0x330C n s == cfg 0x3301 2 s) || cfgI 1 0x3303 2 s != -4 || cfgI 1 0x3304 2 s != -3

/-- A buffer profile (R471). -/
def profileFault (p : Nat) (s : State) : Bool :=
  let b := cfgBytes 0x4202 (p + 1) s
  decide ((b.getD 81 0).toNat < (b.getD 82 0).toNat)
    || (List.range 16).any (fun q => (b.getD (64 + q) 0) != 0 && decide ((b.getD (64 + q) 0).toNat ≤ (b.getD 80 0).toNat))

/-- A mirror session is inconsistent (R481), against the tables that the commit leaves. -/
def mirrorFault (n : Nat) (t : Tables) (s : State) : Bool :=
  let b := mirrorCfg n s
  let tr := leNat ((b.drop 2).take 2)
  decide (15 < (b.getD 1 0).toNat) || !(tr == 0 || (decide (64 ≤ tr) && decide (tr ≤ 10240))) || leNat ((b.drop 8).take 2) == 0
    || ((b.getD 0 0).getLsbD 0 && (row (leNat ((b.drop 4).take 4)) t.nh).st != .live)

/-- The shapers of a port (R495). -/
def shaperFault (c : Nat) (s : State) : Bool :=
  (List.range 12).any (fun q => (shaper c (16 + q) s).2.1 != 0 || (shaper c (16 + q) s).2.2 != 0)
    || [12, 13, 14, 15].any (fun q => (shaper c q s).1 && decide ((shaper c (16 + q) s).2.1 < (shaper c q s).2.1))

/-- The shroud channels (R535). -/
def shroudFault (s : State) : Bool :=
  let a := cfg 0x4401 1 s
  let b := cfg 0x4401 2 s
  let x := (List.range 192).filterMap (fun c => let n := cfg 0x4009 (c + 1) s
    if (row n s.fwd.tables.nh).st = .live then some (field (row n s.fwd.tables.nh).bits 254 247) else none)
  (a != 255 && a == b) || (a != 255 && x.contains a) || (b != 255 && x.contains b)

/-- Anchors and deny list (R553). -/
def trustFault (s : State) : Bool :=
  [1, 2, 3, 4, 5, 6, 7, 8].any (fun i => let a := cfgBytes 0x6006 i s; (!a.isEmpty && !Config.anchorOk a) || !([0, 1, 2, 0x10, 0xFF].contains (cfg 0x6007 i s)))
    || (cfgBytes 0x6008 0 s).length % 48 != 0
    || (s.trust.state == 1 && !([1, 2, 3, 4, 5, 6, 7, 8].any (fun i => cfg 0x6007 i s == 2 && !(cfgBytes 0x6006 i s).isEmpty)))

/-- An LDevID chain cannot be installed (R549). -/
def ldevFault (chain : List Byte) (s : State) : Bool :=
  !s.trust.pendKey || !Config.leafIsPending chain s.trust.csr || !chainMeets chain 0x10 s

/-- Why a staged value fails, with every staged value in force in `s`; `t` are the tables that the commit leaves. -/
def valueFault (k : ObjKey) (t : Tables) (s : State) : Status :=
  let n := k % 256
  let c := n - 1
  match k / 256 with
  | 0x2005 => let b := cfgBytes 0x2005 n s
    if lanes.all (fun l => tapsOk (b.getD (2 * l) 0) (b.getD (2 * l + 1) 0)) then 0 else 0x0301#16
  | 0x2008 => if thresholdsOk (cfgBytes 0x2008 n s) then 0 else 0x0301#16
  | 0x2103 => if cfg 0x2104 n s < cfg 0x2103 n s then 0 else 0x0301#16
  | 0x2104 => if cfg 0x2104 n s < cfg 0x2103 n s then 0 else 0x0301#16
  | 0x2108 => if cfg 0x2108 n s ≠ 0 ∧ selectedOn c s then 0x080F#16 else 0
  | 0x2109 => if cfg 0x2109 n s ≠ 0 ∧ selectedOn c s then 0x080F#16
    else if (cod c s).peerFam = 2 ∧ 1 < cfg 0x2109 n s then 0x0301#16 else 0
  | 0x3105 => if [0, 1, 2, 3].all (fun u => euFault u s == 0) then 0 else 0x0811#16
  | 0x3108 => if 3 ≤ n then 0x0811#16 else 0
  | 0x310B => euFault c s
  | 0x3217 => if cfgB 0x3217 n s ∧ !s.refs.ready then 0x0813#16 else 0
  | 0x4207 => if mirrorFault c t s then 0x081A#16 else 0
  | 0x4202 => if profileFault c s then 0x081A#16 else 0
  | 0x4300 => if shaperFault c s then 0x081B#16 else 0
  | 0x4303 => if cfgB 0x4303 n s ∧ (cfgBytes 0x4304 n s).isEmpty then 0x081B#16 else 0
  | 0x4304 => if (gateListOf (cfgBytes 0x4304 n s)).isNone then 0x081B#16 else 0
  | 0x6005 => if ldevFault (cfgBytes 0x6005 0 s) s then 0x081F#16 else 0
  | i =>
    if i / 256 = 0x32 then
      (if refFault s then 0x0812#16 else if [1, 2, 3, 4].any (fun m => outFault m s) then 0x0301#16 else 0)
    else if i / 256 = 0x33 then (if ptpFault s then 0x0815#16 else 0)
    else if i / 256 = 0x44 then (if shroudFault s then 0x081E#16 else 0)
    else if i / 256 = 0x60 then (if trustFault s then 0x081F#16 else 0)
    else 0

/-- What failed in a check: the status, the failing value, and what TXN_FAIL then holds. -/
structure Failed where
  code : Status
  idx  : Nat
  sub  : Nat
  txn  : Option (Nat × Nat × Nat)

/-- A staged transaction fails (R449), or would advance into an occupied epoch (R453). -/
def txnFault (l : List Staged) (s : State) : Option Failed :=
  match (txnTables l s).2 with
  | some (o, k, n, r) => some ⟨if r = 4 then 0x0818#16 else 0x0819#16, o, k, some (k, n, r)⟩
  | none =>
    if frees (txnsOf 0x4000 l) ∧ occupancy (txnEpoch l s) s ≠ 0 then some ⟨0x0818#16, 0x4000, 0, none⟩ else none

/-- DEST_NH of a mirror session that is enabled. -/
def mirrorNh (n : Nat) (s : State) : Option Nat :=
  let b := mirrorCfg n s
  if (b.getD 0 0).getLsbD 0 then some (leNat ((b.drop 4).take 4)) else none

/-- While a commit of set 8 is scheduled the next hops that mirror sessions name do not change (R450). -/
def mirrorHeld (l : List Staged) (old s : State) : Option Failed :=
  if setScheduled 8 old then
    (l.find? (fun v => v.key / 256 == 0x4207 && mirrorNh (v.key % 256 - 1) s != mirrorNh (v.key % 256 - 1) old)).map
      (fun v => ⟨0x0401#16, 0x4207, v.key % 256, none⟩)
  else none

/-- Step 4 of R162: the first failure of the staged values, checked together. -/
def setsFault (l : List Staged) (old : State) : Option Failed :=
  let s := putAll l old
  let t := (txnTables l s).1
  match (l.find? (fun v => valueFault v.key t s != 0)) with
  | some v => some ⟨valueFault v.key t s, v.key / 256, v.key % 256, none⟩
  | none => match txnFault l s with
    | some f => some f
    | none => mirrorHeld l old s

/-! ## Effects (R164) -/

/-- BAND_PIN of a channel comes into force (R226); DESIGN CHOICE, assumption 58. -/
def takePin (c : Nat) (s : State) : State :=
  let p := cfg 0x2000 (c + 1) s
  let other := match (opt c s).bandState, (opt c s).band with
    | .resolved, .lower => p == 2
    | .resolved, .upper => p == 1
    | .beacon, _ => p == 2
    | .answer, _ => p == 1
    | _, _ => false
  if other then updAsym c (fun _ => Asym.reset) (toListen c (portsDown c (unwait (.bringUp c) (chanTo c 0 s))))
  else if (opt c s).bandState = .listen then updOpt c (fun o => { o with pin := p }) s
  else s

/-- TX_ENABLE of a channel comes into force (R223). -/
def takeEnable (c : Nat) (s : State) : State :=
  let e := cfgB 0x2001 (c + 1) s
  let s1 := updOpt c (fun o => { o with enable := e }) s
  match (opt c s).bandState with
  | .dark => if e && ((eng (c / 8) s).bank == .lit || (eng (c / 8) s).bank == .brace) then toListen c s1 else s1
  | .disabled => if e then toListen c s1 else s1
  | _ =>
    if e then s1
    else
      let s2 := updAsym c (fun _ => Asym.reset) (portsDown c (unwait (.bringUp c) (chanTo c 0 s1)))
      updOpt c (fun o => { o with bandState := .disabled, band := .none, lanesLit := 0 }) s2

/-- EQ_MODE or TX_EQ of a channel comes into force (R238): fixed taps apply as a step, adapted taps stay until the next
bring-up. -/
def takeEq (c : Nat) (s : State) : State :=
  let b := cfgBytes 0x2005 (c + 1) s
  updOpt c (fun o =>
    let m := cfg 0x2004 (c + 1) s
    { o with eqMode := m
             taps := if m = 1 then lanes.map (fun k => ⟨b.getD (2 * k) 0, b.getD (2 * k + 1) 0⟩)
                     else if m = 2 then setAt 0 ⟨0, 0xFA#8⟩ o.taps else o.taps }) s

/-- A detector's source or lifter changes (R303, R320). -/
def takeDet (d : Nat) (s : State) : State := updDet d (fun x => { x with lastPulse := none }) (detLost d s)

/-- EU_CONFIG of a unit comes into force: a unit whose mode changes, or that is off, is not armed; DESIGN CHOICE, assumption 124. -/
def takeEu (u : Nat) (old s : State) : State :=
  if euMode u old = euMode u s then s
  else updEu u (fun e => { e with armed := false, start := none, heldStop := none, stops := [] }) s

/-- The buckets of a port get their committed settings (R490). -/
def takeShapers (c : Nat) (s : State) : State :=
  bucketNos.foldl (fun s n => let x := shaper c n s; updBucket c n (Bucket.take x.1 x.2.1 x.2.2) s) s

/-- GATE_ENABLE and GATE_LIST of a port (R500, R501): `at_` is the commit instant in 2^-16 ns of domain A, `list` says
that a list is among the values; DESIGN CHOICE, assumption 92. -/
def takeGate (c : Nat) (at_ : Nat) (list : Bool) (old s : State) : State :=
  if cfgB 0x4303 (c + 1) s then
    if list || !cfgB 0x4303 (c + 1) old then
      match gateListOf (cfgBytes 0x4304 (c + 1) s) with
      | some l => gateNow c (gateCommit c l at_ false s)
      | none => s
    else s
  else if cfgB 0x4303 (c + 1) old then gateNow c (updGate c (fun g => { g with oper := none, pend := [] }) s)
  else s

/-- PAIR_ENABLE comes into force (R510). -/
def takePairEnable (old s : State) : State :=
  if cfgB 0x4400 0 s = cfgB 0x4400 0 old then s
  else if cfgB 0x4400 0 s then (if 4 ≤ s.life.stage ∧ !sideB s then openPair s else s)
  else roleSettle (unpair { s with gleno := { s.gleno with handshakes := s.gleno.handshakes.filter (fun h => !h.pair) } })

/-- SHROUD_CHANNEL of a link comes into force: the link is down until the new channel brings it up; the PTP ports of both channels and the
due sets follow (R513, R514). -/
def takeShroud (j : Nat) (old s : State) : State :=
  if cfg 0x4401 (j + 1) s = cfg 0x4401 (j + 1) old then s
  else
    let s1 := takeDet (204 + j) (updLink j (fun _ => ShroudLink.reset) s)
    let s2 := { s1 with cal := { s1.cal with due := s1.cal.due.filter (fun d => !(d.kind == 2 && (shroudLink d.inst s).isSome)) } }
    [cfg 0x4401 (j + 1) old, cfg 0x4401 (j + 1) s].foldl (fun s c => if c < 192 then enablePort c 1 (enablePort c 0 s) else s) s2

/-- The ledger entry of a tile's MACsec unit (R561). -/
def takeMacsec (t : Nat) (s : State) : State :=
  let on := (engChans t).any (fun c => macPolicy c s != 0)
  if on then (if unitsOf cMacsec t s = 0 then (if s.power.level = 4 then setEntry cMacsec t 2 1 s else setEntry cMacsec t 1 4 s) else s)
  else setEntry cMacsec t 0 0 s

/-- The pending LDevID key becomes active (R549). -/
def takeLdev (s : State) : State :=
  { s with trust := { s.trust with ldevid := true, ldevChain := cfgBytes 0x6005 0 s, pendKey := false, csr := [] } }

/-- What a committed value takes with it, where that is not judged for its whole set; `at_` is the commit instant. -/
def valueEffect (at_ : Nat) (l : List Staged) (old : State) (s : State) (k : ObjKey) : State :=
  let n := k % 256
  let c := n - 1
  match k / 256 with
  | 0x2000 => takePin c s
  | 0x2001 => takeEnable c s
  | 0x2004 => takeEq c s
  | 0x2005 => takeEq c s
  | 0x2108 => loopSettle c s
  | 0x2109 => loopSettle c s
  | 0x210A => if cfg 0x2109 n s ≠ 0 then loopSettle c s else s
  | 0x3105 => takeDet (192 + c) s
  | 0x3106 => takeDet (192 + c) s
  | 0x3107 => takeDet (192 + c) s
  | 0x3108 => takeDet (204 + c) s
  | 0x310B => takeEu c old s
  | 0x4204 => ovfSettle s
  | 0x4300 => takeShapers c s
  | 0x4301 => takeShapers c s
  | 0x4303 => takeGate c at_ (l.any (fun v => v.key == key 0x4304 n)) old s
  | 0x4304 => if l.any (fun v => v.key == key 0x4303 n) then s else takeGate c at_ true old s
  | 0x4306 => gateNow c s
  | 0x4400 => takePairEnable old s
  | 0x4401 => takeShroud c old s
  | 0x6005 => takeLdev s
  | 0x6015 => takeMacsec (c / 8) s
  | _ => s

/-- The tables, meters and streams after the transactions of a commit (R448, R450, R453, R458, R521). -/
def applyTables (l : List Staged) (s : State) : State :=
  let t := (txnTables l s).1
  let t0 := s.fwd.tables
  let s1 : State := { s with fwd := { s.fwd with tables := t, epoch := txnEpoch l s } }
  let ms := ((opsOf (txnsOf 0x4100 l)).map (fun o => o.idx)).eraseDups
  let ss := ((opsOf (txnsOf 0x4407 l)).map (fun o => o.idx)).eraseDups
  let s2 := ms.foldl (fun s i => meterApply i (Tab.get MeterCfg.reset i t0.meters) (Tab.get MeterCfg.reset i t.meters) s) s1
  ss.foldl (fun s i => streamApply i (Tab.get 0 i t0.streams) (Tab.get 0 i t.streams) s) s2

/-- The first commit that leaves an anchor of custodian use claims the module; sessions that the anchors no longer
permit close (R552, R553). -/
def trustCommit (s : State) : State :=
  let cust := [1, 2, 3, 4, 5, 6, 7, 8].any (fun i => cfg 0x6007 i s == 2 && !(cfgBytes 0x6006 i s).isEmpty)
  let s1 := if s.trust.state = 0 ∧ cust then count 0x601D 3 (bumpCounter 4 { s with trust := { s.trust with state := 1 } }) else s
  if s1.trust.state = 1 then recheckSessions s1 else s1

/-- What the sets of a commit take with them as wholes. -/
def setEffect (s : State) (n : Nat) : State :=
  match n with
  | 3 => judgeP s
  | 5 => refsCommit s
  | 6 => ptpCommit s
  | 12 => roleSettle s
  | 13 => trustCommit s
  | _ => s

/-- Every value of a commit takes effect on one edge (R164); `at_` is the commit instant in 2^-16 ns. -/
def applyValues (at_ : Nat) (sets : List Nat) (l : List Staged) (s : State) : State :=
  let s1 := putAll l s
  let s2 := if sets.any (fun n => n == 8 || n == 9 || n == 12) then applyTables l s1 else s1
  sets.foldl setEffect ((l.map (fun v => v.key)).foldl (valueEffect at_ l s) s2)

/-! ## Draw (step 5 of R162, R68) -/

/-- The units that the staged values of sets 2 and 13 add to the booked total. -/
def drawOf (l : List Staged) (s : State) : Nat :=
  let l2 := l.filter (fun v => [0x2108, 0x2109, 0x6015].contains (v.key / 256))
  booked ((l2.map (fun v => v.key)).foldl (valueEffect 0 l2 s) (putAll l2 s)) - booked s

/-- A commit's draw is granted (R162, R68): it fits as a traffic request; PRBS and MACsec, which the host starts, also
need level 0. -/
def drawOk (l : List Staged) (s : State) : Bool :=
  let u := drawOf l s
  let host := l.any (fun v => (v.key / 256 == 0x2109 || v.key / 256 == 0x6015) && leNat v.value != 0)
  u == 0 || (reefRuns s && s.power.level != 4 && fits .traffic u s && (!host || s.power.level == 0))

end Sys2Proof.Machine
end

