-- ==== Sys2Proof/Machine/Registers.lean ====
section
/-!
DEFINITION. The register space (04, and the field maps of 07 to 12, 17 and 20): block map, reads, writes, posted writes,
guards, wide values, windows, block transfers, and the commands of the register window.
-/
namespace Sys2Proof.Machine

/-! ## The block map (R108, R110, R111) -/

/-- The blocks of R110; `bcast` is the all-channel window, `group` a channel group window. -/
inductive Blk where
  | identity | power | timeBase | vernier | refs | tsu | counters | channel | gleno | shroud | bcast | group
deriving DecidableEq, Repr

/-- A register address taken apart: its block, the base and number of the instance, the offset within it. -/
structure Place where
  blk  : Blk
  base : Nat
  inst : Nat
  off  : Nat

/-- Place an address of an array or window of n instances of a size. -/
def inArray (b : Blk) (base size n a : Nat) : Option Place :=
  let i := (a - base) / size
  if i < n then some ⟨b, base + i * size, i, (a - base) % size⟩ else none

/-- The block of an address (R110); none outside the blocks or off a multiple of 4 (R108). -/
def locate (a : Nat) : Option Place :=
  if a % 4 ≠ 0 then none
  else match a / 65536 with
    | 0 => some ⟨.identity, 0, 0, a⟩
    | 1 => some ⟨.power, 0x10000, 0, a - 0x10000⟩
    | 2 => some ⟨.timeBase, 0x20000, 0, a - 0x20000⟩
    | 3 => some ⟨.vernier, 0x30000, 0, a - 0x30000⟩
    | 4 => some ⟨.refs, 0x40000, 0, a - 0x40000⟩
    | 5 => inArray .tsu 0x50000 0x800 24 a
    | 6 => some ⟨.counters, 0x60000, 0, a - 0x60000⟩
    | 8 => inArray .channel 0x80000 0x200 192 a
    | 9 => inArray .channel 0x80000 0x200 192 a
    | 10 => some ⟨.gleno, 0xA0000, 0, a - 0xA0000⟩
    | 11 => some ⟨.shroud, 0xB0000, 0, a - 0xB0000⟩
    | 14 => inArray .bcast 0xE0000 0x200 1 a
    | 15 => inArray .group 0xF0000 0x200 16 a
    | _ => none

/-- The block code of R110. -/
def Blk.code : Blk → Nat
  | .identity => 0x0100 | .power => 0x0101 | .timeBase => 0x0102 | .vernier => 0x0103 | .refs => 0x0104 | .tsu => 0x0150
  | .counters => 0x0106 | .channel => 0x0180 | .gleno => 0x010A | .shroud => 0x010B | .bcast => 0x01E0 | .group => 0x01F0

/-- An offset lies in none of the reserved ranges of its block (R111, R140, R243, R296, R320, R356, R394, R534, R612). No
field map is given for the power and Gleno blocks: they hold the header alone. -/
def implemented (p : Place) : Bool :=
  let o := p.off
  if o < 0x10 then o != 0xC
  else match p.blk with
    | .identity => decide (o < 0x40)
    | .power => false
    | .gleno => false
    | .timeBase => decide (o < 0x140)
    | .vernier => !(o == 0x1C || (decide (0x2C ≤ o) && decide (o < 0x100)) || (decide (0xE40 ≤ o) && decide (o < 0x1000))
        || (decide (0x1340 ≤ o) && decide (o < 0x2000)) || (decide (0x2000 ≤ o) && decide (0x2C ≤ o % 256)) || decide (0x2400 ≤ o))
    | .refs => !(o == 0x1C || (decide (0x2C ≤ o) && decide (o < 0x40)) || (decide (0x80 ≤ o) && decide (8 ≤ o % 16)) || decide (0xC0 ≤ o))
    | .tsu => decide (o < 0x240)
    | .counters => !(o == 0x1C || o == 0x2C || (decide (0x3C ≤ o) && decide (o < 0x400)) || (decide (0xA00 ≤ o) && decide (o < 0x1000))
        || decide (0x9000 ≤ o))
    | .shroud => !(o == 0x1C || o == 0x2C || o == 0x3C || decide (0x48 ≤ o))
    | .channel => !((o == 0x70 || o == 0x74) && p.inst % 4 != 0)
    | .bcast => true
    | .group => true

/-- How the writable registers take a write. -/
inductive WKind where
  | plain                  -- RW and WO fields (R114)
  | masked                 -- RWM (R117)
  | posted                 -- PW (R118)
  | upper                  -- an upper word of a wide RW value (R124)
  | low (words : Nat)      -- its low word
deriving DecidableEq, Repr

/-- How a register takes a write, and whether it holds a guarded field; none where all its fields are RO or RC (R108, R126). -/
def writable (b : Blk) (o : Nat) : Option (WKind × Bool) :=
  match b with
  | .identity => if o = 0x20 then some (.masked, false) else if 0x30 ≤ o ∧ o < 0x40 then some (.posted, true) else none
  | .timeBase =>
    if o = 0x10 ∨ o = 0x138 then some (.plain, true)
    else if o = 0x80 ∨ o = 0x90 then some (.low 3, true)
    else if o = 0xA0 ∨ o = 0xA8 then some (.low 2, true)
    else if [0x84, 0x88, 0x94, 0x98, 0xA4, 0xAC].contains o then some (.upper, false)
    else if [0xB0, 0xB4, 0xB8, 0xBC].contains o then some (.plain, false) else none
  | .vernier =>
    if (0xE00 ≤ o ∧ o < 0xE34) ∨ (0x1000 ≤ o ∧ o < 0x1340) ∨ (0x2000 ≤ o ∧ o % 256 < 12) then some (.plain, false) else none
  | .refs => if o = 0x20 then some (.posted, false) else none
  | .tsu => if o = 0x10 then some (.plain, true) else if 0x40 ≤ o ∧ o % 64 < 16 then some (.plain, false) else none
  | .counters => if 0x800 ≤ o ∧ o < 0xA00 then some (.plain, false) else none
  | .shroud => if o = 0x10 then some (.plain, true) else none
  | .channel =>
    if o = 0x10 ∨ (0x20 ≤ o ∧ o < 0x30) ∨ o = 0x40 then some (.posted, false)
    else if o = 0x64 then some (.posted, true)
    else if o = 0x100 then some (.plain, false) else if o = 0x104 then some (.plain, true) else none
  | _ => none

/-! ## Blocks and guards (R111, R119, R126 to R129) -/

/-- The block, instance or window at a base. -/
def blockOf (base : Nat) (s : State) : Block := Tab.get Block.reset base s.regs.blocks

/-- Change it. -/
def updBlock (base : Nat) (f : Block → Block) (s : State) : State :=
  { s with regs := { s.regs with blocks := Tab.upd Block.reset base f s.regs.blocks } }

/-- The guard mode in force of a block: sticky lock, else key re-arm (R126). -/
def sticky (base : Nat) (s : State) : Bool := s.regs.modeSticky.getLsbD (base / 65536)

/-- The guard of a block allows a session a write to a guarded field (R126 to R128). -/
def guardAllows (base sess : Nat) (s : State) : Bool :=
  let b := blockOf base s
  !b.locked && (sticky base s || b.open_ == some sess)

/-- The guard closes after the write it allowed (R127); a REG_BLOCK transfer closes it at its end. -/
def guardUsed (base : Nat) (hold : Bool) (s : State) : State :=
  if hold then s else updBlock base (fun b => { b with open_ := none }) s

/-- A guarded write is refused: VIOLATION, counted (R129). -/
def refuseGuarded (base : Nat) (s : State) : State := count 0x5009 1 (updBlock base (fun b => { b with violation := true }) s)

/-- The instance number of a block in an alarm: its base in units of 0x200. -/
def blockNo (base : Nat) : Nat := base / 512

/-- A write to GUARD (R126 to R128). -/
def guardWrite (base sess : Nat) (v : Word) (s : State) : Res :=
  let b := blockOf base s
  if v = 0xC1E7#32 then
    if b.locked then Res.of s 0x0202#16
    else Res.of (updBlock base (fun b => { b with open_ := if sticky base s then b.open_ else some sess, wrongRun := 0, wrongAlm := false }) s) 0
  else if v = 0x5A1C#32 then Res.of (updBlock base (fun b => { b with locked := true, open_ := none }) s) 0
  else
    let s1 := count 0x5009 2 (updBlock base (fun b => { b with open_ := if b.open_ = some sess then none else b.open_, wrongRun := b.wrongRun + 1 }) s)
    if 4 ≤ b.wrongRun + 1 ∧ !b.wrongAlm then Res.of (raise .wrongKeys (blockNo base) (updBlock base (fun b => { b with wrongAlm := true }) s1)) 0
    else Res.of s1 0

/-- GUARD as a session reads it (R129). -/
def guardRead (base sess : Nat) (s : State) : Nat :=
  let b := blockOf base s
  min b.wrongRun 15 * 16 + b2n (b.open_ == some sess) * 4 + b2n b.locked * 2 + b2n (sticky base s)

/-- The element behind a block has its fast clock stopped (R115). -/
def asleep (p : Place) (s : State) : Bool :=
  let off (t : Nat) : Bool := (tile t s).sleep == .deep || (tile t s).sleep == .light
  match p.blk with
  | .tsu => off p.inst
  | .channel => off (p.inst / 8)
  | _ => false

/-- BLK_STATUS of a single block or instance (R111). -/
def statusRead (p : Place) (s : State) : Nat :=
  let b := blockOf p.base s
  b.posted.length * 256 + b2n b.postFail * 8 + b2n b.violation * 4 + b2n (asleep p s) * 2 + b2n (!b.posted.isEmpty)

/-! ## Fields in their places -/

/-- Word i of a number. -/
def wordOf (i n : Nat) : Word := BitVec.ofNat 32 (n / 2 ^ (32 * i))

/-- A TIME96 value as one number, least significant part first (R122). -/
def time96 (t : Time96) : Nat := t.frac.toNat + t.ns.toNat * 2 ^ 16 + t.sec.toNat * 2 ^ 48

/-- Word i of a signed 64-bit value. -/
def word64 (i : Nat) (v : Int) : Word := wordOf i (BitVec.ofInt 64 v).toNat

/-- A signed field of w bits. -/
def sfield (w : Nat) (v : Int) : Nat := (BitVec.ofInt w v).toNat

/-- Microseconds since the last cleared start (R140). -/
def uptime (s : State) : Nat := (s.now - s.started) / 100

/-- RC bits held as events of a register (R121). -/
def rcWord (a : Nat) (s : State) : Nat := (Tab.get 0 a s.regs.rc).toNat

/-! ## Live values (RO, RW and RC fields of the field maps) -/

/-- LINKj_STATE (R534). -/
def linkState (j : Nat) (s : State) : Nat :=
  if (link j s).miscabled then 3 else if linkUp j s then 2
  else if (linkChan j s).any (fun c => (cod c s).stage == 6) then 1 else 0

/-- Fields of the identity block (R140). -/
def identityVal (o : Nat) (s : State) : Word :=
  match o with
  | 0x10 => BitVec.ofNat 32 (0x3072 * 65536 + perVariant 1 2 s * 256 + s.factory.stepping.toNat)
  | 0x14 => wordOf 0 s.factory.serial.toNat
  | 0x18 => wordOf 1 s.factory.serial.toNat
  | 0x1C => releaseInForce s
  | 0x20 => Tab.get 0 0x20 s.regs.words
  | 0x24 => wordOf 0 (uptime s)
  | 0x28 => wordOf 1 (uptime s)
  | 0x30 => wordOf 0 s.regs.assetTag.toNat
  | 0x34 => wordOf 1 s.regs.assetTag.toNat
  | 0x38 => wordOf 2 s.regs.assetTag.toNat
  | 0x3C => wordOf 3 s.regs.assetTag.toNat
  | _ => 0

/-- Codes of MDLL states and sources (R296). -/
def MdllSt.code : MdllSt → Nat
  | .off => 0 | .acquiring => 1 | .hold => 2 | .locked => 3 | .failed => 4
def ClkSource.code : ClkSource → Nat
  | .mdll => 0 | .jury => 1 | .gated => 2

/-- CLOCK_STATUS, offset 0x014 of the time base block (R296). -/
def clockStatus (s : State) : Nat :=
  s.tb.b.epoch.toNat % 16 * 4096 + s.tb.a.epoch.toNat % 16 * 256 + b2n s.tb.juryOk * 128 + b2n s.tb.mastOk * 64
    + b2n (s.pins.outHeld || !s.tb.configured) * 32 + b2n (decide (4 ≤ (outOffset s).natAbs)) * 16 + b2n s.tb.b.traceable * 2 + b2n s.tb.a.traceable

/-- Fields of the time base block (R296). -/
def timeBaseVal (o : Nat) (s : State) : Word :=
  let t := s.tb
  let w (base : Nat) (x : Time96) : Word := wordOf ((o - base) / 4) (time96 x)
  if o = 0x10 then BitVec.ofNat 32 (cfg 0x3008 0 s % 2 * 32)
  else if o = 0x14 then BitVec.ofNat 32 (clockStatus s)
  else if o = 0x18 then Tab.get 0 0x20018 s.regs.rc
  else if 0x20 ≤ o ∧ o < 0x2C then w 0x20 (timeA s)
  else if 0x30 ≤ o ∧ o < 0x3C then w 0x30 (timeOf t.b.counter.lsb)
  else if 0x40 ≤ o ∧ o < 0x4C then w 0x40 (timeOut s)
  else if 0x50 ≤ o ∧ o < 0x5C then w 0x50 t.capA
  else if 0x60 ≤ o ∧ o < 0x6C then w 0x60 t.capB
  else if 0x70 ≤ o ∧ o < 0x7C then w 0x70 t.capOut
  else if 0x80 ≤ o ∧ o < 0x8C then w 0x80 t.a.setLast
  else if 0x90 ≤ o ∧ o < 0x9C then w 0x90 t.b.setLast
  else if o = 0xA0 ∨ o = 0xA4 then wordOf ((o - 0xA0) / 4) t.a.adjLast.toNat
  else if o = 0xA8 ∨ o = 0xAC then wordOf ((o - 0xA8) / 4) t.b.adjLast.toNat
  else if o = 0xB0 then BitVec.ofInt 32 t.a.rate
  else if o = 0xB4 then BitVec.ofInt 32 t.b.rate
  else if o = 0xB8 then BitVec.ofNat 32 (cfg 0x3009 0 s)
  else if o = 0xBC then BitVec.ofNat 32 (cfg 0x300A 0 s)
  else if o = 0xC0 ∨ o = 0xC4 then word64 ((o - 0xC0) / 4) (outOffset s)
  else if 0xD0 ≤ o ∧ o < 0x138 then
    let m := mdll ((o - 0xD0) / 4) s
    let f := m.freqErr.toInt
    BitVec.ofNat 32 (sfield 12 (max (-2047) (min 2047 f)) * 256 + m.source.code * 8 + m.st.code)
  else if o = 0x13C then BitVec.ofNat 32 t.lockmonMv
  else 0

/-- DET_STATUS [8:0], the flags register of detector d (R320). -/
def detFlagsReg (d : Nat) (s : State) : Nat :=
  let x := det d s
  b2n x.irregular * 256 + b2n x.srcChange * 128 + b2n x.outRange * 64 + b2n x.noSource * 32 + b2n x.slip * 16 + x.lane % 4 * 4 + b2n x.valid

/-- The configuration register of event unit u (R320). -/
def euReg (u : Nat) (s : State) : Nat :=
  b2n (bit (euFlags u s) 1) * 2048 + b2n (bit (euFlags u s) 0) * 1024 + euMode u s % 4 * 256 + euStop u s % 16 * 16 + euStart u s % 16

/-- A popped record as its words at 0x10 to 0x28 of the unit's group (R320). -/
def euWord (o : Nat) (r : EuRec) : Word :=
  match o with
  | 0x10 => word64 0 r.interval
  | 0x14 => word64 1 r.interval
  | 0x18 => BitVec.ofNat 32 (r.seq.toNat * 65536 + r.epoch.toNat * 256 + r.flags.toNat)
  | 0x20 => wordOf 0 (time96 r.start)
  | 0x24 => wordOf 1 (time96 r.start)
  | 0x28 => wordOf 2 (time96 r.start)
  | _ => 0

/-- What a pop of an empty queue leaves (R320). -/
def EuRec.empty : EuRec := ⟨0, Time96.zero, 0, 0, 0⟩

/-- Fields of the vernier block (R320). -/
def vernierVal (o : Nat) (s : State) : Word :=
  if o = 0x10 then BitVec.ofNat 32 (b2n s.vern.helperLocked * 2)
  else if o = 0x14 then s.vern.beatNumber
  else if o = 0x18 then Tab.get 0 0x30018 s.regs.rc
  else if 0x20 ≤ o ∧ o < 0x2C then wordOf ((o - 0x20) / 4) (time96 s.vern.beatTime)
  else if 0x100 ≤ o ∧ o < 0xE00 then
    let d := (o - 0x100) / 16
    match o % 16 with
    | 0 => word64 0 (phase d s)
    | 4 => word64 1 (phase d s)
    | 8 => BitVec.ofNat 32 ((det d s).seq.toNat * 65536 + (det d s).m % 16384)
    | _ => BitVec.ofNat 32 (detFlagsReg d s)
  else if 0xE00 ≤ o ∧ o < 0xE10 then
    let n := (o - 0xE00) / 4 + 1
    BitVec.ofNat 32 (cfg 0x3105 n s * 16 + cfg 0x3106 n s)
  else if 0xE10 ≤ o ∧ o < 0xE20 then
    let b := cfgBytes 0x3107 ((o - 0xE10) / 4 + 1) s
    BitVec.ofNat 32 ((leNat (b.take 2) - 1) * 65536 + (leNat (b.drop 2) - 1))
  else if 0xE20 ≤ o ∧ o < 0xE30 then BitVec.ofNat 32 (cfg 0x3108 ((o - 0xE20) / 4 + 1) s)
  else if o = 0xE30 then BitVec.ofNat 32 (cfg 0x3104 0 s)
  else if 0x1000 ≤ o ∧ o < 0x1340 then BitVec.ofInt 32 (detDelay ((o - 0x1000) / 4) s)
  else if 0x2000 ≤ o then
    let u := (o - 0x2000) / 256
    let e := eu u s
    let b := cfgBytes 0x310B (u + 1) s
    match o % 256 with
    | 0x00 => BitVec.ofNat 32 (euReg u s)
    | 0x04 => BitVec.ofNat 32 (leNat ((b.drop 4).take 4))
    | 0x08 => BitVec.ofNat 32 (leNat ((b.drop 8).take 4))
    | 0x0C => BitVec.ofNat 32 (e.queue.length * 2 ^ 24 + b2n e.calValid * 128 + b2n e.calRunning * 64 + b2n e.clockLost * 32
        + b2n e.overflow * 16 + b2n e.missed * 8 + b2n e.armed * 4)
    | _ => euWord (o % 256) (e.queue.headD EuRec.empty)
  else 0

/-- SLOT_STATUS, the register of slot k (R356). -/
def slotStatus (k : Nat) (s : State) : Nat :=
  let x := slot k s
  x.time.reason % 16 * 2 ^ 28 + x.time.st.code * 2 ^ 24 + x.freq.reason % 16 * 2 ^ 20 + x.freq.st.code * 2 ^ 16 + qlOf k s % 16 * 256 + clsOf k s % 256

/-- OUT_STATUS, the register of output n (R356). -/
def outStatus (n : Nat) (s : State) : Nat :=
  let o := outp n s
  b2n o.alignFail * 128 + b2n o.omitted * 64 + b2n o.aligned * 32 + b2n (pairGated n s) * 16 + b2n (squelched n s) * 8 + o.mode % 4

/-- Fields of the references block (R356). -/
def refsVal (o : Nat) (s : State) : Word :=
  if o = 0x10 then
    BitVec.ofNat 32 (s.refs.timeB.st.code * 4096 + s.refs.timeA.st.code * 256 + s.refs.freq.st.code * 16 + b2n s.refs.freq.bridging * 8
      + b2n s.refs.freq.switching.isSome * 4 + b2n (cfg 0x3211 0 s == 1) * 2 + b2n s.refs.ready)
  else if o = 0x14 then BitVec.ofNat 32 (s.refs.timeB.slot.getD 31 * 65536 + s.refs.timeA.slot.getD 31 * 256 + s.refs.freq.slot.getD 31)
  else if o = 0x18 then Tab.get 0 0x40018 s.regs.rc
  else if o = 0x20 then BitVec.ofInt 32 (cfgI 4 0x3212 0 s)
  else if o = 0x24 then BitVec.ofInt 32 s.refs.steer
  else if o = 0x28 then BitVec.ofNat 32 (s.refs.freq.bound / 1000)
  else if 0x40 ≤ o ∧ o < 0x80 then BitVec.ofNat 32 (slotStatus ((o - 0x40) / 4) s)
  else if 0x80 ≤ o ∧ o < 0xC0 then
    let n := (o - 0x80) / 16
    if o % 16 = 0 then BitVec.ofNat 32 (outStatus n s) else if o % 16 = 4 then BitVec.ofInt 32 (outp n s).corr else 0
  else 0

/-- Fields of the time-stamp unit of tile t (R394). -/
def tsuVal (t o : Nat) (s : State) : Word :=
  let u := tsu t s
  let h := u.queue.head?
  if o = 0x14 then BitVec.ofNat 32 (u.queue.length * 256 + b2n (txCoarse (8 * t) s) * 2)
  else if o = 0x18 then Tab.get 0 (tsuAddr t 0x18) s.regs.rc
  else if o = 0x20 then
    match h with
    | some e => BitVec.ofNat 32 (e.id.toNat * 65536 + e.chan * 256 + e.flags.toNat)
    | none => 0xFF00#32
  else if 0x24 ≤ o ∧ o < 0x30 then
    match h with
    | some e => wordOf ((o - 0x24) / 4) (time96 e.stamp)
    | none => 0
  else if o = 0x30 then u.stamps
  else if o = 0x34 then u.overflows
  else if o = 0x38 then u.stales
  else if o = 0x3C then u.rxStamps
  else if 0x40 ≤ o ∧ o < 0x240 then
    let c := 8 * t + (o - 0x40) / 64
    if o % 64 < 16 then BitVec.ofInt 32 (slewVal 1 (4 * c + o % 64 / 4) s)
    else if o % 64 = 16 then BitVec.ofNat 32 (rxRef c s * 16 + txRef c s)
    else 0
  else 0

/-- Word w of OVF_MAP (R612). -/
def ovfWord (w : Nat) (s : State) : Word :=
  BitVec.ofNat 32 ((s.obs.ovfMap.filter (fun c => c / 32 == w)).foldl (fun n c => n + 2 ^ (c % 32)) 0)

/-- Fields of the counters block (R612). -/
def countersVal (o : Nat) (s : State) : Word :=
  if o = 0x10 then
    BitVec.ofNat 32 (b2n s.obs.sampling * 4 + b2n (s.obs.slots.any (fun x => x.2.at_.isSome && !x.2.started)) * 2 + b2n s.obs.sweepBusy.isSome)
  else if o = 0x14 then BitVec.ofNat 32 (s.obs.sweepCell * 65536)
  else if o = 0x18 then Tab.get 0 0x60018 s.regs.rc
  else if 0x20 ≤ o ∧ o < 0x2C then wordOf ((o - 0x20) / 4) (time96 s.obs.sweepFirst)
  else if 0x30 ≤ o ∧ o < 0x3C then wordOf ((o - 0x30) / 4) (time96 s.obs.sweepLast)
  else if 0x400 ≤ o ∧ o < 0x800 then ovfWord ((o - 0x400) / 4) s
  else if 0x800 ≤ o ∧ o < 0xA00 then progSel ((o - 0x800) / 4) s
  else if 0x1000 ≤ o ∧ o < 0x9000 then cellValue ((o - 0x1000) / 4) s
  else 0

/-- Codes of the optical states (R243). -/
def BandSt.code : BandSt → Nat
  | .dark => 0 | .listen => 1 | .beacon => 2 | .answer => 3 | .backoff => 4 | .resolved => 5 | .disabled => 6
def Band.code : Band → Nat
  | .none => 0 | .lower => 1 | .upper => 2
def LaserSt.code : LaserSt → Nat
  | .dark => 0 | .starting => 1 | .lit => 2 | .brace => 3 | .forcedOff => 4 | .retired => 5
def SpareSt.code : SpareSt → Nat
  | .ready => 0 | .testing => 1 | .tuning => 2 | .inUse => 3 | .failed => 4

/-- CH_STATUS, offset 0x108 of a channel block (R270). -/
def chStatus (c : Nat) (s : State) : Nat :=
  let d := cod c s
  d.txLanes.toNat * 2 ^ 24 + d.rxLanes.toNat * 2 ^ 20 + d.rxFault.toNat * 2 ^ 16 + d.peerMax.toNat * 4096 + d.polInv.toNat * 256
    + d.stage % 8 * 32 + widthState d % 4 * 8 + b2n (d.stage == 6)

/-- Fields of a channel block (R243, R270). -/
def channelVal (c o : Nat) (s : State) : Word :=
  let x := opt c s
  let d := cod c s
  let e := eng (c / 8) s
  let l := laser (c / 8) (c % 8) s
  let sp := if c % 8 < 4 then e.lower else e.upper
  if o = 0x10 then BitVec.ofNat 32 (cfg 0x2004 (c + 1) s % 4 * 16 + cfg 0x2000 (c + 1) s % 4 * 4 + b2n (cfgB 0x2001 (c + 1) s))
  else if o = 0x14 then BitVec.ofNat 32 (x.lanesLit.toNat * 2 ^ 20 + x.los.toNat * 2 ^ 16 + x.bandState.code * 256 + x.band.code)
  else if o = 0x18 then Tab.get 0 (chanAddr c 0x018) s.regs.rc
  else if 0x20 ≤ o ∧ o < 0x30 then
    let t := x.taps.getD ((o - 0x20) / 4) Taps.reset
    BitVec.ofNat 32 (t.post.toNat * 256 + t.pre.toNat)
  else if 0x30 ≤ o ∧ o < 0x40 then (x.rxPower.getD ((o - 0x30) / 4) 0).zeroExtend 32
  else if o = 0x40 then BitVec.ofNat 32 (leNat ((cfgBytes 0x2008 (c + 1) s).take 2))
  else if 0x50 ≤ o ∧ o < 0x60 then (x.txPower.getD ((o - 0x50) / 4) 0).zeroExtend 32
  else if o = 0x60 then BitVec.ofNat 32 (l.bias.toNat * 65536 + l.st.code)
  else if o = 0x64 then Tab.get 0 (chanAddr c 0x064) s.regs.words
  else if o = 0x68 then l.power.zeroExtend 32
  else if o = 0x70 then BitVec.ofNat 32 (sp.target % 4 * 256 + sp.st.code)
  else if o = 0x74 then sp.wlError.zeroExtend 32
  else if o = 0x100 then
    BitVec.ofNat 32 (b2n (cfgB 0x2100 (c + 1) s) * 64 + b2n (cfgB 0x2101 (c + 1) s) * 32 + b2n (cfg 0x2102 (c + 1) s == 2) * 16)
  else if o = 0x104 then BitVec.ofNat 32 (cfg 0x2109 (c + 1) s % 16 * 256 + cfg 0x210A (c + 1) s % 4 * 16 + cfg 0x2108 (c + 1) s % 8)
  else if o = 0x108 then BitVec.ofNat 32 (chStatus c s)
  else if o = 0x10C then d.laneMap.zeroExtend 32
  else if o = 0x110 then Tab.get 0 (chanAddr c 0x110) s.regs.rc
  else if o = 0x114 then BitVec.ofNat 32 (d.rxAm.toNat * 65536 + d.txAm.toNat)
  else if 0x120 ≤ o ∧ o < 0x130 then (d.skew.getD ((o - 0x120) / 4) 0).zeroExtend 32
  else if o = 0x140 ∨ o = 0x144 then wordOf ((o - 0x140) / 4) d.corrected.toNat
  else if o = 0x148 ∨ o = 0x14C then wordOf ((o - 0x148) / 4) d.uncorr.toNat
  else if 0x150 ≤ o ∧ o < 0x170 then wordOf (o / 4 % 2) (d.symErr.getD ((o - 0x150) / 8) 0).toNat
  else if 0x170 ≤ o ∧ o < 0x190 then wordOf (o / 4 % 2) (d.prbsErr.getD ((o - 0x170) / 8) 0).toNat
  else if o = 0x190 ∨ o = 0x194 then wordOf ((o - 0x190) / 4) d.prbsBits.toNat
  else 0

/-- Age of the checkpoint held, in µs, saturating; all ones for none (R529, R534). -/
def ckptAge (unit : Nat) (s : State) : Word :=
  match s.pair.held with
  | some k => BitVec.ofNat 32 (min 4294967295 ((s.now - k.at_) / unit))
  | none => 0xFFFFFFFF#32

/-- Fields of the shroud block (R534). -/
def shroudVal (o : Nat) (s : State) : Word :=
  let p := s.pair
  match o with
  | 0x10 => BitVec.ofNat 32 (b2n p.inhibit)
  | 0x14 => BitVec.ofNat 32 (linkState 1 s * 1024 + linkState 0 s * 256 + b2n p.glenoHb * 128 + b2n p.shroudHb * 64 + p.role.code * 16
      + b2n (p.role == .active && p.mateRole == 2) * 8 + b2n p.arbitrating * 4 + b2n p.holdoff * 2 + b2n (ckptFresh s))
  | 0x18 => Tab.get 0 0xB0018 s.regs.rc
  | 0x20 => p.epoch
  | 0x24 => ckptAge 100 s
  | 0x28 => p.missed
  | 0x30 => wordOf 0 (time96 p.lastTakeover)
  | 0x34 => wordOf 1 (time96 p.lastTakeover)
  | 0x38 => wordOf 2 (time96 p.lastTakeover)
  | 0x40 => BitVec.ofNat 32 (cfg 0x4401 1 s)
  | 0x44 => BitVec.ofNat 32 (cfg 0x4401 2 s)
  | _ => 0

/-- A register of a single block or instance as it stands, for a session. -/
def live (p : Place) (sess : Nat) (s : State) : Word :=
  if p.off = 0 then BitVec.ofNat 32 (p.blk.code * 65536 + 256 + s.factory.layoutMinor.toNat)
  else if p.off = 4 then BitVec.ofNat 32 (statusRead p s)
  else if p.off = 8 then BitVec.ofNat 32 (guardRead p.base sess s)
  else match p.blk with
    | .identity => identityVal p.off s
    | .timeBase => timeBaseVal p.off s
    | .vernier => vernierVal p.off s
    | .refs => refsVal p.off s
    | .tsu => tsuVal p.inst p.off s
    | .counters => countersVal p.off s
    | .channel => channelVal p.inst p.off s
    | .shroud => shroudVal p.off s
    | _ => 0

/-! ## Reads (R121, R123) -/

/-- The offsets that a read of this one latches into the read shadow (R123, R321, R394, R597). -/
def latches (p : Place) (s : State) : List Nat :=
  let o := p.off
  match p.blk with
  | .identity => if o = 0x24 then [0x28] else []
  | .timeBase =>
    if [0x20, 0x30, 0x40, 0x50, 0x60, 0x70, 0x80, 0x90].contains o then [o + 4, o + 8]
    else if [0xA0, 0xA8, 0xC0].contains o then [o + 4] else []
  | .vernier =>
    if o = 0x20 then [0x24, 0x28]
    else if 0x100 ≤ o ∧ o < 0xE00 ∧ o % 16 = 0 then [o + 4, o + 8, o + 12]
    else if 0x2000 ≤ o ∧ o % 256 = 0x10 then [o + 4, o + 8, o + 0x10, o + 0x14, o + 0x18] else []
  | .tsu => if o = 0x20 then [0x24, 0x28, 0x2C] else []
  | .counters =>
    if o = 0x20 ∨ o = 0x30 then [o + 4, o + 8]
    else if 0x1000 ≤ o ∧ o < 0x9000 ∧ pairedCell ((o - 0x1000) / 4) s then [o + 4] else []
  | .channel =>
    if o = 0x140 ∨ o = 0x148 ∨ o = 0x190 ∨ (0x150 ≤ o ∧ o < 0x190 ∧ o % 8 = 0) then [o + 4] else []
  | .shroud => if o = 0x30 then [0x34, 0x38] else []
  | _ => []

/-- A read of this offset returns the read shadow (R123, R321). -/
def shadowed (p : Place) (s : State) : Bool :=
  [4, 8, 12, 0x10, 0x14, 0x18].any (fun d => decide (d ≤ p.off) && (latches { p with off := p.off - d } s).contains p.off)

/-- Latch the words behind a low word into the session's read shadow. -/
def latch (p : Place) (sess : Nat) (s : State) : State :=
  (latches p s).foldl (fun s o => updSession sess (fun e =>
    { e with readSh := Tab.put 0 (p.base + o) (live { p with off := o } sess s) e.readSh }) s) s

/-- What a read of a register clears: its RC fields, and the oldest record of an event unit (R121, R320, R321). -/
def clearRead (p : Place) (s : State) : State :=
  let o := p.off
  let s1 : State := { s with regs := { s.regs with rc := Tab.erase (p.base + o) s.regs.rc } }
  if o = 4 then updBlock p.base (fun b => { b with postFail := false, violation := false }) s
  else match p.blk with
    | .timeBase => if o = 0x18 then s1 else s
    | .vernier =>
      if o = 0x18 then s1
      else if 0x100 ≤ o ∧ o < 0xE00 ∧ o % 16 = 12 then updDet ((o - 0x100) / 16) (fun x => { x with irregular := false, srcChange := false, slip := false }) s
      else if 0x2000 ≤ o ∧ o % 256 = 0x0C then updEu ((o - 0x2000) / 256) (fun e => { e with clockLost := false, overflow := false, missed := false }) s
      else if 0x2000 ≤ o ∧ o % 256 = 0x10 then euPop ((o - 0x2000) / 256) s
      else s
    | .refs =>
      if o = 0x18 then s1 else if 0x80 ≤ o ∧ o % 16 = 0 then updOut ((o - 0x80) / 16) (fun x => { x with alignFail := false, omitted := false }) s else s
    | .tsu => if o = 0x18 then s1 else s
    | .counters =>
      if o = 0x18 then s1
      else if 0x400 ≤ o ∧ o < 0x800 then updObs (fun x => { x with ovfMap := x.ovfMap.filter (fun c => c / 32 != (o - 0x400) / 4) }) s else s
    | .channel => if o = 0x18 ∨ o = 0x110 then s1 else s
    | .shroud => if o = 0x18 then s1 else s
    | _ => s

/-- The bits of a channel register that are RC fields (R132, R243, R270). -/
def rcBits (o : Nat) : Word := if o = 0x18 then 0x7F#32 else if o = 0x110 then 0xFF#32 else 0

/-- The members of a window (R130): all channels, or those of the group. -/
def windowMembers (p : Place) (s : State) : List Nat :=
  match p.blk with
  | .bcast => List.range 192
  | _ => (List.range 192).filter (fun c => (Tab.get 0 p.inst s.dict.members).getLsbD c)

/-- A member's place behind a window offset. -/
def memberPlace (c o : Nat) : Place := ⟨.channel, 0x80000 + c * 0x200, c, o⟩

/-- A place lies in a window. -/
def inWindow (p : Place) : Bool := p.blk == .bcast || p.blk == .group

/-- A read of a window's own header (R133); DESIGN CHOICE, assumption 122. -/
def windowHeader (p : Place) (sess : Nat) (s : State) : Word :=
  if p.off = 4 then
    let q := (windowMembers p s).foldl (fun n c => max n (blockOf (0x80000 + c * 0x200) s).posted.length) 0
    BitVec.ofNat 32 (q * 256 + b2n (blockOf p.base s).violation * 4 + b2n (q != 0))
  else live p sess s

/-- A read through a window: RC fields of all members together, other fields of the lowest-numbered member (R132). -/
def windowRead (p : Place) (sess : Nat) (s : State) : Word × Status :=
  match windowMembers p s with
  | [] => (0, 0x0803#16)
  | c :: l =>
    let m := rcBits p.off
    let all := (c :: l).foldl (fun w k => w ||| live (memberPlace k p.off) sess s) (0 : Word)
    if implemented (memberPlace c p.off) then ((all &&& m) ||| (live (memberPlace c p.off) sess s &&& ~~~m), 0) else (0, 0x0802#16)

/-- One register read by a session (R108, R121, R123, R132): the state, the value, the status; DESIGN CHOICE, assumption 120. -/
def regRead (sess a : Nat) (s : State) : State × Word × Status :=
  match locate a with
  | none => (s, 0, 0x0802#16)
  | some p =>
    if !implemented p then (s, 0, 0x0802#16)
    else if inWindow p then
      if p.off < 0x10 then
        (if p.off = 4 then updBlock p.base (fun b => { b with violation := false }) s else s, windowHeader p sess s, 0)
      else (s, windowRead p sess s)
    else if shadowed p s then
      let v := match session sess s with
        | some e => Tab.get 0 a e.readSh
        | none => 0
      (clearRead p s, v, 0)
    else (clearRead p (latch p sess s), live p sess s, 0)

/-! ## Writes (R113 to R119, R124, R127, R131, R133) -/

/-- A setting behind a register field takes a new value (R114, R137). -/
def setField (idx sub : Nat) (v : List Byte) (s : State) : State :=
  if cfgBytes idx sub s = v then s else touchStaged (key idx sub) (putObj (key idx sub) v s)

/-- The write shadow of a session at an address (R124). -/
def writeShadow (sess a : Nat) (s : State) : Nat :=
  match session sess s with
  | some e => (Tab.get 0 a e.writeSh).toNat
  | none => 0

/-- A register write that its owner does not take sets ADJ_REFUSED (R275, R278). -/
def orRefused (r : Res) : State := if r.code = 0 then r.st else setRc 0x20018 0x80 r.st

/-- A write of 0x010 of the time base block: OUT_DOMAIN, CAPTURE, OUT_RESYNC (R280, R283, R284). -/
def timeBaseCtl (v : Word) (s : State) : State :=
  let s1 := judgeP (setField 0x3008 0 [if v.getLsbD 5 then 1 else 0] s)
  let s2 := if v.getLsbD 4 then capture s1 else s1
  if v.getLsbD 3 then stepP s2 else s2

/-- A plain write to the time base block (R275, R283, R284, R289). -/
def timeBasePut (o : Nat) (v : Word) (s : State) : State :=
  let n := v.toNat
  if o = 0x10 then timeBaseCtl v s
  else if o = 0xB0 then orRefused (rateAdj .a v s)
  else if o = 0xB4 then orRefused (rateAdj .b v s)
  else if o = 0xB8 then setField 0x3009 0 (leBytes 4 (max 1 (min (n % 2 ^ 20) 1000000))) s
  else if o = 0xBC then judgeP (setField 0x300A 0 (leBytes 4 (max 1 (min (n % 2 ^ 30) 1000000000))) s)
  else if o = 0x138 then (if n % 32 ≤ 25 then relock (n % 32) s else s)
  else s

/-- The whole of a wide value as its low word is written (R124). -/
def wideValue (sess a words : Nat) (v : Word) (s : State) : Nat :=
  v.toNat + writeShadow sess (a + 4) s * 2 ^ 32 + (if words = 3 then writeShadow sess (a + 8) s * 2 ^ 64 else 0)

/-- The domain of a wide register of the time base block. -/
def wideDomain (o : Nat) : Domain := if o = 0x80 ∨ o = 0xA0 then .a else .b

/-- A wide value of the time base block applies (R278, R281). -/
def widePut (o n : Nat) (s : State) : State :=
  let d := wideDomain o
  if o = 0x80 ∨ o = 0x90 then orRefused (timeSet d ⟨BitVec.ofNat 48 (n / 2 ^ 48), BitVec.ofNat 32 (n / 2 ^ 16), BitVec.ofNat 16 n⟩ s)
  else orRefused (timeAdj d (BitVec.ofNat 64 n) s)

/-- A write of the configuration register of event unit u (R313, R318, R320). -/
def euPut (u : Nat) (v : Word) (s : State) : State :=
  let n := v.toNat
  let b := cfgBytes 0x310B (u + 1) s
  let fl : Nat := b2n (v.getLsbD 10) + 2 * b2n (v.getLsbD 11)
  let s1 := setField 0x310B (u + 1) ([BitVec.ofNat 8 (n / 256 % 4), BitVec.ofNat 8 (n % 16), BitVec.ofNat 8 (n / 16 % 16), BitVec.ofNat 8 fl] ++ b.drop 4) s
  let s2 := takeEu u s s1
  let s3 := if v.getLsbD 12 ∧ !(eu u s2).calRunning then euArm u s2 else s2
  if v.getLsbD 13 then (euCalibrate u s3).st else s3

/-- A plain write to the vernier block (R320). -/
def vernierPut (o : Nat) (v : Word) (s : State) : State :=
  let n := v.toNat
  if 0xE00 ≤ o ∧ o < 0xE10 then
    let k := (o - 0xE00) / 4
    let s1 := setField 0x3106 (k + 1) [BitVec.ofNat 8 (min (n % 16) 10)] (setField 0x3105 (k + 1) [BitVec.ofNat 8 (n / 16 % 4)] s)
    if cfg 0x3105 (k + 1) s = cfg 0x3105 (k + 1) s1 ∧ cfg 0x3106 (k + 1) s = cfg 0x3106 (k + 1) s1 then s1 else takeDet (192 + k) s1
  else if 0xE10 ≤ o ∧ o < 0xE20 then
    let k := (o - 0xE10) / 4
    let w := leBytes 2 (n / 65536 % 4096 + 1) ++ leBytes 2 (n % 4096 + 1)
    if cfgBytes 0x3107 (k + 1) s = w then s else takeDet (192 + k) (setField 0x3107 (k + 1) w s)
  else if 0xE20 ≤ o ∧ o < 0xE30 then
    let k := (o - 0xE20) / 4
    let w := leBytes 2 (n / 32768 % 2 * 32768 + min (n / 16 % 256) 191 * 16 + n % 4)
    if cfgBytes 0x3108 (k + 1) s = w then s else takeDet (204 + k) (setField 0x3108 (k + 1) w s)
  else if o = 0xE30 then setField 0x3104 0 (leBytes 2 (max 1 (min (n % 65536) 1000))) s
  else if 0x1000 ≤ o ∧ o < 0x1340 then stepSlew 0 ((o - 0x1000) / 4) v.toInt s
  else
    let u := (o - 0x2000) / 256
    let b := cfgBytes 0x310B (u + 1) s
    if o % 256 = 0 then euPut u v s
    else if o % 256 = 4 then setField 0x310B (u + 1) (b.take 4 ++ leBytes 4 (max 1 (min n 10000000)) ++ b.drop 8) s
    else setField 0x310B (u + 1) (b.take 8 ++ leBytes 4 (max 1 (min n 1000000000)) ++ b.drop 12) s

/-- A write of 0x104 of a channel block: PRBS_LANES, PRBS_PATTERN, LOOP (R267, R268, R270); PRBS that is refused its
draw changes nothing (R68). -/
def testPut (c : Nat) (v : Word) (s : State) : Res :=
  let n := v.toNat
  let lanes_ : Nat := n / 256 % 16
  let pat : Nat := if n / 16 % 4 = 3 then 0 else n / 16 % 4
  let loop : Nat := if 4 ≤ n % 8 then 0 else n % 8
  let l : List Staged := [⟨key 0x2109 (c + 1), [BitVec.ofNat 8 lanes_], false⟩, ⟨key 0x2108 (c + 1), [BitVec.ofNat 8 loop], false⟩]
  if !drawOk l s then Res.of s 0x0601#16
  else
    let s1 := setField 0x210A (c + 1) [BitVec.ofNat 8 pat] (setField 0x2109 (c + 1) [BitVec.ofNat 8 lanes_] (setField 0x2108 (c + 1) [BitVec.ofNat 8 loop] s))
    if (cfg 0x2108 (c + 1) s, cfg 0x2109 (c + 1) s, cfg 0x210A (c + 1) s) = (loop, lanes_, pat) then Res.of s1 0 else Res.of (loopSettle c s1) 0

/-- A write of 0x100 of a channel block (R270). -/
def modesPut (c : Nat) (v : Word) (s : State) : State :=
  let s1 := setField 0x2100 (c + 1) [if v.getLsbD 6 then 1 else 0] s
  let s2 := setField 0x2101 (c + 1) [if v.getLsbD 5 then 1 else 0] s1
  let s3 := setField 0x2102 (c + 1) [if v.getLsbD 4 then 2 else 1] s2
  if v.getLsbD 7 then retrain c s3 else s3

/-- A plain write to a single block or instance (R114). -/
def plainPut (p : Place) (v : Word) (s : State) : Res :=
  match p.blk with
  | .timeBase => Res.of (timeBasePut p.off v s) 0
  | .vernier => Res.of (vernierPut p.off v s) 0
  | .tsu =>
    if p.off = 0x10 then Res.of (if v.getLsbD 0 then txqFlush p.inst s else s) 0
    else Res.of (stepSlew 1 (4 * (8 * p.inst + (p.off - 0x40) / 64) + p.off % 64 / 4) v.toInt s) 0
  | .counters =>
    let w := if 191 < v.toNat / 256 % 256 then (v &&& 0xFFFF00FF#32) ||| 0xBF00#32 else v
    Res.of (putProg ((p.off - 0x800) / 4) w s) 0
  | .channel => if p.off = 0x104 then testPut p.inst v s else Res.of (modesPut p.inst v s) 0
  | .shroud => Res.of (updPair (fun x => { x with inhibit := v.getLsbD 0 }) s) 0
  | _ => Res.of s 0

/-- A masked write (R117). -/
def maskedPut (a : Nat) (v : Word) (s : State) : State :=
  let m := v >>> 16
  let w := (Tab.get 0 a s.regs.words &&& ~~~m ||| v &&& m) &&& 0xFFFF#32
  { s with regs := { s.regs with words := Tab.put 0 a w s.regs.words } }

/-- Queue a posted write (R118, R119). -/
def post (base a : Nat) (v : Word) (s : State) : State := updBlock base (fun b => { b with posted := b.posted ++ [⟨a, v⟩] }) s

/-- The posting queue of a block is full (R119). -/
def postFull (base : Nat) (s : State) : Bool := decide (4 ≤ (blockOf base s).posted.length)

/-- A wide value applies: the host's write to a domain that the servo owns is refused as a guarded write (R276, R281). -/
def lowPut (p : Place) (a sess words : Nat) (hold : Bool) (v : Word) (s : State) : Res :=
  if hostOwns (wideDomain p.off) s then Res.of (guardUsed p.base hold (widePut p.off (wideValue sess a words v s) s)) 0
  else Res.of (refuseGuarded p.base s) 0x0202#16

/-- OVEN_STEER through the register is refused as a guarded write while the servo owns the oven (R345). -/
def ovenHeld (p : Place) (s : State) : Bool := p.blk == .refs && p.off == 0x20 && cfg 0x3211 0 s != 1

/-- A write to a register that is neither GUARD nor in a window; `hold` keeps the guard open for a REG_BLOCK transfer. -/
def fieldWrite (p : Place) (a sess : Nat) (hold : Bool) (v : Word) (s : State) : Res :=
  match writable p.blk p.off with
  | none => Res.of s 0x0802#16
  | some (k, g) =>
    if (g ∧ !guardAllows p.base sess s) ∨ ovenHeld p s then Res.of (refuseGuarded p.base s) 0x0202#16
    else match k with
      | .upper => Res.of (updSession sess (fun e => { e with writeSh := Tab.put 0 a v e.writeSh }) s) 0
      | .low n => lowPut p a sess n hold v s
      | .masked => Res.of (maskedPut a v s) 0
      | .posted => if postFull p.base s then Res.of s 0x0401#16 else Res.of (post p.base a v (if g then guardUsed p.base hold s else s)) 0
      | .plain =>
        let r := plainPut p v s
        if r.code = 0 ∧ g then { r with st := guardUsed p.base hold r.st } else r

/-- A write through a window to every member on one edge (R131, R133): a guarded field needs the window's own guard and
skips members whose lock stands; LASER_FORCE and offset 0x104 are refused (R244, R270). -/
def windowWrite (p : Place) (sess : Nat) (hold : Bool) (v : Word) (s : State) : Res :=
  let ms := windowMembers p s
  match writable .channel p.off with
  | none => Res.of s 0x0802#16
  | some (k, g) =>
    if ms.isEmpty then Res.of s 0x0803#16
    else if p.off = 0x64 ∨ p.off = 0x104 then Res.of (refuseGuarded p.base s) 0x0202#16
    else if g ∧ !guardAllows p.base sess s then Res.of (refuseGuarded p.base s) 0x0202#16
    else
      let take := if g then ms.filter (fun c => !(blockOf (0x80000 + c * 0x200) s).locked) else ms
      let skip := ms.length - take.length
      let s0 := updSession sess (fun e => { e with skipped := BitVec.ofNat 16 skip }) s
      if k = .posted ∧ take.any (fun c => postFull (0x80000 + c * 0x200) s) then Res.of s 0x0401#16
      else
        let one (s : State) (c : Nat) : State :=
          if k = .posted then post (0x80000 + c * 0x200) (0x80000 + c * 0x200 + p.off) v s else (plainPut (memberPlace c p.off) v s).st
        let s1 := take.foldl one s0
        Res.of (if g then guardUsed p.base hold s1 else s1) (if skip = 0 then 0 else 0x0202#16)

/-- One register write by a session (R108, R113). -/
def regWrite (sess a : Nat) (hold : Bool) (v : Word) (s : State) : Res :=
  match locate a with
  | none => Res.of s 0x0802#16
  | some p =>
    if !implemented p then Res.of s 0x0802#16
    else if p.off = 8 then guardWrite p.base sess v s
    else if p.off < 0x10 then Res.of s 0x0802#16
    else if inWindow p then windowWrite p sess hold v s
    else fieldWrite p a sess hold v s

/-! ## The register window (R134 to R136) -/

/-- REG_ADDRESS after a REG_DATA access, and its status (R134, R135). -/
def afterAccess (sess : Nat) (st : Status) (s : State) : State :=
  updSession sess (fun e => { e with regStatus := st, regAddr := if e.regInc then e.regAddr + 4 else e.regAddr }) s

/-- A write of REG_DATA. -/
def dataWrite (q : Req) (v : Word) (e : Session) (s : State) : Res :=
  let r := regWrite q.sess e.regAddr.toNat false v s
  Res.of (afterAccess q.sess r.code r.st) r.code

/-- A read of REG_DATA; a refusal carries no data (R197). -/
def dataRead (q : Req) (e : Session) (s : State) : Res :=
  let r := regRead q.sess e.regAddr.toNat s
  ⟨afterAccess q.sess r.2.2 r.1, r.2.2, if r.2.2 = 0 ∨ r.2.2 = 0x0807#16 then leBytes 4 r.2.1.toNat else []⟩

/-- The registers of a block transfer in ascending order (R136). -/
def blockRead (sess : Nat) : Nat → Nat → State → State × List Byte × Nat × Status
  | 0, _, s => (s, [], 0, 0)
  | n + 1, a, s =>
    let r := regRead sess a s
    if r.2.2 ≠ 0 then (r.1, leBytes 4 0, 0, r.2.2)
    else
      let t := blockRead sess n (a + 4) r.1
      (t.1, leBytes 4 r.2.1.toNat ++ t.2.1, t.2.2.1 + 1, t.2.2.2)

/-- The content of a REG_BLOCK read, with REG_STATUS and REG_BLOCK_DONE as it leaves them (R136). -/
def blockContent (sess : Nat) (e : Session) (s : State) : State × List Byte × Status :=
  let r := blockRead sess e.regCount.toNat e.regAddr.toNat s
  (updSession sess (fun e => { e with regStatus := r.2.2.2, regDone := BitVec.ofNat 16 r.2.2.1 }) r.1, r.2.1, r.2.2.2)

/-- The words of a REG_BLOCK write from an address on: the state, how many were written, the status (R136). -/
def blockPut (sess : Nat) : List Byte → Nat → State → State × Nat × Status
  | b0 :: b1 :: b2 :: b3 :: t, a, s =>
    let r := regWrite sess a true (BitVec.ofNat 32 (leNat [b0, b1, b2, b3])) s
    if r.code ≠ 0 then (r.st, 0, r.code)
    else
      let x := blockPut sess t (a + 4) r.st
      (x.1, x.2.1 + 1, x.2.2)
  | _, _, s => (s, 0, 0)

/-- The guards that the session holds open on the blocks of a transfer that wrote a guarded field close (R127). -/
def closeGuards (sess : Nat) : Nat → Nat → State → State
  | 0, _, s => s
  | n + 1, a, s =>
    let s1 := match locate a with
      | some p =>
        let g := (writable (if inWindow p then .channel else p.blk) p.off).any (fun k => k.2)
        if g ∧ (blockOf p.base s).open_ = some sess then updBlock p.base (fun b => { b with open_ := none }) s else s
      | none => s
    closeGuards sess n (a + 4) s1

/-- A REG_BLOCK write of a whole value (R136). -/
def blockWrite (sess : Nat) (d : List Byte) (e : Session) (s : State) : Res :=
  let a := e.regAddr.toNat
  let r := blockPut sess d a s
  let s1 := closeGuards sess r.2.1 a r.1
  Res.of (updSession sess (fun e => { e with regStatus := r.2.2, regDone := BitVec.ofNat 16 r.2.1 }) s1) r.2.2

/-! ## Landing of posted writes (R118, R120) -/

/-- The optical control register lands: EQ_MODE, BAND_PIN, TX_ENABLE (R223, R226, R238, R243); DESIGN CHOICE, assumption 123. -/
def landCtl (c : Nat) (v : Word) (s : State) : State :=
  let m : Nat := if v.toNat / 16 % 4 = 3 then 0 else v.toNat / 16 % 4
  let p : Nat := if v.toNat / 4 % 4 = 3 then 0 else v.toNat / 4 % 4
  let s1 := setField 0x2004 (c + 1) [BitVec.ofNat 8 m] s
  let s2 := if cfg 0x2004 (c + 1) s = m then s1 else takeEq c s1
  let s3 := takePin c (setField 0x2000 (c + 1) [BitVec.ofNat 8 p] s2)
  takeEnable c (setField 0x2001 (c + 1) [if v.getLsbD 0 then 1 else 0] s3)

/-- A pair of taps lands, or is refused with TAP_REFUSED (R237). -/
def landTaps (c k : Nat) (v : Word) (s : State) : State :=
  let pre := BitVec.ofNat 8 v.toNat
  let post_ := BitVec.ofNat 8 (v.toNat / 256)
  if tapsOk pre post_ then takeEq c (setField 0x2005 (c + 1) (patch (2 * k) [pre, post_] (cfgBytes 0x2005 (c + 1) s)) s)
  else setRc (chanAddr c 0x018) 0x40 s

/-- LASER_FORCE of laser j of engine t lands (R231, R234, R244). -/
def landForce (t j : Nat) (v : Word) (s : State) : State :=
  let s1 : State := { s with regs := { s.regs with words := Tab.put 0 (chanAddr (8 * t + j) 0x064) (v &&& 3#32) s.regs.words } }
  match v.toNat % 4 with
  | 1 => if canSwitch t j s then askSpare t j true s1 else s1
  | 2 => if gone (laser t j s) then s1 else queueRec 6 (8 * t + j) true none (forceOff t j s1)
  | _ => s1

/-- OVEN_STEER lands (R345): values beyond the limit are taken as the limit. -/
def landSteer (v : Int) (s : State) : State :=
  let x := max (-1000000000) (min 1000000000 v)
  let s1 := setVal 0x3212 0 (leBytesI 4 x) s
  if cfg 0x3211 0 s = 1 then { s1 with refs := { s1.refs with steer := x } } else s1

/-- A posted write lands in its slow domain (R118); the address 0x10000 stands for WARN_THRESHOLD. -/
def land (w : Posted) (s : State) : State :=
  match locate w.addr with
  | none => s
  | some p => match p.blk with
    | .identity =>
      let i := (p.off - 0x30) / 4
      let t := s.regs.assetTag
      let m : BitVec 128 := ~~~((0xFFFFFFFF#128) <<< (32 * i))
      { s with regs := { s.regs with assetTag := (t &&& m) ||| ((w.data.zeroExtend 128) <<< (32 * i)) } }
    | .power => { s with power := { s.power with warnInForce := w.data.toNat } }
    | .refs => landSteer w.data.toInt s
    | .channel =>
      if p.off = 0x10 then landCtl p.inst w.data s
      else if p.off = 0x40 then
        setField 0x2008 (p.inst + 1) (patch 0 (leBytes 2 (w.data.toNat % 65536)) (cfgBytes 0x2008 (p.inst + 1) s)) s
      else if p.off = 0x64 then landForce (p.inst / 8) (p.inst % 8) w.data s
      else landTaps p.inst ((p.off - 0x20) / 4) w.data s
    | _ => s

/-! ## The commands -/

/-- REGISTER_WRITE (R114): a write of REG_DATA with REG_ADDRESS at a plain register. -/
def execRegisterWrite (q : Req) (v : Word) (s : State) : Out := .next (roleRequest .operator q (dataWrite q v) s)

/-- MASKED_WRITE (R117): payload and mask of an RWM register at REG_ADDRESS. -/
def execMaskedWrite (q : Req) (mask payload : BitVec 16) (s : State) : Out :=
  .next (roleRequest .operator q (dataWrite q (mask ++ payload)) s)

/-- POSTED_WRITE (R118, R119): a write of a PW register at REG_ADDRESS. -/
def execPostedWrite (q : Req) (v : Word) (s : State) : Out := .next (roleRequest .operator q (fun e s => dataWrite q v e s) s)

/-- POSTED_WRITE_LANDED (R118): the oldest posted write of the block at a base lands. -/
def execPostedWriteLanded (base : Nat) (s : State) : Out :=
  .next (match (blockOf base s).posted with
    | w :: _ => land w (updBlock base (fun b => { b with posted := b.posted.drop 1 }) s)
    | [] => s)

/-- POSTED_WRITE_DROPPED (R120): the oldest posted write of the block is dropped after 10 ms. -/
def execPostedWriteDropped (base : Nat) (s : State) : Out :=
  .next (match (blockOf base s).posted with
    | _ :: _ => raise .postFail (blockNo base) (updBlock base (fun b => { b with posted := b.posted.drop 1, postFail := true }) s)
    | [] => s)

/-- RC_FIELD_READ (R121): a read of REG_DATA with REG_ADDRESS at a register with RC fields. -/
def execRcFieldRead (q : Req) (s : State) : Out := .next (request q (dataRead q) s)

/-- WIDE_READ_LATCH (R123): a read of REG_DATA with REG_ADDRESS at the low word of a wide value; DESIGN CHOICE, assumption 119. -/
def execWideReadLatch (q : Req) (s : State) : Out := .next (request q (fun e s => dataRead q e s) s)

/-- WIDE_UPPER_WRITE (R124): a write of REG_DATA with REG_ADDRESS at an upper word of a wide RW value. -/
def execWideUpperWrite (q : Req) (v : Word) (s : State) : Out :=
  .next (roleRequest .operator q (fun e s => let r := dataWrite q v e s; Res.of r.st r.code) s)

/-- WIDE_LOW_WRITE (R124): a write of REG_DATA with REG_ADDRESS at the low word of a wide RW value. -/
def execWideLowWrite (q : Req) (v : Word) (s : State) : Out :=
  .next (roleRequest .operator q (fun e s => dataWrite q v e s) s)

/-- GUARD_UNLOCK (R127): the unlock key to the GUARD at REG_ADDRESS. -/
def execGuardUnlock (q : Req) (s : State) : Out := .next (roleRequest .operator q (dataWrite q 0xC1E7#32) s)

/-- GUARD_LOCK (R128): the lock value to the GUARD at REG_ADDRESS. -/
def execGuardLock (q : Req) (s : State) : Out := .next (roleRequest .operator q (dataWrite q 0x5A1C#32) s)

/-- GUARD_WRONG_KEY (R127): another value to the GUARD at REG_ADDRESS; DESIGN CHOICE, assumption 121. -/
def execGuardWrongKey (q : Req) (v : Word) (s : State) : Out := .next (roleRequest .operator q (dataWrite q v) s)

/-- GUARD_TIMEOUT (R127): the guard of a block, instance or window closes 1 ms after the key. -/
def execGuardTimeout (base : Nat) (s : State) : Out := .next (updBlock base (fun b => { b with open_ := none }) s)

/-- WINDOW_WRITE (R131): a write of REG_DATA with REG_ADDRESS in a window. -/
def execWindowWrite (q : Req) (v : Word) (s : State) : Out := .next (roleRequest .operator q (dataWrite q v) s)

/-- WINDOW_READ (R132): a read of REG_DATA with REG_ADDRESS in a window. -/
def execWindowRead (q : Req) (s : State) : Out := .next (request q (dataRead q) s)

end Sys2Proof.Machine
end

