-- ==== Sys2Proof/Machine/Reads.lean ====
section
/-!
DEFINITION. What a read of each object returns (05 to 20): the value in force as its bytes, the objects whose read has a
status of its own, reads of groups, and the clearing of RC objects.
-/
namespace Sys2Proof.Machine

/-! ## Encodings (R144, R174) -/

/-- Type code of an object (R144). -/
def ObjTy.code : ObjTy → Nat
  | .bool => 0x01
  | .u n => if n = 1 then 0x02 else if n = 2 then 0x03 else if n = 4 then 0x04 else 0x05
  | .i n => if n = 1 then 0x06 else if n = 2 then 0x07 else if n = 4 then 0x08 else 0x09
  | .time96 => 0x0B
  | .oct _ => 0x0C
  | .str _ => 0x0D
  | .domain => 0x0E

/-- Directory code of an access code (R146). -/
def ObjAcc.code : ObjAcc → Nat
  | .ro => 1 | .rw => 2 | .wo => 3 | .rws => 4 | .const => 5 | .rc => 6

/-- One byte. -/
def u8 (n : Nat) : List Byte := [BitVec.ofNat 8 n]

/-- A value without the 0x00 bytes at its end (R180). -/
def stripEnd (l : List Byte) : List Byte := (l.reverse.dropWhile (fun b => b == 0)).reverse

/-- The decimal digits of a number in ASCII. -/
def decimal (n : Nat) : List Byte := (Nat.toDigits 10 n).map (fun c => BitVec.ofNat 8 c.toNat)

/-- An entry of a snapshot: index, subindex, type code, length, value, padding to a multiple of 4 (R174). -/
def entry (idx sub ty : Nat) (v : List Byte) : List Byte :=
  leBytes 2 idx ++ u8 sub ++ u8 ty ++ leBytes 2 v.length ++ v ++ zeros ((4 - (6 + v.length) % 4) % 4)

/-- Several numbers of n bytes. -/
def nums (n : Nat) (l : List Nat) : List Byte := (l.map (leBytes n)).flatten

/-! ## Identity, sets and sessions (05, 06) -/

/-- Greatest length of a DOMAIN object that the host writes (R177, R447, R451, R497, R553, R567, R573, R602, R613); 64 MiB
where none is stated; DESIGN CHOICE, assumption 115. -/
def domainMax (idx : Nat) : Nat :=
  match idx with
  | 0x4000 => 16777216 | 0x4100 => 16777216 | 0x4407 => 16777216
  | 0x4001 => 188 | 0x4304 => 2072 | 0x5005 => 1024 | 0x6005 => 4096 | 0x6006 => 2048 | 0x6008 => 3072
  | 0x7008 => 256 | 0x700B => 4096
  | _ => 67108864

/-- Code of a role (R180). -/
def roleCode : Role → Nat
  | .observer => 0 | .operator => 1 | .custodian => 2 | .service => 3

/-- The access code allows a read. -/
def ObjAcc.reads : ObjAcc → Bool
  | .wo => false
  | _ => true

/-- The access code allows a write. -/
def ObjAcc.writes : ObjAcc → Bool
  | .rw => true
  | .rws => true
  | .wo => true
  | _ => false

/-- The index pages that hold objects (R179). -/
def pages : List Nat := [0x10, 0x11, 0x12, 0x13, 0x14, 0x20, 0x21, 0x30, 0x31, 0x32, 0x33, 0x34, 0x40, 0x41, 0x42, 0x43, 0x44, 0x50, 0x60, 0x61, 0x70]

/-- One record of OBJECT_DIRECTORY (R180). -/
def dirRecord (r : ObjRow) : List Byte :=
  leBytes 2 r.index ++ u8 0 ++ u8 r.last ++ u8 r.ty.code ++ u8 r.acc.code ++ u8 (if r.acc.reads then 0 else 0xFF)
    ++ u8 (if r.acc.writes then roleCode r.wrole else 0xFF) ++ u8 (if r.acc = .rws then setOf r.index else 0)
    ++ u8 (b2n r.stored + 2 * b2n r.perChan + 4 * b2n r.loc) ++ leBytes 2 0 ++ leBytes 4 (if r.ty = .domain then domainMax r.index else r.ty.len)

/-- One COMMIT_RESULT record (R166). -/
def commitRecBytes (c : CommitRec) : List Byte :=
  timeBytes c.requested ++ timeBytes c.applied ++ leBytes 4 c.mask.toNat ++ leBytes 2 c.status.toNat ++ leBytes 2 c.failIndex.toNat
    ++ [c.failSub, 0#8] ++ leBytes 2 c.mateStatus.toNat ++ leBytes 4 c.pairNumber.toNat

/-- The type code of an object. -/
def typeOf (idx : Nat) : Nat := match objRow idx with
  | some r => r.ty.code
  | none => 0

/-- A staged value as a snapshot entry. -/
def stagedBytes (v : Staged) : List Byte := entry (v.key / 256) (v.key % 256) (typeOf (v.key / 256)) v.value

/-- The content of a snapshot slot (R174). -/
def snapBytes (x : Snap) : List Byte :=
  timeBytes x.captured ++ leBytes 4 x.mask.toNat ++ nums 4 x.generation ++ leBytes 4 x.pairNumber.toNat ++ leBytes 4 x.entries.length
    ++ (x.entries.map (fun v => entry (v.1 / 256) (v.1 % 256) (typeOf (v.1 / 256)) v.2)).flatten

/-- Objects 0x1000 to 0x11FF. -/
def val10 (e : Session) (idx sub : Nat) (s : State) : List Byte :=
  match idx with
  | 0x1001 => u8 (perVariant 1 2 s)
  | 0x1002 => stripEnd s.factory.partNumber
  | 0x1003 => leBytes 8 s.factory.serial.toNat
  | 0x1004 => [s.factory.stepping]
  | 0x1005 => timeBytes s.factory.manufactured
  | 0x1006 => let b := imageInForce s; decimal (hdr b 12 1) ++ u8 0x2E ++ decimal (hdr b 13 1) ++ u8 0x2E ++ decimal (hdr b 14 2)
  | 0x1007 => leBytes 4 (releaseInForce s).toNat
  | 0x1008 => u8 s.life.address.toNat
  | 0x1009 => u8 (mateAddress s)
  | 0x100A => u8 (roleCode e.role)
  | 0x100B => leBytes 8 (uptime s)
  | 0x100C => stripEnd (leBytes 16 s.regs.assetTag.toNat)
  | 0x100D => (pages.flatMap dirPage |>.map dirRecord).flatten
  | 0x1100 => timeBytes e.commitAt
  | 0x1103 => padTo 320 (e.results.map commitRecBytes).flatten
  | 0x1104 => leBytes 2 e.staged.length
  | 0x1105 => (e.staged.map stagedBytes).flatten
  | 0x1106 => leBytes 4 (Tab.get 0 sub s.commits.generation)
  | 0x1108 => leBytes 4 s.commits.pairNumber.toNat
  | 0x1109 => u8 s.commits.pairState
  | 0x110B => match Tab.find sub s.snaps with
    | some x => snapBytes x
    | none => []
  | 0x110D => leBytes 2 s.dict.pendSave.length
  | 0x110F => leBytes 2 e.groupRef.toNat
  | 0x1110 => leBytes 24 (Tab.get 0 (sub - 1) s.dict.members).toNat
  | _ => cfgBytes idx sub s

/-- Code of a Gleno state (R216). -/
def GState.code : GState → Nat
  | .off => 0 | .listen => 1 | .joining => 2 | .joined => 3 | .master => 4 | .noSlot => 5 | .silent => 6

/-- PORT_STATE of a port (R216). -/
def GPort.code (mark : Bool) : GPort → Nat
  | .down => 0 | .training => 1 | .trained => if mark then 3 else 2

/-- One record of SESSIONS (R216). -/
def sessionBytes (x : Nat × Session) : List Byte :=
  leBytes 2 x.1 ++ u8 x.2.peer ++ u8 (roleCode x.2.role) ++ u8 x.2.version ++ zeros 3 ++ timeBytes x.2.opened ++ timeBytes x.2.lastRec

/-- Objects 0x1200 to 0x12FF. -/
def val12 (idx sub : Nat) (s : State) : List Byte :=
  let g := s.gleno
  match idx with
  | 0x1200 => u8 g.state.code
  | 0x1201 => leBytes 2 g.cycleTime.toNat
  | 0x1203 => u8 (g.master.getD 0xFF)
  | 0x1204 => leBytes 4 g.presence.toNat
  | 0x1205 => u8 (if sub = 1 then g.m0.code g.mark0 else g.m1.code g.mark1)
  | 0x1207 => u8 (if sub = 1 then glenoMax s else glenoMin s)
  | 0x1208 => (g.sessions.map sessionBytes).flatten
  | 0x120B => leBytes 4 g.lost.toNat
  | _ => cfgBytes idx sub s

/-! ## Power and start (02, 03) -/

/-- Code of a module state (R107). -/
def modCode : ModState → Nat
  | .starting => 0 | .running => 1 | .restarting => 2 | .stopping => 3 | .stopped => 4 | .thermalStop => 5 | .strapFault => 6
  | .unpowered => 0 | .reset => 0

/-- Objects 0x1300 to 0x14FF. -/
def val13 (idx sub : Nat) (s : State) : List Byte :=
  let p := s.power
  match idx with
  | 0x1302 => u8 p.level
  | 0x1304 => leBytes 2 (booked s)
  | 0x1305 => leBytes 2 (admissible .traffic s)
  | 0x1306 => leBytes 2 p.ledgerMv
  | 0x1307 => leBytes 2 p.busMv
  | 0x1308 => leBytes 2 p.inlet10mA
  | 0x130B => (p.entries.map (fun x => leBytes 2 (x.1 / 65536) ++ leBytes 2 x.1 ++ u8 x.2.state ++ u8 0 ++ leBytes 2 x.2.units)).flatten
  | 0x130C => (p.dipLog.map (fun d => timeBytes d.time ++ leBytes 2 d.lowest ++ leBytes 2 d.below)).flatten
  | 0x130E => leBytes 2 p.cellMv
  | 0x130F => u8 p.cellStatus
  | 0x1401 => u8 (modCode s.life.state)
  | 0x1402 => u8 s.life.stage
  | 0x1406 => [s.life.resetCause]
  | 0x1407 => (s.life.startTimes.map timeBytes).flatten
  | 0x1408 => u8 (sparCode ((s.life.spar.getD (sub - 1) ⟨.spare, .off⟩).role))
  | 0x140B => u8 s.life.stopStatus
  | 0x140C => leBytes 2 s.life.retired.toNat
  | _ => cfgBytes idx sub s

/-! ## Optics and coding (07, 08) -/

/-- Objects 0x2000 to 0x21FF. -/
def val20 (idx sub : Nat) (s : State) : List Byte :=
  let c := sub - 1
  let l := laser (c / 8) (c % 8) s
  match idx with
  | 0x2002 => u8 (opt c s).band.code
  | 0x2003 => u8 (opt c s).bandState.code
  | 0x2005 => if (opt c s).eqMode = 0 then ((opt c s).taps.map (fun t => [t.pre, t.post])).flatten else cfgBytes idx sub s
  | 0x2006 => ((opt c s).rxPower.map (fun p => leBytes 2 p.toNat)).flatten
  | 0x2007 => ((opt c s).txPower.map (fun p => leBytes 2 p.toNat)).flatten
  | 0x2009 => u8 l.st.code
  | 0x200A => leBytes 2 l.bias.toNat
  | 0x200C => u8 (if c % 2 = 0 then (eng (c / 2) s).lower else (eng (c / 2) s).upper).st.code
  | 0x200D => leBytes 2 (eng c s).temp.toNat
  | 0x210C => leBytes 4 (chStatus c s)
  | 0x210D => [(cod c s).peerCaps]
  | 0x210E => ((cod c s).prbsErr.map (fun n => leBytes 8 n.toNat)).flatten
  | 0x210F => leBytes 8 (cod c s).prbsBits.toNat
  | _ => cfgBytes idx sub s

/-! ## Time base, vernier, references (09 to 11) -/

/-- One record of an event unit (R316). -/
def euRecBytes (r : EuRec) : List Byte :=
  leBytesI 8 r.interval ++ timeBytes r.start ++ leBytes 2 r.seq.toNat ++ [r.flags, r.epoch] ++ zeros 8

/-- The records of DET_TRACE (R322). -/
def traceBytes (t : Trace) : List Byte :=
  (t.recs.map (fun r => leBytes 4 r.beat.toNat ++ leBytes 2 r.flags.toNat ++ leBytes 2 r.m ++ leBytesI 8 r.u)).flatten

/-- Objects 0x3000 to 0x31FF. -/
def val30 (idx sub : Nat) (s : State) : List Byte :=
  let d := sub - 1
  let dom := domOf (domNo d) s
  match idx with
  | 0x3000 => timeBytes (timeA s)
  | 0x3001 => timeBytes (timeOf s.tb.b.counter.lsb)
  | 0x3002 => timeBytes (timeOut s)
  | 0x3003 => u8 (b2n dom.traceable)
  | 0x3004 => leBytesI 4 dom.rate
  | 0x3007 => [dom.epoch]
  | 0x300B => leBytesI 8 (outOffset s)
  | 0x300D => u8 (mdll d s).st.code
  | 0x300E => leBytes 2 (mdll d s).freqErr.toNat
  | 0x3010 => leBytes 2 s.tb.lockmonMv
  | 0x3011 => timeBytes s.tb.capA ++ timeBytes s.tb.capB ++ timeBytes s.tb.capOut
  | 0x3013 => leBytes 4 (clockStatus s)
  | 0x3100 => leBytesI 8 (phase d s)
  | 0x3101 => leBytes 4 ((det d s).seq.toNat * 65536 + detFlagsReg d s)
  | 0x3102 => leBytesI 8 (det d s).freq
  | 0x3103 => leBytesI 4 (detDelay d s)
  | 0x310A => leBytesI 8 (Tab.get ⟨0, false⟩ d s.vern.diff).value
  | 0x310D => ((eu d s).queue.map euRecBytes).flatten
  | 0x310F => timeBytes (eu d s).calTime
  | 0x3110 => leBytes 2 (eu d s).calWidest
  | 0x3112 => match s.vern.trace with
    | some t => traceBytes t
    | none => []
  | _ => cfgBytes idx sub s

/-- Objects 0x3200 to 0x32FF. -/
def val32 (idx sub : Nat) (s : State) : List Byte :=
  match idx with
  | 0x3208 => leBytes 4 (slotStatus (sub - 1) s)
  | 0x320B => u8 (txQlOf (sub - 1) s)
  | 0x3214 => u8 (path (sub - 1) s).st.code
  | 0x3215 => u8 ((path (sub - 1) s).slot.getD 0xFF)
  | 0x3219 => leBytes 4 ((path (sub - 1) s).bound / 1000)
  | 0x321A => leBytes 4 s.refs.lockedSec
  | 0x3224 => leBytes 4 (outStatus (sub - 1) s)
  | _ => cfgBytes idx sub s

/-! ## Halyard, calibration (12, 13) -/

/-- Code of a port state (R395). -/
def PtpSt.code : PtpSt → Nat
  | .disabled => 0 | .listening => 1 | .master => 2 | .passive => 3 | .uncalibrated => 4 | .slave => 5 | .suspended => 6 | .faulty => 7

/-- The offsets of the last second on a port. -/
def recentOffs (c i : Nat) (s : State) : List Int :=
  ((port c i s).recent.filter (fun x => decide (s.now ≤ x.1 + 100000000))).map (fun x => x.2)

/-- ASYM_RESULT of a channel (R395). -/
def asymBytes (c : Nat) (s : State) : List Byte :=
  let a := asym c s
  u8 (asymState c s) ++ u8 (b2n a.half + 2 * b2n a.differ) ++ leBytes 2 a.set.toNat ++ leBytes 4 a.a ++ leBytes 4 a.lam0
    ++ leBytesI 4 (delayAsym c s) ++ leBytes 2 a.sigma ++ leBytes 2 a.resid ++ leBytes 4 (if a.st = 0 then 0 else (s.now - a.fitAt) / 100000000)

/-- PEER_INFO of a channel (R395): of the port of the instance that the channel's slots use. -/
def peerBytes (c : Nat) (s : State) : List Byte :=
  let p := port c (slotInst c s) s
  beBytes 8 p.peerId.toNat ++ u8 p.version ++ [p.peerChan] ++ u8 ((p.ann.map (fun a => a.cls.toNat)).getD 255) ++ u8 0
    ++ leBytes 2 ((p.ann.map (fun a => a.steps.toNat)).getD 0) ++ leBytes 2 0

/-- One record of CAL_LOG (R425). -/
def calLogBytes (r : CalLog) : List Byte :=
  timeBytes r.start ++ leBytes 4 r.durMs ++ u8 r.kind ++ u8 r.outcome ++ u8 r.reason ++ u8 0 ++ leBytes 2 r.inst ++ leBytes 2 0
    ++ leBytes 4 r.samples ++ leBytes 4 r.resid

/-- One record of AGE_MODEL (R425): the factory record's words where none of a refit is in force. -/
def ageBytes (x : Nat × Age) : List Byte :=
  let w := if (x.2.flags.getLsbD 3) then padTo 32 (Config.factoryAge x.1) else padTo 32 ((x.2.words.map (fun v => leBytes 4 v.toNat)).flatten)
  leBytes 2 (x.1 / 1024) ++ leBytes 2 (x.1 % 1024) ++ [x.2.flags] ++ zeros 3 ++ w ++ timeBytes x.2.fit ++ leBytes 4 0

/-- The quantity instances of R420 by key: oven, lasers, spares, receivers, loop delays, core MDLL. -/
def ageKeys : List Nat :=
  [calKey 1 0] ++ (List.range 192).map (calKey 2) ++ (List.range 48).map (calKey 3) ++ (List.range 768).map (calKey 4)
    ++ (List.range 768).map (calKey 5) ++ [calKey 6 24]

/-- The instances of the kinds of record that start from a factory record: event units, lanes, fits, drivers, ageing. -/
def factoryInsts : Nat := 4 + 768 + 192 + 4 + ageKeys.length

/-- STORE_STATUS (R425): valid records, instances on the factory record, records waiting, write failures. -/
def storeBytes (s : State) : List Byte :=
  let own := (s.cal.records.filter (fun r => let k := r.1 / 1024; decide (k ≤ 4) || decide (9 ≤ k))).length
  nums 4 [s.cal.records.length, factoryInsts - own, s.cal.waiting.length, s.cal.failures.toNat]

/-- LANE_DELAYS of a channel (R425). -/
def laneDelayBytes (c : Nat) (s : State) : List Byte :=
  (lanes.map (fun k => leBytesI 4 (slewVal 1 (4 * c + k) s))).flatten ++ (lanes.map (fun k => leBytesI 4 (laneCal (4 * c + k) s).rx)).flatten
    ++ leBytes 4 (lanes.foldl (fun n k => n + b2n (laneCal (4 * c + k) s).inferred * 2 ^ k) 0)

/-- Objects 0x3300 to 0x34FF. -/
def val33 (idx sub : Nat) (s : State) : List Byte :=
  let c := sub - 1
  match idx with
  | 0x3313 => asymBytes c s
  | 0x3314 => u8 (port c 0 s).st.code ++ u8 (port c 1 s).st.code
  | 0x3315 => leBytesI 8 (mean (recentOffs c (slotInst c s) s))
  | 0x3316 => leBytesI 8 ((port c (slotInst c s) s).mpd / 65536)
  | 0x3317 => peerBytes c s
  | 0x331A => beBytes 8 s.factory.clockId.toNat
  | 0x3408 => (s.cal.log.map calLogBytes).flatten
  | 0x3409 => laneDelayBytes c s
  | 0x340A => (lanes.map (fun k => leBytes 2 (laneCal (4 * c + k) s).margin.toNat)).flatten
  | 0x340B => (ageKeys.map (fun k => ageBytes (k, Tab.get Age.reset k s.cal.ages))).flatten
  | 0x340C => leBytes 2 (if (laser (c / 8) (c % 8) s).on then min 65535 (Tab.get Age.reset (calKey 2 c) s.cal.ages).days else 65535)
  | 0x340D => leBytes 2 s.tb.lockLow ++ leBytes 2 s.tb.lockHigh
  | 0x340E => storeBytes s
  | _ => cfgBytes idx sub s

/-! ## Forwarding, meters, fabric, egress, pair (14 to 17) -/

/-- The rows of a stated table in a state. -/
def rowsIn (st : RowSt) (t : Tab Row) : Nat := (t.filter (fun r => r.2.st == st)).length

/-- TABLE_USAGE (R461). -/
def usageBytes (s : State) : List Byte :=
  let t := s.fwd.tables
  nums 4 [t.label.length, unitsUsed t, rowsIn .live t.nh, rowsIn .draining t.nh, rowsIn .live t.group, rowsIn .live t.member, t.classif.length,
          (t.meters.filter (fun m => m.2.mode != 0)).length]

/-- The words of a count object of n words. -/
def countWords (idx sub n : Nat) (s : State) : List Nat := (List.range n).map (fun w => (Tab.get 0 (cellKey idx sub w) s.obs.counts).toNat)

/-- The age of the oldest frame in the store in µs. -/
def oldestUs (s : State) : Nat :=
  s.sw.ovf.tails.foldl (fun n t => t.2.foldl (fun n k => max n ((s.now - k.entry) / 100)) n) 0

/-- OVF_STATUS (R484). -/
def ovfBytes (s : State) : List Byte :=
  let st : Nat := match s.sw.ovf.st with
    | .closed => 0 | .opening => 1 | .open_ => 2 | .draining => 3 | .selfRefresh => 4 | .failed => 5
  u8 st ++ u8 s.sw.ovf.memStacks.toNat ++ leBytes 2 0 ++ nums 4 [ovfCapacity s, storeCells s, s.sw.ovf.tails.length, oldestUs s, 0]

/-- FABRIC_STATUS (R466): limited tiles, and the core MDLL on the jury clock. -/
def fabricStatus (s : State) : Nat :=
  let core := (mdll 24 s).source == .jury
  (List.range 24).foldl (fun n t => n + b2n (core || (mdll t s).source == .jury) * 2 ^ t) 0 + b2n core * 2 ^ 24

/-- A gate list as it is carried, with another base (R497). -/
def gateListBytes (l : GateList) (base : Nat) : List Byte :=
  [1#8, 0#8] ++ leBytes 2 l.entries.length ++ leBytes 4 l.cycle ++ timeBytes (timeOf base) ++ leBytes 4 0
    ++ (l.entries.map (fun x => leBytes 2 x.1.toNat ++ leBytes 2 0 ++ leBytes 4 x.2)).flatten

/-- SHAPER_STATE of a port (R507). -/
def shaperBytes (c : Nat) (s : State) : List Byte :=
  ((List.range 16).map (fun q => leBytesI 8 (bucket c q s).t ++ leBytesI 8 (if 12 ≤ q then (bucket c (16 + q) s).t else 0))).flatten
    ++ leBytesI 8 (bucket c 32 s).t

/-- GATE_STATUS of a port (R507). -/
def gateBytes (c : Nat) (s : State) : List Byte :=
  let g := gate c s
  let start := (g.oper.map (fun l => l.start)).getD 0
  let t := (domOf (gateDom c s) s).counter.lsb
  let cycles := match g.oper with
    | some l => (t - l.start) / l.lsb
    | none => 0
  u8 (b2n g.oper.isSome + 2 * b2n (!g.pend.isEmpty) + 4 * b2n g.moved + 8 * b2n g.restepped + 16 * b2n g.overrun
      + 32 * b2n (g.pend.any (fun p => !p.timed)))
    ++ u8 g.entry ++ leBytes 2 g.gates.toNat ++ leBytes 4 cycles ++ timeBytes (timeOf start) ++ leBytes 4 g.n

/-- The list of GATE_PENDING: the latest that waits (R507). -/
def pendingBytes (c : Nat) (s : State) : List Byte :=
  match (gate c s).pend.getLast? with
  | some p => gateListBytes p.list (if p.timed then p.list.start else p.list.base)
  | none => []

/-- Objects 0x4000 to 0x42FF. -/
def val40 (e : Session) (idx sub : Nat) (s : State) : List Byte :=
  let c := sub - 1
  match idx with
  | 0x4002 => e.txnFail
  | 0x4004 => e.tableRead
  | 0x4005 => u8 s.fwd.epoch ++ zeros 3 ++ nums 4 ((List.range 8).map (fun n => occupancy n s))
  | 0x4006 => usageBytes s
  | 0x400C => beBytes 6 s.factory.baseMac.toNat
  | 0x4106 => if e.meterReq = 0 then [] else meterBytes (e.meterReq - 1) s
  | 0x4209 => ovfBytes s
  | 0x420A => nums 4 ((List.range 16).map (fun q => queueCells c q s) ++ [portCells c s, storePort c s])
  | 0x420B => leBytes 4 (tileCells c s)
  | 0x420C => leBytes 4 (fabricStatus s)
  | 0x420D => nums 4 (countWords idx sub 10 s)
  | 0x420E => nums 4 (countWords idx sub 3 s)
  | 0x420F => nums 4 (countWords idx sub 4 s)
  | _ => cfgBytes idx sub s

/-- Objects 0x4300 to 0x44FF. -/
def val43 (e : Session) (idx sub : Nat) (s : State) : List Byte :=
  let c := sub - 1
  match idx with
  | 0x4308 => shaperBytes c s
  | 0x4309 => match (gate c s).oper with
    | some l => gateListBytes l l.start
    | none => []
  | 0x430A => pendingBytes c s
  | 0x430B => gateBytes c s
  | 0x430C => nums 4 (countWords idx sub 4 s)
  | 0x440A => e.streamRead
  | 0x440B => u8 s.pair.role.code
  | 0x440C => leBytes 4 s.pair.epoch.toNat
  | 0x4410 => leBytes 4 (ckptAge 100000 s).toNat
  | 0x4411 => match s.pair.held with
    | some k => k.bytes
    | none => []
  | 0x4412 => u8 (b2n s.pair.inhibit)
  | _ => cfgBytes idx sub s

/-! ## Register window, trust, update, observability (04, 18 to 20) -/

/-- One tamper record (R567). -/
def tamperBytes (t : Tamper) : List Byte := timeBytes (timeOf (t.time * lsbPerSec / 32768)) ++ u8 t.cls ++ u8 t.policy ++ leBytes 2 0

/-- MACSEC_CKN of a channel (R567). -/
def cknBytes (c : Nat) (s : State) : List Byte :=
  let x := ca c s
  u8 x.ckn.length ++ zeros 3 ++ padTo 32 x.ckn ++ (if x.cak.isEmpty then zeros 4 else padTo 4 (Config.keyCheck x.cak))

/-- MACSEC_STATUS of a channel (R567). -/
def macsecBytes (c : Nat) (s : State) : List Byte :=
  let x := ca c s
  let st : Nat := if macPolicy c s = 0 then 0 else if x.sak then 2 else if macPolicy c s = 1 then 3 else 1
  u8 st ++ u8 (b2n x.server + 2 * b2n x.rekey) ++ u8 x.an ++ u8 0 ++ leBytes 4 x.keyNo.toNat ++ leBytes 8 x.pn

/-- HALYARD_KEY_INFO of an entry (R567). -/
def keyInfoBytes (n : Nat) (s : State) : List Byte :=
  match Tab.find n s.trust.halKeys with
  | none => zeros 28
  | some k =>
    let on (f : Nat → Bool) : Bool := [0, 1].any (fun i => bit k.mask.toNat i && f i)
    leBytes 4 k.id.toNat ++ [k.mask, k.spp] ++ u8 (b2n (on (fun i => sendKey i s == some k)) + 2 * b2n (on (fun i => (acceptKeys i s).contains k)))
      ++ u8 0 ++ leBytes 8 k.start ++ leBytes 8 k.end_ ++ padTo 4 (Config.keyCheck k.key)

/-- SERVICE_REMAINING in minutes (R567). -/
def serviceLeft (s : State) : Nat := match s.trust.service with
  | some t => (t - s.now + 5999999999) / 6000000000
  | none => 0

/-- UPDATE_STATE (R588). -/
def updateState (s : State) : Nat :=
  if s.upd.download.isSome then 1 else if s.upd.verifyReq.isSome then 2
  else match s.upd.state with
    | 0 => 0 | 1 => 3 | 2 => 4 | 3 => 4 | 4 => 5 | _ => 6

/-- IMAGE_INFO of a region (R588). -/
def imageBytes (n : Nat) (s : State) : List Byte :=
  let u := s.upd
  let b := if n = 1 then u.active else if n = 2 then u.staging else u.reserve
  let prob := u.state == 4
  let flags : Nat := if n = 1 then b2n (!prob) + 2 * b2n prob else if n = 2 then 4 * b2n u.rejected else 1
  let valid := if n = 2 then !u.stagingDigest.isEmpty else !b.isEmpty
  u8 (b2n valid) ++ u8 flags ++ leBytes 2 (hdr b 20 2) ++ leBytes 4 (hdr b 8 4) ++ u8 (hdr b 12 1) ++ u8 (hdr b 13 1) ++ leBytes 2 (hdr b 14 2)
    ++ u8 (hdr b 24 1) ++ u8 (hdr b 26 1) ++ u8 (hdr b 28 1) ++ u8 0 ++ (if b.isEmpty then zeros 48 else digest b)

/-- UPDATE_PROGRESS (R588): bytes received in a download, or copied in a refresh of the reserve. -/
def progress (s : State) : Nat :=
  match s.upd.download.bind (fun n => session n s) with
  | some e => (e.transfer.map (fun t => t.data.length)).getD 0
  | none => if s.upd.state = 5 then min (s.upd.block * blockSize) s.upd.active.length else 0

/-- Objects 0x5000 to 0x61FF. -/
def val50 (e : Session) (idx sub : Nat) (s : State) : List Byte :=
  match idx with
  | 0x5000 => leBytes 4 e.regAddr.toNat
  | 0x5002 => u8 (b2n e.regInc)
  | 0x5003 => leBytes 2 e.regStatus.toNat
  | 0x5004 => leBytes 2 e.regCount.toNat
  | 0x5006 => leBytes 2 e.regDone.toNat
  | 0x5008 => leBytes 2 e.skipped.toNat
  | 0x6000 => u8 s.trust.state
  | 0x6001 => Config.idevChain
  | 0x6002 => s.trust.ldevChain
  | 0x6004 => s.trust.csr
  | 0x600A => leBytes 2 (serviceLeft s)
  | 0x600C => e.attest
  | 0x600D => leBytes 4 (s.trust.counters.getD (sub - 1) 0).toNat
  | 0x600F => timeBytes (islandTime s)
  | 0x6010 => leBytes 4 (islandStatus s)
  | 0x6012 => (s.trust.log.map tamperBytes).flatten
  | 0x6018 => cknBytes (sub - 1) s
  | 0x6019 => macsecBytes (sub - 1) s
  | 0x601C => keyInfoBytes sub s
  | 0x6101 => u8 (updateState s)
  | 0x6105 => imageBytes sub s
  | 0x6106 => u8 s.upd.outcome ++ u8 s.upd.reason ++ leBytes 2 0 ++ leBytes 4 s.upd.release.toNat
  | 0x6107 => u8 s.upd.starts
  | 0x6109 => leBytes 4 (progress s)
  | 0x610A => u8 (b2n s.upd.settingsReset)
  | _ => cfgBytes idx sub s

/-- One record of COUNTER_DIRECTORY (R613). -/
def cellRecord (n : Nat) (s : State) : List Byte :=
  if n < 1536 then leBytes 2 n ++ leBytes 2 0x7001 ++ u8 (n / 8 + 1) ++ u8 (n % 8) ++ u8 (if n % 2 = 0 then 1 else 2) ++ u8 0
  else
    let p := n - 1536
    leBytes 2 n ++ leBytes 2 0x7007 ++ u8 (p + 1) ++ u8 0 ++ u8 (4 + b2n (progChained p s) + 2 * b2n (progIgnored p s)) ++ u8 0

/-- The alarms of the module in the order of the model's list. -/
def allAlarms : List Alarm :=
  [.strapFault, .strapChange, .reversedFlow, .dieWarning, .ceilingBelowFloor, .underDeclared, .bankRefused, .overVoltage, .overVoltageStop, .cellLow,
   .startDeadline, .thermalRepeat, .roleStopped, .sparExhausted, .sparesLow, .postFail, .wrongKeys, .pairDiverged, .scopeDiffers, .onePortDown,
   .bothPortsDown, .joinUnacked, .addressConflict, .noSlot, .subMinor, .subMajor, .spareCheck, .unresolved, .laserNoSpare, .rxPower, .bringUp,
   .channelDown, .tileMdll, .coreMdll, .outMdll, .mdllFailed, .juryFault, .mastFault, .lockmonMinor, .lockmonMajor, .helper, .disagreeBoth,
   .disagreeNone, .lockLoss, .holdoverLost, .steerWatchdog, .alignFail, .halyardFaulty, .asymDisagree, .asymPhase, .calOverdue, .rxMargin,
   .recordFailed, .recordLost, .switchInPoint, .switchNoSpare, .ovfFailed, .ovfThree, .shroudMiscabled, .shroudVersion, .shroudLost,
   .glenoMateLost, .mateLost, .takeoverInhibited, .takeoverStale, .dualActive, .watchLapsed, .tamperRecord, .tamperLock, .tamperZero, .entropy,
   .pairAuth, .macsecPeer, .updateFailed, .reserveInvalid, .settingsReset, .noRegion]

/-- One record of ALARM_DIRECTORY (R603, R613). -/
def alarmRecord (a : Alarm) : List Byte :=
  leBytes 2 (alarmCode a) ++ u8 (if a.major then 2 else 1) ++ u8 (b2n (!a.condition)) ++ u8 (b2n a.fixed) ++ zeros 3 ++ padTo 40 (Config.alarmText a.number)

/-- One record of ALARM_ACTIVE (R613). -/
def standingBytes (s : State) (x : Standing) : List Byte :=
  leBytes 2 (alarmCode x.alarm) ++ leBytes 2 x.inst ++ u8 (alarmClass x.alarm s) ++ u8 (b2n (!x.alarm.condition)) ++ leBytes 2 0
    ++ timeBytes x.raised ++ leBytes 4 x.count

/-- The code of an event record and the number of its kind (R606). -/
def EventKind.code : EventKind → Nat
  | .alarm a => alarmCode a
  | .rejectedResetPulse => (Config.infoCode 0).toNat
  | .dip => (Config.infoCode 1).toNat
  | .migration => (Config.infoCode 2).toNat
  | .calOutcome => (Config.infoCode 3).toNat
  | .tamperInfo => (Config.infoCode 4).toNat
  | .tableDrop => (Config.infoCode 5).toNat
  | .keyMissed => (Config.infoCode 6).toNat
  | .updateInfo => (Config.infoCode 7).toNat
  | .unpairedDiffers => (Config.infoCode 8).toNat
  | .takeover => (Config.infoCode 9).toNat
  | .slotState => (Config.infoCode 10).toNat
  | .pathState => (Config.infoCode 11).toNat
  | .other => (Config.infoCode 12).toNat

/-- One event record (R606). -/
def eventBytes (e : Event) : List Byte :=
  timeBytes e.time ++ leBytes 4 e.seq.toNat ++ leBytes 2 e.kind.code ++ leBytes 2 e.inst ++ u8 e.cls ++ [e.flags]
    ++ leBytes 8 (Config.eventData e.kind.code e.seq.toNat).toNat ++ leBytes 2 0

/-- The records that a read of EVENT_LOG returns (R608): those whose SEQ is at or after a number, oldest first, at most
2,048, from the flash ring where the working ring no longer holds them. -/
def eventsFrom (n : BitVec 32) (s : State) : List Event :=
  let old := s.obs.flash.filter (fun x => !(s.obs.events.any (fun y => y.seq == x.seq)))
  ((old ++ s.obs.events).filter (fun x => decide ((x.seq - n).toNat < 2147483648))).take 2048

/-- Objects 0x7000 to 0x70FF. -/
def val70 (e : Session) (idx sub : Nat) (s : State) : List Byte :=
  match idx with
  | 0x7000 => ((List.range 1664).map (fun n => cellRecord n s)).flatten ++ Config.counterDirectory
  | 0x7001 => nums 8 ((List.range 4).map (fun w => (Tab.get 0 (4 * (sub - 1) + w) s.obs.traffic).toNat))
  | 0x7002 => timeBytes e.ctrSnapAt
  | 0x7004 => match Tab.find sub s.obs.slots with
    | some c => ctrSnapBytes c
    | none => []
  | 0x7006 => leBytes 4 (progSel (sub - 1) s).toNat
  | 0x7007 => leBytes 4 (Tab.get 0 (sub - 1) s.obs.prog).toNat
      ++ leBytes 4 (if progChained (sub - 1) s then (Tab.get 0 sub s.obs.prog).toNat else 0)
  | 0x7009 => e.statSnap
  | 0x700A => (allAlarms.map alarmRecord).flatten
  | 0x700C => (s.obs.alarms.map (standingBytes s)).flatten
  | 0x700F => leBytes 4 e.readFrom.toNat
  | 0x7010 => ((eventsFrom e.readFrom s).map eventBytes).flatten
  | 0x7013 => u8 (b2n s.obs.sampling) ++ u8 s.obs.sampleEnd ++ leBytes 2 0 ++ leBytes 4 s.obs.samples.length ++ leBytes 4 s.obs.discarded
  | 0x7014 => (s.obs.samples.map sampleBytes).flatten
  | _ => cfgBytes idx sub s

/-! ## Reads of an object -/

/-- The value of an RC count object (R147, R597): U32, or U64 for METER_COUNTS. -/
def countBytes (r : ObjRow) (sub : Nat) (s : State) : List Byte := nums 4 (countWords r.index sub (r.ty.len / 4) s)

/-- The value of one subindex of an object, by its row; DESIGN CHOICE, assumption 55; DESIGN CHOICE, assumption 117;
DESIGN CHOICE, assumption 144. -/
def objVal (e : Session) (r : ObjRow) (sub : Nat) (s : State) : List Byte :=
  let idx := r.index
  if sub < r.first then u8 r.last
  else if r.acc = .rc then countBytes r sub s
  else match idx / 256 with
    | 0x10 => val10 e idx sub s
    | 0x11 => val10 e idx sub s
    | 0x12 => val12 idx sub s
    | 0x13 => val13 idx sub s
    | 0x14 => val13 idx sub s
    | 0x20 => val20 idx sub s
    | 0x21 => val20 idx sub s
    | 0x30 => val30 idx sub s
    | 0x31 => val30 idx sub s
    | 0x32 => val32 idx sub s
    | 0x33 => val33 idx sub s
    | 0x34 => val33 idx sub s
    | 0x40 => val40 e idx sub s
    | 0x41 => val40 e idx sub s
    | 0x42 => val40 e idx sub s
    | 0x43 => val43 e idx sub s
    | 0x44 => val43 e idx sub s
    | 0x50 => val50 e idx sub s
    | 0x60 => val50 e idx sub s
    | 0x61 => val50 e idx sub s
    | _ => val70 e idx sub s

/-- The status of a read that its owning chapter gives one (R174, R302, R309, R322, R379, R461, R601). -/
def readFault (e : Session) (idx sub : Nat) (s : State) : Status :=
  let d := sub - 1
  if sub = 0 ∧ idx ≠ 0x3112 ∧ idx ≠ 0x4004 then 0
  else match idx with
    | 0x110B => if (Tab.find sub s.snaps).isNone then 0x080A#16 else 0
    | 0x3100 => if (det d s).valid then 0 else 0x0811#16
    | 0x3102 => if (det d s).freqValid then 0 else 0x0811#16
    | 0x310A =>
      let b := cfgBytes 0x3109 sub s
      if (Tab.get ⟨0, false⟩ d s.vern.diff).valid && (det (leNat (b.take 2)) s).valid && (det (leNat (b.drop 2)) s).valid then 0 else 0x0811#16
    | 0x3112 => match s.vern.trace with
      | some t => if t.done then 0 else 0x0401#16
      | none => 0x0401#16
    | 0x3315 => if offsetValid d (slotInst d s) s then 0 else 0x0816#16
    | 0x4004 => if e.tableErr ≠ 0 then 0x0819#16 else 0
    | 0x7004 => match Tab.find sub s.obs.slots with
      | some c => if c.done then 0 else 0x0401#16
      | none => 0x080A#16
    | _ => 0

/-- Whether an object's form provides a subindex (R141, R142). -/
def hasSub (r : ObjRow) (sub : Nat) : Bool :=
  decide (sub ≤ r.last) || (r.perChan && (decide (224 ≤ sub ∧ sub ≤ 239) || sub == 255))

/-- A subindex names a group or all channels (R8). -/
def groupSub (r : ObjRow) (sub : Nat) : Bool := r.perChan && decide (224 ≤ sub)

/-- The sum of the members of an RC object, saturated at its type (R147). -/
def sumBytes (r : ObjRow) (subs : List Nat) (s : State) : List Byte :=
  let total := subs.foldl (fun n c => n + leNat (countBytes r (c + 1) s)) 0
  leBytes r.ty.len (min total (2 ^ (8 * r.ty.len) - 1))

/-- A read of a group or all channels (R147, R158). -/
def groupRead (e : Session) (r : ObjRow) (sub : Nat) (s : State) : Status × List Byte :=
  match members sub s with
  | [] => (0x0803#16, [])
  | c :: l =>
    if r.acc = .rc then (0, sumBytes r (c :: l) s)
    else
      let v := objVal e r (c + 1) s
      (if l.all (fun k => objVal e r (k + 1) s == v) then 0 else 0x0807#16, v)

/-- An RC object is set to zero by the read that returns it (R147, R595). -/
def clearCount (r : ObjRow) (sub : Nat) (s : State) : State :=
  (List.range (r.ty.len / 4)).foldl (fun s w => updObs (fun o => { o with counts := Tab.put 0 (cellKey r.index sub w) 0 o.counts }) s) s

/-- What the read itself does: an RC object is cleared for a role of operator or above, TIME_CAPTURE latches (R147, R283),
a read of REG_DATA reads the register. -/
def readAct (e : Session) (r : ObjRow) (sub : Nat) (s : State) : State :=
  if r.acc = .rc ∧ r.first ≤ sub ∧ sub ≤ r.last ∧ roleMeets e.role .operator then clearCount r sub s
  else if r.index = 0x3011 then capture s
  else s

/-- A read of an object by a session: the state it leaves, the status, the value (R142, R147, R150, R158). -/
def readObj (n : Nat) (e : Session) (idx sub : Nat) (s : State) : Res :=
  match objRow idx with
  | none => Res.of s 0x0101#16
  | some r =>
    if !hasSub r sub then Res.of s 0x0102#16
    else if !r.acc.reads then Res.of s 0x0804#16
    else if idx = 0x5001 then dataRead ⟨n, 0⟩ e s
    else if groupSub r sub then let g := groupRead e r sub s; ⟨s, g.1, g.2⟩
    else if readFault e idx sub s ≠ 0 then Res.of s (readFault e idx sub s)
    else
      let s1 := if idx = 0x3011 then capture s else s
      ⟨readAct e r sub s, 0, objVal e r sub s1⟩

end Sys2Proof.Machine
end

