-- ==== Sys2Proof/Machine/Writes.lean ====
section
/-!
DEFINITION. Writes of objects (05): the checks of type, length and range (R144, R145, and the set tables of 07 to 20), RW
objects and their effects (R154), staging of RWS objects (R160, R161), snapshots (R173, R174) and stored settings (R152,
R153).
-/
namespace Sys2Proof.Machine

/-! ## Checks of a value (R144, R145) -/

/-- UTF-8: `need` bytes of the present character are to come, the next within bounds (R144). -/
def utf8From : List Byte → Nat → Nat → Nat → Bool
  | [], need, _, _ => need == 0
  | b :: t, 0, _, _ =>
    let n := b.toNat
    if n < 0x80 then utf8From t 0 0 0
    else if 0xC2 ≤ n ∧ n ≤ 0xDF then utf8From t 1 0x80 0xBF
    else if n = 0xE0 then utf8From t 2 0xA0 0xBF
    else if n = 0xED then utf8From t 2 0x80 0x9F
    else if 0xE1 ≤ n ∧ n ≤ 0xEF then utf8From t 2 0x80 0xBF
    else if n = 0xF0 then utf8From t 3 0x90 0xBF
    else if 0xF1 ≤ n ∧ n ≤ 0xF3 then utf8From t 3 0x80 0xBF
    else if n = 0xF4 then utf8From t 3 0x80 0x8F
    else false
  | b :: t, need + 1, lo, hi => decide (lo ≤ b.toNat ∧ b.toNat ≤ hi) && utf8From t need 0x80 0xBF

/-- A string is valid UTF-8. -/
def utf8Ok (l : List Byte) : Bool := utf8From l 0 0 0

/-- The length of a value fits its type (R144, R145); the longest value of a DOMAIN is its own. -/
def lenOk (r : ObjRow) (v : List Byte) : Bool :=
  match r.ty with
  | .str n => decide (1 ≤ v.length) && decide (v.length ≤ n)
  | .domain => decide (v.length ≤ domainMax r.index)
  | t => v.length == t.len

/-- The value is one of its type (R144). -/
def typeOk (r : ObjRow) (v : List Byte) : Bool :=
  match r.ty with
  | .bool => decide (leNat v ≤ 1)
  | .time96 => decide ((timeOfBytes v).ns.toNat ≤ 999999999)
  | .str _ => utf8Ok v
  | _ => true

/-- The value lies in the range of its row (R145). -/
def rangeOk (r : ObjRow) (v : List Byte) : Bool :=
  match r.rng with
  | .any => true
  | .within lo hi =>
    let n : Int := match r.ty with
      | .i k => signedOf k (leNat v)
      | _ => leNat v
    decide (lo ≤ n) && decide (n ≤ hi)

/-- A U32 field of an OCT value. -/
def f32 (o : Nat) (v : List Byte) : Nat := leNat ((v.drop o).take 4)

/-- The fields of BUF_PROFILE_DATA (R484). -/
def profileOk (v : List Byte) : Bool :=
  (List.range 16).all (fun q => decide (f32 (4 * q) v ≤ 139554) && decide ((v.getD (64 + q) 0).toNat ≤ 100))
    && decide (1 ≤ (v.getD 80 0).toNat) && decide ((v.getD 80 0).toNat ≤ 99)
    && [81, 82].all (fun i => decide (1 ≤ (v.getD i 0).toNat) && decide ((v.getD i 0).toNat ≤ 100))

/-- The fields of EU_CONFIG (R311). -/
def euOk (v : List Byte) : Bool :=
  decide ((v.getD 0 0).toNat ≤ 3) && decide (1 ≤ f32 4 v) && decide (f32 4 v ≤ 10000000) && decide (1 ≤ f32 8 v) && decide (f32 8 v ≤ 1000000000)

/-- The rates and bursts of a shaper at an offset (R489). -/
def shaperOk (o : Nat) (v : List Byte) : Bool := decide (f32 o v ≤ 1600000000) && decide (f32 (o + 4) v ≤ 16777215)

/-- Two U16 fields from 1 to 4,096. -/
def ratioOk (v : List Byte) : Bool :=
  let n := leNat (v.take 2)
  let d := leNat (v.drop 2)
  decide (1 ≤ n) && decide (n ≤ 4096) && decide (1 ≤ d) && decide (d ≤ 4096)

/-- SAMPLE_CONFIG (R613). -/
def sampleOk (v : List Byte) : Bool :=
  decide ((v.getD 2 0).toNat ≤ 2) && decide (256 ≤ f32 4 v) && decide (f32 4 v ≤ 16777216) && decide (f32 8 v ≤ 3600000)

/-- ALARM_MAP (R604, R613): whole records of known classes, no fixed code, no code twice. -/
def alarmMapOk : List Byte → Bool
  | [] => true
  | b0 :: b1 :: c :: _ :: t =>
    decide (c.toNat ≤ 3) && mapFree (leNat [b0, b1]) t && !(allAlarms.any (fun a => a.fixed && alarmCode a == leNat [b0, b1])) && alarmMapOk t
  | _ => false
where
  /-- A code is in none of the records. -/
  mapFree (code : Nat) : List Byte → Bool
    | b0 :: b1 :: _ :: _ :: t => leNat [b0, b1] != code && mapFree code t
    | _ => true

/-- The ranges of the object tables that are not one interval (R145, R181, R326, R356, R395, R461, R484, R507, R535, R567, R613). -/
def specialOk (idx sub : Nat) (v : List Byte) : Bool :=
  let n := leNat v
  match idx with
  | 0x1107 => n % 2 == 0
  | 0x110E => n == 0x5A || n == 0
  | 0x3107 => ratioOk v
  | 0x321D => ratioOk v
  | 0x3109 => decide (leNat (v.take 2) ≤ 207) && decide (leNat (v.drop 2) ≤ 207)
  | 0x310B => euOk v
  | 0x3201 => n == 255 || (decide (7 ≤ sub) && decide (n ≤ 191))
  | 0x3204 => decide (n ≤ 8) || n == 15
  | 0x3216 => decide (n ≤ 15) || n == 255
  | 0x3301 => if sub = 1 then decide (n ≤ 127) else decide (24 ≤ n) && decide (n ≤ 43)
  | 0x3303 => let i := signedOf 1 n; decide (-7 ≤ i) && decide (i ≤ -3)
  | 0x3304 => let i := signedOf 1 n; decide (-3 ≤ i) && decide (i ≤ 0)
  | 0x330C => decide (n ≤ 127) || n == 255
  | 0x4009 => decide (n ≤ 524287) || n == 4294967295
  | 0x400B => (v.getD 0 0).getLsbD 0 == false
  | 0x4102 => decide (n ≤ 262143) || n == 4294967295
  | 0x4202 => profileOk v
  | 0x4300 => (List.range 16).all (fun q => shaperOk (20 * q + 4) v && shaperOk (20 * q + 12) v)
  | 0x4301 => shaperOk 4 v
  | 0x4302 => (List.range 12).all (fun q => decide (64 ≤ f32 (4 * q) v) && decide (f32 (4 * q) v ≤ 1048576))
  | 0x4401 => decide (n ≤ 191) || n == 255
  | 0x4408 => decide (n ≤ 65535) || n == 4294967295
  | 0x5000 => n % 4 == 0
  | 0x6016 => (v.getD 0 0 == 0) || (v.getD 0 0 == 30)
  | 0x700B => alarmMapOk v
  | 0x7011 => sampleOk v
  | _ => true

/-- A group or all-channel subindex without members (R157). -/
def emptyGroup (r : ObjRow) (sub : Nat) (s : State) : Bool := groupSub r sub && (members sub s).isEmpty

/-- What a write is refused for before its effect is judged, in the order of R150; `whole` says that the value came in a
segmented transfer. -/
def writeFault (whole : Bool) (e : Session) (idx sub : Nat) (v : List Byte) (s : State) : Status :=
  match objRow idx with
  | none => 0x0101#16
  | some r =>
    if !hasSub r sub then 0x0102#16
    else if !r.acc.writes ∨ sub < r.first then 0x0804#16
    else if !roleMeets e.role r.wrole then 0x0201#16
    else if (r.ty = .domain) ≠ (whole = true) ∨ !lenOk r v then 0x0302#16
    else if !typeOk r v ∨ !rangeOk r v ∨ !specialOk idx sub v then 0x0301#16
    else if emptyGroup r sub s then 0x0803#16
    else 0

/-- The subindices that a write reaches (R8, R157). -/
def reached (r : ObjRow) (sub : Nat) (s : State) : List Nat := if groupSub r sub then (members sub s).map (fun c => c + 1) else [sub]

/-! ## RW objects (R154) -/

/-- ASSET_TAG (R180): its four words are posted to the Amber island, the bytes it does not give are 0x00; DESIGN CHOICE, assumption 125. -/
def assetTagWrite (v : List Byte) (s : State) : Res :=
  if !(blockOf 0 s).posted.isEmpty then Res.of s 0x0401#16
  else Res.of ([0, 1, 2, 3].foldl (fun s i => post 0 (0x30 + 4 * i) (BitVec.ofNat 32 (leNat (((padTo 16 v).drop (4 * i)).take 4))) s) s) 0

/-- WARN_THRESHOLD (R82, R118): the supervisor takes it as a posted write. -/
def warnWrite (v : List Byte) (s : State) : Res :=
  if postFull 0x10000 s then Res.of s 0x0401#16
  else Res.of (post 0x10000 0x10000 (BitVec.ofNat 32 (leNat v)) (putObj (key 0x1301 0) v s)) 0

/-- OVEN_STEER through the dictionary (R118, R345): refused while the servo owns the oven, else posted. -/
def ovenSteer (v : List Byte) (s : State) : Res :=
  if cfg 0x3211 0 s ≠ 1 then Res.of s 0x0814#16
  else if postFull 0x40000 s then Res.of s 0x0401#16
  else Res.of (post 0x40000 0x40020 (BitVec.ofNat 32 (leNat v)) s) 0

/-- ALARM_MAP comes into force: the contacts follow the classes of the standing alarms (R604, R605). -/
def alarmMapWrite (v : List Byte) (s : State) : State := contacts (putObj (key 0x700B 0) v s)

/-- A session's own RW object (R155, R600, R608). -/
def localWrite (n idx : Nat) (v : List Byte) (s : State) : State :=
  updSession n (fun e => match idx with
    | 0x1100 => { e with commitAt := timeOfBytes v }
    | 0x5000 => { e with regAddr := BitVec.ofNat 32 (leNat v) }
    | 0x5002 => { e with regInc := leNat v != 0 }
    | 0x5004 => { e with regCount := BitVec.ofNat 16 (leNat v) }
    | 0x7002 => { e with ctrSnapAt := timeOfBytes v }
    | 0x700F => { e with readFrom := BitVec.ofNat 32 (leNat v) }
    | _ => e) s

/-- A domain's own RW object is written by the host while it owns the domain (R276). -/
def domainWrite (d : Domain) (body : State → Res) (s : State) : Res := if hostOwns d s then body s else Res.of s 0x0810#16

/-- An RW object takes a value (R154); `n` is the session. -/
def rwWrite (q : Req) (e : Session) (r : ObjRow) (sub : Nat) (v : List Byte) (s : State) : Res :=
  let idx := r.index
  let d := domNo (sub - 1)
  if r.loc then Res.of (localWrite q.sess idx v s) 0
  else match idx with
    | 0x100C => assetTagWrite v s
    | 0x1110 => Res.of { putObj (key idx sub) v s with dict := { (putObj (key idx sub) v s).dict with
        members := Tab.put 0 (sub - 1) (BitVec.ofNat 192 (leNat v)) s.dict.members } } 0
    | 0x1301 => warnWrite v s
    | 0x3003 => domainWrite d (traceableWrite d (leNat v != 0)) s
    | 0x3004 => domainWrite d (rateAdj d (BitVec.ofNat 32 (leNat v))) s
    | 0x3109 => Res.of (putObj (key idx sub) v { s with vern := { s.vern with diff := Tab.erase (sub - 1) s.vern.diff } }) 0
    | 0x3212 => ovenSteer v s
    | 0x4001 => if migratingRole .tables s then Res.of s 0x0401#16 else tableWrite q v s
    | 0x4412 => Res.of (updPair (fun p => { p with inhibit := leNat v != 0 }) s) 0
    | 0x5001 => dataWrite q (BitVec.ofNat 32 (leNat v)) e s
    | 0x5005 => blockWrite q.sess v e s
    | 0x7006 => progSelect sub (BitVec.ofNat 32 (leNat v)) s
    | 0x700B => Res.of (alarmMapWrite v s) 0
    | _ => Res.of ((reached r sub s).foldl (fun s n => putObj (key idx n) v s) s) 0

/-- After a write of a group that succeeded GROUP_REFUSED reads 0xFFFF (R157). -/
def groupDone (r : ObjRow) (sub n : Nat) (s : State) : State :=
  if groupSub r sub then updSession n (fun e => { e with groupRef := 0xFFFF#16 }) s else s

/-! ## Staging (R160, R161) -/

/-- The objects of table transactions (R447, R461, R521). -/
def isTxn (idx : Nat) : Bool := idx == 0x4000 || idx == 0x4100 || idx == 0x4407

/-- A member refuses a value before it is staged (R99, R102, R317). -/
def stageFault (idx sub : Nat) (s : State) : Status :=
  if idx = 0x310B ∧ (eu (sub - 1) s).calRunning then 0x0401#16
  else if isTxn idx ∧ (migratingRole .tables s ∨ s.life.state = .stopping) then 0x0401#16
  else 0

/-- Put a value into a staging area: it replaces a value of the same object and subindex (R160). -/
def stageOne (k : ObjKey) (v : List Byte) (l : List Staged) : List Staged :=
  if l.any (fun x => x.key == k) then l.map (fun x => if x.key = k then ⟨k, v, false⟩ else x) else l ++ [⟨k, v, false⟩]

/-- How many values a write adds. -/
def stageNew (ks : List ObjKey) (l : List Staged) : Nat := (ks.filter (fun k => !l.any (fun x => x.key == k))).length

/-- Stage a value for every member (R157, R160, R161): the generation of the set is recorded with the first value that a
session stages in it. -/
def stageWrite (n : Nat) (e : Session) (r : ObjRow) (sub : Nat) (v : List Byte) (s : State) : Res :=
  let subs := reached r sub s
  let ks := subs.map (fun m => key r.index m)
  let set := setOf r.index
  match subs.find? (fun m => stageFault r.index m s != 0) with
  | some m => Res.of (if groupSub r sub then updSession n (fun e => { e with groupRef := BitVec.ofNat 16 (m - 1) }) s else s) (stageFault r.index m s)
  | none =>
    if 4096 < e.staged.length + stageNew ks e.staged then Res.of s 0x0805#16
    else
      let first := !e.staged.any (fun x => setOf (x.key / 256) == set)
      Res.of (groupDone r sub n (updSession n (fun e =>
        { e with staged := ks.foldl (fun l k => stageOne k v l) e.staged
                 recGen := if first then Tab.set set (Tab.get 0 set s.commits.generation + 1) e.recGen else e.recGen }) s)) 0

/-- A write that has passed its checks: staged or taken. -/
def plainWrite (q : Req) (e : Session) (idx sub : Nat) (v : List Byte) (s : State) : Res :=
  match objRow idx with
  | none => Res.of s 0x0101#16
  | some r =>
    if r.acc = .rws then stageWrite q.sess e r sub v s
    else
      let x := rwWrite q e r sub v s
      if x.code = 0 then { x with st := groupDone r sub q.sess x.st } else x

/-- RWS_STAGE (R160): a write of an RWS object. -/
def stageReq (q : Req) (idx sub : Nat) (v : List Byte) (e : Session) (s : State) : Res :=
  let f := writeFault ((objRow idx).any (fun r => r.ty == .domain)) e idx sub v s
  if f ≠ 0 then Res.of s f
  else match objRow idx with
    | some r => if r.acc = .rws then stageWrite q.sess e r sub v s else Res.of s 0x0804#16
    | none => Res.of s 0x0101#16

/-- RWS_STAGE (R160). -/
def execRwsStage (q : Req) (idx : BitVec 16) (sub : BitVec 8) (v : List Byte) (s : State) : Out :=
  .next (request q (stageReq q idx.toNat sub.toNat v) s)

/-- OVEN_STEER (R345): a write of the object. -/
def execOvenSteer (q : Req) (v : BitVec 32) (s : State) : Out :=
  .next (roleRequest .operator q (fun _ s =>
    if v.toInt < -1000000000 ∨ 1000000000 < v.toInt then Res.of s 0x0301#16 else ovenSteer (leBytes 4 v.toNat) s) s)

/-! ## Stored settings (R152, R153) -/

/-- SETTINGS_CLEAR (R153). -/
def settingsClear (v : Nat) (s : State) : Res :=
  if v = 0x5A then Res.of { s with dict := { s.dict with clearArmed := true } } 0
  else if v = 0 then Res.of { s with dict := { s.dict with clearArmed := false } } 0
  else Res.of s 0x0301#16

/-- SETTINGS_CLEAR (R153). -/
def execSettingsClear (q : Req) (v : BitVec 8) (s : State) : Out := .next (roleRequest .custodian q (fun _ s => settingsClear v.toNat s) s)

/-- SETTINGS_SAVE (R67, R152): the values not yet saved go to flash under a grant, which ends with the write. -/
def execSettingsSave (s : State) : Out :=
  .next (if s.dict.pendSave.isEmpty ∨ !s.life.nymyx ∨ s.life.state = .restarting then s
    else if !flashOk s then countRefusal s
    else saveSettings (countGrant s))

/-! ## Snapshots (R173, R174) -/

/-- The subindices of an object that a snapshot shows. -/
def snapSubs (r : ObjRow) : List Nat := if r.last = 0 then [0] else (List.range r.last).map (fun i => i + 1)

/-- The objects that a mask names: RW, RWS and CONST objects of the named sets; bit 0 names the ranges without a set. -/
def snapNamed (mask : BitVec 32) (r : ObjRow) : Bool :=
  mask.getLsbD (setOf r.index) && (r.acc == .rw || r.acc == .rws || r.acc == .const) && !r.loc && r.index != 0x5001 && r.index != 0x5005
    && r.index != 0x4001

/-- The entries of a snapshot in ascending order. -/
def snapEntries (mask : BitVec 32) (e : Session) (s : State) : List (ObjKey × List Byte) :=
  ((pages.flatMap dirPage).filter (snapNamed mask)).flatMap (fun r => (snapSubs r).map (fun n => (key r.index n, objVal e r n s)))

/-- The lowest free snapshot slot. -/
def freeSnap (s : State) : Option Nat := [1, 2, 3, 4].find? (fun k => (Tab.find k s.snaps).isNone)

/-- SNAP_REQUEST (R173): the answer carries the slot. -/
def snapRequest (n : Nat) (mask : BitVec 32) (e : Session) (s : State) : Res :=
  match freeSnap s with
  | none => Res.of s 0x080A#16
  | some k =>
    let x : Snap := { owner := n, captured := timeA s, mask := mask, generation := (List.range 13).map (fun i => Tab.get 0 (i + 1) s.commits.generation),
                      pairNumber := s.commits.pairNumber, entries := snapEntries mask e s }
    ⟨{ s with snaps := Tab.set k x s.snaps }, 0, [BitVec.ofNat 8 k]⟩

/-- SNAP_REQUEST (R173); DESIGN CHOICE, assumption 109. -/
def execSnapRequest (q : Req) (mask : BitVec 32) (s : State) : Out := .next (roleRequest .operator q (snapRequest q.sess mask) s)

/-- A snapshot slot is freed (R174). -/
def freeSnapSlot (k : Nat) (s : State) : State := { s with snaps := Tab.erase k s.snaps }

/-- SNAP_RELEASE (R174). -/
def execSnapRelease (q : Req) (k : BitVec 8) (s : State) : Out :=
  .next (roleRequest .operator q (fun _ s =>
    if k.toNat < 1 ∨ 4 < k.toNat then Res.of s 0x0301#16 else Res.of (freeSnapSlot k.toNat s) 0) s)

/-- SNAP_SLOT_EXPIRY (R174, R601): 60 s after its capture a slot is freed, of snapshots or, with `ctr`, of counter
snapshots. -/
def execSnapSlotExpiry (k : Fin 5) (ctr : Bool) (s : State) : Out :=
  .next (if ctr then freeCtr k.val s else freeSnapSlot k.val s)

/-! ## Status snapshots (R602) -/

/-- One entry of a status snapshot: a read that fails is entered with type code 0 and its status; DOMAIN objects fail with
0x0302. -/
def statusEntry (n : Nat) (e : Session) (idx sub : Nat) (s : State) : State × List Byte :=
  let dom := (objRow idx).any (fun r => r.ty == .domain) && sub == 0 || (objRow idx).any (fun r => r.ty == .domain && decide (r.first ≤ sub))
  let x := if dom then Res.of s 0x0302#16 else readObj n e idx sub s
  let ok := x.code = 0 ∨ x.code = 0x0807#16
  (x.st, if ok then entry idx sub (typeOf idx) x.data else entry idx sub 0 (leBytes 2 x.code.toNat))

/-- The entries of a list in order. -/
def statusEntries (n : Nat) (e : Session) : List Byte → State → State × List Byte
  | i0 :: i1 :: b :: _ :: t, s =>
    let x := statusEntry n e (leNat [i0, i1]) b.toNat s
    let y := statusEntries n e t x.1
    (y.1, x.2 ++ y.2)
  | _, s => (s, [])

/-- STATUS_SNAP_REQUEST (R602): up to 64 objects, one on each of successive mast clock edges. -/
def statusSnap (n : Nat) (v : List Byte) (e : Session) (s : State) : Res :=
  if v.length % 4 ≠ 0 ∨ v.isEmpty ∨ 256 < v.length then Res.of s 0x0302#16
  else
    let x := statusEntries n e v s
    let last := timeOf (domA s + (v.length / 4 - 1) * 655360)
    Res.of (updSession n (fun e => { e with statSnap := timeBytes (timeA s) ++ timeBytes last ++ x.2 }) x.1) 0

/-- STATUS_SNAP_REQUEST (R602); DESIGN CHOICE, assumption 118. -/
def execStatusSnapRequest (q : Req) (v : List Byte) (s : State) : Out := .next (roleRequest .operator q (statusSnap q.sess v) s)

end Sys2Proof.Machine
end

