-- ==== Sys2Proof/Machine/Commits.lean ====
section
/-!
DEFINITION. Commits of staged values, alone and with the mate, the scope of pair commits, and the image of a
resynchronisation (05, 17).
-/
namespace Sys2Proof.Machine

/-! ## What a commit names and when it may apply (R162, R163, R450) -/

/-- A set is pair-scoped (R167). -/
def inScope (n : Nat) (s : State) : Bool := bit (cfg 0x1107 0 s) n

/-- The commit set of a staged value. -/
def stagedSet (v : Staged) : Nat := setOf (v.key / 256)

/-- The sets that a mask names: its bits 1 to 13 in which the session has staged values (R162). -/
def namedSets (mask : BitVec 32) (e : Session) : List Nat :=
  (List.range 14).filter (fun n => decide (1 ≤ n) && mask.getLsbD n && e.staged.any (fun v => stagedSet v == n))

/-- The staged values of some sets. -/
def valuesOf (sets : List Nat) (l : List Staged) : List Staged := l.filter (fun v => sets.contains (stagedSet v))

/-- 1 ms in 2^-16 ns. -/
def lsbPerMs : Nat := 65536000000

/-- The time that the preparation of table transactions takes: 20 million operations in a second (R450). -/
def prepTime (l : List Staged) : Nat := ((opsOf (txnsOf 0x4000 l)).length + (opsOf (txnsOf 0x4100 l)).length) * 3276800

/-- A resynchronisation runs on this module or its mate (R532). -/
def resyncing (s : State) : Bool := s.pair.resync || (paired s && s.pair.mateFlags.getLsbD 6)

/-- Another commit to one of the sets is scheduled, or passes between the modules (step 2 of R162). -/
def setsBusy (sets : List Nat) (s : State) : Bool :=
  sets.any (fun n => setScheduled n s || s.commits.exchange.any (fun x => x.commit.sets.contains n))

/-- A check that fails without naming a value. -/
def Failed.plain (c : Status) : Failed := ⟨c, 0, 0, none⟩

/-- Steps 2 to 5 of R162; `same` says that the generations of the sets are those recorded; DESIGN CHOICE, assumption 111. -/
def commitFault (sets : List Nat) (l : List Staged) (same : Bool) (s : State) : Option Failed :=
  if setsBusy sets s || (resyncing s && sets.any (fun n => inScope n s)) || (migratingRole .tables s && (sets.contains 8 || sets.contains 9)) then
    some (Failed.plain 0x0401#16)
  else if !same then some (Failed.plain 0x0501#16)
  else match setsFault l s with
    | some f => some f
    | none => if drawOk l s then none else some (Failed.plain 0x0601#16)

/-- The recorded generations hold and no field behind a value was changed through a register (R137, R161). -/
def gensHold (sets : List Nat) (l : List Staged) (e : Session) (s : State) : Bool :=
  sets.all (fun n => Tab.get 0 n e.recGen == Tab.get 0 n s.commits.generation + 1) && l.all (fun v => !v.touched)

/-- COMMIT_AT is not accepted: below the least lead, above 10 s, or domain A is not traceable (R163, R169, R450). -/
def atFault (least : Nat) (t : Time96) (s : State) : Bool :=
  lsbOf t != 0 && (!s.tb.a.traceable || decide (lsbOf t < domA s + least) || decide (domA s + 10 * lsbPerSec < lsbOf t))

/-- The least lead of COMMIT_AT: 100 µs, or 2 ms for a pair commit, and the preparation. -/
def leastLead (pair : Bool) (l : List Staged) : Nat := (if pair then 2 * lsbPerMs else lsbPerMs / 10) + prepTime l

/-- A commit goes to both modules (R168, R170, R172). -/
def goesToPair (mask : BitVec 32) (sets : List Nat) (s : State) : Bool :=
  !mask.getLsbD 31 && sets.any (fun n => inScope n s) && matePresent s

/-! ## Records and scheduling (R162, R166) -/

/-- A COMMIT_RESULT record of a commit. -/
def resultRec (c : Commit) (applied : Time96) (st : Status) (idx sub : Nat) (mate : BitVec 16) : CommitRec :=
  ⟨c.requested, applied, c.mask, st, BitVec.ofNat 16 idx, BitVec.ofNat 8 sub, mate, if c.pair then c.pairNo else 0⟩

/-- COMMIT_RESULT keeps the eight most recent commits, newest first. -/
def recordCommit (n : Nat) (r : CommitRec) (s : State) : State := updSession n (fun e => { e with results := (r :: e.results).take 8 }) s

/-- PAIR_STATE follows the scheduled pair commits, unless it says diverged or unpaired (R168); DEDUCED, assumption 131. -/
def judgePairState (s : State) : State :=
  let n := s.commits.pairState
  if n = 2 ∨ n = 3 then s
  else { s with commits := { s.commits with pairState := if s.commits.scheduled.any (fun c => c.pair) then 1 else 0 } }

/-- A commit is scheduled: its values leave the staging area, COMMIT_AT is cleared (R162, R181). -/
def schedule (c : Commit) (s : State) : State :=
  judgePairState (updSession c.sess (fun e =>
    { e with staged := e.staged.filter (fun v => !c.values.contains v)
             recGen := e.recGen.filter (fun g => !c.sets.contains g.1)
             commitAt := Time96.zero })
    { s with commits := { s.commits with scheduled := s.commits.scheduled ++ [c] } })

/-- A commit leaves the schedule. -/
def unschedule (c : Commit) (s : State) : State :=
  judgePairState { s with commits := { s.commits with scheduled := s.commits.scheduled.erase c } }

/-! ## COMMIT (R162, R163, R168) -/

/-- The values of a commit as they go to the mate: each its key, its length and its bytes. -/
def sendValues (l : List Staged) : List Int :=
  (l.map (fun v => ((v.key : Int) :: (v.value.length : Int) :: v.value.map (fun b => (b.toNat : Int))))).flatten

/-- The exchange with the mate starts: its pair-scoped sets, their recorded generations and values (R168). -/
def startExchange (q : Req) (c : Commit) (s : State) : State :=
  let sets := c.sets.filter (fun n => inScope n s)
  sendPair ([4, (c.mask.toNat : Int), sets.length] ++ (sets.map (fun (n : Nat) => [(n : Int), ((Tab.get 0 n s.commits.generation : Nat) : Int)])).flatten
      ++ sendValues (valuesOf sets c.values))
    { s with commits := { s.commits with exchange := some ⟨q, c⟩ } }

/-- A check of a commit failed: TXN_FAIL and COMMIT_RESULT say so. -/
def commitFailed (q : Req) (c : Commit) (f : Failed) (s : State) : State :=
  let s1 := match f.txn with
    | some t => setTxnFail q t.1 t.2.2 t.2.1 false s
    | none => s
  recordCommit q.sess (resultRec c Time96.zero f.code f.idx f.sub 0) s1

/-- The commit that a COMMIT request asks for. -/
def commitOf (q : Req) (mask : BitVec 32) (sets : List Nat) (e : Session) (s : State) : Commit :=
  let l := valuesOf sets e.staged
  let t := lsbOf e.commitAt
  { sess := q.sess, mask := mask, sets := sets
    at_ := if t ≠ 0 then some t else if prepTime l = 0 then none else some (domA s + prepTime l)
    given := t != 0, values := l, requested := timeA s, pair := goesToPair mask sets s, pairNo := 0, cancel := false, abortReq := none,
    mateCancelled := false }

/-- COMMIT (R162). -/
def commit (q : Req) (mask : BitVec 32) (e : Session) (s : State) : Res :=
  let c := commitOf q mask (namedSets mask e) e s
  let drawn := drawOf c.values s != 0
  if c.sets.isEmpty then Res.of s 0
  else match commitFault c.sets c.values (gensHold c.sets c.values e s) s with
    | some f => Res.of (commitFailed q c f (if f.code = 0x0601#16 then countRefusal s else s)) f.code
    | none =>
      let s1 := if drawn then countGrant s else s
      if atFault (leastLead c.pair c.values) e.commitAt s then Res.of (commitFailed q c (Failed.plain 0x0806#16) s1) 0x0806#16
      else if c.pair then Res.of (startExchange q c s1) 0x0402#16
      else Res.of (schedule c s1) 0

/-- COMMIT (R162). -/
def execCommit (q : Req) (mask : BitVec 32) (s : State) : Out := .next (roleRequest .operator q (commit q mask) s)

/-! ## COMMIT_APPLY (R164) -/

/-- A scheduled commit is due. -/
def due (c : Commit) (s : State) : Bool :=
  match c.at_ with
  | none => true
  | some t => decide (t ≤ domA s)

/-- Each named set's generation rises by one (R161). -/
def raiseGens (sets : List Nat) (s : State) : State :=
  { s with commits := { s.commits with generation := sets.foldl (fun g n => Tab.upd 0 n (fun x => (x + 1) % 4294967296) g) s.commits.generation } }

/-- What a commit applied to this module alone does to the pair (R170, R172). -/
def localApplied (c : Commit) (s : State) : State :=
  if c.sets.any (fun n => inScope n s) then
    if paired s then setDiverged s else { s with commits := { s.commits with scopeChanged := true } }
  else s

/-- What a pair commit applied does (R165, R168). -/
def pairApplied (c : Commit) (s : State) : State :=
  let s1 : State := { s with commits := { s.commits with pairNumber := c.pairNo } }
  let s2 := match c.abortReq with
    | some q => complete q 0x0809#16 [] s1
    | none => s1
  if c.mateCancelled then setDiverged s2 else s2

/-- A commit applies: every value of its sets on one edge, the generations, the record (R161, R164, R166). -/
def applyCommit (c : Commit) (s : State) : State :=
  let at_ := if c.given then c.at_.getD (domA s) else domA s
  let s1 := applyValues at_ c.sets c.values (unschedule c s)
  let s2 := recordCommit c.sess (resultRec c (timeA s) 0 0 0 0) (raiseGens c.sets s1)
  if c.pair then pairApplied c s2 else localApplied c s2

/-- COMMIT_APPLY (R163, R164, R169): the first commit that is due applies. -/
def execCommitApply (s : State) : Out :=
  .next (match s.commits.scheduled.find? (fun c => due c s) with
    | none => s
    | some c => applyCommit c s)

/-! ## COMMIT_ABORT (R165) -/

/-- A commit is one of a session to a set of a mask. -/
def abortHits (n : Nat) (mask : BitVec 32) (c : Commit) : Bool := c.sess == n && c.sets.any (fun k => mask.getLsbD k)

/-- Staged values of the named sets are discarded. -/
def unstage (mask : BitVec 32) (e : Session) : Session :=
  { e with staged := e.staged.filter (fun v => !mask.getLsbD (stagedSet v)), recGen := e.recGen.filter (fun g => !mask.getLsbD g.1) }

/-- A local commit is cancelled and recorded with 0x0826. -/
def cancelLocal (s : State) (c : Commit) : State := recordCommit c.sess (resultRec c Time96.zero 0x0826#16 0 0 0) (unschedule c s)

/-- An exchange with the mate ends: the mate discards what it received. -/
def endExchange (s : State) : State := sendPair [7, 0] { s with commits := { s.commits with exchange := none } }

/-- An exchange of the session to a named set ends; its COMMIT completes with 0x0826. -/
def abortExchange (n : Nat) (mask : BitVec 32) (s : State) : State :=
  match s.commits.exchange with
  | none => s
  | some x =>
    if abortHits n mask x.commit then
      recordCommit n (resultRec x.commit Time96.zero 0x0826#16 0 0 0) (complete x.req 0x0826#16 [] (endExchange s))
    else s

/-- The mate is asked to cancel a scheduled pair commit. -/
def askCancel (q : Req) (s : State) (c : Commit) : State :=
  sendPair [7, c.pairNo.toNat] { s with commits := { s.commits with
    scheduled := s.commits.scheduled.map (fun x => if x = c then { x with cancel := true, abortReq := some q } else x) } }

/-- COMMIT_ABORT (R165): 0x0402 where a scheduled pair commit must be cancelled on both modules. -/
def commitAbort (q : Req) (mask : BitVec 32) (s : State) : Res :=
  let hits := s.commits.scheduled.filter (abortHits q.sess mask)
  let pairs := hits.filter (fun c => c.pair)
  if pairs.any (fun c => c.cancel) then Res.of s 0x0401#16
  else
    let s1 := (hits.filter (fun c => !c.pair)).foldl cancelLocal (updSession q.sess (unstage mask) s)
    Res.of (pairs.foldl (askCancel q) (abortExchange q.sess mask s1)) (if pairs.isEmpty then 0 else 0x0402#16)

/-- COMMIT_ABORT (R165). -/
def execCommitAbort (q : Req) (mask : BitVec 32) (s : State) : Out := .next (roleRequest .operator q (fun _ s => commitAbort q mask s) s)

/-! ## Pair commits on the originating module (R168, R169) -/

/-- A pair commit fails: nothing applies on either module. -/
def exchangeFailed (x : PairExchange) (idx sub : Nat) (mate : BitVec 16) (s : State) : State :=
  recordCommit x.req.sess (resultRec x.commit Time96.zero 0x0809#16 idx sub mate) (complete x.req 0x0809#16 [] (endExchange s))

/-- The next pair commit number of side A. -/
def nextPairNo (s : State) : BitVec 32 := BitVec.ofNat 32 (max s.commits.pairCounter.toNat s.commits.pairNumber.toNat + 1)

/-- The mate passed: the instant is fixed, the order goes to the mate, the commit is scheduled and COMMIT completes. -/
def matePassed (x : PairExchange) (number : BitVec 32) (s : State) : State :=
  let c := x.commit
  let no := if sideB s then number else nextPairNo s
  let prep := lsbOf c.requested + prepTime c.values
  let at_ := if c.given then c.at_.getD 0 else max (domA s + 2 * lsbPerMs) prep
  if c.given ∧ at_ < domA s + lsbPerMs then exchangeFailed x 0 0 0 s
  else
    let s1 : State := { s with commits := { s.commits with exchange := none, pairCounter := no } }
    complete x.req 0 [] (schedule { c with at_ := some at_, pairNo := no } (sendPair [6, at_, no.toNat, b2n c.given] s1))

/-- PAIR_COMMIT_REPLY (R168, R169): the mate's status, the value that failed there with the reason and operation of a
failing transaction, and side A's number. -/
def execPairCommitReply (x : Seal) (st : Status) (idx : BitVec 16) (sub reason : BitVec 8) (op : BitVec 32) (number : BitVec 32) (s : State) : Out :=
  .next (pairSealed x (fun s =>
    match s.commits.exchange with
    | none => s
    | some e =>
      if st = 0 then matePassed e number s
      else
        let s1 := if isTxn idx.toNat then setTxnFail e.req sub.toNat reason.toNat op.toNat true s else s
        exchangeFailed e idx.toNat sub.toNat st s1) s)

/-- PAIR_COMMIT_TIMEOUT (R168): 10 ms without the mate's reply. -/
def execPairCommitTimeout (s : State) : Out :=
  .next (match s.commits.exchange with
    | none => s
    | some x => exchangeFailed x 0 0 0xFFFF#16 s)

/-! ## Pair commits on the mate (R168, R169, R171) -/

/-- A received value that this module's dictionary does not hold (R171). -/
def unknownValue (v : Staged) : Option Failed :=
  match objRow (v.key / 256) with
  | none => some ⟨0x0101#16, v.key / 256, v.key % 256, none⟩
  | some r => if r.acc ≠ .rws ∨ !hasSub r (v.key % 256) then some ⟨0x0102#16, v.key / 256, v.key % 256, none⟩ else none

/-- The mate's checks: its own dictionary, and steps 2 to 5 of R162 against its own state. -/
def mateFault (gens : List (Nat × BitVec 32)) (l : List Staged) (s : State) : Option Failed :=
  match l.findSome? unknownValue with
  | some f => some f
  | none => commitFault (gens.map (fun g => g.1)) l (gens.all (fun g => BitVec.ofNat 32 (Tab.get 0 g.1 s.commits.generation) == g.2)) s

/-- PAIR_COMMIT_REQUEST (R168): the mask, the generations recorded for its pair-scoped sets, and their values. -/
def execPairCommitRequest (x : Seal) (mask : BitVec 32) (gens : List (Nat × BitVec 32)) (vals : List (Nat × List Byte)) (s : State) : Out :=
  .next (if s.life.state = .restarting then s
    else pairSealed x (fun s =>
      let l : List Staged := vals.map (fun v => ⟨v.1, v.2, false⟩)
      match mateFault gens l s with
      | some f =>
        let t := f.txn.getD (0, 0, 0)
        sendPair [5, f.code.toNat, f.idx, f.sub, t.2.2, t.2.1, 0] { s with commits := { s.commits with mateCommit := none } }
      | none =>
        let c : Commit := { sess := 0, mask := mask, sets := gens.map (fun g => g.1), at_ := none, given := false, values := l,
                            requested := timeA s, pair := true, pairNo := 0, cancel := false, abortReq := none, mateCancelled := false }
        sendPair [5, 0, 0, 0, 0, 0, (nextPairNo s).toNat] { s with commits := { s.commits with mateCommit := some c } }) s)

/-- PAIR_COMMIT_ORDER (R169): the mate schedules at the instant; one that comes after it leaves the pair diverged. -/
def execPairCommitOrder (x : Seal) (t : Time96) (number : BitVec 32) (given : Bool) (s : State) : Out :=
  .next (pairSealed x (fun s =>
    match s.commits.mateCommit with
    | none => s
    | some c =>
      let s1 : State := { s with commits := { s.commits with mateCommit := none, pairCounter := number } }
      if lsbOf t < domA s then setDiverged s1 else schedule { c with at_ := some (lsbOf t), pairNo := number, given := given } s1) s)

/-- PAIR_COMMIT_CANCEL (R165): values that wait for their order are discarded; a scheduled pair commit of the mate is
cancelled and confirmed at least 1 ms before its instant. -/
def execPairCommitCancel (x : Seal) (number : BitVec 32) (s : State) : Out :=
  .next (pairSealed x (fun s =>
    let s1 : State := { s with commits := { s.commits with mateCommit := none } }
    match s1.commits.scheduled.find? (fun c => c.pair && c.sess == 0 && c.pairNo == number) with
    | none => s1
    | some c => if domA s + lsbPerMs ≤ c.at_.getD 0 then sendPair [8, number.toNat] (unschedule c s1) else s1) s)

/-- PAIR_CANCEL_CONFIRM (R165): before the instant the commit is cancelled here too and the abort completes; later the
mate alone has cancelled. -/
def execPairCancelConfirm (x : Seal) (number : BitVec 32) (s : State) : Out :=
  .next (pairSealed x (fun s =>
    match s.commits.scheduled.find? (fun c => c.cancel && c.pairNo == number) with
    | none => setDiverged s
    | some c =>
      if domA s < c.at_.getD 0 then
        let s1 := cancelLocal s c
        match c.abortReq with
        | some q => complete q 0 [] s1
        | none => s1
      else { s with commits := { s.commits with
        scheduled := s.commits.scheduled.map (fun y => if y = c then { y with mateCancelled := true } else y) } }) s)

/-! ## PAIR_SCOPE (R167, R172) -/

/-- PAIR_SCOPE comes into force. -/
def takeScope (v : BitVec 32) (s : State) : State := putObj (key 0x1107 0) (leBytes 4 v.toNat) s

/-- The mate's heartbeat shows it restarting or stopped. -/
def mateAway (s : State) : Bool := s.pair.mateStopped || s.pair.mateFlags.getLsbD 0

/-- A write of PAIR_SCOPE: local without a mate, else with the mate (R167); DESIGN CHOICE, assumption 112. -/
def pairScope (q : Req) (v : BitVec 32) (s : State) : Res :=
  if !matePresent s then Res.of (takeScope v s) 0
  else if s.commits.scopeEx.isSome then Res.of s 0x0401#16
  else if mateAway s then Res.of s 0x0402#16
  else Res.of (sendPair [9, v.toNat] { s with commits := { s.commits with scopeEx := some ⟨q, v⟩ } }) 0x0402#16

/-- A checked write of PAIR_SCOPE, with its answer: beside a mate that restarts or is stopped it completes at once with
0x0809. -/
def pairScopeRequest (q : Req) (v : BitVec 32) (check : Session → State → Status) (s : State) : State :=
  let now := matePresent s && s.commits.scopeEx.isNone && mateAway s && admits q .operator s
    && (session q.sess s).any (fun e => check e s == 0)
  let s1 := request q (fun e s => if check e s ≠ 0 then Res.of s (check e s) else pairScope q v s) s
  if now then complete q 0x0809#16 [] s1 else s1

/-- PAIR_SCOPE_WRITE (R167). -/
def execPairScopeWrite (q : Req) (v : BitVec 32) (s : State) : Out :=
  .next (pairScopeRequest q v (fun e s => writeFault false e 0x1107 0 (leBytes 4 v.toNat) s) s)

/-- PAIR_SCOPE_CONFIRM (R167): both modules take the value: the writer, whose write completes, and the mate, which
confirms. -/
def execPairScopeConfirm (x : Seal) (v : BitVec 32) (s : State) : Out :=
  .next (pairSealed x (fun s =>
    match s.commits.scopeEx with
    | some w => complete w.req 0 [] (takeScope w.value { s with commits := { s.commits with scopeEx := none } })
    | none => sendPair [10, v.toNat] (takeScope v s)) s)

/-- PAIR_SCOPE_TIMEOUT (R167). -/
def execPairScopeTimeout (s : State) : Out :=
  .next (match s.commits.scopeEx with
    | none => s
    | some w => complete w.req 0x0809#16 [] { s with commits := { s.commits with scopeEx := none } })

/-! ## The image of a resynchronisation (R532) -/

/-- The entries of a stated table that wait for their drain. -/
def drainingRows (t : Tab Row) : Tab Row := t.filter (fun r => r.2.st == .draining)

/-- The tables that an image starts from: the tables of its sets without their content, entries that drain left. -/
def imageBase (sets : List Nat) (t : Tables) : Tables :=
  let t8 : Tables := if sets.contains 8 then
      { t with label := [], prefixes := [], classif := [], nh := drainingRows t.nh, group := drainingRows t.group, member := drainingRows t.member,
               mcGroup := drainingRows t.mcGroup, mcMember := drainingRows t.mcMember }
    else t
  let t9 : Tables := if sets.contains 9 then { t8 with meters := [] } else t8
  if sets.contains 12 then { t9 with streams := [] } else t9

/-- LIVE entries of the old table that the image does not hold become DRAINING with a mark. -/
def absentDrain (e : Nat) (old new : Tab Row) : Tab Row :=
  (old.filter (fun r => r.2.st == .live && (row r.1 new).st == .free)).foldl (fun t r => Tab.set r.1 { r.2 with st := .draining, mark := e } t) new

/-- An image leaves entries that must drain. -/
def imageFrees (old new : Tables) : Bool :=
  [3, 4, 5, 8, 9].any (fun c => (old.stated c).any (fun r => r.2.st == .live && (row r.1 (new.stated c)).st == .free))

/-- The tables that an image gives, or none where an operation does not fit. -/
def imageTables (sets : List Nat) (ext : List Nat) (t8 t9 t12 : List (List Byte)) (t : Tables) : Option Tables :=
  let number (l : List (List Byte)) : List (Nat × List Byte) := l.map (fun b => (1, b))
  match checkTxns 8 0 ext (number t8) (imageBase sets t) with
  | (_, some _) => none
  | (a, none) => match checkTxns 9 0 ext (number t9) a with
    | (_, some _) => none
    | (b, none) => match checkTxns 12 0 ext (number t12) b with
      | (_, some _) => none
      | (d, none) => some d

/-- Changed meters and streams follow their new entries; buckets and streams keep their state (R458, R521, R532). -/
def imageMeters (old new : Tables) (s : State) : State :=
  let ms := ((old.meters ++ new.meters).map (fun x => x.1)).eraseDups
  let ss := ((old.streams ++ new.streams).map (fun x => x.1)).eraseDups
  let s1 := ms.foldl (fun s i =>
    let a := Tab.get MeterCfg.reset i old.meters
    let b := Tab.get MeterCfg.reset i new.meters
    if a = b then s else meterApply i a { b with flags := b.flags &&& 0xFB#8 } s) s
  ss.foldl (fun s i => streamApply i (Tab.get 0 i old.streams) (Tab.get 0 i new.streams) s) s1

/-- The image comes into force as one local commit. -/
def applyImage (sets : List Nat) (vals : List Staged) (new : Tables) (number : BitVec 32) (s : State) : State :=
  let old := s.fwd.tables
  let e := if imageFrees old new then (s.fwd.epoch + 1) % 8 else s.fwd.epoch
  let t : Tables := { new with nh := absentDrain e old.nh new.nh, group := absentDrain e old.group new.group, member := absentDrain e old.member new.member,
                               mcGroup := absentDrain e old.mcGroup new.mcGroup, mcMember := absentDrain e old.mcMember new.mcMember }
  let s1 := imageMeters old new { s with fwd := { s.fwd with tables := t, epoch := e } }
  let s2 := raiseGens sets (applyValues (domA s) sets vals s1)
  coherent (updPair (fun p => { p with resync := false }) { s2 with commits := { s2.commits with pairNumber := number } })

/-- RESYNC_IMAGE_RECEIVED (R532): the values and the table operations of the pair-scoped sets, and the active module's
PAIR_NUMBER. An image whose target epoch is occupied is committed again later; DESIGN CHOICE, assumption 113. -/
def execResyncImageReceived (x : Seal) (vals : List (Nat × List Byte)) (t8 t9 t12 : List (List Byte)) (number : BitVec 32) (s : State) : Out :=
  .next (if !s.pair.resync ∨ s.pair.role ≠ .standby then s
    else pairSealed x (fun s =>
      let sets := (List.range 14).filter (fun n => inScope n s)
      let l := valuesOf sets (vals.map (fun v => ⟨v.1, v.2, false⟩))
      match imageTables sets (extRefs (putAll l s)) t8 t9 t12 s.fwd.tables with
      | none => s
      | some t => if imageFrees s.fwd.tables t && occupancy ((s.fwd.epoch + 1) % 8) s != 0 then s else applyImage sets l t number s) s)

end Sys2Proof.Machine
end

