-- ==== Sys2Proof/Machine/Dict.lean ====
section
/-!
DEFINITION. Requests on the dictionary: reads and writes of objects, segmented transfers, block transfers of the register
window, the close of a session by its host (04, 05, 06).
-/
namespace Sys2Proof.Machine

/-! ## Reads (R147, R154) -/

/-- A subindex holds a DOMAIN value. -/
def domainSub (idx sub : Nat) : Bool := (objRow idx).any (fun r => r.ty == .domain && decide (r.first ≤ sub) && hasSub r sub && r.acc.reads)

/-- OBJECT_READ (R154): OP 0x01; a DOMAIN value moves in a transfer alone (R175). -/
def execObjectRead (q : Req) (idx : BitVec 16) (sub : BitVec 8) (s : State) : Out :=
  .next (request q (fun e s => if domainSub idx.toNat sub.toNat then Res.of s 0x0302#16 else readObj q.sess e idx.toNat sub.toNat s) s)

/-! ## Writes (R149, R150, R154) -/

/-- A BOOL write whose FALSE has no effect; DESIGN CHOICE, assumption 49. -/
def whenTrue (q : Req) (need : Role) (v : List Byte) (o : Out) (s : State) : Out :=
  if leNat v ≠ 0 then o else .next (roleRequest need q (fun _ s => Res.of s 0) s)

/-- A number in a written value. -/
def part (o n : Nat) (v : List Byte) : Nat := leNat ((v.drop o).take n)

/-- Writes of the WO objects of 0x1000 to 0x2FFF; none for another object. -/
def writeOnly1 (q : Req) (idx sub : Nat) (v : List Byte) (s : State) : Option Out :=
  let n := leNat v
  let c : Chan := Fin.ofNat 192 (sub - 1)
  match idx with
  | 0x1101 => some (execCommit q (BitVec.ofNat 32 n) s)
  | 0x1102 => some (execCommitAbort q (BitVec.ofNat 32 n) s)
  | 0x110A => some (execSnapRequest q (BitVec.ofNat 32 n) s)
  | 0x110C => some (execSnapRelease q (BitVec.ofNat 8 n) s)
  | 0x110E => some (execSettingsClear q (BitVec.ofNat 8 n) s)
  | 0x1403 => some (execRestartCold q (BitVec.ofNat 8 n) s)
  | 0x1404 => some (if n = 1 then execStopOrderly q s else execStopNoHandover q s)
  | 0x1405 => some (execLaserRelease q (n != 0) s)
  | 0x200B => some (if n = 1 then execPlannedSwitchIn q (Fin.ofNat 24 (c.val / 8)) (Fin.ofNat 8 c.val) s
      else execLaserForceOff q (Fin.ofNat 24 (c.val / 8)) (Fin.ofNat 8 c.val) s)
  | 0x210B => some (whenTrue q .operator v (execRetrain q (BitVec.ofNat 8 sub) s) s)
  | _ => none

/-- Writes of the WO objects of 0x3000 to 0x4FFF. -/
def writeOnly2 (q : Req) (idx sub : Nat) (v : List Byte) (s : State) : Option Out :=
  let n := leNat v
  let u : Fin 4 := Fin.ofNat 4 (sub - 1)
  match idx with
  | 0x3005 => some (execTimeSet (some q) (domNo (sub - 1)) (timeOfBytes v) s)
  | 0x3006 => some (execTimeAdj (some q) (domNo (sub - 1)) (BitVec.ofNat 64 n) s)
  | 0x300C => some (whenTrue q .operator v (execOutResync q s) s)
  | 0x300F => some (execMdllRelock q (BitVec.ofNat 8 n) s)
  | 0x310C => some (whenTrue q .operator v (execEuArm q u s) s)
  | 0x310E => some (whenTrue q .operator v (execEuCalibrate q u s) s)
  | 0x3111 => some (execDetTraceRequest q (BitVec.ofNat 16 (part 0 2 v)) (BitVec.ofNat 16 (part 2 2 v)) s)
  | 0x3312 => some (whenTrue q .operator v (execAsymMeasure q (Fin.ofNat 192 (sub - 1)) s) s)
  | 0x3407 => some (execCalRun q (BitVec.ofNat 8 (part 0 1 v)) (BitVec.ofNat 16 (part 2 2 v)) s)
  | 0x4003 => some (execTableReadReq q v s)
  | 0x4105 => some (execMeterReadReq q (BitVec.ofNat 32 n) s)
  | 0x4208 => some (execOvfRetry q (n != 0) s)
  | 0x4307 => some (execShaperForgive q (BitVec.ofNat 8 sub) (BitVec.ofNat 32 n) s)
  | 0x4409 => some (execStreamReadReq q (BitVec.ofNat 16 n) s)
  | 0x440D => some (execRoleSwap q (n != 0) s)
  | 0x440E => some (execPairResync q (n != 0) s)
  | 0x440F => some (execWitnessRegister q (n != 0) s)
  | _ => none

/-- ZEROISE by its value (R544 to R546); DESIGN CHOICE, assumption 48. -/
def zeroiseWrite (q : Req) (n : Nat) (s : State) : Out :=
  if n = 0x5A01 then execZeroiseOperatorSecrets q s
  else if n = 0x5A02 then execZeroiseAll q s
  else .next (roleRequest .custodian q (fun _ s => Res.of s 0x0301#16) s)

/-- UPDATE_ACTIVATE by its value (R576). -/
def activateWrite (q : Req) (n : Nat) (s : State) : Out :=
  match n with
  | 0 => execUpdateDisarm q s
  | 1 => execUpdateArm q s
  | _ => execUpdateArmRestart q s

/-- Writes of the WO objects of 0x6000 to 0x7FFF. -/
def writeOnly3 (q : Req) (idx sub : Nat) (v : List Byte) (s : State) : Option Out :=
  let n := leNat v
  match idx with
  | 0x6003 => some (execLdevidGenerate q (n != 0) s)
  | 0x6009 => some (execServiceOpen q (BitVec.ofNat 16 n) s)
  | 0x600B => some (execAttestRequest q v s)
  | 0x600E => some (execCounterIncrement q (BitVec.ofNat 8 n) s)
  | 0x6013 => some (execTamperAck q (n != 0) s)
  | 0x6014 => some (zeroiseWrite q n s)
  | 0x6017 => some (execMacsecCakWrite q (BitVec.ofNat 8 sub) v s)
  | 0x601A => some (execMacsecRekey q (BitVec.ofNat 8 sub) (n != 0) s)
  | 0x601B => some (execHalyardKeyWrite q (BitVec.ofNat 8 sub) v s)
  | 0x6102 => some (activateWrite q n s)
  | 0x6103 => some (if n ≠ 0 then execUpdateConfirmAccept q s else execUpdateReject q s)
  | 0x6104 => some (execUpdateDiscard q (n != 0) s)
  | 0x7003 => some (execCtrSnapRequest q (BitVec.ofNat 16 (part 0 2 v)) (BitVec.ofNat 16 (part 2 2 v)) (BitVec.ofNat 8 (part 4 1 v)) s)
  | 0x7005 => some (execCtrSnapRelease q (BitVec.ofNat 8 n) s)
  | 0x700D => some (execAlarmAck q (BitVec.ofNat 16 n) s)
  | 0x7012 => some (if n ≠ 0 then execSampleStart q s else execSampleStop q s)
  | _ => none

/-- SESSION_CLOSE (R212): a session is closed by a custodian; an unknown one answers 0x0301. -/
def sessionClose (q : Req) (n : Nat) (s : State) : State :=
  requestThen .custodian q 0 (fun s => if (session n s).isSome then 0 else 0x0301#16) (closeSession n) s

/-- SESSION_CLOSE (R212). -/
def execSessionClose (q : Req) (n : BitVec 16) (s : State) : Out := .next (sessionClose q n.toNat s)

/-- A write that passed its checks. -/
def objectWrite (q : Req) (idx sub : Nat) (v : List Byte) (s : State) : Out :=
  if idx = 0x1107 then execPairScopeWrite q (BitVec.ofNat 32 (leNat v)) s
  else if idx = 0x120C then execSessionClose q (BitVec.ofNat 16 (leNat v)) s
  else match writeOnly1 q idx sub v s with
    | some o => o
    | none => match writeOnly2 q idx sub v s with
      | some o => o
      | none => match writeOnly3 q idx sub v s with
        | some o => o
        | none => .next (request q (fun e s => plainWrite q e idx sub v s) s)

/-- OBJECT_WRITE (R154): OP 0x02. -/
def execObjectWrite (q : Req) (idx : BitVec 16) (sub : BitVec 8) (v : List Byte) (s : State) : Out :=
  let fault (e : Session) (s : State) : Status := writeFault false e idx.toNat sub.toNat v s
  match session q.sess s with
  | none => .next (request q (fun e s => Res.of s (fault e s)) s)
  | some e =>
    if fault e s ≠ 0 then .next (request q (fun e s => Res.of s (fault e s)) s)
    else objectWrite q idx.toNat sub.toNat v s

/-! ## Segmented transfers (R175 to R177) -/

/-- The bytes of a segment. -/
def segSize : Nat := 512

/-- Put a session's transfer. -/
def setTransfer (n : Nat) (t : Option Transfer) (s : State) : State := updSession n (fun e => { e with transfer := t }) s

/-- A read transfer opens: its content is frozen, the answer gives its length and CRC-32 (R175, R197). -/
def openRead (n : Nat) (k : ObjKey) (st : Status) (b : List Byte) (s : State) : Res :=
  ⟨setTransfer n (if b.isEmpty then none else some ⟨k, false, b.length, b, 0⟩) s, st, leBytes 4 b.length ++ leBytes 4 (crc32 b).toNat⟩

/-- The initiate request of a read (R136, R158, R175, R176, R197): a group whose members differ is answered 0x0807 and opens its transfer. -/
def initRead (q : Req) (idx sub : Nat) (e : Session) (s : State) : Res :=
  match objRow idx with
  | none => Res.of s 0x0101#16
  | some r =>
    if !hasSub r sub then Res.of s 0x0102#16
    else if !r.acc.reads then Res.of s 0x0804#16
    else if !domainSub idx sub then Res.of s 0x0302#16
    else if e.transfer.isSome then Res.of s 0x0401#16
    else if idx = 0x5005 then let x := blockContent q.sess e s; openRead q.sess (key idx sub) x.2.2 x.2.1 x.1
    else
      let x := readObj q.sess e idx sub s
      if x.code = 0 ∨ x.code = 0x0807#16 then openRead q.sess (key idx sub) x.code x.data x.st else x

/-- INITIATE_READ_TRANSFER (R175): OP 0x03. -/
def execInitiateReadTransfer (q : Req) (idx : BitVec 16) (sub : BitVec 8) (s : State) : Out :=
  .next (request q (fun e s => initRead q idx.toNat sub.toNat e s) s)

/-- The initiate request of a write (R150, R176, R177). -/
def initWrite (q : Req) (idx sub len : Nat) (e : Session) (s : State) : Res :=
  match objRow idx with
  | none => Res.of s 0x0101#16
  | some r =>
    if !hasSub r sub then Res.of s 0x0102#16
    else if !r.acc.writes ∨ sub < r.first then Res.of s 0x0804#16
    else if !roleMeets e.role r.wrole then Res.of s 0x0201#16
    else if r.ty ≠ .domain then Res.of s 0x0302#16
    else if idx = 0x6100 then downloadInit q len e s
    else if domainMax idx < len ∨ (idx = 0x5005 ∧ len ≠ 4 * e.regCount.toNat) then Res.of s 0x0302#16
    else if e.transfer.isSome then Res.of s 0x0401#16
    else if stageFault idx sub s ≠ 0 then Res.of s (stageFault idx sub s)
    else Res.of (setTransfer q.sess (some ⟨key idx sub, true, len, [], 0⟩) s) 0

/-- INITIATE_WRITE_TRANSFER (R175): OP 0x04. -/
def execInitiateWriteTransfer (q : Req) (idx : BitVec 16) (sub : BitVec 8) (len : BitVec 32) (s : State) : Out :=
  .next (request q (fun e s => initWrite q idx.toNat sub.toNat len.toNat e s) s)

/-- An open transfer is aborted and its content discarded (R177); a download ends (R574); DESIGN CHOICE, assumption 114. -/
def abortTransfer (n : Nat) (e : Session) (s : State) : State :=
  match e.transfer with
  | none => s
  | some t => if t.key = imageKey then endDownload (setTransfer n none s) else setTransfer n none s

/-- The records that a read showed leave their queue when its last segment is answered (R322, R611). -/
def readEnds (k : ObjKey) (b : List Byte) (s : State) : State :=
  if k / 256 = 0x310D then updEu (k % 256 - 1) (fun e => { e with queue := e.queue.drop (b.length / 32) }) s
  else if k = key 0x7014 0 then updObs (fun o => { o with samples := o.samples.drop (b.length / 32) }) s
  else s

/-- A segment of a read (R175). -/
def readSegment (n seg : Nat) (t : Transfer) (s : State) : Res :=
  let d := (t.data.drop (segSize * seg)).take segSize
  let last := decide (t.total ≤ segSize * (seg + 1))
  let s1 := setTransfer n (if last then none else some { t with nextSeg := seg + 1 }) s
  ⟨if last then readEnds t.key t.data s1 else s1, 0, leBytes 4 seg ++ d⟩

/-- The whole value of a write takes effect (R177). -/
def wholeWrite (q : Req) (e : Session) (idx sub : Nat) (v : List Byte) (s : State) : Res :=
  let f := writeFault true e idx sub v s
  if f ≠ 0 then Res.of s f
  else if idx = 0x7008 then statusSnap q.sess v e s
  else plainWrite q e idx sub v s

/-- An image is whole (R575): its verification begins, UPDATE_IMAGE completes with its result. -/
def imageWhole (q : Req) (s : State) : Res :=
  Res.of (setEntry cFlash 3 0 0 (updUpd (fun u => { u with download := none, verifyReq := some q }) s)) 0x0402#16

/-- A segment of a write (R175, R177, R574). -/
def writeSegment (q : Req) (last : Bool) (d : List Byte) (crc : BitVec 32) (t : Transfer) (e : Session) (s : State) : Res :=
  let all := t.data ++ d
  let image := t.key = imageKey
  if segSize < d.length ∨ t.total < all.length ∨ (last = true ∧ (all.length ≠ t.total ∨ crc ≠ crc32 all)) then
    Res.of (abortTransfer q.sess e s) 0x0808#16
  else
    let s1 := if image then updUpd (fun u => { u with staging := all }) s else s
    if last then
      let s2 := setTransfer q.sess none s1
      if image then imageWhole q s2 else wholeWrite q e (t.key / 256) (t.key % 256) all s2
    else Res.of (setTransfer q.sess (some { t with data := all, nextSeg := t.nextSeg + 1 }) s1) 0

/-- A segment of the open transfer; one out of order aborts it (R175, R177). -/
def segment (q : Req) (seg : Nat) (last : Bool) (d : List Byte) (crc : BitVec 32) (e : Session) (s : State) : Res :=
  match e.transfer with
  | none => Res.of s 0x0808#16
  | some t =>
    if seg ≠ t.nextSeg then Res.of (abortTransfer q.sess e s) 0x0808#16
    else if t.write then writeSegment q last d crc t e s
    else readSegment q.sess seg t s

/-- SEGMENT (R175, R177): OP 0x05; for a read its data are ignored. -/
def execSegment (q : Req) (n : BitVec 32) (last : Bool) (d : List Byte) (crc : BitVec 32) (s : State) : Out :=
  .next (request q (fun e s => segment q n.toNat last d crc e s) s)

/-- ABORT_TRANSFER (R177): OP 0x06. -/
def execAbortTransfer (q : Req) (s : State) : Out :=
  .next (request q (fun e s => if e.transfer.isNone then Res.of s 0 else Res.of (abortTransfer q.sess e s) 0x0808#16) s)

/-- TRANSFER_TIMEOUT (R177): 1,000 cycles without a segment. -/
def execTransferTimeout (n : BitVec 16) (s : State) : Out :=
  .next (match session n.toNat s with
    | none => s
    | some e => abortTransfer n.toNat e s)

/-! ## Block transfers of the register window (R136) -/

/-- REG_BLOCK_READ (R136): the initiate request of its read; the content is what the registers give. -/
def execRegBlockRead (q : Req) (s : State) : Out := .next (request q (fun e s => initRead q 0x5005 0 e s) s)

/-- REG_BLOCK_WRITE (R136): the effect of the whole value. -/
def execRegBlockWrite (q : Req) (d : List Byte) (s : State) : Out :=
  .next (roleRequest .operator q (fun e s =>
    if d.length ≠ 4 * e.regCount.toNat then Res.of s 0x0302#16 else blockWrite q.sess d e s) s)

/-- CLOSE_SESSION (R212): OP 0x07; the answer is given, then the session closes. -/
def execCloseSession (q : Req) (s : State) : Out :=
  .next (
    let s1 := request q (fun _ s => Res.of s 0) s
    if admits q .observer s then closeSession q.sess s1 else s1)

end Sys2Proof.Machine
end

