-- ==== Sys2Proof/Machine/Gleno.lean ====
section
/-!
DEFINITION. The Gleno field network: ports, joining and the cycle master, slots, records and sessions (06).
-/
namespace Sys2Proof.Machine

/-- Change the Gleno part. -/
def updGleno (f : Gleno → Gleno) (s : State) : State := { s with gleno := f s.gleno }

/-- The state a command leaves; a command that stops leaves the state as it was. -/
def after (o : Out) (s : State) : State :=
  match o with
  | .next t => t
  | _ => s

/-- The module's address as a number. -/
def address (s : State) : Nat := s.life.address.toNat

/-! ## Ports (R182, R183) -/

/-- A port of Gleno. -/
def gport (p : Nat) (s : State) : GPort := if p = 0 then s.gleno.m0 else s.gleno.m1

/-- Set a port; a port that is not trained has no cycle mark. A linked port draws 2 units (R64). -/
def setPort (p : Nat) (x : GPort) (s : State) : State :=
  setEntry cGleno p 1 (if x == .trained then 2 else 0) <| updGleno (fun g => if p = 0 then { g with m0 := x, mark0 := g.mark0 && x == .trained } else { g with m1 := x, mark1 := g.mark1 && x == .trained }) s

/-- OFF becomes LISTEN once Nymyx runs, a port is trained and the address is latched (R201). -/
def glenoGo (s : State) : State :=
  if s.gleno.state = .off ∧ s.life.nymyx ∧ s.life.latched ∧ portTrained s then updGleno (fun g => { g with state := .listen }) s else s

/-- One port is down while the other is up (R183); DEDUCED, assumption 108. -/
def oneDown (s : State) : State := if standing .onePortDown noInst s then s else raise .onePortDown noInst s

/-- KR_TRAINING_COMPLETE (R87, R182, R183); `alone` says that the other port is left unconnected. -/
def execKrTrainingComplete (p : Fin 2) (alone : Bool) (s : State) : Out :=
  .next (if gport p s ≠ .training ∨ s.life.state = .strapFault then s
    else
      let s1 := endAlarm .bothPortsDown noInst (setPort p .trained s)
      let both := gport (1 - p.val) s1 == .trained
      let s2 := if both then endAlarm .onePortDown noInst s1 else if gport (1 - p.val) s1 = .down then oneDown s1 else s1
      glenoGo (if (both ∨ alone = true) ∧ starting s2 ∧ s2.life.stage = 1 then reachStage 2 s2 else s2))

/-- KR_TRAINING_RETRY (R183): training failed 1 s ago and starts again. -/
def execKrTrainingRetry (p : Fin 2) (s : State) : Out :=
  .next (if gport p s = .trained ∨ !s.life.regulators ∨ s.life.state = .strapFault then s
    else
      let s1 := setPort p .training s
      if gport (1 - p.val) s1 = .trained then oneDown s1 else s1)

/-- KR_LINK_DOWN (R183): a trained port goes down and retrains at once. -/
def execKrLinkDown (p : Fin 2) (s : State) : Out :=
  .next (if gport p s ≠ .trained then s
    else
      let s1 := setPort p .training s
      if gport (1 - p.val) s1 = .trained then oneDown s1 else endAlarm .onePortDown noInst s1)

/-- GLENO_BOTH_DOWN (R183): both ports down for 1 s. -/
def execGlenoBothDown (s : State) : Out :=
  .next (if portTrained s ∨ !s.life.nymyx ∨ standing .bothPortsDown noInst s = true then s else raise .bothPortsDown noInst s)

/-! ## Joining and the cycle master (R188, R201, R202, R204) -/

/-- Stage 4 of the start, and the pairing that follows it (R87, R510). -/
def joinedNow (s : State) : State :=
  let s1 := endAlarm .joinUnacked noInst s
  let s2 := if starting s1 ∧ s1.life.stage < 4 then reachStage 4 s1 else s1
  if paired s2 then s2
  else if !cfgB 0x4400 0 s2 then (if starting s2 ∧ s2.life.stage < 5 then reachStage 5 s2 else s2)
  else if sideB s2 ∨ s2.trust.state = 3 then s2 else openPair s2

/-- The fields of a cycle-start are in range (R188). -/
def cycleValid (b : CycleBody) : Bool :=
  decide (100 ≤ b.time.toNat) && decide (b.time.toNat ≤ 2000) && decide (1 ≤ b.slots.toNat) && decide (b.slots.toNat ≤ 32)
    && decide (b.slots.toNat * 6 + 8 ≤ b.time.toNat)

/-- The module follows a source of cycle-starts, or changes to it (R201, R202). -/
def follows (src : Nat) (s : State) : Bool :=
  match s.gleno.state with
  | .off => false
  | .silent => false
  | .listen => true
  | .master => decide (src < 2) || decide (src < address s)
  | _ => match s.gleno.master with
    | none => true
    | some m => src == m || (decide (src < 2) && decide (2 ≤ m)) || (src == 0 && m == 1) || (decide (2 ≤ src) && decide (src < m))

/-- Addresses heard: a cycle ends and the next begins. -/
def nextCycle (g : Gleno) : Gleno := { g with heardPrev2 := g.heardPrev, heardPrev := g.heardNow, heardNow := 0 }

/-- NO SLOT: the cycle has no slot for the address. -/
def toNoSlot (s : State) : State :=
  let s1 := updGleno (fun g => { g with state := .noSlot, join := false }) s
  if standing .noSlot noInst s1 then s1 else raise .noSlot noInst s1

/-- JOINING from its start. -/
def toJoining (join : Bool) (s : State) : State :=
  updGleno (fun g => { g with state := .joining, join := join, heard := 0, joinCycles := 0, absentRun := 0 }) s

/-- What an accepted cycle-start does in each state (R201); `change` says that the master changed. -/
def joinStep (b : CycleBody) (change : Bool) (s : State) : State :=
  let a := address s
  let ack := b.joinAck.getLsbD a
  if b.slots.toNat ≤ a then (if s.gleno.state = .noSlot then s else toNoSlot s)
  else match s.gleno.state with
    | .listen => toJoining false s
    | .noSlot => toJoining false (endAlarm .noSlot noInst s)
    | .master => updGleno (fun g => { g with state := .joined, join := !ack, absentRun := 0 }) s
    | .joined => updGleno (fun g => { g with
        join := !ack && (g.join || change)
        absentRun := if b.presence.getLsbD a then 0 else g.absentRun + 1 }) s
    | .joining =>
      if ack then joinedNow (updGleno (fun g => { g with state := .joined, join := false, absentRun := 0 }) s)
      else updGleno (fun g => { g with heard := g.heard + 1, joinCycles := if g.join then g.joinCycles + 1 else g.joinCycles }) s
    | _ => s

/-- A cycle begins (R187, R188, R193): its mark is at the port it came on. -/
def openCycle (h : GHead) (b : CycleBody) (s : State) : State :=
  let src := h.source.toNat
  let change := s.gleno.master.isSome && s.gleno.master != some src
  let s1 := updGleno (fun g => { nextCycle g with
    mark0 := h.port == 0, mark1 := h.port == 1, master := some src, cycleTime := b.time, cycle := h.cycle, followed := true
    slots := b.slots.toNat, presence := b.presence }) s
  joinStep b change (if change then count 0x120A 7 s1 else s1)

/-- The cycle-start of the present cycle reaches the other port. -/
def sameCycle (h : GHead) (s : State) : Bool :=
  s.gleno.followed && s.gleno.cycle == h.cycle && s.gleno.master == some h.source.toNat && s.gleno.state != .listen && s.gleno.state != .master

/-- A frame that the interface reads at all (R184, R192). -/
def readsFrame (h : GHead) (s : State) : Bool :=
  gport h.port s == .trained && s.gleno.state != .off && s.gleno.state != .silent && h.ours && h.et.toNat == s.gleno.etherType

/-- CYCLE_START_RECEIVED (R184, R188, R201, R202). -/
def execCycleStartReceived (h : GHead) (b : CycleBody) (s : State) : Out :=
  .next (if !readsFrame h s then s
    else if h.kind ≠ 1 ∨ 31 < h.source.toNat then count 0x120A 3 s
    else if !cycleValid b ∨ !follows h.source.toNat s then count 0x120A 6 s
    else if sameCycle h s then updGleno (fun g => if h.port = 0 then { g with mark0 := true } else { g with mark1 := true }) s
    else openCycle h b s)

/-- MASTER_HOLDOFF_EXPIRY (R201, R203, R204). -/
def execMasterHoldoffExpiry (s : State) : Out :=
  .next (if s.gleno.state = .listen ∨ s.gleno.state = .joining ∨ s.gleno.state = .joined then
      let change := s.gleno.master.isSome
      let s1 := updGleno (fun g => { g with
        state := .master, join := false, absentRun := 0, master := some (address s), mark0 := false, mark1 := false
        cycleTime := BitVec.ofNat 16 (max g.masterTime 200), slots := 32, joinSeen := 0 }) s
      joinedNow (if change then count 0x120A 7 s1 else s1)
    else s)

/-- The ports that are trained. -/
def trainedPorts (s : State) : List Nat := [0, 1].filter (fun p => gport p s == .trained)

/-- CYCLE_START_TRANSMIT (R193, R204): on every trained port; DEDUCED, assumption 98. -/
def execCycleStartTransmit (s : State) : Out :=
  .next (if s.gleno.state ≠ .master then s
    else
      let g := s.gleno
      let n : BitVec 32 := if g.followed then g.cycle + 1 else 0
      let pres := g.heardNow ||| g.heardPrev ||| g.heardPrev2
      let s1 := updGleno (fun g => { nextCycle g with
        cycle := n, followed := true, presence := pres, joinSeen := 0, mark0 := g.m0 == .trained, mark1 := g.m1 == .trained }) s
      (trainedPorts s).foldl (fun s p =>
        emit .cycleStart p [g.etherType, glenoMax s, address s, n.toNat, g.cycleTime.toNat, 32, glenoMin s, pres.toNat, g.joinSeen.toNat] s) s1)

/-- JOIN_START (R201): three whole cycles were heard after the one first heard; DESIGN CHOICE, assumption 97. -/
def execJoinStart (s : State) : Out :=
  .next (if s.gleno.state = .joining ∧ !s.gleno.join ∧ 4 ≤ s.gleno.heard then updGleno (fun g => { g with join := true, joinCycles := 0 }) s else s)

/-- JOIN_UNACKNOWLEDGED (R201): 64 cycles with JOIN; the module keeps trying. -/
def execJoinUnacknowledged (s : State) : Out :=
  .next (if s.gleno.state = .joining ∧ s.gleno.join ∧ 64 ≤ s.gleno.joinCycles ∧ standing .joinUnacked noInst s = false then raise .joinUnacked noInst s else s)

/-- PRESENCE_LOST (R201). -/
def execPresenceLost (s : State) : Out :=
  .next (if s.gleno.state = .joined ∧ 3 ≤ s.gleno.absentRun then toJoining true s else s)

/-- An address was heard in none of the present cycle and the two before it; DEDUCED, assumption 99. -/
def unheard (a : Nat) (g : Gleno) : Bool := !(g.heardNow ||| g.heardPrev ||| g.heardPrev2).getLsbD a

/-- NODE_LOST (R205); the loss of the mate's slot frames is the loss of its Gleno heartbeat (R516). -/
def execNodeLost (a : Fin 32) (s : State) : Out :=
  .next (if s.gleno.master.isNone ∨ s.gleno.lost.getLsbD a = true ∨ a.val = address s ∨ unheard a s.gleno = false then s
    else
      let s1 := count 0x120A 8 (updGleno (fun g => { g with lost := g.lost ||| ((1#32) <<< a.val) }) s)
      if a.val = mateAddress s1 ∧ paired s1 = true then glenoLost s1 else s1)

/-! ## Slot frames sent (R189, R194, R195, R198, R199) -/

/-- HEARTBEAT (R194). -/
def heartbeat (s : State) : Nat :=
  let g := s.gleno
  g.hbCount.toNat * 4096 + b2n (shroudUp s) * 2048 + b2n g.late * 1024 + b2n (stands 1 s) * 512 + b2n (stands 2 s) * 256
    + b2n (g.m1 == .trained) * 128 + b2n (g.m0 == .trained) * 64 + s.pair.role.code * 16 + b2n g.join * 8
    + b2n (s.life.state == .stopped || s.life.state == .thermalStop) * 4 + b2n (s.life.state == .restarting) * 2 + b2n (g.state == .master)

/-- The bytes of a record with an answer or completion: header, REQ_ID and STATUS, data, tag. -/
def recSize (a : Answer) : Nat := 34 + a.data.length

/-- The answers that a slot frame with some room carries, in order: as they are sent, those whose full result follows as a
completion, those that wait for the next slot (R198). Room for a status is kept for each answer that follows; DESIGN CHOICE, assumption 100. -/
def fitAnswers : Nat → List Answer → List Answer × List Answer × List Answer
  | _, [] => ([], [], [])
  | room, a :: l =>
    if recSize a + 34 * l.length ≤ room ∨ (a.data = [] ∧ 34 ≤ room) then
      let r := fitAnswers (room - recSize a) l
      (a :: r.1, r.2.1, r.2.2)
    else if 34 ≤ room then
      let r := fitAnswers (room - 34) l
      (⟨a.sess, a.reqId, 0x0402#16, []⟩ :: r.1, a :: r.2.1, r.2.2)
    else ([], [], a :: l)

/-- Seal a record of a session: its fields, with the next SEQ of the module's direction (R206). -/
def sealOut (kind : Nat) (x : State × List Int) (a : Answer) : State × List Int :=
  let e := session a.sess x.1
  let peer := (e.map (fun e => e.peer)).getD 0
  let seq := (e.map (fun e => e.txSeq)).getD 0
  (updSession a.sess (fun e => { e with txSeq := e.txSeq + 1 }) x.1,
   x.2 ++ ([(a.sess : Int), peer, kind, seq, a.reqId.toNat, a.status.toNat, a.data.length] ++ a.data.map (fun b => (b.toNat : Int))))

/-- Sessions in which a direction has used its 2^32 records close (R212). -/
def closeSpent (s : State) : State := closeWhere (fun e => decide (4294967296 ≤ e.txSeq)) s

/-- The ports that have a cycle mark. -/
def markedPorts (s : State) : List Nat := (trainedPorts s).filter (fun p => if p = 0 then s.gleno.mark0 else s.gleno.mark1)

/-- The interface sends in its slot (R189, R201). -/
def sends (s : State) : Bool := accepting s || (s.gleno.state == .joining && s.gleno.join)

/-- The slot frame on every port with a cycle mark. -/
def slotFrame (s : State) : State :=
  let f := fitAnswers 554 s.gleno.answers
  let n402 := f.2.1.length
  let s1 : State := updGleno (fun g => { g with answers := f.2.2, completions := g.completions ++ f.2.1, hbCount := g.hbCount + 1 }) s
  let s2 := countN 0x120A 9 n402 (if s.gleno.late then count 0x120A 2 s1 else s1)
  let x := f.1.foldl (sealOut 2) (s2, [])
  let head (s : State) : List Int := [s.gleno.etherType, glenoMax s, address s, s.gleno.cycle.toNat, heartbeat s]
  let s3 := (markedPorts x.1).foldl (fun s p => emit .slotFrame p (head s ++ x.2) s) x.1
  closeSpent (updGleno (fun g => { g with late := !f.2.2.isEmpty }) s3)

/-- SLOT_TRANSMIT (R189, R199): `ready` says that the frame is ready by its deadline. -/
def execSlotTransmit (ready : Bool) (s : State) : Out :=
  .next (if !sends s ∨ (markedPorts s).isEmpty then s
    else if ready then slotFrame s
    else count 0x120A 1 (updGleno (fun g => { g with late := g.late || !g.answers.isEmpty }) s))

/-- REQUEST_COMPLETION (R198): the oldest result that waits goes out as a completion record in the module's slot. -/
def execRequestCompletion (s : State) : Out :=
  .next (match s.gleno.completions with
    | [] => s
    | a :: l =>
      if !accepting s ∨ (markedPorts s).isEmpty then s
      else
        let x := sealOut 3 (updGleno (fun g => { g with completions := l }) s, []) a
        closeSpent ((markedPorts x.1).foldl (fun s p => emit .slotFrame p x.2 s) x.1))

/-- COMPLETION_TIMEOUT (R198): 4,096 cycles after 0x0402 the completion carries 0x0401; DEDUCED, assumption 101. -/
def execCompletionTimeout (q : Req) (s : State) : Out := .next (complete q 0x0401#16 [] s)

/-! ## Slot frames received (R195, R196, R205, R207) -/

/-- A request by its plaintext (R196). -/
def runRequest (n : Nat) (b : List Byte) (s : State) : State :=
  let q : Req := ⟨n, BitVec.ofNat 16 (part 0 2 b)⟩
  let idx : BitVec 16 := BitVec.ofNat 16 (part 4 2 b)
  let sub := b.getD 6 0
  let last := (b.getD 3 0).getLsbD 0
  let d := b.drop 8
  let len := b.length
  let bad : Out := .next (request q (fun _ s => Res.of s 0x0302#16) s)
  let o : Out := match (b.getD 2 0).toNat with
    | 1 => if len = 8 then execObjectRead q idx sub s else bad
    | 2 => if 8 ≤ len then execObjectWrite q idx sub d s else bad
    | 3 => if len = 8 then execInitiateReadTransfer q idx sub s else bad
    | 4 => if len = 12 then execInitiateWriteTransfer q idx sub (BitVec.ofNat 32 (part 8 4 b)) s else bad
    | 5 =>
      if len < 8 ∨ (last = true ∧ len < 12) then bad
      else execSegment q (BitVec.ofNat 32 (part 4 4 b)) last (if last then d.take (d.length - 4) else d)
        (BitVec.ofNat 32 (if last then leNat (d.drop (d.length - 4)) else 0)) s
    | 6 => execAbortTransfer q s
    | 7 => execCloseSession q s
    | _ => bad
  if len < 4 then count 0x120A 3 s else after o s

/-- A record for this module (R201, R207): requests are opened and run; handshake and pair records are commands of their
own. `copy` says that the frame is the other port's copy; DESIGN CHOICE, assumption 96. -/
def recordIn (src : Nat) (copy : Bool) (s : State) (r : GRec) : State :=
  if r.dest.toNat ≠ address s then s
  else if !accepting s then count 0x120A 3 s
  else if r.kind ≠ 1 then (if 1 ≤ r.kind.toNat ∧ r.kind.toNat ≤ 5 then s else count 0x120A 3 s)
  else match session r.session.toNat s with
    | none => count 0x120A 5 s
    | some e =>
      if !r.auth.ok ∨ e.peer ≠ src then count 0x120A 4 s
      else match seqAccept r.auth.seq e.seqHigh e.seqMask with
        | none => if copy then s else count 0x120A 5 s
        | some (h, m) =>
          let s1 := updSession r.session.toNat (fun e => { e with seqHigh := some h, seqMask := m, lastRec := timeA s, lastAt := s.now }) s
          let s2 := runRequest r.session.toNat r.content s1
          if 4294967295 ≤ r.auth.seq then closeSession r.session.toNat s2 else s2

/-- An address is heard (R193, R204, R205). -/
def hear (a : Nat) (join : Bool) (s : State) : State :=
  let bit1 : BitVec 32 := (1#32) <<< a
  updGleno (fun g => { g with
    heardNow := g.heardNow ||| bit1
    lost := g.lost &&& ~~~bit1
    joinSeen := if join && g.state == .master then g.joinSeen ||| bit1 else g.joinSeen }) s

/-- The address is in conflict: SILENT (R201). -/
def conflict (s : State) : State :=
  raise .addressConflict noInst (updGleno (fun g => { g with state := .silent, join := false }) s)

/-- The mate's heartbeat in a slot frame (R194, R516). -/
def slotBeat (hb : BitVec 16) (s : State) : State :=
  mateGleno ⟨Fin.ofNat 4 (hb.toNat / 16), hb.getLsbD 2, hb.getLsbD 1⟩ s

/-- SLOT_FRAME_RECEIVED (R195, R205): `over` says that a record's length runs past BODY_LENGTH. -/
def execSlotFrameReceived (h : GHead) (hb : BitVec 16) (recs : List GRec) (beyond : Bool) (s : State) : Out :=
  .next (if !readsFrame h s then s
    else if h.kind ≠ 2 ∨ 31 < h.source.toNat then count 0x120A 3 s
    else
      let a := h.source.toNat
      if a = address s ∧ s.gleno.state ≠ .master ∧ s.gleno.state ≠ .noSlot then conflict s
      else
        let copy := s.gleno.heardNow.getLsbD a
        let s1 := hear a (hb.getLsbD 3) s
        let s2 := if a = mateAddress s1 then slotBeat hb s1 else s1
        let s3 := recs.foldl (recordIn a copy) s2
        if beyond then count 0x120A 3 s3 else s3)

/-! ## Handshakes (R208 to R213, R543, R545, R550 to R555) -/

/-- A handshake is refused; DESIGN CHOICE, assumption 105. -/
def refuseShake (src : Nat) (id : BitVec 16) (st : Status) (s : State) : State :=
  count 0x120A 10 (emit .handshake src [255, (id.toNat : Int), (st.toNat : Int)] s)

/-- The version that both sides support, if there is one (R211, R214). -/
def common (vmin vmax : Nat) (s : State) : Option Nat :=
  let v := min vmax (glenoMax s)
  if vmin ≤ v ∧ glenoMin s ≤ v then some v else none

/-- The number of the next session. -/
def freeNumber (s : State) : Nat :=
  let taken (n : Nat) : Bool := (session n s).isSome || s.gleno.handshakes.any (fun h => h.session == n) || s.gleno.pairSess == some n
  (((List.range 16).map (fun i => (s.gleno.nextSess - 1 + i) % 32767 + 1)).find? (fun n => !taken n)).getD 1

/-- The handshakes of hosts in progress. -/
def hostShakes (s : State) : List Handshake := s.gleno.handshakes.filter (fun h => !h.pair)

/-- Why an OPEN of a host is refused (R211, R538, R543, R545, R552, R555); DESIGN CHOICE, assumption 103; DEDUCED, assumption 106. -/
def openFault (role : Role) (s : State) : Status :=
  let n := s.gleno.sessions.length
  let m := (hostShakes s).length
  if s.life.state = .restarting then 0x0701#16
  else if s.trust.state = 3 then 0x080D#16
  else if (s.trust.state = 0 ∧ 0 < n + m) ∨ 8 ≤ n ∨ 2 ≤ m then 0x080C#16
  else if role = .service ∧ s.trust.service.isNone ∧ s.trust.state ≠ 0 then 0x0201#16
  else if s.trust.lock ∧ (role = .observer ∨ role = .operator) then 0x080D#16
  else if bootMigrates s ∨ s.trust.entropy then 0x0401#16
  else 0

/-- Why an OPEN of the mate is refused. -/
def pairOpenFault (s : State) : Status :=
  if s.life.state = .restarting then 0x0701#16
  else if s.trust.state = 3 then 0x080D#16
  else if bootMigrates s ∨ s.trust.entropy then 0x0401#16
  else 0

/-- A handshake is accepted: ACCEPT names its version and session (R208). -/
def acceptOpen (src : Nat) (id : BitVec 16) (role : Role) (pair : Bool) (v : Nat) (s : State) : State :=
  let n := freeNumber s
  let keep := s.gleno.handshakes.filter (fun h => !(h.peer == src && h.id == id) && !(pair && h.pair))
  emit .handshake src [2, (id.toNat : Int), v, n]
    (updGleno (fun g => { g with handshakes := keep ++ [⟨id, src, role, v, n, pair⟩], nextSess := n % 32767 + 1 }) s)

/-- The role of a ROLE code. -/
def roleOfCode (n : Nat) : Role :=
  match n with
  | 1 => .operator
  | 2 => .custodian
  | 3 => .service
  | _ => .observer

/-- HANDSHAKE_OPEN (R208, R211, R213): from a host, or from the mate that is side A; DESIGN CHOICE, assumption 104. -/
def execHandshakeOpen (src : Fin 32) (id : BitVec 16) (vmin vmax : BitVec 8) (role : Fin 4) (s : State) : Out :=
  .next (
    let host := decide (src.val < 2)
    let mate := sideB s && cfgB 0x4400 0 s && src.val == mateAddress s
    if !accepting s then count 0x120A 3 s
    else if !host && !mate then count 0x120A 5 s
    else
      let f := if host then openFault (roleOfCode role) s else pairOpenFault s
      match common vmin.toNat vmax.toNat s with
      | none => refuseShake src id (if s.life.state = .restarting then 0x0701#16 else 0x080B#16) s
      | some v => if f ≠ 0 then refuseShake src id f s else acceptOpen src id (roleOfCode role) (!host) v s)

/-- The handshake of an initiator by its identifier. -/
def shake (src : Nat) (id : BitVec 16) (s : State) : Option Handshake := s.gleno.handshakes.find? (fun h => h.peer == src && h.id == id)

/-- A handshake ends. -/
def dropShake (h : Handshake) (s : State) : State := updGleno (fun g => { g with handshakes := g.handshakes.erase h }) s

/-- The role that a host's chain earns it: the lower of what it asks and what the chain permits, or the status of the
refusal (R211, R543, R551, R552, R555). -/
def earned (h : Handshake) (chain : List Byte) (sig : Bool) (s : State) : Status ⊕ Role :=
  if !sig then .inl 0x080D#16
  else if s.trust.state = 0 then
    (if Config.selfSigned chain then (if s.gleno.sessions.isEmpty then .inr .custodian else .inl 0x080C#16) else .inl 0x080D#16)
  else if 8 ≤ s.gleno.sessions.length then .inl 0x080C#16
  else match h.role with
    | .service =>
      if s.trust.service.isNone then .inl 0x0201#16
      else if Config.serviceChain chain (chainTime s) then .inr .service else .inl 0x080D#16
    | r => match chainRole chain s with
      | none => .inl 0x080D#16
      | some p =>
        let g := if roleMeets p r then r else p
        if s.trust.lock ∧ g ≠ .custodian then .inl 0x080D#16 else .inr g

/-- GRANT: the session opens (R211, R212). -/
def grantSession (h : Handshake) (role : Role) (chain : List Byte) (s : State) : State :=
  let e : Session := { Session.fresh h.peer role h.version (cfg 0x1209 0 s) (timeA s) s.now with chain := chain, txSeq := 1 }
  emit .handshake h.peer [4, (h.id.toNat : Int), roleCode role, h.version, cfg 0x1209 0 s]
    { s with gleno := { s.gleno with sessions := Tab.set h.session e s.gleno.sessions } }

/-- PROVE of a host. -/
def proveHost (h : Handshake) (chain : List Byte) (sig : Bool) (s : State) : State :=
  let s1 := dropShake h s
  if s.life.state = .restarting then refuseShake h.peer h.id 0x0701#16 s1
  else if bootMigrates s then refuseShake h.peer h.id 0x0401#16 s1
  else
    let s2 := if s.trust.state = 1 ∧ sig = true then checked s1 else s1
    match earned h chain sig s2 with
    | .inl st => refuseShake h.peer h.id st s2
    | .inr r => grantSession h r chain s2

/-- The mate's chain meets R554: `dev` says that it validates to the device root, `leaf` that its serial number is that of
its IDevID subject. -/
def pairChainOk (chain : List Byte) (sig dev leaf : Bool) (s : State) : Bool := sig && leaf && (dev || chainMeets chain 0x10 s)

/-- The pair session fails verification: the module stays unpaired (R554). -/
def pairRefused (s : State) : State := if standing .pairAuth noInst s then s else raise .pairAuth noInst s

/-- The pair session opens (R213, R510). -/
def pairOpens (h : Handshake) (i : PairInfo) (s : State) : State :=
  pairComplete i (endAlarm .pairAuth noInst (dropShake h { s with gleno := { s.gleno with pairSess := some h.session } }))

/-- PROVE of the mate. -/
def provePair (h : Handshake) (chain : List Byte) (sig dev leaf : Bool) (i : PairInfo) (s : State) : State :=
  if s.life.state = .restarting then refuseShake h.peer h.id 0x0701#16 (dropShake h s)
  else if !pairChainOk chain sig dev leaf (checked s) then pairRefused (refuseShake h.peer h.id 0x080D#16 (dropShake h (checked s)))
  else pairOpens h i (emit .handshake h.peer [4, (h.id.toNat : Int), 0, h.version, 0] (checked s))

/-- HANDSHAKE_PROVE (R211, R213, R554): `sig` says that the signature over the handshake verifies with the chain's leaf;
`i` is what the mate reports. -/
def execHandshakeProve (src : Fin 32) (id : BitVec 16) (chain : List Byte) (sig dev leaf : Bool) (i : PairInfo) (s : State) : Out :=
  .next (if !accepting s then count 0x120A 3 s
    else match shake src id s with
      | none => count 0x120A 5 s
      | some h => if h.pair then (if sideB s then provePair h chain sig dev leaf i s else s) else proveHost h chain sig s)

/-- HANDSHAKE_ACCEPT_RECEIVED (R213, R554): side A verifies the mate's ACCEPT and sends PROVE. -/
def execHandshakeAcceptReceived (v : BitVec 8) (n : BitVec 16) (chain : List Byte) (sig dev leaf : Bool) (s : State) : Out :=
  .next (if !accepting s then count 0x120A 3 s
    else match s.gleno.handshakes.find? (fun h => h.pair && !sideB s) with
      | none => count 0x120A 5 s
      | some h =>
        let s1 := checked s
        if !pairChainOk chain sig dev leaf s1 ∨ v.toNat < glenoMin s ∨ glenoMax s < v.toNat then pairRefused (dropShake h s1)
        else emit .handshake h.peer [3, (h.id.toNat : Int)] (updGleno (fun g => { g with
          handshakes := g.handshakes.map (fun x => if x = h then { h with version := v.toNat, session := n.toNat } else x) }) s1))

/-- HANDSHAKE_GRANT_RECEIVED (R213, R510): the pair session opens on side A. -/
def execHandshakeGrantReceived (ok : Bool) (i : PairInfo) (s : State) : Out :=
  .next (if !accepting s then count 0x120A 3 s
    else match s.gleno.handshakes.find? (fun h => h.pair && !sideB s && h.session != 0) with
      | none => count 0x120A 5 s
      | some h => if ok then pairOpens h i s else count 0x120A 4 s)

/-- HANDSHAKE_TIMEOUT (R212): 1 s after OPEN. -/
def execHandshakeTimeout (src : Fin 32) (id : BitVec 16) (s : State) : Out :=
  .next (match shake src id s with
    | none => s
    | some h => dropShake h s)

/-! ## The end of sessions (R212) -/

/-- SESSION_IDLE_TIMEOUT (R212): no sealed record for the limit that was set when the session opened. -/
def execSessionIdleTimeout (n : BitVec 16) (s : State) : Out :=
  .next (match session n.toNat s with
    | none => s
    | some e => if e.lastAt + e.idle * 100000000 ≤ s.now then closeSession n.toNat s else s)

/-- SESSION_LIFETIME_EXPIRY (R212): 24 h. -/
def execSessionLifetimeExpiry (n : BitVec 16) (s : State) : Out :=
  .next (match session n.toNat s with
    | none => s
    | some e => if e.openedAt + 8640000000000 ≤ s.now then closeSession n.toNat s else s)

end Sys2Proof.Machine
end

