-- ==== Sys2Proof/Machine/Dispatch.lean ====
section
/-! DEFINITION. One arm per command: a direct call of its meaning. -/
namespace Sys2Proof.Machine

/-- The meaning of each command, on everything but the queue. -/
def exec (i : Instr) (s : State) : Host.Outcome State Fault Refusal :=
  match i with
  | .inletApplied mv reversed => Sys2Proof.Machine.execInletApplied mv reversed s
  | .startPermitted mv => Sys2Proof.Machine.execStartPermitted mv s
  | .inletRemoved => Sys2Proof.Machine.execInletRemoved s
  | .regulatorsValid pass vA vR vS lapsed => Sys2Proof.Machine.execRegulatorsValid pass vA vR vS lapsed s
  | .addressLatched => Sys2Proof.Machine.execAddressLatched s
  | .strapFault => Sys2Proof.Machine.execStrapFault s
  | .strapChange straps => Sys2Proof.Machine.execStrapChange straps s
  | .laserEnFall => Sys2Proof.Machine.execLaserEnFall s
  | .laserEnQualified => Sys2Proof.Machine.execLaserEnQualified s
  | .stagingInstant => Sys2Proof.Machine.execStagingInstant s
  | .resetNAsserted => Sys2Proof.Machine.execResetNAsserted s
  | .resetNRelease ns => Sys2Proof.Machine.execResetNRelease ns s
  | .resetEnd mv => Sys2Proof.Machine.execResetEnd mv s
  | .level4Entry lowest below => Sys2Proof.Machine.execLevel4Entry lowest below s
  | .level4Exit mv lowest => Sys2Proof.Machine.execLevel4Exit mv lowest s
  | .supplyReset lowest below => Sys2Proof.Machine.execSupplyReset lowest below s
  | .overVoltageAlarm mv => Sys2Proof.Machine.execOverVoltageAlarm mv s
  | .overVoltageStop mv => Sys2Proof.Machine.execOverVoltageStop mv s
  | .reversedFlow => Sys2Proof.Machine.execReversedFlow s
  | .dieWarning die => Sys2Proof.Machine.execDieWarning die s
  | .dieWarningEnd => Sys2Proof.Machine.execDieWarningEnd s
  | .thermalStop => Sys2Proof.Machine.execThermalStop s
  | .thermalRecovery pass vA vR vS => Sys2Proof.Machine.execThermalRecovery pass vA vR vS s
  | .cellTest mv => Sys2Proof.Machine.execCellTest mv s
  | .ledgerEvaluation mv cur lowest => Sys2Proof.Machine.execLedgerEvaluation mv cur lowest s
  | .reefLevelFall => Sys2Proof.Machine.execReefLevelFall s
  | .reefRequest a => Sys2Proof.Machine.execReefRequest a s
  | .reefGrant => Sys2Proof.Machine.execReefGrant s
  | .requestRetry a => Sys2Proof.Machine.execRequestRetry a s
  | .bankRefusedAlarm t => Sys2Proof.Machine.execBankRefusedAlarm t s
  | .underDeclaredDraw cur => Sys2Proof.Machine.execUnderDeclaredDraw cur s
  | .underDeclaredClear cur => Sys2Proof.Machine.execUnderDeclaredClear cur s
  | .tileLightSleep t => Sys2Proof.Machine.execTileLightSleep t s
  | .tileLightWake t => Sys2Proof.Machine.execTileLightWake t s
  | .tileDeepSleep t => Sys2Proof.Machine.execTileDeepSleep t s
  | .tileDeepWake t => Sys2Proof.Machine.execTileDeepWake t s
  | .sliceSleep t => Sys2Proof.Machine.execSliceSleep t s
  | .sliceWake t => Sys2Proof.Machine.execSliceWake t s
  | .nymyxStarted lost => Sys2Proof.Machine.execNymyxStarted lost s
  | .startDeadlineMissed stage => Sys2Proof.Machine.execStartDeadlineMissed stage s
  | .ovenWarm => Sys2Proof.Machine.execOvenWarm s
  | .stage7Reached => Sys2Proof.Machine.execStage7Reached s
  | .restartWarm q => Sys2Proof.Machine.execRestartWarm q s
  | .restartCold q v => Sys2Proof.Machine.execRestartCold q v s
  | .nymyxFatalFault => Sys2Proof.Machine.execNymyxFatalFault s
  | .warmStartComplete v => Sys2Proof.Machine.execWarmStartComplete v s
  | .warmStartTimeout => Sys2Proof.Machine.execWarmStartTimeout s
  | .stopOrderly q => Sys2Proof.Machine.execStopOrderly q s
  | .stopNoHandover q => Sys2Proof.Machine.execStopNoHandover q s
  | .shutdownFlushTimeout => Sys2Proof.Machine.execShutdownFlushTimeout s
  | .shutdownComplete => Sys2Proof.Machine.execShutdownComplete s
  | .laserRelease q v => Sys2Proof.Machine.execLaserRelease q v s
  | .sparEngineFailure e => Sys2Proof.Machine.execSparEngineFailure e s
  | .roleMigrationResumed e => Sys2Proof.Machine.execRoleMigrationResumed e s
  | .registerWrite q v => Sys2Proof.Machine.execRegisterWrite q v s
  | .maskedWrite q mask payload => Sys2Proof.Machine.execMaskedWrite q mask payload s
  | .postedWrite q v => Sys2Proof.Machine.execPostedWrite q v s
  | .postedWriteLanded base => Sys2Proof.Machine.execPostedWriteLanded base s
  | .postedWriteDropped base => Sys2Proof.Machine.execPostedWriteDropped base s
  | .rcFieldRead q => Sys2Proof.Machine.execRcFieldRead q s
  | .wideReadLatch q => Sys2Proof.Machine.execWideReadLatch q s
  | .wideUpperWrite q v => Sys2Proof.Machine.execWideUpperWrite q v s
  | .wideLowWrite q v => Sys2Proof.Machine.execWideLowWrite q v s
  | .guardUnlock q => Sys2Proof.Machine.execGuardUnlock q s
  | .guardLock q => Sys2Proof.Machine.execGuardLock q s
  | .guardWrongKey q v => Sys2Proof.Machine.execGuardWrongKey q v s
  | .guardTimeout base => Sys2Proof.Machine.execGuardTimeout base s
  | .windowWrite q v => Sys2Proof.Machine.execWindowWrite q v s
  | .windowRead q => Sys2Proof.Machine.execWindowRead q s
  | .regBlockRead q => Sys2Proof.Machine.execRegBlockRead q s
  | .regBlockWrite q d => Sys2Proof.Machine.execRegBlockWrite q d s
  | .objectRead q idx sub => Sys2Proof.Machine.execObjectRead q idx sub s
  | .objectWrite q idx sub v => Sys2Proof.Machine.execObjectWrite q idx sub v s
  | .rwsStage q idx sub v => Sys2Proof.Machine.execRwsStage q idx sub v s
  | .initiateReadTransfer q idx sub => Sys2Proof.Machine.execInitiateReadTransfer q idx sub s
  | .initiateWriteTransfer q idx sub len => Sys2Proof.Machine.execInitiateWriteTransfer q idx sub len s
  | .segment q n last d crc => Sys2Proof.Machine.execSegment q n last d crc s
  | .abortTransfer q => Sys2Proof.Machine.execAbortTransfer q s
  | .transferTimeout n => Sys2Proof.Machine.execTransferTimeout n s
  | .closeSession q => Sys2Proof.Machine.execCloseSession q s
  | .commit q mask => Sys2Proof.Machine.execCommit q mask s
  | .commitApply => Sys2Proof.Machine.execCommitApply s
  | .commitAbort q mask => Sys2Proof.Machine.execCommitAbort q mask s
  | .pairCommitRequest x mask gens vals => Sys2Proof.Machine.execPairCommitRequest x mask gens vals s
  | .pairCommitReply x st idx sub reason op number => Sys2Proof.Machine.execPairCommitReply x st idx sub reason op number s
  | .pairCommitTimeout => Sys2Proof.Machine.execPairCommitTimeout s
  | .pairCommitOrder x t number given => Sys2Proof.Machine.execPairCommitOrder x t number given s
  | .pairCommitCancel x number => Sys2Proof.Machine.execPairCommitCancel x number s
  | .pairCancelConfirm x number => Sys2Proof.Machine.execPairCancelConfirm x number s
  | .pairScopeWrite q v => Sys2Proof.Machine.execPairScopeWrite q v s
  | .pairScopeConfirm x v => Sys2Proof.Machine.execPairScopeConfirm x v s
  | .pairScopeTimeout => Sys2Proof.Machine.execPairScopeTimeout s
  | .snapRequest q mask => Sys2Proof.Machine.execSnapRequest q mask s
  | .snapRelease q k => Sys2Proof.Machine.execSnapRelease q k s
  | .snapSlotExpiry k ctr => Sys2Proof.Machine.execSnapSlotExpiry k ctr s
  | .settingsClear q v => Sys2Proof.Machine.execSettingsClear q v s
  | .settingsSave => Sys2Proof.Machine.execSettingsSave s
  | .krTrainingComplete p alone => Sys2Proof.Machine.execKrTrainingComplete p alone s
  | .krTrainingRetry p => Sys2Proof.Machine.execKrTrainingRetry p s
  | .krLinkDown p => Sys2Proof.Machine.execKrLinkDown p s
  | .glenoBothDown => Sys2Proof.Machine.execGlenoBothDown s
  | .cycleStartReceived h b => Sys2Proof.Machine.execCycleStartReceived h b s
  | .masterHoldoffExpiry => Sys2Proof.Machine.execMasterHoldoffExpiry s
  | .cycleStartTransmit => Sys2Proof.Machine.execCycleStartTransmit s
  | .slotTransmit ready => Sys2Proof.Machine.execSlotTransmit ready s
  | .slotFrameReceived h hb recs beyond => Sys2Proof.Machine.execSlotFrameReceived h hb recs beyond s
  | .joinStart => Sys2Proof.Machine.execJoinStart s
  | .joinUnacknowledged => Sys2Proof.Machine.execJoinUnacknowledged s
  | .presenceLost => Sys2Proof.Machine.execPresenceLost s
  | .nodeLost a => Sys2Proof.Machine.execNodeLost a s
  | .requestCompletion => Sys2Proof.Machine.execRequestCompletion s
  | .completionTimeout q => Sys2Proof.Machine.execCompletionTimeout q s
  | .handshakeOpen src id vmin vmax role => Sys2Proof.Machine.execHandshakeOpen src id vmin vmax role s
  | .handshakeProve src id chain sig dev leaf anchor => Sys2Proof.Machine.execHandshakeProve src id chain sig dev leaf anchor s
  | .handshakeAcceptReceived v n chain sig dev leaf => Sys2Proof.Machine.execHandshakeAcceptReceived v n chain sig dev leaf s
  | .handshakeGrantReceived ok anchor => Sys2Proof.Machine.execHandshakeGrantReceived ok anchor s
  | .handshakeTimeout src id => Sys2Proof.Machine.execHandshakeTimeout src id s
  | .sessionIdleTimeout n => Sys2Proof.Machine.execSessionIdleTimeout n s
  | .sessionLifetimeExpiry n => Sys2Proof.Machine.execSessionLifetimeExpiry n s
  | .sessionClose q n => Sys2Proof.Machine.execSessionClose q n s
  | .laserBankStarted t reached bias power lo hi => Sys2Proof.Machine.execLaserBankStarted t reached bias power lo hi s
  | .submountTempAlarm t temp => Sys2Proof.Machine.execSubmountTempAlarm t temp s
  | .beaconHeard c family vari caps => Sys2Proof.Machine.execBeaconHeard c family vari caps s
  | .listenTimeout c => Sys2Proof.Machine.execListenTimeout c s
  | .answerHeard c family vari caps => Sys2Proof.Machine.execAnswerHeard c family vari caps s
  | .beaconTimeout c => Sys2Proof.Machine.execBeaconTimeout c s
  | .backoffExpiry c => Sys2Proof.Machine.execBackoffExpiry c s
  | .answerResolved c => Sys2Proof.Machine.execAnswerResolved c s
  | .answerTimeout c => Sys2Proof.Machine.execAnswerTimeout c s
  | .bandRelease c => Sys2Proof.Machine.execBandRelease c s
  | .bandUnresolved c => Sys2Proof.Machine.execBandUnresolved c s
  | .laserFailure t j spare => Sys2Proof.Machine.execLaserFailure t j spare s
  | .spareLocked t j wlError => Sys2Proof.Machine.execSpareLocked t j wlError s
  | .plannedSwitchIn q t j => Sys2Proof.Machine.execPlannedSwitchIn q t j s
  | .laserForceOff q t j => Sys2Proof.Machine.execLaserForceOff q t j s
  | .laserForceAutomatic t j => Sys2Proof.Machine.execLaserForceAutomatic t j s
  | .rxLosEnter c k p => Sys2Proof.Machine.execRxLosEnter c k p s
  | .rxLosExit c k p => Sys2Proof.Machine.execRxLosExit c k p s
  | .thresholdCrossed c k which p => Sys2Proof.Machine.execThresholdCrossed c k which p s
  | .tapLimit c => Sys2Proof.Machine.execTapLimit c s
  | .clockRecovered c => Sys2Proof.Machine.execClockRecovered c s
  | .trainingFrameReceived c k f => Sys2Proof.Machine.execTrainingFrameReceived c k f s
  | .trainingComplete c => Sys2Proof.Machine.execTrainingComplete c s
  | .alignmentComplete c peerTx peerMax => Sys2Proof.Machine.execAlignmentComplete c peerTx peerMax s
  | .checkComplete c => Sys2Proof.Machine.execCheckComplete c s
  | .bringupStageTimeout c => Sys2Proof.Machine.execBringupStageTimeout c s
  | .bringupAlarm c => Sys2Proof.Machine.execBringupAlarm c s
  | .retrain q sub => Sys2Proof.Machine.execRetrain q sub s
  | .markerPeriod c => Sys2Proof.Machine.execMarkerPeriod c s
  | .markerReceived c k m => Sys2Proof.Machine.execMarkerReceived c k m s
  | .markerLockLost c k => Sys2Proof.Machine.execMarkerLockLost c k s
  | .furlDecision c percent => Sys2Proof.Machine.execFurlDecision c percent s
  | .unfurlRequest c => Sys2Proof.Machine.execUnfurlRequest c s
  | .laneRejoin c k => Sys2Proof.Machine.execLaneRejoin c k s
  | .prbsCheckerLock c k => Sys2Proof.Machine.execPrbsCheckerLock c k s
  | .frameReceived c f x a => Sys2Proof.Machine.execFrameReceived c f x a s
  | .timeSet w d t => Sys2Proof.Machine.execTimeSet w d t s
  | .timeAdj w d a => Sys2Proof.Machine.execTimeAdj w d a s
  | .rateAdjWrite w d r => Sys2Proof.Machine.execRateAdjWrite w d r s
  | .traceableWrite w d b => Sys2Proof.Machine.execTraceableWrite w d b s
  | .capture => Sys2Proof.Machine.execCapture s
  | .outResync q => Sys2Proof.Machine.execOutResync q s
  | .mdllRelock q m => Sys2Proof.Machine.execMdllRelock q m s
  | .mdllLockReached m => Sys2Proof.Machine.execMdllLockReached m s
  | .mdllAcquireTimeout m => Sys2Proof.Machine.execMdllAcquireTimeout m s
  | .mdllHoldComplete m => Sys2Proof.Machine.execMdllHoldComplete m s
  | .mdllLockLost m freqErr => Sys2Proof.Machine.execMdllLockLost m freqErr s
  | .frequencyClamp m => Sys2Proof.Machine.execFrequencyClamp m s
  | .juryFault => Sys2Proof.Machine.execJuryFault s
  | .juryRecovered => Sys2Proof.Machine.execJuryRecovered s
  | .mastFault => Sys2Proof.Machine.execMastFault s
  | .mastRecovered => Sys2Proof.Machine.execMastRecovered s
  | .lockmonAlarm mv => Sys2Proof.Machine.execLockmonAlarm mv s
  | .helperUnlock => Sys2Proof.Machine.execHelperUnlock s
  | .helperResume => Sys2Proof.Machine.execHelperResume s
  | .pulseInputEdge n t => Sys2Proof.Machine.execPulseInputEdge n t s
  | .euArm q u => Sys2Proof.Machine.execEuArm q u s
  | .eventEdge u stop t time => Sys2Proof.Machine.execEventEdge u stop t time s
  | .euTimeoutExpiry u => Sys2Proof.Machine.execEuTimeoutExpiry u s
  | .euWindowEnd u => Sys2Proof.Machine.execEuWindowEnd u s
  | .euResultPop u => Sys2Proof.Machine.execEuResultPop u s
  | .euCalibrate q u => Sys2Proof.Machine.execEuCalibrate q u s
  | .detTraceRequest q d n => Sys2Proof.Machine.execDetTraceRequest q d n s
  | .detTraceComplete => Sys2Proof.Machine.execDetTraceComplete s
  | .selectionEvaluation absent drift => Sys2Proof.Machine.execSelectionEvaluation absent drift s
  | .switchComplete meanOld meanNew => Sys2Proof.Machine.execSwitchComplete meanOld meanNew s
  | .qualifyTimer k time => Sys2Proof.Machine.execQualifyTimer k time s
  | .slotHoldoffExpiry k time => Sys2Proof.Machine.execSlotHoldoffExpiry k time s
  | .waitToRestoreExpiry k time => Sys2Proof.Machine.execWaitToRestoreExpiry k time s
  | .pathLocked n => Sys2Proof.Machine.execPathLocked n s
  | .acquisitionTimeout n => Sys2Proof.Machine.execAcquisitionTimeout n s
  | .pathLockLoss n => Sys2Proof.Machine.execPathLockLoss n s
  | .holdoverBoundUpdate b0 uy ud uk sumT => Sys2Proof.Machine.execHoldoverBoundUpdate b0 uy ud uk sumT s
  | .holdoverReady => Sys2Proof.Machine.execHoldoverReady s
  | .ovenSteer q v => Sys2Proof.Machine.execOvenSteer q v s
  | .steerWatchdog => Sys2Proof.Machine.execSteerWatchdog s
  | .esmcPduReceived c ssm tlv => Sys2Proof.Machine.execEsmcPduReceived c ssm tlv s
  | .esmcQlTimeout c => Sys2Proof.Machine.execEsmcQlTimeout c s
  | .esmcInfoSend => Sys2Proof.Machine.execEsmcInfoSend s
  | .outputConfigEffect n => Sys2Proof.Machine.execOutputConfigEffect n s
  | .todMessage => Sys2Proof.Machine.execTodMessage s
  | .syncSend c inst id t1 taken => Sys2Proof.Machine.execSyncSend c inst id t1 taken s
  | .syncReceived c inst h twoStep ts t2 => Sys2Proof.Machine.execSyncReceived c inst h twoStep ts t2 s
  | .followUpReceived c inst h syncSeq ts => Sys2Proof.Machine.execFollowUpReceived c inst h syncSeq ts s
  | .delayReqSend c inst id t3 taken => Sys2Proof.Machine.execDelayReqSend c inst id t3 taken s
  | .delayReqReceived c inst h t4 => Sys2Proof.Machine.execDelayReqReceived c inst h t4 s
  | .delayRespReceived c inst h reqSeq ts => Sys2Proof.Machine.execDelayRespReceived c inst h reqSeq ts s
  | .pdelayReqReceived c h id t2 t3 taken => Sys2Proof.Machine.execPdelayReqReceived c h id t2 t3 taken s
  | .pdelayRespReceived c h reqSeq twoStep ts t4 => Sys2Proof.Machine.execPdelayRespReceived c h reqSeq twoStep ts t4 s
  | .pdelayRespFollowUpReceived c h reqSeq ts => Sys2Proof.Machine.execPdelayRespFollowUpReceived c h reqSeq ts s
  | .announceSend c inst => Sys2Proof.Machine.execAnnounceSend c inst s
  | .announceReceived c inst h a => Sys2Proof.Machine.execAnnounceReceived c inst h a s
  | .announceTimeout c inst => Sys2Proof.Machine.execAnnounceTimeout c inst s
  | .signalingReceived c h g => Sys2Proof.Machine.execSignalingReceived c h g s
  | .holdExpiry c mine => Sys2Proof.Machine.execHoldExpiry c mine s
  | .skewSend c => Sys2Proof.Machine.execSkewSend c s
  | .l1SyncSend c => Sys2Proof.Machine.execL1SyncSend c s
  | .txqStale t => Sys2Proof.Machine.execTxqStale t s
  | .txStampMissing c inst id => Sys2Proof.Machine.execTxStampMissing c inst id s
  | .txqFlush t => Sys2Proof.Machine.execTxqFlush t s
  | .asymMeasure q c => Sys2Proof.Machine.execAsymMeasure q c s
  | .asymSetDue c => Sys2Proof.Machine.execAsymSetDue c s
  | .calEvaluation pre warm => Sys2Proof.Machine.execCalEvaluation pre warm s
  | .calRunComplete kind inst r => Sys2Proof.Machine.execCalRunComplete kind inst r s
  | .calSlewTick => Sys2Proof.Machine.execCalSlewTick s
  | .calOverdue kind inst => Sys2Proof.Machine.execCalOverdue kind inst s
  | .calRun q kind inst => Sys2Proof.Machine.execCalRun q kind inst s
  | .recordWrite fails => Sys2Proof.Machine.execRecordWrite fails s
  | .rxAdaptTrial c k set up better => Sys2Proof.Machine.execRxAdaptTrial c k set up better s
  | .rxMarginAlarm c k margin => Sys2Proof.Machine.execRxMarginAlarm c k margin s
  | .ageingRefit code inst f => Sys2Proof.Machine.execAgeingRefit code inst f s
  | .laneInferred c k dtx drx => Sys2Proof.Machine.execLaneInferred c k dtx drx s
  | .tableWrite q d => Sys2Proof.Machine.execTableWrite q d s
  | .tableReadReq q d => Sys2Proof.Machine.execTableReadReq q d s
  | .meterReadReq q n => Sys2Proof.Machine.execMeterReadReq q n s
  | .epochDrainComplete => Sys2Proof.Machine.execEpochDrainComplete s
  | .fabricDelivery et room => Sys2Proof.Machine.execFabricDelivery et room s
  | .fabricWaitExpiry it et => Sys2Proof.Machine.execFabricWaitExpiry it et s
  | .onDieResidenceExpiry c q => Sys2Proof.Machine.execOnDieResidenceExpiry c q s
  | .ovfStacksAwake => Sys2Proof.Machine.execOvfStacksAwake s
  | .ovfAgeingTick => Sys2Proof.Machine.execOvfAgeingTick s
  | .ovfReturn c q bad => Sys2Proof.Machine.execOvfReturn c q bad s
  | .ovfIdleClose => Sys2Proof.Machine.execOvfIdleClose s
  | .ovfStackFailure => Sys2Proof.Machine.execOvfStackFailure s
  | .ovfRetestComplete pass => Sys2Proof.Machine.execOvfRetestComplete pass s
  | .ovfRetry q v => Sys2Proof.Machine.execOvfRetry q v s
  | .egressSelect c off stamp => Sys2Proof.Machine.execEgressSelect c off stamp s
  | .shaperRefill => Sys2Proof.Machine.execShaperRefill s
  | .shaperForgive q sub v => Sys2Proof.Machine.execShaperForgive q sub v s
  | .gateEntryChange c => Sys2Proof.Machine.execGateEntryChange c s
  | .gateListStart c => Sys2Proof.Machine.execGateListStart c s
  | .pairingTimeout => Sys2Proof.Machine.execPairingTimeout s
  | .pairingRetry => Sys2Proof.Machine.execPairingRetry s
  | .pairSessionRenew => Sys2Proof.Machine.execPairSessionRenew s
  | .shroudHelloSend => Sys2Proof.Machine.execShroudHelloSend s
  | .shroudHelloReceived j serial addr lnk vmax vmin => Sys2Proof.Machine.execShroudHelloReceived j serial addr lnk vmax vmin s
  | .shroudHeartbeatSend => Sys2Proof.Machine.execShroudHeartbeatSend s
  | .shroudHeartbeatReceived j x h => Sys2Proof.Machine.execShroudHeartbeatReceived j x h s
  | .shroudHeartbeatLost => Sys2Proof.Machine.execShroudHeartbeatLost s
  | .glenoHeartbeatLost => Sys2Proof.Machine.execGlenoHeartbeatLost s
  | .arbitrationAnswer grant epoch => Sys2Proof.Machine.execArbitrationAnswer grant epoch s
  | .arbitrationRetry => Sys2Proof.Machine.execArbitrationRetry s
  | .arbTimeoutExpiry => Sys2Proof.Machine.execArbTimeoutExpiry s
  | .silenceHoldoffExpiry => Sys2Proof.Machine.execSilenceHoldoffExpiry s
  | .shroudTimeSyncSend t1 => Sys2Proof.Machine.execShroudTimeSyncSend t1 s
  | .shroudSyncReceived j x ex flags t1 dba t2 t3 => Sys2Proof.Machine.execShroudSyncReceived j x ex flags t1 dba t2 t3 s
  | .shroudRequestReceived j x ex t4 => Sys2Proof.Machine.execShroudRequestReceived j x ex t4 s
  | .shroudAnswerReceived j x ex flags same t4 => Sys2Proof.Machine.execShroudAnswerReceived j x ex flags same t4 s
  | .checkpointSend => Sys2Proof.Machine.execCheckpointSend s
  | .checkpointReceived x b => Sys2Proof.Machine.execCheckpointReceived x b s
  | .replicaReceived j body a => Sys2Proof.Machine.execReplicaReceived j body a s
  | .streamResetTimeout n => Sys2Proof.Machine.execStreamResetTimeout n s
  | .roleSwap q v => Sys2Proof.Machine.execRoleSwap q v s
  | .handoverNoticeReceived x n => Sys2Proof.Machine.execHandoverNoticeReceived x n s
  | .handoverConfirmed x => Sys2Proof.Machine.execHandoverConfirmed x s
  | .handoverConfirmTimeout => Sys2Proof.Machine.execHandoverConfirmTimeout s
  | .handoverSecondN => Sys2Proof.Machine.execHandoverSecondN s
  | .pairResync q v => Sys2Proof.Machine.execPairResync q v s
  | .resyncImageReceived x vals t8 t9 t12 number => Sys2Proof.Machine.execResyncImageReceived x vals t8 t9 t12 number s
  | .witnessRegister q v => Sys2Proof.Machine.execWitnessRegister q v s
  | .streamReadReq q n => Sys2Proof.Machine.execStreamReadReq q n s
  | .tamperEvent k => Sys2Proof.Machine.execTamperEvent k s
  | .tamperAck q v => Sys2Proof.Machine.execTamperAck q v s
  | .zeroiseOperatorSecrets q => Sys2Proof.Machine.execZeroiseOperatorSecrets q s
  | .zeroiseAll q => Sys2Proof.Machine.execZeroiseAll q s
  | .ldevidGenerate q v => Sys2Proof.Machine.execLdevidGenerate q v s
  | .ldevidGenerated => Sys2Proof.Machine.execLdevidGenerated s
  | .attestRequest q v => Sys2Proof.Machine.execAttestRequest q v s
  | .attestReportReady n => Sys2Proof.Machine.execAttestReportReady n s
  | .serviceOpen q m => Sys2Proof.Machine.execServiceOpen q m s
  | .serviceExpiry => Sys2Proof.Machine.execServiceExpiry s
  | .counterIncrement q n => Sys2Proof.Machine.execCounterIncrement q n s
  | .entropyFault => Sys2Proof.Machine.execEntropyFault s
  | .entropyRetest pass => Sys2Proof.Machine.execEntropyRetest pass s
  | .islandClockSet => Sys2Proof.Machine.execIslandClockSet s
  | .mkaPduReceived c m => Sys2Proof.Machine.execMkaPduReceived c m s
  | .mkaHelloSend => Sys2Proof.Machine.execMkaHelloSend s
  | .mkaPeerTimeout c => Sys2Proof.Machine.execMkaPeerTimeout c s
  | .macsecCakWrite q sub v => Sys2Proof.Machine.execMacsecCakWrite q sub v s
  | .macsecRekey q sub v => Sys2Proof.Machine.execMacsecRekey q sub v s
  | .halyardKeyWrite q sub v => Sys2Proof.Machine.execHalyardKeyWrite q sub v s
  | .halyardKeyRollover => Sys2Proof.Machine.execHalyardKeyRollover s
  | .updateDownloadInitiate q len => Sys2Proof.Machine.execUpdateDownloadInitiate q len s
  | .imageVerified v => Sys2Proof.Machine.execImageVerified v s
  | .updateArm q => Sys2Proof.Machine.execUpdateArm q s
  | .updateArmRestart q => Sys2Proof.Machine.execUpdateArmRestart q s
  | .updateDisarm q => Sys2Proof.Machine.execUpdateDisarm q s
  | .updateConfirmAccept q => Sys2Proof.Machine.execUpdateConfirmAccept q s
  | .updateReject q => Sys2Proof.Machine.execUpdateReject q s
  | .updateDiscard q v => Sys2Proof.Machine.execUpdateDiscard q v s
  | .flashCopyBlock => Sys2Proof.Machine.execFlashCopyBlock s
  | .reserveRefreshBlock => Sys2Proof.Machine.execReserveRefreshBlock s
  | .autoConfirmExpiry => Sys2Proof.Machine.execAutoConfirmExpiry s
  | .bootRomRetry vA vR vS => Sys2Proof.Machine.execBootRomRetry vA vR vS s
  | .ctrSnapRequest q f n flags => Sys2Proof.Machine.execCtrSnapRequest q f n flags s
  | .counterSweepStart k => Sys2Proof.Machine.execCounterSweepStart k s
  | .counterSweepComplete => Sys2Proof.Machine.execCounterSweepComplete s
  | .ctrSnapRelease q k => Sys2Proof.Machine.execCtrSnapRelease q k s
  | .statusSnapRequest q v => Sys2Proof.Machine.execStatusSnapRequest q v s
  | .alarmAck q code => Sys2Proof.Machine.execAlarmAck q code s
  | .alarmHoldExpiry a inst => Sys2Proof.Machine.execAlarmHoldExpiry a inst s
  | .eventLogFlush => Sys2Proof.Machine.execEventLogFlush s
  | .sampleStart q => Sys2Proof.Machine.execSampleStart q s
  | .sampleStop q => Sys2Proof.Machine.execSampleStop q s
  | .sampleDurationExpiry => Sys2Proof.Machine.execSampleDurationExpiry s
  | .instructionSample e flags pc data latency stall interval => Sys2Proof.Machine.execInstructionSample e flags pc data latency stall interval s
  | .progSelect q sub v => Sys2Proof.Machine.execProgSelect q sub v s
  | .inputBeatEdge d m inRange => Sys2Proof.Machine.execInputBeatEdge d m inRange s
  | .mastBeatEdge => Sys2Proof.Machine.execMastBeatEdge s
  | .outputPulseEdge n sensed => Sys2Proof.Machine.execOutputPulseEdge n sensed s
  | .slewingEnd => Sys2Proof.Machine.execSlewingEnd s
  | .sparClockStop e => Sys2Proof.Machine.execSparClockStop e s

end Sys2Proof.Machine
end

