-- ==== Sys2Proof/Safety.lean ====
section
/-!
DEFINITION. The words of the statements: what it means that a command yields a state, that parts of the state are
left alone, that a request is answered; and what a safe run is.
-/
namespace Sys2Proof.Machine

/-- Command `c` completes in state `s`: `exec` answers a next state, and that state has the property. -/
def Yields (c : Instr) (s : State) (P : State → Prop) : Prop := ∃ t, exec c s = .next t ∧ P t

/-- The parts of the state, one for each field of `State`. -/
inductive Part where
  | factory | pins | life | power | regs | dict | commits | snaps | gleno | obs | optics | tb | vern | refs
  | ptp | cal | fwd | sw | egr | pair | trust | upd | wire | now | started | draws | pending
deriving DecidableEq, Repr

/-- A part is the same in two states. -/
def Part.same (s t : State) : Part → Prop
  | .factory => t.factory = s.factory
  | .pins => t.pins = s.pins
  | .life => t.life = s.life
  | .power => t.power = s.power
  | .regs => t.regs = s.regs
  | .dict => t.dict = s.dict
  | .commits => t.commits = s.commits
  | .snaps => t.snaps = s.snaps
  | .gleno => t.gleno = s.gleno
  | .obs => t.obs = s.obs
  | .optics => t.optics = s.optics
  | .tb => t.tb = s.tb
  | .vern => t.vern = s.vern
  | .refs => t.refs = s.refs
  | .ptp => t.ptp = s.ptp
  | .cal => t.cal = s.cal
  | .fwd => t.fwd = s.fwd
  | .sw => t.sw = s.sw
  | .egr => t.egr = s.egr
  | .pair => t.pair = s.pair
  | .trust => t.trust = s.trust
  | .upd => t.upd = s.upd
  | .wire => t.wire = s.wire
  | .now => t.now = s.now
  | .started => t.started = s.started
  | .draws => t.draws = s.draws
  | .pending => t.pending = s.pending

/-- Every part but the listed ones is the same in two states: the frame of a command. -/
def OnlyIn (ps : List Part) (s t : State) : Prop := ∀ p : Part, p ∉ ps → p.same s t

/-- The answer to a request joins those that wait for the module's slot, behind the ones that wait already (R198). -/
def Answered (q : Req) (st : Status) (d : List Byte) (s t : State) : Prop :=
  t.gleno.answers = s.gleno.answers ++ [⟨q.sess, q.id, st, d⟩]

/-- Something left the module, behind what had left it before. -/
def Emitted (l : List Emit) (s t : State) : Prop := t.wire = s.wire ++ l

/-- An alarm came to stand, or stood already, for an instance (R603). -/
def Stands (a : Alarm) (inst : Nat) (t : State) : Prop := standing a inst t = true

/-- What the three measurements of a ledger evaluation leave in the power part (R58, R61). -/
def measured (mv cur low : BitVec 16) (s : State) : State :=
  { s with power := { s.power with busMv := mv.toNat, inlet10mA := cur.toNat, ledgerMv := low.toNat } }

/-- A sealed frame or pair record passes: a mate is paired, the tag verifies, the SEQ is accepted (R207, R515). -/
def Verifies (x : Seal) (s : State) : Prop :=
  paired s = true ∧ x.ok = true ∧ (seqAccept x.seq s.pair.rxHigh s.pair.rxMask).isSome = true

/-- The completion of a request that was answered 0x0402 joins those that wait, behind the ones that wait already (R198). -/
def Completed (q : Req) (st : Status) (s t : State) : Prop :=
  t.gleno.completions = s.gleno.completions ++ [⟨q.sess, q.id, st, []⟩]

/-- A run is safe where no step of it ends in a fault or a refusal. -/
def SafeFrom (s : State) : Prop := ∀ n, ∃ t, Host.Core.run ⟨State, Fault, Refusal, step, State.reset⟩ n s = .next t

end Sys2Proof.Machine
end

