-- ==== Sys2Proof/Certificates/Slice0/Obligations.lean ====
section
/-!
DEFINITION. The statements for the provers. Each is over every state; a clause `Yields c s P` says that the command
completes, and what its next state holds; `OnlyIn ps` is its frame. The rules named in a docstring are those its
clauses follow.
-/
open Sys2Proof Sys2Proof.Machine

/-! ## The block as a whole -/

/-- A step runs the command at the front of the queue: `exec` of it, on the state whose queue is the rest. -/
def Obligations.StepRunsFrontCommand : Prop :=
  ∀ (c : Instr) (l : List Instr) (s : State), s.pending = c :: l → step s = exec c { s with pending := l }

/-- With an empty queue a step is one edge of the mast clock and nothing else (assumption 1): the model's clock moves by one period, a running time
base advances both domains and the presented time, and a counter sweep in progress copies its next cell; a stopped time base stands. -/
def Obligations.IdleStepIsOneMastEdge : Prop :=
  (∀ s : State, s.pending = [] → ∃ t, step s = .next t ∧ t.now = s.now + 1 ∧ OnlyIn [.now, .tb, .obs] s t) ∧
  (∀ s : State, s.pending = [] → s.tb.running = false → s.obs.sweepBusy = none → step s = .next { s with now := s.now + 1 }) ∧
  (∀ s : State, s.pending = [] → s.tb.running = true → s.tb.mastOk = true → ∃ t, step s = .next t ∧
    t.tb.a.counter = s.tb.a.counter.tick s.tb.a.rate ∧ t.tb.b.counter = s.tb.b.counter.tick s.tb.b.rate) ∧
  (∀ s : State, s.pending = [] → s.tb.running = true → s.tb.mastOk = false → ∃ t, step s = .next t ∧
    t.tb.a.counter = s.tb.a.counter.tick 0 ∧ t.tb.b.counter = s.tb.b.counter.tick 0)

/-- Every command completes in every state, and none of them touches the commands that wait behind it. No run of any length from any state ends in a
fault or a refusal. -/
def Obligations.EveryCommandCompletes : Prop :=
  (∀ (c : Instr) (s : State), Yields c s fun t => t.pending = s.pending) ∧
  (∀ s : State, SafeFrom s)

/-- The state before power: UNPOWERED, nothing waiting, nothing emitted, no ledger entry, no session, no alarm, no event, no commit waiting, every
object at its default, both domains at TIME 0 and at rest, the optical and the coding part of every channel at its reset row; the island unclaimed
with its IDevID and its counters at 0, the boot image the factory image (assumptions 6 and 7 name the values the spec does not give). -/
def Obligations.ResetState : Prop :=
  State.reset.life.state = .unpowered ∧ State.reset.pending = [] ∧ State.reset.wire = [] ∧ State.reset.power.entries = [] ∧
  State.reset.gleno.state = .off ∧ State.reset.gleno.sessions = [] ∧ State.reset.obs.alarms = [] ∧ State.reset.obs.events = [] ∧
  State.reset.commits.scheduled = [] ∧ State.reset.snaps = [] ∧ State.reset.pins.outHeld = true ∧ State.reset.tb.running = false ∧
  (∀ i sub : Nat, cfgBytes i sub State.reset = defaultOf i sub State.reset) ∧
  (∀ i sub : Nat, countOf i sub State.reset = 0) ∧ (∀ base : Nat, blockOf base State.reset = Block.reset) ∧
  (∀ c : Nat, opt c State.reset = Optic.reset ∧ cod c State.reset = Coding.reset) ∧
  State.reset.trust.state = 0 ∧ State.reset.trust.idevid = true ∧ State.reset.trust.lock = false ∧
  (∀ i : Nat, State.reset.trust.counters.getD i 0 = 0) ∧ State.reset.upd.active = State.reset.upd.reserve

/-- The factory data never change, whatever the step (R4, R140, R547). -/
def Obligations.FactoryDataNeverChange : Prop :=
  ∀ s t : State, step s = .next t → t.factory = s.factory

/-- The island's monotonic counters never fall, in any step from any state, through zeroisation and through every start (R540). -/
def Obligations.IslandCountersNeverFall : Prop :=
  ∀ s t : State, step s = .next t → ∀ i : Nat, (s.trust.counters.getD i 0).toNat ≤ (t.trust.counters.getD i 0).toNat

/-- A retired module stays retired and an erased IDevID key stays erased, in every step (R545). -/
def Obligations.RetirementIsFinal : Prop :=
  ∀ s t : State, step s = .next t →
    (s.trust.state = 3 → t.trust.state = 3) ∧ (s.trust.idevid = false → t.trust.idevid = false)

/-- A tamper lock stands through every command but a write of TAMPER_ACK, so through every start; and whatever clears it clears the pending classes
with it (R543). -/
def Obligations.TamperLockStands : Prop :=
  (∀ (c : Instr) (s t : State), (∀ q v, c ≠ .tamperAck q v) → (∀ q sub v, c ≠ .objectWrite q 0x6013 sub v) → s.trust.lock = true →
    exec c s = .next t → t.trust.lock = true) ∧
  (∀ s t : State, step s = .next t → s.trust.lock = true → t.trust.lock = true ∨ t.trust.classes = 0)

/-- R142: a request to an index that the module does not implement is answered 0x0101, one to a subindex that the object's form does not provide is
answered 0x0102, and neither does anything but answer: reads, writes, staged writes and both initiate requests. -/
def Obligations.UnknownIndicesAndSubindices : Prop :=
  (∀ (q : Req) (i : BitVec 16) (sub : BitVec 8) (v : List Byte) (n : BitVec 32) (s : State), admits q .observer s = true → objRow i.toNat = none →
    ∀ c ∈ [Instr.objectRead q i sub, .objectWrite q i sub v, .rwsStage q i sub v, .initiateReadTransfer q i sub, .initiateWriteTransfer q i sub n],
      exec c s = .next (answer q 0x0101 [] s)) ∧
  (∀ (q : Req) (i : BitVec 16) (sub : BitVec 8) (v : List Byte) (n : BitVec 32) (r : ObjRow) (s : State), admits q .observer s = true →
    objRow i.toNat = some r → hasSub r sub.toNat = false →
    ∀ c ∈ [Instr.objectRead q i sub, .objectWrite q i sub v, .rwsStage q i sub v, .initiateReadTransfer q i sub, .initiateWriteTransfer q i sub n],
      exec c s = .next (answer q 0x0102 [] s))

/-- R145: a write whose value has not the length of its type is answered 0x0302, for STR(n) one of no byte or of more than n; a value of the right
length outside the object's stated range is answered 0x0301; neither does anything but answer. The request has passed the checks that R150 puts
before: the index, the subindex, the access and the role. -/
def Obligations.WriteLengthAndRange : Prop :=
  (∀ (q : Req) (i : BitVec 16) (sub : BitVec 8) (v : List Byte) (r : ObjRow) (e : Session) (s : State), admits q .observer s = true →
    session q.sess s = some e → objRow i.toNat = some r → hasSub r sub.toNat = true → r.acc.writes = true → r.first ≤ sub.toNat →
    roleMeets e.role r.wrole = true → r.ty ≠ .domain → (∀ n : Nat, r.ty ≠ .str n) → v.length ≠ r.ty.len →
    exec (.objectWrite q i sub v) s = .next (answer q 0x0302 [] s) ∧ exec (.rwsStage q i sub v) s = .next (answer q 0x0302 [] s)) ∧
  (∀ (q : Req) (i : BitVec 16) (sub : BitVec 8) (v : List Byte) (n : Nat) (r : ObjRow) (e : Session) (s : State), admits q .observer s = true →
    session q.sess s = some e → objRow i.toNat = some r → hasSub r sub.toNat = true → r.acc.writes = true → r.first ≤ sub.toNat →
    roleMeets e.role r.wrole = true → r.ty = .str n → (v.length = 0 ∨ n < v.length) →
    exec (.objectWrite q i sub v) s = .next (answer q 0x0302 [] s) ∧ exec (.rwsStage q i sub v) s = .next (answer q 0x0302 [] s)) ∧
  (∀ (q : Req) (i : BitVec 16) (sub : BitVec 8) (v : List Byte) (r : ObjRow) (e : Session) (s : State), admits q .observer s = true →
    session q.sess s = some e → objRow i.toNat = some r → hasSub r sub.toNat = true → r.acc.writes = true → r.first ≤ sub.toNat →
    roleMeets e.role r.wrole = true → r.ty ≠ .domain → lenOk r v = true → (rangeOk r v = false ∨ specialOk i.toNat sub.toNat v = false) →
    exec (.objectWrite q i sub v) s = .next (answer q 0x0301 [] s) ∧ exec (.rwsStage q i sub v) s = .next (answer q 0x0301 [] s))

/-- R158: a read of a group or of all channels, of an object that is not RC, gives the value of the lowest-numbered member, with 0x0000 where every
member holds the same and 0x0807 where one differs; a group with no members gives 0x0803 and no value. An object of type DOMAIN is read by its
initiate request: the answer carries the same status, with the length and the CRC-32 of the same value, and the transfer holds that value. -/
def Obligations.GroupReads : Prop :=
  (∀ (q : Req) (i : BitVec 16) (sub : BitVec 8) (r : ObjRow) (e : Session) (c : Nat) (l : List Nat) (s : State), admits q .observer s = true →
    session q.sess s = some e → objRow i.toNat = some r → hasSub r sub.toNat = true → r.acc.reads = true → r.acc ≠ .rc →
    domainSub i.toNat sub.toNat = false → groupSub r sub.toNat = true → members sub.toNat s = c :: l →
    Yields (.objectRead q i sub) s fun t => (∀ m ∈ l, c < m) ∧
      ((∀ m ∈ l, objVal e r (m + 1) s = objVal e r (c + 1) s) → t = answer q 0 (objVal e r (c + 1) s) s) ∧
      ((∃ m ∈ l, objVal e r (m + 1) s ≠ objVal e r (c + 1) s) → t = answer q 0x0807 (objVal e r (c + 1) s) s)) ∧
  (∀ (q : Req) (i : BitVec 16) (sub : BitVec 8) (r : ObjRow) (s : State), admits q .observer s = true →
    objRow i.toNat = some r → hasSub r sub.toNat = true → r.acc.reads = true →
    domainSub i.toNat sub.toNat = false → groupSub r sub.toNat = true → members sub.toNat s = [] →
    Yields (.objectRead q i sub) s fun t => t = answer q 0x0803 [] s) ∧
  (∀ (q : Req) (i : BitVec 16) (sub : BitVec 8) (r : ObjRow) (e : Session) (c : Nat) (l : List Nat) (s : State), admits q .observer s = true →
    session q.sess s = some e → e.transfer = none → objRow i.toNat = some r → hasSub r sub.toNat = true → r.acc.reads = true →
    domainSub i.toNat sub.toNat = true → groupSub r sub.toNat = true → members sub.toNat s = c :: l → objVal e r (c + 1) s ≠ [] →
    Yields (.initiateReadTransfer q i sub) s fun t =>
      (session q.sess t).map (fun e => e.transfer) =
        some (some ⟨key i.toNat sub.toNat, false, (objVal e r (c + 1) s).length, objVal e r (c + 1) s, 0⟩) ∧
      ((∀ m ∈ l, objVal e r (m + 1) s = objVal e r (c + 1) s) →
        Answered q 0 (leBytes 4 (objVal e r (c + 1) s).length ++ leBytes 4 (crc32 (objVal e r (c + 1) s)).toNat) s t) ∧
      ((∃ m ∈ l, objVal e r (m + 1) s ≠ objVal e r (c + 1) s) →
        Answered q 0x0807 (leBytes 4 (objVal e r (c + 1) s).length ++ leBytes 4 (crc32 (objVal e r (c + 1) s)).toNat) s t) ∧
      OnlyIn [.gleno] s t) ∧
  (∀ (q : Req) (i : BitVec 16) (sub : BitVec 8) (r : ObjRow) (e : Session) (s : State), admits q .observer s = true →
    session q.sess s = some e → e.transfer = none → objRow i.toNat = some r → hasSub r sub.toNat = true → r.acc.reads = true →
    domainSub i.toNat sub.toNat = true → groupSub r sub.toNat = true → members sub.toNat s = [] →
    Yields (.initiateReadTransfer q i sub) s fun t => t = answer q 0x0803 [] s)

/-! ## Contacts, inlet, resets and the start (01, 03) -/

/-- INLET_APPLIED, START_PERMITTED, INLET_REMOVED (R40, R58, R64, R83, R86, R93): an applied inlet books the base and the warming oven and a reversed
one does nothing; a permitted start leaves UNPOWERED with cause 1, for STARTING or, while RESET_N is low, for RESET; a removed inlet leaves UNPOWERED
with an empty ledger, and the factory data, the island's monotonic counters and the emissions made as they were. RESET_N_ASSERTED, RESET_N_RELEASE,
RESET_END (R40, R86, R92): a pulse of RESET_N takes the module to RESET with cause 3 and its rise begins the start with that cause; where a rejected
pulse of 1 µs to 10 µs never reset the module, it is logged once and nothing else changes; a RESET of the supply or of an over-voltage ends when its
cause is removed. -/
def Obligations.InletAndReset : Prop :=
  (∀ (mv : BitVec 16) (s : State), s.life.state = .unpowered →
    Yields (.inletApplied mv false) s fun t =>
      unitsOf cBase 0 t = 60 ∧ unitsOf cOven 0 t = 30 ∧ t.power.busMv = mv.toNat ∧ t.power.ledgerMv = mv.toNat ∧
      t.life = { s.life with oven := .warming } ∧ t.started = s.now ∧ OnlyIn [.life, .power, .started] s t) ∧
  (∀ (mv : BitVec 16) (s : State), Yields (.inletApplied mv true) s fun t => t = s) ∧
  (∀ (mv : BitVec 16) (s : State), s.life.state = .unpowered → unitsOf cBase 0 s ≠ 0 → 40000 ≤ mv.toNat →
    s.pins.resetN = true →
    Yields (.startPermitted mv) s fun t =>
      t.life.state = .starting ∧ t.life.resetCause = 1 ∧ t.power.busMv = mv.toNat ∧
      countOf 0x140A 2 t = countOf 0x140A 2 s + 1 ∧ OnlyIn [.pins, .life, .power, .regs, .obs, .trust] s t) ∧
  (∀ (mv : BitVec 16) (s : State), s.life.state = .unpowered → unitsOf cBase 0 s ≠ 0 → 40000 ≤ mv.toNat →
    s.pins.resetN = false →
    Yields (.startPermitted mv) s fun t =>
      t.life.state = .reset ∧ t.life.hold = .powerOn ∧ t.life.pendingCause = 1 ∧ t.pins.almMaj = false ∧
      OnlyIn [.pins, .life, .power] s t) ∧
  (∀ s : State, s.life.state ≠ .unpowered →
    Yields .inletRemoved s fun t =>
      t.life.state = .unpowered ∧ t.power.entries = [] ∧ t.power.busMv = 0 ∧ t.life.oven = .cold ∧
      t.factory = s.factory ∧ t.trust.counters = s.trust.counters ∧ t.wire = s.wire ∧ t.now = s.now) ∧
  (∀ s : State, canReset s = true →
    Yields .resetNAsserted s fun t =>
      t.life.state = .reset ∧ t.life.hold = .none ∧ t.life.pendingCause = 3 ∧ t.pins.resetN = false ∧
      t.pins.outHeld = true ∧ t.factory = s.factory ∧ t.trust.counters = s.trust.counters) ∧
  (∀ s : State, canReset s = false →
    Yields .resetNAsserted s fun t => t = { s with pins := { s.pins with resetN := false } }) ∧
  (∀ (ns : Nat) (s : State), s.pins.resetN = false → s.life.state = .reset → s.life.hold = .none →
    Yields (.resetNRelease ns) s fun t =>
      t.life.state = .starting ∧ t.life.resetCause = s.life.pendingCause ∧ t.pins.resetN = true ∧ t.started = s.now ∧
      OnlyIn [.pins, .life, .regs, .obs, .trust, .started] s t) ∧
  (∀ (ns : Nat) (s : State), s.pins.resetN = true → 1000 ≤ ns → ns < 10000 → s.life.state = .running →
    Yields (.resetNRelease ns) s fun t =>
      t.obs.nextSeq = s.obs.nextSeq + 1 ∧ t.life = s.life ∧ OnlyIn [.regs, .obs] s t) ∧
  (∀ (mv : BitVec 16) (s : State), s.life.state = .reset → s.pins.resetN = true →
    (s.life.hold = .supply ∧ 40000 ≤ mv.toNat) ∨ (s.life.hold = .overVoltage ∧ mv.toNat < 60000) →
    Yields (.resetEnd mv) s fun t =>
      t.life.state = .starting ∧ t.life.resetCause = s.life.pendingCause ∧ t.power.busMv = mv.toNat ∧
      OnlyIn [.pins, .life, .power, .regs, .obs, .trust, .started] s t) ∧
  (∀ (mv : BitVec 16) (s : State), s.life.state = .reset → s.life.hold = .supply → mv.toNat < 40000 →
    Yields (.resetEnd mv) s fun t => t = s)

/-- SUPPLY_RESET, OVER_VOLTAGE_ALARM, OVER_VOLTAGE_STOP (R58, R86, R92): below 33.0 V the module is in RESET with cause 2 and its regulators off;
above 60.0 V an alarm stands and nothing stops; at 64.0 V the module is in RESET with cause 4. ADDRESS_LATCHED, STRAP_FAULT, STRAP_CHANGE (R35, R36,
R37, R201): a stable address of 2 or more is latched; address 0 or 1, or samples that never agree, end the start in STRAP FAULT with Gleno silent and
the outputs held; a later change of the straps raises an alarm and leaves the latched address. -/
def Obligations.SupplyAndStraps : Prop :=
  (∀ (lowest below : BitVec 16) (s : State), s.life.state ≠ .unpowered →
    Yields (.supplyReset lowest below) s fun t =>
      t.life.state = .reset ∧ t.life.hold = .supply ∧ t.life.pendingCause = 2 ∧ t.life.regulators = false ∧
      t.pins.almMaj = false ∧ t.pins.almMin = false ∧ t.factory = s.factory) ∧
  (∀ (mv : BitVec 16) (s : State), s.life.state ≠ .unpowered → 60000 < mv.toNat →
    Yields (.overVoltageAlarm mv) s fun t =>
      Stands .overVoltage noInst t ∧ t.power = { s.power with busMv := mv.toNat } ∧ t.life = s.life ∧
      OnlyIn [.pins, .power, .regs, .obs, .upd] s t) ∧
  (∀ (mv : BitVec 16) (s : State), canReset s = true → 64000 ≤ mv.toNat →
    Yields (.overVoltageStop mv) s fun t =>
      t.life.state = .reset ∧ t.life.hold = .overVoltage ∧ t.life.pendingCause = 4 ∧ t.pins.outHeld = true ∧
      t.factory = s.factory) ∧
  (∀ s : State, s.life.state = .starting → s.life.regulators = true → s.life.latched = false → 2 ≤ s.pins.straps.toNat →
    Yields .addressLatched s fun t => t = { s with life := { s.life with address := s.pins.straps, latched := true } }) ∧
  (∀ s : State, s.life.state = .starting → s.life.regulators = true → s.life.latched = false → s.pins.straps.toNat < 2 →
    Yields .addressLatched s fun t =>
      t.life.state = .strapFault ∧ t.life.latched = false ∧ t.gleno.state = .silent ∧ Stands .strapFault noInst t) ∧
  (∀ s : State, s.life.state = .starting → s.life.regulators = true → s.life.latched = false →
    Yields .strapFault s fun t =>
      t.life.state = .strapFault ∧ t.gleno.state = .silent ∧ t.pins.outHeld = true ∧ t.pins.almMaj = false ∧
      Stands .strapFault noInst t ∧ OnlyIn [.pins, .life, .regs, .gleno, .obs, .upd] s t) ∧
  (∀ (x : BitVec 5) (s : State), s.life.latched = true → x ≠ s.pins.straps →
    Yields (.strapChange x) s fun t =>
      t.pins.straps = x ∧ t.life.address = s.life.address ∧ Stands .strapChange noInst t ∧
      OnlyIn [.pins, .regs, .obs, .upd] s t)

/-- REGULATORS_VALID, NYMYX_STARTED, START_DEADLINE_MISSED, OVEN_WARM, STAGE_7_REACHED (R87, R88, R90, R91, R107): the time base runs from stage 1
with both domains at the same seconds; Nymyx runs from stage 3; a stage that is late raises its alarm; the warm oven takes its steady entry of 6
units; stage 7 enters RUNNING. -/
def Obligations.ColdStartStages : Prop :=
  (∀ (pass : BitVec 16) (vA vR vS : Fin 9) (s : State), s.life.state = .starting → s.tb.running = false →
    Yields (.regulatorsValid pass vA vR vS false) s fun t =>
      t.tb.running = true ∧ t.tb.mastOk = true ∧ t.life.regulators = true ∧ 1 ≤ t.life.stage ∧
      t.tb.a.counter = t.tb.b.counter ∧ t.tb.a.traceable = false ∧ (mdll 24 t).st = .acquiring ∧ (mdll 25 t).st = .acquiring ∧
      OnlyIn [.life, .gleno, .tb, .trust, .upd] s t) ∧
  (∀ (lost : List Nat) (s : State), s.life.state = .starting → s.life.nymyx = false → s.tb.running = true →
    s.upd.runs.isSome = true → s.trust.state ≠ 3 →
    Yields (.nymyxStarted lost) s fun t => t.life.nymyx = true ∧ 3 ≤ t.life.stage ∧ t.life.state = .starting) ∧
  (∀ (n : Fin 8) (s : State), s.life.state = .starting → s.life.stage < n.val →
    Yields (.startDeadlineMissed n) s fun t =>
      Stands .startDeadline n.val t ∧ t.life = s.life ∧ OnlyIn [.pins, .regs, .obs, .upd] s t) ∧
  (∀ s : State, s.life.oven = .warming →
    Yields .ovenWarm s fun t =>
      t.life = { s.life with oven := .steady } ∧ unitsOf cOven 0 t = 6 ∧ OnlyIn [.life, .power] s t) ∧
  (∀ s : State, s.life.state = .starting → s.life.oven = .steady → s.tb.running = true →
    Yields .stage7Reached s fun t =>
      t.life.state = .running ∧ 7 ≤ t.life.stage ∧ OnlyIn [.life] s t)

/-- LASER_EN_FALL, LASER_EN_QUALIFIED, LASER_RELEASE, STAGING_INSTANT (R38, R39, R89): a fall takes every laser dark, ends the staging and the
qualification; 10 ms of high qualify it again in any state but UNPOWERED; LASER_RELEASE is kept in start mode 1 alone; at the staging instant the bank
of engine 0 is requested. -/
def Obligations.LaserEnableAndStaging : Prop :=
  (∀ s : State, Yields .laserEnFall s fun t =>
    t.pins.laserEn = false ∧ t.life.laserQual = false ∧ t.life.staging = false ∧ t.life.nextEngine = 0 ∧
    t.life.state = s.life.state ∧ t.factory = s.factory ∧ t.trust = s.trust ∧ t.dict = s.dict) ∧
  (∀ s : State, s.life.state ≠ .unpowered →
    Yields .laserEnQualified s fun t =>
      t = { s with pins := { s.pins with laserEn := true }, life := { s.life with laserQual := true } }) ∧
  (∀ (q : Req) (s : State), admits q .operator s = true → s.life.mode = 1 →
    Yields (.laserRelease q true) s fun t => t.life = { s.life with released := true } ∧ Answered q 0 [] s t) ∧
  (∀ (q : Req) (v : Bool) (s : State), admits q .operator s = true → s.life.mode ≠ 1 →
    Yields (.laserRelease q v) s fun t => t.life = s.life ∧ Answered q 0 [] s t) ∧
  (∀ s : State, s.life.state = .running → s.life.nymyx = true → roleRuns .reef s = true → s.life.laserQual = true →
    s.life.mode = 0 → s.life.staging = false →
    Yields .stagingInstant s fun t =>
      t.life.staging = true ∧ t.life.nextEngine = 1 ∧ (eng 0 t).bank = .waiting ∧
      (t.power.waiting.drop s.power.waiting.length).map (fun w => w.what) = [Ask.laserBank 0] ∧
      OnlyIn [.life, .power, .optics] s t)

/-- REVERSED_FLOW, CELL_TEST, DIE_WARNING, DIE_WARNING_END (R49, R70, R75, R84): the alarms stand, a cell below 2,700 mV is low, and the derating of
the die warning holds from its alarm to its end. THERMAL_STOP, THERMAL_RECOVERY (R86, R88, R92, R105): a thermal stop ends staging, discards every
queued frame and holds the outputs; recovery starts again with cause 6 at the Spar stage, and the third stop within 24 h ends in STOPPED. -/
def Obligations.TemperatureAndThermalStop : Prop :=
  (∀ s : State, s.life.state = .running →
    Yields .reversedFlow s fun t => Stands .reversedFlow noInst t ∧ OnlyIn [.pins, .regs, .obs, .upd] s t) ∧
  (∀ (mv : BitVec 16) (s : State), s.life.state ≠ .unpowered → mv.toNat < 2700 →
    Yields (.cellTest mv) s fun t =>
      t.power.cellMv = mv.toNat ∧ t.power.cellStatus = 1 ∧ Stands .cellLow noInst t ∧
      OnlyIn [.pins, .power, .regs, .obs, .upd] s t) ∧
  (∀ (mv : BitVec 16) (s : State), s.life.state ≠ .unpowered → 2700 ≤ mv.toNat → s.power.cellStatus = 1 →
    Yields (.cellTest mv) s fun t =>
      t.power.cellStatus = 0 ∧ ¬ Stands .cellLow noInst t ∧ OnlyIn [.pins, .power, .regs, .obs] s t) ∧
  (∀ (die : BitVec 8) (s : State), reefRuns s = false →
    Yields (.dieWarning die) s fun t =>
      t.power = { s.power with derate := true } ∧ Stands .dieWarning die.toNat t ∧
      OnlyIn [.pins, .power, .regs, .obs, .upd] s t) ∧
  (∀ (die : BitVec 8) (s : State), reefRuns s = true → s.power.level < 3 →
    Yields (.dieWarning die) s fun t => t.power.derate = true ∧ 2 ≤ t.power.level) ∧
  (∀ s : State, Yields .dieWarningEnd s fun t =>
    t.power = { s.power with derate := false } ∧ (∀ n, ¬ Stands .dieWarning n t) ∧ OnlyIn [.pins, .power, .regs, .obs] s t) ∧
  (∀ s : State, s.life.state = .running →
    Yields .thermalStop s fun t =>
      t.life.state = .thermalStop ∧ t.life.staging = false ∧ t.pins.outHeld = true ∧ t.power.waiting = [] ∧
      t.sw.fab = [] ∧ t.sw.queues = [] ∧ t.factory = s.factory ∧ t.fwd = s.fwd) ∧
  (∀ (pass : BitVec 16) (vA vR vS : Fin 9) (s : State), s.life.state = .thermalStop → s.life.thermalStops = [] →
    Yields (.thermalRecovery pass vA vR vS) s fun t =>
      t.life.state = .starting ∧ t.life.resetCause = 6 ∧ t.tb.running = true ∧ 2 ≤ t.life.stage ∧ t.life.address = s.life.address) ∧
  (∀ (pass : BitVec 16) (vA vR vS : Fin 9) (s : State), s.life.state = .thermalStop → s.life.thermalStops = [s.now, s.now, s.now] →
    Yields (.thermalRecovery pass vA vR vS) s fun t =>
      t.life.state = .stopped ∧ t.life.stopStatus = 2 ∧ Stands .thermalRepeat noInst t ∧
      OnlyIn [.pins, .life, .regs, .obs, .upd] s t)

/-- RESTART_WARM, RESTART_COLD, NYMYX_FATAL_FAULT, WARM_START_COMPLETE, WARM_START_TIMEOUT (R86, R92, R94 to R96, R107, R558): a warm restart enters
RESTARTING from RUNNING and returns to it with its cause; a cold restart, a failed image and a late warm start reset with causes 5 and 9. -/
def Obligations.RestartsAndWarmStarts : Prop :=
  (∀ (q : Req) (s : State), admits q .operator s = true → s.life.state = .running →
    Yields (.restartWarm q) s fun t =>
      t.life.state = .restarting ∧ t.life.fromState = .running ∧ t.life.restartCause = 7 ∧ t.commits.scheduled = []) ∧
  (∀ (q : Req) (s : State), admits q .operator s = true → s.life.state = .running →
    Yields (.restartCold q 2) s fun t =>
      t.life.state = .reset ∧ t.life.hold = .timed ∧ t.life.pendingCause = 5 ∧
      Emitted [⟨.slotFrame, q.sess, [q.id.toNat, 0]⟩] s t) ∧
  (∀ (q : Req) (v : BitVec 8) (s : State), admits q .operator s = true → v ≠ 1 → v ≠ 2 →
    Yields (.restartCold q v) s fun t => t.life = s.life ∧ Answered q 0x0301 [] s t) ∧
  (∀ s : State, s.life.state = .running → s.upd.state ≠ 4 →
    Yields .nymyxFatalFault s fun t =>
      t.life.state = .restarting ∧ t.life.fromState = .running ∧ t.life.restartCause = 8 ∧ t.commits.scheduled = []) ∧
  (∀ s : State, s.life.state = .running → s.upd.state = 4 → 3 ≤ s.upd.starts →
    Yields .nymyxFatalFault s fun t => t.life.state = .reset ∧ t.life.pendingCause = 8) ∧
  (∀ (v : Fin 9) (s : State), s.life.state = .restarting → s.life.fromState = .running → verifyImage (imageInForce s) v s = 0 →
    Yields (.warmStartComplete v) s fun t =>
      t.life.state = .running ∧ t.life.resetCause = s.life.restartCause ∧ t.obs.warmBuf = []) ∧
  (∀ (v : Fin 9) (s : State), s.life.state = .restarting → verifyImage (imageInForce s) v s ≠ 0 →
    Yields (.warmStartComplete v) s fun t => t.life.state = .reset ∧ t.life.pendingCause = 9) ∧
  (∀ s : State, s.life.state = .restarting →
    Yields .warmStartTimeout s fun t => t.life.state = .reset ∧ t.life.hold = .timed ∧ t.life.pendingCause = 9)

/-- STOP_ORDERLY, STOP_NO_HANDOVER, SHUTDOWN_FLUSH_TIMEOUT, SHUTDOWN_COMPLETE (R102 to R104): a stop from RUNNING enters STOPPING, a stop of a module
that is stopped changes nothing, and once the queues are empty the module is STOPPED, its outputs held and its requests gone. -/
def Obligations.OrderlyStop : Prop :=
  (∀ (q : Req) (s : State), admits q .operator s = true → s.life.state = .running →
    Yields (.stopNoHandover q) s fun t => t.life.state = .stopping ∧ t.life.stopStatus = 1 ∧ Answered q 0 [] s t) ∧
  (∀ (q : Req) (s : State), admits q .operator s = true → s.life.state = .running → ownsOutputs s = false →
    Yields (.stopOrderly q) s fun t => t.life.state = .stopping ∧ t.life.stopStatus = 1 ∧ Answered q 0 [] s t) ∧
  (∀ (q : Req) (s : State), admits q .operator s = true → s.life.state = .running → ownsOutputs s = true → handoverOk s = false →
    Yields (.stopOrderly q) s fun t => t.life = s.life ∧ Answered q 0x0801 [] s t) ∧
  (∀ (q : Req) (s : State), admits q .operator s = true → s.life.state = .stopped →
    Yields (.stopOrderly q) s fun t => t.life = s.life ∧ Answered q 0 [] s t) ∧
  (∀ s : State, s.life.state = .stopping → s.life.shutStep = 5 →
    Yields .shutdownFlushTimeout s fun t => t = { s with life := { s.life with shutStep := 6 } }) ∧
  (∀ s : State, s.life.state = .stopping → s.life.shutStep = 6 → queuesEmpty s = true →
    Yields .shutdownComplete s fun t =>
      t.life.state = .stopped ∧ t.life.stopStatus = 2 ∧ t.life.staging = false ∧ t.power.waiting = [] ∧ t.pins.outHeld = true ∧
      t.factory = s.factory) ∧
  (∀ s : State, s.life.state = .stopping → queuesEmpty s = false →
    Yields .shutdownComplete s fun t => t = s)

/-- SPAR_ENGINE_FAILURE, ROLE_MIGRATION_RESUMED, SPAR_CLOCK_STOP (R80, R97 to R99): a failed engine of the reef role is powered off and the lowest
spare takes its role at once; the role of another engine waits for a repair-class request of three units; a resumed role runs on the spare; an idle
role's clock stops and its entry is released. -/
def Obligations.SparEngines : Prop :=
  (∀ (e : SparNo) (n : Nat) (l : List Nat) (s : State), s.life.spar[e.val]? = some ⟨.reef, .running⟩ → s.life.nymyx = true →
    s.life.state = .running → freeEngines s = n :: l →
    Yields (.sparEngineFailure e) s fun t =>
      t.life.spar[e.val]? = some ⟨.failed, .off⟩ ∧ t.life.migrating = s.life.migrating ++ [⟨.reef, e.val, n, true⟩] ∧
      unitsOf cSpar n t = 3 ∧ OnlyIn [.life, .power] s t) ∧
  (∀ (e : SparNo) (n : Nat) (l : List Nat) (s : State), s.life.spar[e.val]? = some ⟨.servo, .running⟩ → s.life.nymyx = true →
    s.life.state = .running → freeEngines s = n :: l → s.power.level = 4 →
    Yields (.sparEngineFailure e) s fun t =>
      t.life.spar[e.val]? = some ⟨.failed, .off⟩ ∧ t.life.migrating = s.life.migrating ++ [⟨.servo, e.val, n, false⟩] ∧
      t.power.waiting = s.power.waiting ++ [⟨.repair, .sparMigration e, 3⟩] ∧ OnlyIn [.life, .power] s t) ∧
  (∀ (e : SparNo) (m : Migration) (s : State), s.life.migrating = [m] → m.failedE = e.val → m.granted = true → m.target < s.life.spar.length →
    Yields (.roleMigrationResumed e) s fun t =>
      t.life.spar[m.target]? = some ⟨m.role, .running⟩ ∧ t.life.migrating = [] ∧ countOf 0x140A 3 t = countOf 0x140A 3 s + 1) ∧
  (∀ (e : SparNo) (r : SparRole) (s : State), s.life.spar[e.val]? = some ⟨r, .running⟩ → s.life.nymyx = true →
    Yields (.sparClockStop e) s fun t =>
      t.life.spar[e.val]? = some ⟨r, .stopped⟩ ∧ unitsOf cSpar e t = 0 ∧ OnlyIn [.life, .power] s t)

/-! ## The current ledger and sleep -/

/-- REEF_REQUEST, REEF_GRANT, REQUEST_RETRY, BANK_REFUSED_ALARM (R60, R64 to R67, R72): a laser bank that fits is booked with 18 or 24 units and
starts; a traffic request without room raises the level one step; a waiting repair request is served before a background request that came first; a
bank refused for 10 s raises its alarm. -/
def Obligations.LedgerRequests : Prop :=
  (∀ (n : Tile) (s : State), (eng n s).bank = .waiting → (eng n s).lower.bound = false → (eng n s).upper.bound = false →
    s.power.waiting = [] → reefRuns s = true → s.power.level = 0 → fits .traffic (perVariant 18 24 s) s = true →
    Yields (.reefRequest (.laserBank n)) s fun t =>
      (eng n t).bank = .starting ∧ unitsOf cBank n t = perVariant 18 24 s ∧ t.power.waiting = [] ∧
      countOf 0x130D 1 t = countOf 0x130D 1 s + 1 ∧ OnlyIn [.pins, .power, .regs, .obs, .optics] s t) ∧
  (∀ (n : Tile) (s : State), (eng n s).bank = .waiting → s.power.waiting = [] → reefRuns s = true → s.power.level = 0 →
    fits .traffic (perVariant 18 24 s) s = false →
    Yields (.reefRequest (.laserBank n)) s fun t => t.power.level = 1) ∧
  (∀ (r m : Nat) (p : SparRole) (s : State),
    s.power.waiting = [⟨.background, .flashWrite 3, 4⟩, ⟨.repair, .sparMigration r, 3⟩] → s.life.migrating = [⟨p, r, m, false⟩] →
    reefRuns s = true → s.power.level = 0 → fits .repair 3 s = true →
    Yields .reefGrant s fun t =>
      t.power.waiting = [⟨.background, .flashWrite 3, 4⟩] ∧ t.life.migrating = [⟨p, r, m, true⟩] ∧ unitsOf cSpar m t = 3 ∧
      OnlyIn [.life, .power, .regs, .obs] s t) ∧
  (∀ s : State, s.power.waiting = [] → Yields .reefGrant s fun t => t = s) ∧
  (∀ s : State, s.power.waiting = [⟨.background, .flashWrite 3, 4⟩] → reefRuns s = true → s.power.level = 0 →
    fits .background 4 s = true →
    Yields (.requestRetry (.flashWrite 3)) s fun t =>
      t.power.waiting = [] ∧ unitsOf cFlash 3 t = 4 ∧ countOf 0x130D 1 t = countOf 0x130D 1 s + 1 ∧
      OnlyIn [.power, .regs, .obs] s t) ∧
  (∀ (n : Tile) (x : Nat) (s : State), (eng n s).bank = .waiting → (eng n s).refusedAt = some x → x + 1000000000 ≤ s.now →
    Yields (.bankRefusedAlarm n) s fun t => Stands .bankRefused n t ∧ OnlyIn [.pins, .regs, .obs, .upd] s t)

/-- LEDGER_EVALUATION, REEF_LEVEL_FALL, UNDER_DECLARED_DRAW, UNDER_DECLARED_CLEAR (R60, R61, R63, R72, R74): a booked total above the admissible total
raises the level one step, a total within it leaves the level; the level falls one step; a draw above the declared ceiling is counted, raises the
level one step and stands as an alarm until the draw has stayed within the ceiling. -/
def Obligations.LedgerLevels : Prop :=
  (∀ (mv cur low : BitVec 16) (s : State),
    reefRuns s = true → s.power.level < 3 → levelFloor (measured mv cur low s) ≤ s.power.level → excess (measured mv cur low s) = true →
    Yields (.ledgerEvaluation mv cur (some low)) s fun t => t.power.level = s.power.level + 1) ∧
  (∀ (mv cur low : BitVec 16) (s : State),
    reefRuns s = true → s.power.level < 3 → levelFloor (measured mv cur low s) ≤ s.power.level → excess (measured mv cur low s) = false →
    Yields (.ledgerEvaluation mv cur (some low)) s fun t => t.power = (measured mv cur low s).power ∧ OnlyIn [.pins, .power, .regs, .obs] s t) ∧
  (∀ (mv cur : BitVec 16) (s : State), s.power.level = 4 →
    Yields (.ledgerEvaluation mv cur none) s fun t =>
      t = { s with power := { s.power with busMv := mv.toNat, inlet10mA := cur.toNat } }) ∧
  (∀ s : State, reefRuns s = true → s.power.level ≤ 3 → levelFloor s < s.power.level →
    booked s + cfg 0x1300 0 s / 20 ≤ admissible .traffic s →
    Yields .reefLevelFall s fun t => t.power.level = s.power.level - 1 ∧ t.power.lastFall = some s.now) ∧
  (∀ (cur : BitVec 16) (s : State), reefRuns s = true → s.power.level = 3 → cfg 0x1300 0 s < cur.toNat → s.power.underDecl = false →
    Yields (.underDeclaredDraw cur) s fun t =>
      t.power = { s.power with inlet10mA := cur.toNat, underDecl := true } ∧ Stands .underDeclared noInst t ∧
      countOf 0x130D 5 t = countOf 0x130D 5 s + 1 ∧ OnlyIn [.pins, .power, .regs, .obs, .upd] s t) ∧
  (∀ (cur : BitVec 16) (s : State), cur.toNat ≤ cfg 0x1300 0 s →
    Yields (.underDeclaredClear cur) s fun t =>
      t.power = { s.power with inlet10mA := cur.toNat, underDecl := false } ∧ ¬ Stands .underDeclared noInst t ∧
      OnlyIn [.pins, .power, .regs, .obs] s t)

/-- TILE_LIGHT_SLEEP, TILE_LIGHT_WAKE, TILE_DEEP_SLEEP, TILE_DEEP_WAKE, SLICE_SLEEP, SLICE_WAKE (R64, R80, R81, R289): the sleep states of a tile and
its lookup slices, and the ledger entries that go with them; every other tile is as it was. LEVEL_4_ENTRY, LEVEL_4_EXIT (R76 to R79, R82): the entry
takes level 4, keeps the level before it and heads the dip log with its record; the exit above the threshold leaves level 4 with no pending record and
no stopped clock, and below it nothing changes. -/
def Obligations.TileSleepAndLevelFour : Prop :=
  (∀ (n : Tile) (s : State), (tile n s).sleep = .awake → tileFrames n s = false →
    Yields (.tileLightSleep n) s fun t =>
      tile n t = { tile n s with sleep := .light } ∧ (∀ m : Nat, m ≠ n → tile m t = tile m s) ∧
      t.power.entries = s.power.entries ∧ OnlyIn [.power] s t) ∧
  (∀ (n : Tile) (s : State), (tile n s).sleep = .light →
    Yields (.tileLightWake n) s fun t =>
      tile n t = { tile n s with sleep := .awake } ∧ (∀ m : Nat, m ≠ n → tile m t = tile m s) ∧
      t.power.entries = s.power.entries ∧ OnlyIn [.power] s t) ∧
  (∀ (n : Tile) (s : State), (tile n s).sleep = .awake → (engChans n).all (fun c => (cod c s).stage == 0) = true →
    tileFrames n s = false →
    Yields (.tileDeepSleep n) s fun t =>
      (tile n t).sleep = .deep ∧ (tile n t).slices = 0 ∧ unitsOf cTile n t = 0 ∧ (mdll n t).st = .off ∧
      (∀ m : Nat, m ≠ n → tile m t = tile m s) ∧ OnlyIn [.pins, .power, .regs, .obs, .tb, .ptp, .upd] s t) ∧
  (∀ (n : Tile) (s : State), (tile n s).sleep = .deep → unitsOf cTile n s ≠ 0 →
    Yields (.tileDeepWake n) s fun t =>
      (tile n t).sleep = .awake ∧ (tile n t).slices = 1 ∧ (mdll n t).st = .acquiring ∧
      (∀ m : Nat, m ≠ n → tile m t = tile m s) ∧ OnlyIn [.power, .tb] s t) ∧
  (∀ (n : Tile) (s : State), (tile n s).sleep = .awake → 1 < (tile n s).slices → (tile n s).slices ≤ 4 →
    Yields (.sliceSleep n) s fun t =>
      (tile n t).slices = (tile n s).slices - 1 ∧ (tile n t).sleep = .awake ∧
      unitsOf cSlice (4 * n + ((tile n s).slices - 1)) t = 0 ∧ (∀ m : Nat, m ≠ n → tile m t = tile m s) ∧ OnlyIn [.power] s t) ∧
  (∀ (n : Tile) (s : State), (tile n s).sleep = .awake → (tile n s).slices < 4 →
    unitsOf cSlice (4 * n.val + (tile n s).slices) s ≠ 0 →
    Yields (.sliceWake n) s fun t =>
      tile n t = { tile n s with slices := (tile n s).slices + 1 } ∧ (∀ m : Nat, m ≠ n → tile m t = tile m s) ∧
      t.power.entries = s.power.entries ∧ OnlyIn [.power] s t) ∧
  (∀ (lowest below : BitVec 16) (s : State), s.life.state = .running → s.power.level ≠ 4 →
    Yields (.level4Entry lowest below) s fun t =>
      t.power.level = 4 ∧ t.power.before4 = s.power.level ∧ t.power.dipLog.head? = some ⟨timeA s, lowest.toNat, below.toNat⟩ ∧
      t.factory = s.factory) ∧
  (∀ (mv : BitVec 16) (s : State), s.power.level = 4 → 40000 < mv.toNat → s.power.warnInForce * 100 + 500 < mv.toNat →
    Yields (.level4Exit mv none) s fun t =>
      t.power.level ≤ 3 ∧ t.power.dipPending = none ∧ t.life.braced = [] ∧ t.power.busMv = mv.toNat) ∧
  (∀ (mv : BitVec 16) (x : Option (BitVec 16)) (s : State), mv.toNat ≤ 40000 →
    Yields (.level4Exit mv x) s fun t => t = s)

/-! ## Optical channels -/

/-- LISTEN_TIMEOUT, BEACON_HEARD, ANSWER_HEARD, ANSWER_RESOLVED (R223, R224, R225, R253): a listening channel that is not pinned upper beacons on the
lower band and one that is not pinned lower answers a beacon; an answer heard resolves the beaconing end to the lower band, and the answering end to
the upper; the other channels are as they were. BEACON_TIMEOUT, BACKOFF_EXPIRY, ANSWER_TIMEOUT, BAND_RELEASE, BAND_UNRESOLVED (R223 to R225): an
unanswered beacon is counted and backs off unless the channel is pinned lower; back-off, a lost answer and four dark lanes return to LISTEN with a
fresh hold-off of at most 2,000 µs; a pinned channel that does not resolve raises its alarm. -/
def Obligations.Bands : Prop :=
  (∀ (c : Chan) (s : State), (opt c s).bandState = .listen → (opt c s).pin ≠ 2 →
    Yields (.listenTimeout c) s fun t =>
      (opt c t).bandState = .beacon ∧ Emitted [⟨.beacon, c, [1]⟩] s t ∧
      (∀ d : Nat, d ≠ c → opt d t = opt d s ∧ cod d t = cod d s) ∧
      OnlyIn [.power, .regs, .obs, .optics, .vern, .cal, .wire] s t) ∧
  (∀ (c : Chan) (caps : BitVec 8) (v : Fin 16) (s : State), (opt c s).bandState = .listen → (opt c s).pin ≠ 1 →
    Yields (.beaconHeard c 1 v caps) s fun t =>
      (opt c t).bandState = .answer ∧ (cod c t).peerFam = 1 ∧ (cod c t).peerVar = v ∧ (cod c t).peerCaps = caps ∧
      Emitted [⟨.answer, c, [2]⟩] s t ∧ (∀ d : Nat, d ≠ c → opt d t = opt d s ∧ cod d t = cod d s) ∧
      OnlyIn [.power, .regs, .obs, .optics, .vern, .cal, .wire] s t) ∧
  (∀ (c : Chan) (f v : Fin 16) (caps : BitVec 8) (s : State), (opt c s).bandState = .listen → f ≠ 1 → f ≠ 2 →
    Yields (.beaconHeard c f v caps) s fun t => t = s) ∧
  (∀ (c : Chan) (caps : BitVec 8) (v : Fin 16) (s : State), (opt c s).bandState = .beacon → looped c s = false →
    Yields (.answerHeard c 1 v caps) s fun t =>
      (opt c t).bandState = .resolved ∧ (opt c t).band = .lower ∧ (cod c t).stage = 1 ∧ (cod c t).peerFam = 1 ∧
      countOf 0x200E 1 t = countOf 0x200E 1 s + 1 ∧ (∀ d : Nat, d ≠ c → opt d t = opt d s ∧ cod d t = cod d s)) ∧
  (∀ (c : Chan) (s : State), (opt c s).bandState = .answer → looped c s = false → (cod c s).peerFam ≠ 2 →
    Yields (.answerResolved c) s fun t =>
      (opt c t).bandState = .resolved ∧ (opt c t).band = .upper ∧ (cod c t).stage = 1 ∧
      (∀ d : Nat, d ≠ c → opt d t = opt d s ∧ cod d t = cod d s)) ∧
  (∀ (c : Chan) (s : State), (opt c s).bandState = .beacon → (opt c s).pin ≠ 1 →
    Yields (.beaconTimeout c) s fun t =>
      (opt c t).bandState = .backoff ∧ (opt c t).backoff ≤ 4000 ∧ countOf 0x200E 2 t = countOf 0x200E 2 s + 1 ∧ t.draws = s.draws + 1 ∧
      (∀ d : Nat, d ≠ c → opt d t = opt d s ∧ cod d t = cod d s) ∧ OnlyIn [.regs, .obs, .optics, .draws] s t) ∧
  (∀ (c : Chan) (s : State), (opt c s).bandState = .beacon → (opt c s).pin = 1 →
    Yields (.beaconTimeout c) s fun t =>
      opt c t = opt c s ∧ countOf 0x200E 2 t = countOf 0x200E 2 s + 1 ∧ Emitted [⟨.beacon, c, [1]⟩] s t ∧
      OnlyIn [.regs, .obs, .wire] s t) ∧
  (∀ (c : Chan) (s : State), (opt c s).bandState = .backoff →
    Yields (.backoffExpiry c) s fun t =>
      (opt c t).bandState = .listen ∧ (opt c t).hold ≤ 2000 ∧ t.draws = s.draws + 1 ∧
      (∀ d : Nat, d ≠ c → opt d t = opt d s) ∧ t.optics.coding = s.optics.coding ∧ OnlyIn [.optics, .draws] s t) ∧
  (∀ (c : Chan) (s : State), (opt c s).bandState = .answer →
    Yields (.answerTimeout c) s fun t =>
      (opt c t).bandState = .listen ∧ (opt c t).band = .none ∧ (opt c t).hold ≤ 2000 ∧
      (∀ d : Nat, d ≠ c → opt d t = opt d s) ∧ t.optics.coding = s.optics.coding ∧ OnlyIn [.optics, .draws] s t) ∧
  (∀ (c : Chan) (s : State), (opt c s).bandState = .resolved → (opt c s).los = 0xF#4 →
    Yields (.bandRelease c) s fun t =>
      (opt c t).bandState = .listen ∧ (opt c t).band = .none ∧ (cod c t).stage = 0 ∧ asym c t = Asym.reset ∧
      (∀ d : Nat, d ≠ c → opt d t = opt d s ∧ cod d t = cod d s)) ∧
  (∀ (c : Chan) (s : State), (opt c s).pin = 2 → (opt c s).bandState = .listen →
    Yields (.bandUnresolved c) s fun t => Stands .unresolved c t ∧ OnlyIn [.pins, .regs, .obs, .upd] s t)

/-- LASER_BANK_STARTED, LASER_FAILURE, SPARE_LOCKED (R64, R228, R229, R231, R234, R235): after the start check the bank is lit and books its lit
entry; a laser of a lit bank fails to RETIRED and its spare is asked for, or, where it is not free, an alarm stands; a locked spare is in use.
PLANNED_SWITCH_IN, LASER_FORCE_OFF, LASER_FORCE_AUTOMATIC (R231, R234, R244, R246, R419): a planned switch-in asks for the spare of a lit laser and is
refused with 0x080E where it cannot be; a forced laser gives no more light and its request stays pending until the retirement record commits; value 0
changes no laser. -/
def Obligations.Lasers : Prop :=
  (∀ (n : Tile) (r : BitVec 8) (bias power : List (BitVec 16)) (s : State), (eng n s).bank = .starting →
    Yields (.laserBankStarted n r bias power true true) s fun t => (eng n t).bank = .lit ∧ (eng n t).refusedAt = none) ∧
  (∀ (n : Tile) (r : BitVec 8) (bias power : List (BitVec 16)) (lo hi : Bool) (s : State), (eng n s).bank ≠ .starting →
    Yields (.laserBankStarted n r bias power lo hi) s fun t => t = s) ∧
  (∀ (n : Tile) (j : Fin 8) (s : State), (laser n j s).on = true → spareFree n j s = true → (eng n s).lasers.length = 8 →
    Yields (.laserFailure n j false) s fun t =>
      (laser n j t).st = .retired ∧ (spareOf j (eng n t)).bound = true ∧ (spareOf j (eng n t)).target = j % 4) ∧
  (∀ (n : Tile) (j : Fin 8) (s : State), (laser n j s).on = true → spareFree n j s = false → (eng n s).lasers.length = 8 →
    Yields (.laserFailure n j false) s fun t =>
      (laser n j t).st = .retired ∧ Stands .laserNoSpare (8 * n + j) t) ∧
  (∀ (n : Tile) (j : Fin 8) (w : BitVec 16) (s : State), (spareOf j (eng n s)).st = .tuning → (spareOf j (eng n s)).target = j % 4 →
    (spareOf j (eng n s)).planned = false →
    Yields (.spareLocked n j w) s fun t =>
      (spareOf j (eng n t)).st = .inUse ∧ (spareOf j (eng n t)).wlError = w ∧ countOf 0x200E 4 t = countOf 0x200E 4 s + 1 ∧
      (eng n t).lasers = (eng n s).lasers ∧ (∀ m : Nat, m ≠ n → eng m t = eng m s) ∧ OnlyIn [.regs, .obs, .optics, .cal] s t) ∧
  (∀ (q : Req) (n : Tile) (j : Fin 8) (s : State), admits q .operator s = true → canSwitch n j s = true →
    Yields (.plannedSwitchIn q n j) s fun t =>
      (spareOf j (eng n t)).planned = true ∧ (spareOf j (eng n t)).bound = true ∧ (spareOf j (eng n t)).target = j % 4 ∧
      (laser n j t) = (laser n j s) ∧ Answered q 0 [] s t ∧ (∀ m : Nat, m ≠ n → eng m t = eng m s) ∧
      OnlyIn [.power, .gleno, .optics] s t) ∧
  (∀ (q : Req) (n : Tile) (j : Fin 8) (s : State), admits q .operator s = true → canSwitch n j s = false →
    Yields (.plannedSwitchIn q n j) s fun t => Answered q 0x080E [] s t ∧ OnlyIn [.gleno] s t) ∧
  (∀ (q : Req) (n : Tile) (j : Fin 8) (s : State), admits q .operator s = true → gone (laser n j s) = false →
    (eng n s).lasers.length = 8 →
    Yields (.laserForceOff q n j) s fun t =>
      (laser n j t).st = .forcedOff ∧ Answered q 0x0402 [] s t ∧ t.cal.waiting.any (fun w => w.req = some q) = true) ∧
  (∀ (q : Req) (n : Tile) (j : Fin 8) (s : State), admits q .operator s = true → gone (laser n j s) = true →
    Yields (.laserForceOff q n j) s fun t => Answered q 0x080E [] s t ∧ OnlyIn [.gleno] s t) ∧
  (∀ (n : Tile) (j : Fin 8) (s : State),
    Yields (.laserForceAutomatic n j) s fun t =>
      Tab.get 0 (chanAddr (8 * n + j) 0x064) t.regs.words = 0 ∧ t.optics = s.optics ∧ OnlyIn [.regs] s t)

/-- SUBMOUNT_TEMP_ALARM, RX_LOS_ENTER, RX_LOS_EXIT, THRESHOLD_CROSSED, TAP_LIMIT (R220, R238, R240, R241, R243): what a measured temperature or
received power sets: the measured value, the event bits and the alarms; a lane in loss of signal judges no threshold. -/
def Obligations.OpticalMeasurements : Prop :=
  (∀ (n : Tile) (x : BitVec 16) (s : State), 200 < (x.toInt - 6000).natAbs →
    Yields (.submountTempAlarm n x) s fun t =>
      (eng n t).temp = x ∧ Stands .subMajor n t ∧ OnlyIn [.pins, .regs, .obs, .optics, .upd] s t) ∧
  (∀ (n : Tile) (x : BitVec 16) (s : State), 50 < (x.toInt - 6000).natAbs → (x.toInt - 6000).natAbs ≤ 200 →
    Yields (.submountTempAlarm n x) s fun t =>
      (eng n t).temp = x ∧ Stands .subMinor n t ∧ OnlyIn [.pins, .regs, .obs, .optics, .upd] s t) ∧
  (∀ (c : Chan) (k : Lane) (p : BitVec 16) (s : State), (opt c s).los.getLsbD k = false → (cod c s).stage = 0 → (cod c s).abrupt = false →
    (asym c s).st = 0 →
    Yields (.rxLosEnter c k p) s fun t =>
      (opt c t).los.getLsbD k = true ∧ (Tab.get 0 (chanAddr c 0x018) t.regs.rc).getLsbD 0 = true ∧
      (∀ d : Nat, d ≠ c → opt d t = opt d s ∧ cod d t = cod d s)) ∧
  (∀ (c : Chan) (k : Lane) (p : BitVec 16) (s : State),
    Yields (.rxLosExit c k p) s fun t =>
      (opt c t).los.getLsbD k = false ∧ (∀ d : Nat, d ≠ c → opt d t = opt d s) ∧ t.optics.coding = s.optics.coding ∧
      OnlyIn [.optics] s t) ∧
  (∀ (c : Chan) (k : Lane) (p : BitVec 16) (s : State), (opt c s).los.getLsbD k = false →
    Yields (.thresholdCrossed c k 1 p) s fun t =>
      (Tab.get 0 (chanAddr c 0x018) t.regs.rc).getLsbD 3 = true ∧ t.obs = s.obs ∧ OnlyIn [.regs, .optics] s t) ∧
  (∀ (c : Chan) (k : Lane) (w : Fin 3) (p : BitVec 16) (s : State), (opt c s).los.getLsbD k = false → w ≠ 1 →
    Yields (.thresholdCrossed c k w p) s fun t =>
      (Tab.get 0 (chanAddr c 0x018) t.regs.rc).getLsbD 3 = true ∧ Stands .rxPower (c * 4 + k) t ∧
      OnlyIn [.pins, .regs, .obs, .optics, .upd] s t) ∧
  (∀ (c : Chan) (k : Lane) (w : Fin 3) (p : BitVec 16) (s : State), (opt c s).los.getLsbD k = true →
    Yields (.thresholdCrossed c k w p) s fun t => OnlyIn [.optics] s t) ∧
  (∀ (c : Chan) (s : State), (opt c s).eqMode = 0 →
    Yields (.tapLimit c) s fun t =>
      (Tab.get 0 (chanAddr c 0x018) t.regs.rc).getLsbD 5 = true ∧ OnlyIn [.regs] s t)

/-! ## Channel coding and bring-up -/

/-- CLOCK_RECOVERED, TRAINING_FRAME_RECEIVED, TRAINING_COMPLETE, ALIGNMENT_COMPLETE, CHECK_COMPLETE (R253, R254, R257, R258): the stages of bring-up
follow in order, 2 to 6, the other channels stay as they are; bring-up waits at stage 2 in deep sleep; stage 3 fails for a lane without its laser
where both ends do not set RW. BRINGUP_STAGE_TIMEOUT, BRINGUP_ALARM, RETRAIN (R253, R255, R270, R271): a failed stage returns the channel to stage 2
and is counted, the third failure in a row raises the alarm; a retrained channel goes through the stages again, from stage 2. -/
def Obligations.BringUp : Prop :=
  (∀ (c : Chan) (s : State), (cod c s).stage = 2 → (tile (tileOf c) s).sleep = .awake → s.life.state = .running →
    Yields (.clockRecovered c) s fun t =>
      (cod c t).stage = 3 ∧ (cod c t).polInv = 0 ∧ (cod c t).laneMap = 0xFFFF#16 ∧
      (∀ d : Nat, d ≠ c → opt d t = opt d s ∧ cod d t = cod d s) ∧ OnlyIn [.power, .optics] s t) ∧
  (∀ (c : Chan) (s : State), (tile (tileOf c) s).sleep = .deep → Yields (.clockRecovered c) s fun t => t = s) ∧
  (∀ (c : Chan) (k : Lane) (f : Train) (s : State), (cod c s).stage = 3 → f.idOk = true → f.laneId = k → f.inverted = true →
    f.preReq = 0 → f.postReq = 0 → (cod c s).peerFam = 1 →
    Yields (.trainingFrameReceived c k f) s fun t =>
      (cod c t).stage = 3 ∧ (cod c t).polInv.getLsbD k = true ∧ (cod c t).peerCaps = f.caps ∧
      Emitted [⟨.training, c, [k.val, 0, 0]⟩] s t ∧ OnlyIn [.optics, .wire] s t) ∧
  (∀ (c : Chan) (s : State), (cod c s).stage = 3 → (cod c s).brace = false → (cod c s).force = false → (cod c s).peerFam = 1 →
    trainShort c s = false → mapBad c s = false →
    Yields (.trainingComplete c) s fun t =>
      (cod c t).stage = 4 ∧ (cod c t).maxLanes = 0xF#4 ∧
      (∀ d : Nat, d ≠ c → opt d t = opt d s ∧ cod d t = cod d s) ∧ OnlyIn [.power, .optics] s t) ∧
  (∀ (c : Chan) (s : State), (cod c s).stage = 3 → trainShort c s = true →
    Yields (.trainingComplete c) s fun t =>
      (cod c t).stage = 2 ∧ (cod c t).fails = (cod c s).fails + 1 ∧ countOf 0x2110 2 t = countOf 0x2110 2 s + 1) ∧
  (∀ (c : Chan) (tx mx : BitVec 4) (s : State), (cod c s).stage = 4 →
    Yields (.alignmentComplete c tx mx) s fun t =>
      (cod c t).stage = 5 ∧ (cod c t).rxLanes = tx ∧ (cod c t).locked = tx ∧ (cod c t).peerMax = mx ∧
      (cod c t).txLanes = (cod c s).train ∧
      (∀ d : Nat, d ≠ c → opt d t = opt d s ∧ cod d t = cod d s) ∧ OnlyIn [.power, .optics, .vern, .cal] s t) ∧
  (∀ (c : Chan) (s : State), (cod c s).stage = 5 →
    Yields (.checkComplete c) s fun t =>
      (cod c t).stage = 6 ∧ (cod c t).fails = 0 ∧ (cod c t).everUp = true ∧ ¬ Stands .bringUp c t ∧
      (∀ d : Nat, d ≠ c → opt d t = opt d s ∧ cod d t = cod d s)) ∧
  (∀ (c : Chan) (s : State), 2 ≤ (cod c s).stage → (cod c s).stage ≤ 5 →
    Yields (.bringupStageTimeout c) s fun t =>
      (cod c t).stage = 2 ∧ (cod c t).fails = (cod c s).fails + 1 ∧ countOf 0x2110 2 t = countOf 0x2110 2 s + 1 ∧
      (∀ d : Nat, d ≠ c → opt d t = opt d s ∧ cod d t = cod d s)) ∧
  (∀ (c : Chan) (s : State), 2 ≤ (cod c s).stage → (cod c s).stage ≤ 5 → 2 ≤ (cod c s).fails →
    Yields (.bringupStageTimeout c) s fun t => Stands .bringUp c t) ∧
  (∀ (c : Chan) (s : State), (cod c s).stage < 6 → (opt c s).bandState = .resolved →
    Yields (.bringupAlarm c) s fun t => Stands .bringUp c t ∧ OnlyIn [.pins, .regs, .obs, .upd] s t) ∧
  (∀ (q : Req) (c : Chan) (s : State), admits q .operator s = true → (opt c s).bandState = .resolved → (cod c s).stage = 6 →
    Yields (.retrain q (BitVec.ofNat 8 (c + 1))) s fun t => (cod c t).stage = 2 ∧ Answered q 0 [] s t) ∧
  (∀ (q : Req) (s : State), admits q .operator s = true →
    Yields (.retrain q 0) s fun t => Answered q 0x0102 [] s t ∧ OnlyIn [.gleno] s t)

/-- MARKER_PERIOD, MARKER_RECEIVED, MARKER_LOCK_LOST (R249 to R251, R260): each marker period raises TX_AM_COUNT by one and sends one marker; an
announced narrower width takes effect at its period; a first valid marker gains no lock, a second of a KV0480 does and gives no field; a lane that
lost lock is not locked and sets AM_LOST. FURL_DECISION, UNFURL_REQUEST, LANE_REJOIN, PRBS_CHECKER_LOCK (R260, R261, R262, R268): a furl is announced
two marker periods ahead while TX_LANES stays; an unfurl waits as one traffic-class request of two units a lane; a lane with light again rejoins by
announcement; a named checker locks, and the last one starts the counting. -/
def Obligations.MarkersAndFurl : Prop :=
  (∀ (c : Chan) (s : State), (cod c s).stage = 6 → (cod c s).wake = 0 → (cod c s).announced = false → (cod c s).rxAnn = false →
    Yields (.markerPeriod c) s fun t =>
      (cod c t).txAm = (cod c s).txAm + 1 ∧ (cod c t).txLanes = (cod c s).txLanes ∧ (cod c t).abrupt = false ∧
      t.wire.length = s.wire.length + 1 ∧ (∀ d : Nat, d ≠ c → opt d t = opt d s ∧ cod d t = cod d s)) ∧
  (∀ (c : Chan) (s : State), (cod c s).stage = 6 → (cod c s).announced = true → (cod c s).atCount = (cod c s).txAm + 1 →
    (cod c s).nextLanes = 3#4 → (cod c s).txLanes = 0xF#4 → (cod c s).peerFault = 0 → (cod c s).rxAnn = false →
    Yields (.markerPeriod c) s fun t =>
      (cod c t).txLanes = 3#4 ∧ (cod c t).announced = false ∧ countOf 0x2110 3 t = countOf 0x2110 3 s + 1) ∧
  (∀ (c : Chan) (k : Lane) (m : Marker) (s : State), (cod c s).stage = 4 → (cod c s).peerFam = 2 → (cod c s).locked = 0 →
    (Tab.find k.val (cod c s).amSeen).isSome = true →
    (cod c s).rxFault = 0 → (cod c s).abrupt = false → m.abrupt = false → m.next = m.tx →
    Yields (.markerReceived c k m) s fun t =>
      (cod c t).locked = laneBit k ∧ (cod c t).rxAm = m.am ∧ (cod c t).peerMax = (cod c s).peerMax ∧
      (cod c t).txLanes = (cod c s).txLanes) ∧
  (∀ (c : Chan) (k : Lane) (m : Marker) (s : State), (cod c s).stage = 4 → (cod c s).locked = 0 → Tab.find k.val (cod c s).amSeen = none →
    (cod c s).rxFault = 0 → (cod c s).abrupt = false → m.abrupt = false → m.next = m.tx →
    Yields (.markerReceived c k m) s fun t =>
      (cod c t).locked = 0 ∧ (cod c t).rxAm = m.am ∧ Tab.find k.val (cod c t).amSeen = some m.am) ∧
  (∀ (c : Chan) (k : Lane) (m : Marker) (s : State), (cod c s).stage < 4 →
    Yields (.markerReceived c k m) s fun t => t = s) ∧
  (∀ (c : Chan) (k : Lane) (s : State), (cod c s).locked.getLsbD k = true → (cod c s).stage = 4 → (cod c s).abrupt = false →
    Yields (.markerLockLost c k) s fun t =>
      (cod c t).locked.getLsbD k = false ∧ (Tab.get 0 (chanAddr c 0x110) t.regs.rc).getLsbD 5 = true ∧ (cod c t).stage = 4) ∧
  (∀ (c : Chan) (s : State), chanHeld c s = false → mayFurl c s = true → (cod c s).txLanes = 0xF#4 → cfg 0x2102 (c + 1) s = 2 →
    0 < cfg 0x2103 (c + 1) s →
    Yields (.furlDecision c 0) s fun t =>
      (cod c t).nextLanes = 3#4 ∧ (cod c t).announced = true ∧ (cod c t).atCount = (cod c s).txAm + 2 ∧
      (cod c t).txLanes = 0xF#4 ∧ (∀ d : Nat, d ≠ c → cod d t = cod d s) ∧ OnlyIn [.power, .optics] s t) ∧
  (∀ (c : Chan) (p : Nat) (s : State), mayFurl c s = false → Yields (.furlDecision c p) s fun t => t = s) ∧
  (∀ (c : Chan) (s : State), (cod c s).stage = 6 → s.life.state = .running → s.power.level = 0 → s.cal.runs = [] →
    (cod c s).unfurlAsk = false → unfurlNew c s ≠ 0 →
    Yields (.unfurlRequest c) s fun t =>
      (cod c t).unfurlAsk = true ∧ (cod c t).txLanes = (cod c s).txLanes ∧
      t.power.waiting = s.power.waiting ++ [⟨.traffic, .unfurl c, 2 * laneCount (unfurlNew c s)⟩]) ∧
  (∀ (c : Chan) (k : Lane) (s : State), (cod c s).stage = 6 → combLit (tileOf c) (laserOf (opt c s).band k) s = true → s.cal.runs = [] →
    Yields (.laneRejoin c k) s fun t =>
      (opt c t).laserLost.getLsbD k = false ∧ (cod c t).peerFault.getLsbD k = false ∧
      (cod c t).nextLanes = (cod c s).txLanes ||| laneBit k ∧ (cod c t).announced = true ∧ (cod c t).txLanes = (cod c s).txLanes) ∧
  (∀ (c : Chan) (k : Lane) (s : State), (cod c s).stage = 7 → cfg 0x2109 (c + 1) s = 2 ^ k.val →
    Yields (.prbsCheckerLock c k) s fun t =>
      (cod c t).prbsLock.getLsbD k = true ∧ (cod c t).prbsCount = true ∧
      (∀ d : Nat, d ≠ c → cod d t = cod d s) ∧ OnlyIn [.optics] s t)

/-! ## The time base -/

/-- TIME_SET, TIME_ADJ, RATE_ADJ_WRITE, TRACEABLE_WRITE (R144, R275 to R278): the owner of a domain sets it to the value, steps it, sets its rate or
its TRACEABLE bit; a step raises TIME_EPOCH by one; a value outside its range and a writer that is not the owner are refused, and the domain stays. -/
def Obligations.DomainWrites : Prop :=
  (∀ (q : Req) (d : Domain) (x : Time96) (s : State), admits q .operator s = true → hostOwns d s = true → x.ns.toNat ≤ 999999999 →
    Yields (.timeSet (some q) d x) s fun t =>
      (domOf d t).counter = ⟨lsbOf x, 0⟩ ∧ (domOf d t).epoch = (domOf d s).epoch + 1 ∧ (domOf d t).setLast = x ∧
      (domOf d t).rate = (domOf d s).rate ∧ Answered q 0 [] s t) ∧
  (∀ (q : Req) (d : Domain) (x : Time96) (s : State), admits q .operator s = true → hostOwns d s = true → 999999999 < x.ns.toNat →
    Yields (.timeSet (some q) d x) s fun t => Answered q 0x0301 [] s t ∧ OnlyIn [.gleno] s t) ∧
  (∀ (q : Req) (d : Domain) (x : Time96) (s : State), admits q .operator s = true → hostOwns d s = false →
    Yields (.timeSet (some q) d x) s fun t => Answered q 0x0810 [] s t ∧ OnlyIn [.gleno] s t) ∧
  (∀ (d : Domain) (x : Time96) (s : State), hostOwns d s = true → Yields (.timeSet none d x) s fun t => t = s) ∧
  (∀ (q : Req) (d : Domain) (a : BitVec 64) (s : State), admits q .operator s = true → hostOwns d s = true → a ≠ 0 →
    adjFits d a.toInt s = true →
    Yields (.timeAdj (some q) d a) s fun t =>
      ((domOf d t).counter.lsb : Int) = (domOf d s).counter.lsb + a.toInt ∧ (domOf d t).counter.hidden = (domOf d s).counter.hidden ∧
      (domOf d t).epoch = (domOf d s).epoch + 1 ∧ Answered q 0 [] s t) ∧
  (∀ (q : Req) (d : Domain) (s : State), admits q .operator s = true → hostOwns d s = true → adjFits d 0 s = true →
    Yields (.timeAdj (some q) d 0) s fun t =>
      (domOf d t).counter = (domOf d s).counter ∧ (domOf d t).epoch = (domOf d s).epoch ∧ Answered q 0 [] s t) ∧
  (∀ (q : Req) (d : Domain) (r : BitVec 32) (s : State), admits q .operator s = true → hostOwns d s = true → rateOk r.toInt = true →
    Yields (.rateAdjWrite (some q) d r) s fun t =>
      (domOf d t).rate = r.toInt ∧ (domOf d t).counter = (domOf d s).counter ∧ Answered q 0 [] s t ∧ OnlyIn [.gleno, .tb] s t) ∧
  (∀ (q : Req) (d : Domain) (b : Bool) (s : State), admits q .operator s = true → hostOwns d s = true →
    Yields (.traceableWrite (some q) d b) s fun t =>
      (domOf d t).traceable = b ∧ (domOf d t).counter = (domOf d s).counter ∧ Answered q 0 [] s t)

/-- CAPTURE, OUT_RESYNC, SLEWING_END (R280, R283, R284): a capture latches both domains and the presented time on one edge; the presented time steps
to its domain; slewing ends once less than four LSBs remain. MAST_FAULT, MAST_RECOVERED, JURY_FAULT, JURY_RECOVERED, LOCKMON_ALARM (R277, R287, R288,
R294, R295, R336): a mast fault clears MAST_OK and both TRACEABLE bits, holds the outputs and raises its alarm, which ends as the clock recovers; the
jury clock likewise; LOCKMON outside its normal band is a minor alarm, outside 0.60 V to 1.90 V a major one. -/
def Obligations.CaptureAndMast : Prop :=
  (∀ s : State, Yields .capture s fun t =>
    t.tb.capA = timeOf s.tb.a.counter.lsb ∧ t.tb.capB = timeOf s.tb.b.counter.lsb ∧ t.tb.capOut = timeOf s.tb.p.toNat ∧
    t.tb.a = s.tb.a ∧ t.tb.b = s.tb.b ∧ t.tb.p = s.tb.p ∧ OnlyIn [.tb] s t) ∧
  (∀ (q : Req) (s : State), admits q .operator s = true →
    Yields (.outResync q) s fun t =>
      t.tb.p = (domOf (outDomain s) s).counter.lsb ∧ t.tb.slewing = false ∧ (Tab.get 0 0x20018 t.regs.rc).getLsbD 6 = true ∧
      t.tb.a = s.tb.a ∧ t.tb.b = s.tb.b ∧ Answered q 0 [] s t ∧ OnlyIn [.regs, .gleno, .tb, .refs] s t) ∧
  (∀ s : State, s.tb.slewing = true → outOffset s = 80 →
    Yields .slewingEnd s fun t => t.tb.slewing = false ∧ outOffset t = 0 ∧ OnlyIn [.tb] s t) ∧
  (∀ s : State, s.tb.slewing = false → Yields .slewingEnd s fun t => t = s) ∧
  (∀ s : State, s.tb.running = true → s.tb.mastOk = true →
    Yields .mastFault s fun t =>
      t.tb.mastOk = false ∧ t.pins.outHeld = true ∧ t.tb.a.traceable = false ∧ t.tb.b.traceable = false ∧
      Stands .mastFault noInst t ∧ t.refs.predValid = false) ∧
  (∀ s : State, s.tb.running = true → s.tb.mastOk = false →
    Yields .mastRecovered s fun t =>
      t.tb = { s.tb with mastOk := true } ∧ ¬ Stands .mastFault noInst t ∧ OnlyIn [.pins, .regs, .obs, .tb] s t) ∧
  (∀ s : State, s.tb.juryOk = true →
    Yields .juryFault s fun t =>
      t.tb.juryOk = false ∧ Stands .juryFault noInst t ∧ (det 202 t).valid = false ∧
      (Tab.get 0 0x20018 t.regs.rc).getLsbD 4 = true ∧ OnlyIn [.pins, .regs, .obs, .tb, .vern, .upd] s t) ∧
  (∀ s : State, s.tb.juryOk = false → s.tb.running = true →
    Yields .juryRecovered s fun t =>
      t.tb.juryOk = true ∧ ¬ Stands .juryFault noInst t ∧ OnlyIn [.pins, .regs, .obs, .tb] s t) ∧
  (∀ (mv : BitVec 16) (s : State), mv.toNat < 600 ∨ 1900 < mv.toNat →
    Yields (.lockmonAlarm mv) s fun t =>
      t.tb = { s.tb with lockmonMv := mv.toNat } ∧ Stands .lockmonMajor noInst t ∧ OnlyIn [.pins, .regs, .obs, .tb, .upd] s t) ∧
  (∀ (mv : BitVec 16) (s : State), 600 ≤ mv.toNat → mv.toNat ≤ 1900 → mv.toNat < s.tb.lockLow →
    Yields (.lockmonAlarm mv) s fun t =>
      t.tb = { s.tb with lockmonMv := mv.toNat } ∧ Stands .lockmonMinor noInst t ∧ OnlyIn [.pins, .regs, .obs, .tb, .upd] s t)

/-- MDLL_RELOCK, MDLL_LOCK_REACHED, MDLL_ACQUIRE_TIMEOUT, MDLL_HOLD_COMPLETE, MDLL_LOCK_LOST, FREQUENCY_CLAMP (R286, R287, R289, R293): the states of
one loop: ACQUIRING to HOLD to LOCKED, three retries before FAILED with its alarm, and back to ACQUIRING from LOCKED with the loss counted; the other
loops are as they were. -/
def Obligations.MdllStates : Prop :=
  (∀ (m : Fin 26) (s : State), (mdll m s).st = .acquiring → s.tb.mastOk = true →
    Yields (.mdllLockReached m) s fun t =>
      mdll m t = { mdll m s with st := .hold } ∧ (∀ n : Nat, n ≠ m → mdll n t = mdll n s) ∧ OnlyIn [.tb] s t) ∧
  (∀ (m : Fin 26) (s : State), (mdll m s).st = .acquiring → s.tb.mastOk = true → (mdll m s).retries < 3 →
    Yields (.mdllAcquireTimeout m) s fun t =>
      mdll m t = { mdll m s with retries := (mdll m s).retries + 1 } ∧ (∀ n : Nat, n ≠ m → mdll n t = mdll n s) ∧ OnlyIn [.tb] s t) ∧
  (∀ (m : Fin 26) (s : State), (mdll m s).st = .acquiring → s.tb.mastOk = true → 3 ≤ (mdll m s).retries →
    Yields (.mdllAcquireTimeout m) s fun t =>
      (mdll m t).st = .failed ∧ Stands .mdllFailed m t ∧ countOf 0x3012 3 t = countOf 0x3012 3 s + 1 ∧
      (∀ n : Nat, n ≠ m → mdll n t = mdll n s) ∧ OnlyIn [.pins, .regs, .obs, .tb, .upd] s t) ∧
  (∀ s : State, (mdll 24 s).st = .hold →
    Yields (.mdllHoldComplete 24) s fun t =>
      (mdll 24 t).st = .locked ∧ (mdll 24 t).source = .mdll ∧ ¬ Stands .mdllFailed 24 t ∧
      (∀ n : Nat, n ≠ 24 → mdll n t = mdll n s) ∧ OnlyIn [.pins, .regs, .obs, .tb] s t) ∧
  (∀ (x : BitVec 12) (s : State), (mdll 24 s).st = .locked →
    Yields (.mdllLockLost 24 x) s fun t =>
      (mdll 24 t).st = .acquiring ∧ (mdll 24 t).freqErr = x.signExtend 16 ∧ Stands .coreMdll 24 t ∧
      countOf 0x3012 1 t = countOf 0x3012 1 s + 1 ∧ OnlyIn [.pins, .regs, .obs, .tb, .vern, .upd] s t) ∧
  (∀ s : State, (mdll 24 s).st = .hold →
    Yields (.frequencyClamp 24) s fun t =>
      (mdll 24 t).st = .acquiring ∧ (Tab.get 0 0x20018 t.regs.rc).getLsbD 3 = true ∧ countOf 0x3012 2 t = countOf 0x3012 2 s + 1 ∧
      OnlyIn [.regs, .obs, .tb] s t) ∧
  (∀ (q : Req) (s : State), admits q .operator s = true → (mdll 24 s).st = .failed →
    Yields (.mdllRelock q 24) s fun t =>
      (mdll 24 t).st = .acquiring ∧ (mdll 24 t).retries = 0 ∧ ¬ Stands .mdllFailed 24 t ∧ Answered q 0 [] s t) ∧
  (∀ (q : Req) (m : BitVec 8) (s : State), admits q .operator s = true → 25 < m.toNat →
    Yields (.mdllRelock q m) s fun t => Answered q 0x0301 [] s t ∧ OnlyIn [.gleno] s t)

/-! ## The vernier array -/

/-- INPUT_BEAT_EDGE, MAST_BEAT_EDGE, HELPER_UNLOCK, HELPER_RESUME (R300 to R303, R309, R310): a sample of a detector that restarts takes its wrapped
phase with SRC_CHANGE and raises SAMPLE_SEQ by one; a source off its range is not valid; each mast beat edge raises the beat number; without the
helper oscillator no sample is taken and none is valid, and its alarm stands until it resumes. -/
def Obligations.DetectorSamples : Prop :=
  (∀ (d : Fin 208) (m : Fin 16384) (s : State), s.vern.helperLocked = true → s.tb.mastOk = true → pulseDet d s = false →
    srcPresent d s = true → (det d s).resume = true → s.vern.trace = none →
    Yields (.inputBeatEdge d m true) s fun t =>
      (det d t).x = m.val * 40 ∧ (det d t).m = m.val ∧ (det d t).seq = (det d s).seq + 1 ∧ (det d t).srcChange = true ∧
      (det d t).valid = true ∧ (∀ e : Nat, e ≠ d → det e t = det e s) ∧ OnlyIn [.regs, .obs, .vern, .refs] s t) ∧
  (∀ (d : Fin 208) (m : Fin 16384) (s : State), s.vern.helperLocked = true → s.tb.mastOk = true → pulseDet d s = false →
    srcPresent d s = true →
    Yields (.inputBeatEdge d m false) s fun t =>
      (det d t).valid = false ∧ (det d t).outRange = true ∧ (det d t).seq = (det d s).seq ∧
      (∀ e : Nat, e ≠ d → det e t = det e s) ∧ OnlyIn [.regs, .obs, .vern] s t) ∧
  (∀ (d : Fin 208) (m : Fin 16384) (b : Bool) (s : State), s.vern.helperLocked = false →
    Yields (.inputBeatEdge d m b) s fun t => t = s) ∧
  (∀ s : State, s.vern.helperLocked = true → s.tb.mastOk = true →
    Yields .mastBeatEdge s fun t =>
      t.vern.beatNumber = s.vern.beatNumber + 1 ∧ t.vern.beatTime = timeA s ∧ t.vern.dets = s.vern.dets ∧ OnlyIn [.vern] s t) ∧
  (∀ s : State, s.vern.helperLocked = true →
    Yields .helperUnlock s fun t =>
      t.vern.helperLocked = false ∧ Stands .helper noInst t ∧ (∀ d : Nat, (det d t).valid = false) ∧
      OnlyIn [.pins, .regs, .obs, .vern, .upd] s t) ∧
  (∀ s : State, s.vern.helperLocked = false → s.tb.running = true → s.tb.mastOk = true →
    Yields .helperResume s fun t =>
      t.vern = { s.vern with helperLocked := true } ∧ ¬ Stands .helper noInst t ∧ OnlyIn [.pins, .regs, .obs, .vern] s t)

/-- PULSE_INPUT_EDGE, DET_TRACE_REQUEST, DET_TRACE_COMPLETE (R305, R322, R327): the first pulse of an input gives its phase slot a time error and is
remembered; a pulse that is not one second after the last is irregular and not used; one trace runs at a time, of detector 0 to 207 and 1 to 4,096
records, and completes when it holds them. -/
def Obligations.PulsesAndTraces : Prop :=
  (∀ (n : Fin 4) (x : Time96) (s : State), cfg 0x3105 (n + 1) s = 2 → s.vern.helperLocked = true → s.tb.mastOk = true →
    (mdll 25 s).st = .locked → (det (192 + n) s).lastPulse = none → s.vern.trace = none →
    Yields (.pulseInputEdge n x) s fun t =>
      (det (192 + n) t).lastPulse = some (lsbOf x : Int) ∧ (slot n t).present = true ∧
      (slot n t).timeErr = -(secOffset (lsbOf x)) ∧ OnlyIn [.regs, .obs, .vern, .refs] s t) ∧
  (∀ (n : Fin 4) (x : Time96) (l : Int) (s : State), cfg 0x3105 (n + 1) s = 2 → s.vern.helperLocked = true → s.tb.mastOk = true →
    (mdll 25 s).st = .locked → (det (192 + n) s).lastPulse = some l → (det (192 + n) s).resume = false →
    65536000000 < ((lsbOf x : Int) - l - (lsbPerSec : Nat)).natAbs →
    Yields (.pulseInputEdge n x) s fun t =>
      det (192 + n) t = { det (192 + n) s with irregular := true } ∧ OnlyIn [.vern] s t) ∧
  (∀ (q : Req) (d n : BitVec 16) (s : State), admits q .operator s = true → d.toNat ≤ 207 → 1 ≤ n.toNat → n.toNat ≤ 4096 →
    s.vern.trace = none →
    Yields (.detTraceRequest q d n) s fun t =>
      t.vern = { s.vern with trace := some ⟨d.toNat, n.toNat, [], false⟩ } ∧ Answered q 0 [] s t ∧ OnlyIn [.gleno, .vern] s t) ∧
  (∀ (q : Req) (d n : BitVec 16) (r : Trace) (s : State), admits q .operator s = true → d.toNat ≤ 207 → 1 ≤ n.toNat → n.toNat ≤ 4096 →
    s.vern.trace = some r → r.done = false →
    Yields (.detTraceRequest q d n) s fun t => Answered q 0x0401 [] s t ∧ OnlyIn [.gleno] s t) ∧
  (∀ (q : Req) (d n : BitVec 16) (s : State), admits q .operator s = true → 207 < d.toNat ∨ n.toNat = 0 ∨ 4096 < n.toNat →
    Yields (.detTraceRequest q d n) s fun t => Answered q 0x0301 [] s t ∧ OnlyIn [.gleno] s t) ∧
  (∀ (r : Trace) (s : State), s.vern.trace = some r → r.want ≤ r.recs.length →
    Yields .detTraceComplete s fun t => t.vern = { s.vern with trace := some { r with done := true } } ∧ OnlyIn [.vern] s t)

/-- EU_ARM, EVENT_EDGE, EU_TIMEOUT_EXPIRY, EU_WINDOW_END, EU_RESULT_POP (R312 to R316, R321): an armed unit of mode 1 takes its start edge and its
next stop edge, and queues their interval as VALID; a timeout queues a record without a stop; a window without a stop edge queues a record of interval
0; a pop takes the oldest record. -/
def Obligations.EventUnits : Prop :=
  (∀ (q : Req) (u : Fin 4) (s : State), admits q .operator s = true → (eu u s).calRunning = false →
    Yields (.euArm q u) s fun t =>
      (eu u t).armed = true ∧ (eu u t).start = none ∧ (eu u t).queue = (eu u s).queue ∧ Answered q 0 [] s t ∧
      (∀ v : Nat, v ≠ u → eu v t = eu v s) ∧ OnlyIn [.gleno, .vern] s t) ∧
  (∀ (q : Req) (u : Fin 4) (s : State), admits q .operator s = true → (eu u s).calRunning = true →
    Yields (.euArm q u) s fun t => Answered q 0x0401 [] s t ∧ OnlyIn [.gleno] s t) ∧
  (∀ (u : Fin 4) (x : Int) (y : Time96) (s : State), (mdll 25 s).st = .locked → (eu u s).armed = true → (eu u s).calRunning = false →
    euMode u s = 1 → (eu u s).start = none → (eu u s).heldStop = none → (eu u s).blindStart = none → (eu u s).readyAt = none →
    Yields (.eventEdge u false x y) s fun t =>
      (eu u t).start = some x ∧ (eu u t).startTime = y ∧ (eu u t).queue = (eu u s).queue ∧ OnlyIn [.vern] s t) ∧
  (∀ (u : Fin 4) (x x0 : Int) (y : Time96) (s : State), (mdll 25 s).st = .locked → (eu u s).armed = true → (eu u s).calRunning = false →
    euMode u s = 1 → (eu u s).start = some x0 → x0 + 40000000 ≤ x → (eu u s).blindStop = none → (eu u s).queue = [] →
    (eu u s).calValid = true → (eu u s).epochSeen = (domOf (euDomain u s) s).epoch →
    Yields (.eventEdge u true x y) s fun t =>
      (eu u t).queue = [⟨x - x0, (eu u s).startTime, (eu u s).seq, 1, (domOf (euDomain u s) s).epoch <<< 4⟩] ∧
      (eu u t).seq = (eu u s).seq + 1 ∧ (eu u t).start = none ∧ OnlyIn [.vern] s t) ∧
  (∀ (u : Fin 4) (x : Int) (st : Bool) (y : Time96) (s : State), (eu u s).armed = false →
    Yields (.eventEdge u st x y) s fun t => t = s) ∧
  (∀ (u : Fin 4) (x0 : Int) (s : State), (eu u s).armed = true → euMode u s = 1 → (eu u s).start = some x0 →
    (eu u s).queue.length < 64 →
    Yields (.euTimeoutExpiry u) s fun t =>
      (eu u t).queue.length = (eu u s).queue.length + 1 ∧ (eu u t).start = none ∧
      countOf 0x3113 5 t = countOf 0x3113 5 s + 1 ∧ OnlyIn [.regs, .obs, .vern] s t) ∧
  (∀ (u : Fin 4) (x0 : Int) (s : State), (eu u s).armed = true → euMode u s = 2 → (eu u s).start = some x0 → (eu u s).stops = [] →
    (eu u s).queue = [] →
    Yields (.euWindowEnd u) s fun t =>
      ((eu u t).queue.map (fun r => r.interval)) = [0] ∧ (eu u t).readyAt = some (x0 + euWindow u s + 40000000) ∧
      OnlyIn [.vern] s t) ∧
  (∀ (u : Fin 4) (s : State), Yields (.euResultPop u) s fun t =>
    (eu u t).popped = (eu u s).queue.head? ∧ (eu u t).queue = (eu u s).queue.drop 1 ∧
    (∀ v : Nat, v ≠ u → eu v t = eu v s) ∧ OnlyIn [.vern] s t)

/-! ## References, servo and outputs -/

/-- SELECTION_EVALUATION, SWITCH_COMPLETE, QUALIFY_TIMER, SLOT_HOLDOFF_EXPIRY, WAIT_TO_RESTORE_EXPIRY (R329, R333 to R336, R339, R348, R350): an
evaluation renews the prediction from the mean steer and lets a FREE frequency path acquire the one qualified slot; a completed switch takes the new
slot with a build-out that keeps the loop error; the timers move a qualification to QUALIFIED or FAILED. -/
def Obligations.SlotSelection : Prop :=
  (∀ (drift : Int) (s : State), servoRuns s = true →
    Yields (.selectionEvaluation [] drift) s fun t => t.refs.predict = mean s.refs.freq.hist + drift) ∧
  (∀ (drift : Int) (s : State), servoRuns s = false → Yields (.selectionEvaluation [] drift) s fun t => t = s) ∧
  (∀ (drift : Int) (s : State), servoRuns s = true → s.refs.slots = [(0, { Slot.reset with freq := ⟨.qualified, 0⟩ })] →
    s.refs.freq = Path.reset → s.refs.timeA = Path.reset → s.refs.timeB = Path.reset → (det 192 s).valid = true →
    (det 192 s).freqValid = false → s.pair.role = .unpaired → cfg 0x3216 1 s = 255 → cfgB 0x3217 1 s = false →
    Yields (.selectionEvaluation [] drift) s fun t => t.refs.freq.st = .acquiring ∧ t.refs.freq.slot = some 0) ∧
  (∀ (x y : Int) (k : Nat) (s : State), s.refs.freq.switching = some k → s.refs.freq.bridging = false → s.refs.freq.fromHold = false →
    Yields (.switchComplete x y) s fun t =>
      t.refs.freq.slot = some k ∧ t.refs.freq.switching = none ∧ t.refs.freq.buildOut = y - (x - s.refs.freq.buildOut) ∧
      countOf 0x3225 1 t = countOf 0x3225 1 s + 1 ∧ OnlyIn [.regs, .obs, .refs, .wire] s t) ∧
  (∀ (k : Fin 16) (b : Bool) (s : State), (qualif k b s).st = .qualifying → servoRuns s = true →
    Yields (.qualifyTimer k b) s fun t =>
      qualif k b t = ⟨.qualified, 0⟩ ∧ qualif k (!b) t = qualif k (!b) s ∧ (∀ j : Nat, j ≠ k → slot j t = slot j s) ∧
      OnlyIn [.refs] s t) ∧
  (∀ (k : Fin 16) (b : Bool) (s : State), (qualif k b s).st = .holdOff → servoRuns s = true →
    Yields (.slotHoldoffExpiry k b) s fun t =>
      qualif k b t = ⟨.failed, (qualif k b s).reason⟩ ∧ (∀ j : Nat, j ≠ k → slot j t = slot j s) ∧ OnlyIn [.refs] s t) ∧
  (∀ (k : Fin 16) (b : Bool) (s : State), (qualif k b s).st = .waitRestore → servoRuns s = true →
    Yields (.waitToRestoreExpiry k b) s fun t =>
      qualif k b t = ⟨.qualified, 0⟩ ∧ (∀ j : Nat, j ≠ k → slot j t = slot j s) ∧ OnlyIn [.refs] s t)

/-- PATH_LOCKED, ACQUISITION_TIMEOUT, PATH_LOCK_LOSS, HOLDOVER_BOUND_UPDATE, HOLDOVER_READY, STEER_WATCHDOG (R336, R344, R346, R348, R349, R424):
ACQUIRING ends in LOCKED, which makes a time path's domain TRACEABLE, or after 600 s in HOLDOVER or FREE; a lost lock acquires again with its alarm;
the bound of holdover grows by its formula and a path beyond HOLDOVER_LIMIT is LOST; the steer watchdog returns the oven from the host. -/
def Obligations.PathStates : Prop :=
  (∀ (n : Fin 3) (s : State), (path n s).st = .acquiring → (path n s).switching = none → servoRuns s = true →
    Yields (.pathLocked n) s fun t => (path n t).st = .locked ∧ (path n t).slot = (path n s).slot ∧ ¬ Stands .holdoverLost n t) ∧
  (∀ s : State, s.refs.timeA.st = .acquiring → s.refs.timeA.switching = none → servoRuns s = true → s.pair.role = .unpaired →
    Yields (.pathLocked 1) s fun t => t.tb.a.traceable = true) ∧
  (∀ (n : Fin 3) (s : State), (path n s).st = .acquiring → (path n s).slot = none → servoRuns s = true → readyFor n s = true →
    Yields (.acquisitionTimeout n) s fun t => (path n t).st = .holdover ∧ countOf 0x3225 2 t = countOf 0x3225 2 s + 1) ∧
  (∀ (n : Fin 3) (s : State), (path n s).st = .acquiring → (path n s).slot = none → servoRuns s = true → readyFor n s = false →
    Yields (.acquisitionTimeout n) s fun t => (path n t).st = .free) ∧
  (∀ (n : Fin 3) (s : State), (path n s).st = .locked → servoRuns s = true →
    Yields (.pathLockLoss n) s fun t =>
      (path n t).st = .acquiring ∧ (path n t).slot = (path n s).slot ∧ Stands .lockLoss n t ∧
      OnlyIn [.pins, .regs, .obs, .refs, .upd, .wire] s t) ∧
  (∀ (b0 uy ud uk sumT : Nat) (s : State), servoRuns s = true → s.refs.freq.st = .holdover → s.refs.timeA.st = .free →
    s.refs.timeB.st = .free →
    b0 + uy * (s.refs.freq.holdSec + 1) / 1000 + ud * (s.refs.freq.holdSec + 1) * (s.refs.freq.holdSec + 1) / 2000000 + uk * sumT / 1000000
      ≤ cfg 0x3218 0 s * 1000 →
    Yields (.holdoverBoundUpdate b0 uy ud uk sumT) s fun t =>
      t.refs.freq.st = .holdover ∧ t.refs.freq.holdSec = s.refs.freq.holdSec + 1 ∧
      t.refs.freq.bound = b0 + uy * (s.refs.freq.holdSec + 1) / 1000 +
        ud * (s.refs.freq.holdSec + 1) * (s.refs.freq.holdSec + 1) / 2000000 + uk * sumT / 1000000) ∧
  (∀ (b0 : Nat) (s : State), servoRuns s = true → s.refs.freq.st = .holdover → s.refs.timeA.st = .free → s.refs.timeB.st = .free →
    cfg 0x3218 0 s * 1000 < b0 →
    Yields (.holdoverBoundUpdate b0 0 0 0 0) s fun t =>
      t.refs.freq.st = .lost ∧ Stands .holdoverLost 0 t ∧ countOf 0x3225 3 t = countOf 0x3225 3 s + 1) ∧
  (∀ s : State, s.refs.freq.st = .locked →
    Yields .holdoverReady s fun t => t.refs = { s.refs with ready := true, predValid := true } ∧ OnlyIn [.refs] s t) ∧
  (∀ s : State, cfg 0x3211 0 s = 1 → s.life.state = .running → s.refs.ready = false →
    Yields .steerWatchdog s fun t =>
      cfg 0x3211 0 t = 0 ∧ t.refs.freq.st = .free ∧ Stands .steerWatchdog noInst t ∧ countOf 0x3225 5 t = countOf 0x3225 5 s + 1)

/-- ESMC_PDU_RECEIVED, ESMC_QL_TIMEOUT, ESMC_INFO_SEND (R330 to R332): a PDU with SSM code 0x2 and no extended TLV gives its slot QL number 4, any
code of no row of the table gives QL-DNU; without a PDU the slot has none; one information PDU leaves on each enabled channel that is up.
OUTPUT_CONFIG_EFFECT, OUTPUT_PULSE_EDGE (R29, R284, R351 to R353): a waiting configuration takes the committed settings; a pulse leaves at the
presented time plus its phase and correction; a squelched output gives no pulse, and one that comes too soon is omitted. -/
def Obligations.EsmcAndOutputs : Prop :=
  (∀ (c : Chan) (k : Nat) (s : State), esmcOn c s = true → (cod c s).stage = 6 → slotsOf c s = [k] →
    Yields (.esmcPduReceived c 2 none) s fun t => (slot k t).ql = 4 ∧ (slot k t).extTlv = false) ∧
  (∀ (c : Chan) (k : Nat) (s : State), esmcOn c s = true → (cod c s).stage = 6 → slotsOf c s = [k] →
    Yields (.esmcPduReceived c 1 none) s fun t => (slot k t).ql = 15 ∧ countOf 0x3225 6 t = countOf 0x3225 6 s + 1) ∧
  (∀ (c : Chan) (k : Nat) (s : State), esmcOn c s = true → slotsOf c s = [k] →
    Yields (.esmcQlTimeout c) s fun t => (slot k t).ql = 0 ∧ countOf 0x3225 6 t = countOf 0x3225 6 s + 1) ∧
  (∀ (c : Chan) (s : State), esmcOn c s = false → Yields (.esmcQlTimeout c) s fun t => t = s) ∧
  (∀ s : State, servoRuns s = true →
    Yields .esmcInfoSend s fun t =>
      t.wire.length = s.wire.length + ((List.range 192).filter (fun c => esmcOn c s && (cod c s).stage == 6)).length ∧
      OnlyIn [.refs, .wire] s t) ∧
  (∀ (n : Fin 4) (s : State), (outp n s).waiting = true → (mdll 25 s).st = .locked → s.tb.configured = true →
    Yields (.outputConfigEffect n) s fun t =>
      (outp n t).mode = cfg 0x321C (n + 1) s ∧ (outp n t).period = cfg 0x321E (n + 1) s ∧ (outp n t).width = cfg 0x321F (n + 1) s ∧
      (outp n t).phase = cfgI 8 0x3220 (n + 1) s ∧ (outp n t).waiting = false ∧ (∀ m : Nat, m ≠ n → outp m t = outp m s) ∧
      OnlyIn [.vern, .refs] s t) ∧
  (∀ (n : Fin 4) (s : State), (outp n s).waiting = false → Yields (.outputConfigEffect n) s fun t => t = s) ∧
  (∀ (n : Fin 4) (x : Int) (s : State), squelched n s = false → (outp n s).mode = 1 → (outp n s).lastEdge = none →
    s.vern.helperLocked = false → cfg 0x3222 (n + 1) s = 0 →
    Yields (.outputPulseEdge n x) s fun t =>
      Emitted [⟨.pulse, n, [s.tb.p + (outp n s).phase + (outp n s).corr]⟩] s t ∧ (outp n t).lastEdge = some s.tb.p ∧
      (∀ m : Nat, m ≠ n → outp m t = outp m s) ∧ OnlyIn [.refs, .wire] s t) ∧
  (∀ (n : Fin 4) (x l : Int) (s : State), squelched n s = false → (outp n s).mode = 1 → (outp n s).lastEdge = some l →
    s.tb.p - l < (outPeriod (outp n s) * 32768 : Nat) →
    Yields (.outputPulseEdge n x) s fun t =>
      (outp n t).omitted = true ∧ t.wire = s.wire ∧ OnlyIn [.refs] s t) ∧
  (∀ (n : Fin 4) (x : Int) (s : State), squelched n s = true → Yields (.outputPulseEdge n x) s fun t => t = s)

/-! ## Halyard and telecom PTP -/

/-- SYNC_SEND, ANNOUNCE_SEND, DELAY_REQ_SEND, SKEW_SEND, L1_SYNC_SEND (R364, R367 to R371, R373, R375, R381): a MASTER port sends one message with the
next sequenceId, a one-step Sync with its stamp in it, a two-step one with its stamp in the tile's queue; the slave's Delay_Req joins the exchanges;
the other ports are as they were. -/
def Obligations.PtpSends : Prop :=
  (∀ (c : Chan) (i : PtpInst) (id : BitVec 16) (x : Time96) (b : Bool) (s : State), (port c (instNo i) s).st = .master →
    cfgB 0x3306 (instNo i + 1) s = true →
    Yields (.syncSend c i id x b) s fun t =>
      Emitted [⟨.sync, c, [instNo i, (seqOf c (instNo i) 0 s).toNat, (domOf (instDom (instNo i) s) s).epoch.toNat % 16,
        if txCoarse c s then 1 else 0, sentKey (instNo i) s, 1, lsbOf x]⟩] s t ∧
      seqOf c (instNo i) 0 t = seqOf c (instNo i) 0 s + 1 ∧ countOf 0x331B 1 t = countOf 0x331B 1 s + 1 ∧
      OnlyIn [.regs, .obs, .ptp, .wire] s t) ∧
  (∀ (c : Chan) (i : PtpInst) (id : BitVec 16) (x : Time96) (s : State), (port c (instNo i) s).st = .master →
    cfgB 0x3306 (instNo i + 1) s = false → (tsu (tileOf c) s).queue.length < 32 →
    Yields (.syncSend c i id x false) s fun t =>
      (tsu (tileOf c) t).queue = (tsu (tileOf c) s).queue ++ [⟨id, c, stampFlags (txRef c s) (instNo i) (txCoarse c s) s, x⟩] ∧
      (tsu (tileOf c) t).stamps = (tsu (tileOf c) s).stamps + 1 ∧ t.wire.length = s.wire.length + 1 ∧
      OnlyIn [.regs, .obs, .ptp, .wire] s t) ∧
  (∀ (c : Chan) (i : PtpInst) (id : BitVec 16) (x : Time96) (b : Bool) (s : State), (port c (instNo i) s).st ≠ .master →
    Yields (.syncSend c i id x b) s fun t => t = s) ∧
  (∀ (c : Chan) (i : PtpInst) (s : State), (port c (instNo i) s).st = .master →
    Yields (.announceSend c i) s fun t =>
      t.wire.length = s.wire.length + 1 ∧ seqOf c (instNo i) 11 t = seqOf c (instNo i) 11 s + 1 ∧ OnlyIn [.ptp, .wire] s t) ∧
  (∀ (c : Chan) (i : PtpInst) (id : BitVec 16) (x : Time96) (s : State), peerDelay (instNo i) s = false →
    measures (port c (instNo i) s) = true → (port c (instNo i) s).ex.t2.isSome = true → (port c (instNo i) s).reqs = [] →
    Yields (.delayReqSend c i id x false) s fun t =>
      (port c (instNo i) t).reqs.map (fun e => (e.reqSeq, e.id, e.t3)) = [(seqOf c (instNo i) 1 s, id, none)] ∧
      seqOf c (instNo i) 1 t = seqOf c (instNo i) 1 s + 1 ∧ t.wire.length = s.wire.length + 1 ∧ OnlyIn [.regs, .ptp, .wire] s t) ∧
  (∀ (c : Chan) (s : State), portTakes (port c 0 s) = true →
    Yields (.skewSend c) s fun t =>
      t.wire.length = s.wire.length + 1 ∧ seqOf c 0 12 t = seqOf c 0 12 s + 1 ∧ OnlyIn [.ptp, .wire] s t) ∧
  (∀ (c : Chan) (s : State), portTakes (port c 0 s) = true → s.refs.freq.slot = none →
    Yields (.l1SyncSend c) s fun t =>
      Emitted [⟨.signaling, c, [0, (seqOf c 0 12 s).toNat, (domOf (instDom 0 s) s).epoch.toNat % 16,
        if txCoarse c s then 1 else 0, sentKey 0 s, 4, 3]⟩] s t ∧ OnlyIn [.ptp, .wire] s t)

/-- SYNC_RECEIVED, FOLLOW_UP_RECEIVED, DELAY_REQ_RECEIVED, DELAY_RESP_RECEIVED (R364, R371, R377, R378): an accepted Sync gives the exchange its t1
and t2 and is counted, its Follow_Up gives t1, a MASTER port answers a Delay_Req with t4; a response without a t3 voids the exchange; a unicast
message is counted and does nothing. -/
def Obligations.PtpExchange : Prop :=
  (∀ (c : Chan) (i : PtpInst) (h : PtpHdr) (x y : Time96) (s : State), (port c (instNo i) s).st = .uncalibrated →
    refuseMsg c (instNo i) 0 h s = 0 → (port c (instNo i) s).ex = Exchange.none → (port c (instNo i) s).reqs = [] →
    peerDelay (instNo i) s = false →
    Yields (.syncReceived c i h false x y) s fun t =>
      (port c (instNo i) t).ex.t1 = some ((lsbOf x : Int) + h.corr) ∧ (port c (instNo i) t).ex.t2 = some (lsbOf y : Int) ∧
      (port c (instNo i) t).ex.syncSeq = h.seq ∧ countOf 0x331B 2 t = countOf 0x331B 2 s + 1 ∧ t.draws = s.draws + 1 ∧
      OnlyIn [.regs, .obs, .ptp, .draws] s t) ∧
  (∀ (c : Chan) (i : PtpInst) (h : PtpHdr) (two : Bool) (x y : Time96) (s : State), (port c (instNo i) s).st = .slave →
    h.unicast = true →
    Yields (.syncReceived c i h two x y) s fun t =>
      port c (instNo i) t = port c (instNo i) s ∧ countOf 0x331B 6 t = countOf 0x331B 6 s + 1 ∧ OnlyIn [.regs, .obs, .ptp] s t) ∧
  (∀ (c : Chan) (i : PtpInst) (h : PtpHdr) (n : BitVec 16) (x : Time96) (s : State), (port c (instNo i) s).st = .uncalibrated →
    refuseMsg c (instNo i) 8 h s = 0 → (port c (instNo i) s).ex.t2.isSome = true → (port c (instNo i) s).ex.t1 = none →
    (port c (instNo i) s).ex.syncSeq = n → (port c (instNo i) s).reqs = [] → peerDelay (instNo i) s = false →
    Yields (.followUpReceived c i h n x) s fun t =>
      (port c (instNo i) t).ex.t1 = some ((lsbOf x : Int) + h.corr) ∧ OnlyIn [.ptp] s t) ∧
  (∀ (c : Chan) (i : PtpInst) (h : PtpHdr) (x : Time96) (s : State), (port c (instNo i) s).st = .master →
    refuseMsg c (instNo i) 1 h s = 0 →
    Yields (.delayReqReceived c i h x) s fun t =>
      Emitted [⟨.delayResp, c, [instNo i, (seqOf c (instNo i) 9 s).toNat, (domOf (instDom (instNo i) s) s).epoch.toNat % 16,
        if rxCoarse c s then 1 else 0, sentKey (instNo i) s, h.seq.toNat, lsbOf x]⟩] s t ∧ OnlyIn [.ptp, .wire] s t) ∧
  (∀ (c : Chan) (i : PtpInst) (h : PtpHdr) (n : BitVec 16) (x : Time96) (e : Exchange) (s : State),
    (port c (instNo i) s).st = .uncalibrated → refuseMsg c (instNo i) 9 h s = 0 → (port c (instNo i) s).reqs = [e] → e.reqSeq = n →
    e.t4 = none → e.t3 = none →
    Yields (.delayRespReceived c i h n x) s fun t =>
      (port c (instNo i) t).reqs = [] ∧ countOf 0x331B 4 t = countOf 0x331B 4 s + 1 ∧ OnlyIn [.regs, .obs, .ptp] s t) ∧
  (∀ (c : Chan) (i : PtpInst) (h : PtpHdr) (n : BitVec 16) (x : Time96) (e : Exchange) (s : State),
    (port c (instNo i) s).st = .uncalibrated → refuseMsg c (instNo i) 9 h s = 0 → (port c (instNo i) s).reqs = [e] → e.reqSeq = n →
    e.t4 = none → e.t3.isSome = true → e.t1.isSome = true → e.bad = false → h.coarse = false → allSame e.own = true →
    allSame (h.epoch :: e.peer) = true → e.lanes = lanesNow c s → e.reqAt = s.now → (port c (instNo i) s).mpdN = 0 →
    Yields (.delayRespReceived c i h n x) s fun t =>
      (port c (instNo i) t).reqs = [] ∧ (port c (instNo i) t).mpdN = 1 ∧ countOf 0x331B 3 t = countOf 0x331B 3 s + 1)

/-- PDELAY_REQ_RECEIVED, PDELAY_RESP_RECEIVED, PDELAY_RESP_FOLLOW_UP_RECEIVED (R371, R377, R378): under peer delay a one-step port answers with the
turnaround; the response, or its Follow_Up, gives the delay that enters the filter. -/
def Obligations.PeerDelay : Prop :=
  (∀ (c : Chan) (h : PtpHdr) (id : BitVec 16) (x y : Time96) (b : Bool) (s : State), (port c 0 s).st = .slave →
    refuseMsg c 0 2 h s = 0 → peerDelay 0 s = true → cfgB 0x3306 1 s = true →
    Yields (.pdelayReqReceived c h id x y b) s fun t =>
      Emitted [⟨.pdelayResp, c, [0, (seqOf c 0 3 s).toNat, (domOf (instDom 0 s) s).epoch.toNat % 16,
        if rxCoarse c s then 1 else 0, sentKey 0 s, h.seq.toNat, 1, (lsbOf y : Int) - lsbOf x]⟩] s t ∧ OnlyIn [.ptp, .wire] s t) ∧
  (∀ (c : Chan) (h : PtpHdr) (n : BitVec 16) (x y : Time96) (e : Exchange) (z : Int) (s : State), (port c 0 s).st = .slave →
    refuseMsg c 0 3 h s = 0 → peerDelay 0 s = true → (port c 0 s).pd = e → e.reqSeq = n → e.t1 = some z → e.bad = false →
    h.coarse = false → rxCoarse c s = false → e.own = [BitVec.ofNat 4 (domOf (instDom 0 s) s).epoch.toNat] → e.lanes = lanesNow c s →
    (port c 0 s).mpdN = 0 →
    Yields (.pdelayRespReceived c h n false x y) s fun t =>
      (port c 0 t).mpd = (((lsbOf y : Int) - z) - h.corr) / 2 * 65536 ∧ (port c 0 t).mpdN = 1 ∧ (port c 0 t).pd = Exchange.none ∧
      OnlyIn [.ptp] s t) ∧
  (∀ (c : Chan) (h : PtpHdr) (n : BitVec 16) (x : Time96) (e : Exchange) (z w v : Int) (s : State), (port c 0 s).st = .slave →
    refuseMsg c 0 10 h s = 0 → (port c 0 s).pd = e → e.reqSeq = n → e.t1 = some z → e.t2 = some w → e.t4 = some v → e.bad = false →
    allSame e.own = true → e.peer = [h.epoch] → e.lanes = lanesNow c s → (port c 0 s).mpdN = 0 →
    Yields (.pdelayRespFollowUpReceived c h n x) s fun t =>
      (port c 0 t).mpd = ((v - z) - ((lsbOf x : Int) + h.corr - w)) / 2 * 65536 ∧ (port c 0 t).mpdN = 1 ∧ OnlyIn [.ptp] s t)

/-- ANNOUNCE_RECEIVED, ANNOUNCE_TIMEOUT, SIGNALING_RECEIVED, HOLD_EXPIRY (R372 to R376, R380): an accepted Announce counts one more interval of
receipt and its content is held; its timeout ends the receipt; Signaling gives L1_SYNC flags, the peer's hold and the answer to a hold request, which
level 4 refuses with reason 4; a hold ends. -/
def Obligations.AnnounceAndSignaling : Prop :=
  (∀ (c : Chan) (i : PtpInst) (h : PtpHdr) (a : Announce) (s : State), (port c (instNo i) s).st = .listening →
    refuseMsg c (instNo i) 11 h s = 0 → a.hello = none →
    Yields (.announceReceived c i h a) s fun t =>
      (port c (instNo i) t).annRun = (port c (instNo i) s).annRun + 1 ∧ (port c (instNo i) t).ann = some a ∧
      (port c (instNo i) t).peerId = h.src ∧
      (port c (instNo i) t).annOk = decide (cfg 0x3305 (instNo i + 1) s ≤ (port c (instNo i) s).annRun + 1)) ∧
  (∀ (c : Chan) (i : PtpInst) (s : State), (port c (instNo i) s).st = .slave →
    Yields (.announceTimeout c i) s fun t => (port c (instNo i) t).annRun = 0 ∧ (port c (instNo i) t).annOk = false) ∧
  (∀ (c : Chan) (h : PtpHdr) (f : BitVec 16) (s : State), (port c 0 s).st = .slave → refuseMsg c 0 12 h s = 0 →
    Yields (.signalingReceived c h (.l1sync f)) s fun t => (port c 0 t).l1sync = f ∧ OnlyIn [.ptp] s t) ∧
  (∀ (c : Chan) (h : PtpHdr) (ms : Nat) (s : State), (port c 0 s).st = .slave → refuseMsg c 0 12 h s = 0 →
    Yields (.signalingReceived c h (.holdAns ms 0)) s fun t => (port c 0 t).holdIn = ms ∧ OnlyIn [.ptp] s t) ∧
  (∀ (c : Chan) (h : PtpHdr) (ms : Nat) (s : State), (port c 0 s).st = .slave → refuseMsg c 0 12 h s = 0 → 0 < ms → ms ≤ 10000 →
    s.power.level = 4 →
    Yields (.signalingReceived c h (.holdReq ms)) s fun t =>
      (port c 0 t).holdOut = 0 ∧ Emitted [⟨.signaling, c, [0, (seqOf c 0 12 s).toNat, (domOf (instDom 0 s) s).epoch.toNat % 16,
        if txCoarse c s then 1 else 0, sentKey 0 s, 3, 0, 4]⟩] s t ∧ OnlyIn [.ptp, .wire] s t) ∧
  (∀ (c : Chan) (s : State), Yields (.holdExpiry c true) s fun t =>
    port c 0 t = { port c 0 s with holdOut := 0 } ∧ OnlyIn [.ptp] s t) ∧
  (∀ (c : Chan) (s : State), Yields (.holdExpiry c false) s fun t =>
    port c 0 t = { port c 0 s with holdIn := 0 } ∧ OnlyIn [.ptp] s t)

/-- TXQ_STALE, TX_STAMP_MISSING, TXQ_FLUSH, TOD_MESSAGE (R355, R370): the oldest stamp leaves a stale queue and is counted, a missing stamp is
counted, a flush empties the queue; a TOD message of 24 bytes leaves while the pair is not idle, and its sequence rises. -/
def Obligations.StampQueuesAndTod : Prop :=
  (∀ (n : Tile) (s : State), (tsu n s).queue ≠ [] →
    Yields (.txqStale n) s fun t =>
      (tsu n t).queue = (tsu n s).queue.drop 1 ∧ (tsu n t).stales = (tsu n s).stales + 1 ∧
      (Tab.get 0 (tsuAddr n 0x18) t.regs.rc).getLsbD 3 = true ∧ (∀ m : Nat, m ≠ n → tsu m t = tsu m s) ∧ OnlyIn [.regs, .ptp] s t) ∧
  (∀ (c : Chan) (i : PtpInst) (id : BitVec 16) (s : State), hasStamp (tileOf c) id s = false → (port c (instNo i) s).reqs = [] →
    (port c (instNo i) s).pd = Exchange.none →
    Yields (.txStampMissing c i id) s fun t =>
      countOf 0x331B 5 t = countOf 0x331B 5 s + 1 ∧ countOf 0x331B 4 t = countOf 0x331B 4 s ∧ OnlyIn [.regs, .obs, .ptp] s t) ∧
  (∀ (c : Chan) (i : PtpInst) (id : BitVec 16) (s : State), hasStamp (tileOf c) id s = true →
    Yields (.txStampMissing c i id) s fun t => t = s) ∧
  (∀ (n : Tile) (s : State), Yields (.txqFlush n) s fun t =>
    tsu n t = { tsu n s with queue := [] } ∧ (∀ m : Nat, m ≠ n → tsu m t = tsu m s) ∧ OnlyIn [.ptp] s t) ∧
  (∀ s : State, todIdle s = false →
    Yields .todMessage s fun t =>
      Emitted [⟨.tod, 0, (todBytes s).map (fun b => (b.toNat : Int))⟩] s t ∧ t.refs = { s.refs with todSeq := s.refs.todSeq + 1, todMark := false } ∧
      (todBytes s).length = 24 ∧ OnlyIn [.refs, .wire] s t) ∧
  (∀ s : State, todIdle s = true → Yields .todMessage s fun t => t = s)

/-! ## Calibration in service and ageing -/

/-- CAL_EVALUATION, ASYM_SET_DUE, ASYM_MEASURE, EU_CALIBRATE, CAL_RUN, CAL_OVERDUE (R68, R319, R383, R399, R403, R404, R406, R425): an evaluation
starts the due run of an event unit under its grant of three units, and defers one that lacks a precondition with its reason; a host starts a run in
the same way, or is answered 0x0817, 0x0816 or 0x0301; an overdue run raises its alarm. -/
def Obligations.CalibrationRuns : Prop :=
  (∀ (u : Fin 4) (s : State), calActive s = true → s.life.state = .running → s.power.level = 0 → s.cal.runs = [] → s.cal.lastOk = [] →
    dueRuns s = [(1, u.val)] → calEnabled 1 s = true → calFails 1 u s = 0 → fits .background 3 s = true →
    Yields (.calEvaluation 0 []) s fun t =>
      t.cal.runs.map (fun r => (r.kind, r.inst)) = [(1, u.val)] ∧ (unit u t).calRunning = true ∧
      unitsOf cCal (calKey 1 u) t = 3 ∧ countOf 0x130D 1 t = countOf 0x130D 1 s + 1 ∧ OnlyIn [.power, .regs, .obs, .vern, .cal] s t) ∧
  (∀ (u : Fin 4) (s : State), calActive s = true → s.life.state = .running → s.power.level = 0 → s.cal.runs = [] → s.cal.lastOk = [] →
    dueRuns s = [(1, u.val)] → calEnabled 1 s = true → calFails 1 u s = 7 → s.cal.deferred = [] →
    Yields (.calEvaluation 0 []) s fun t =>
      t.cal.runs = [] ∧ t.cal.deferred = [(calKey 1 u, 7)] ∧ t.power = s.power) ∧
  (∀ (p : Fin 10) (w : List (Fin 4)) (s : State), calActive s = false → Yields (.calEvaluation p w) s fun t => t = s) ∧
  (∀ (c : Chan) (s : State), (cod c s).stage = 6 → shroudLink c s = none → s.cal.due = [] → s.cal.dueSince = [] →
    Yields (.asymSetDue c) s fun t =>
      t.cal.due = [⟨2, c, s.now⟩] ∧ t.cal.dueSince = [(calKey 2 c, s.now + 1)] ∧ OnlyIn [.cal] s t) ∧
  (∀ (q : Req) (c : Chan) (s : State), admits q .operator s = true → s.life.state = .running → fullWidth c s = false →
    Yields (.asymMeasure q c) s fun t => Answered q 0x0816 [] s t ∧ OnlyIn [.gleno] s t) ∧
  (∀ (q : Req) (c : Chan) (s : State), admits q .operator s = true → s.life.state = .running → fullWidth c s = true → shroudLink c s = none →
    txCoarse c s = false → s.vern.helperLocked = true → s.tb.mastOk = true → (mdll 25 s).st = .locked → looped c s = false →
    s.power.level = 0 → s.cal.due = [] →
    Yields (.asymMeasure q c) s fun t => t.cal.due = [⟨2, c, s.now⟩] ∧ t.wire.length = s.wire.length + 1 ∧ Answered q 0 [] s t) ∧
  (∀ (q : Req) (u : Fin 4) (s : State), admits q .operator s = true → s.life.state = .running → (unit u s).armed = false →
    (unit u s).calRunning = false → calEnabled 1 s = true → calFails 1 u s = 0 → calBusy 1 s = false → calActive s = true →
    s.power.level = 0 → fits .background 3 s = true →
    Yields (.euCalibrate q u) s fun t =>
      (unit u t).calRunning = true ∧ unitsOf cCal (calKey 1 u) t = 3 ∧ Answered q 0 [] s t) ∧
  (∀ (q : Req) (u : Fin 4) (s : State), admits q .operator s = true → (unit u s).armed = true →
    Yields (.euCalibrate q u) s fun t => Answered q 0x0401 [] s t ∧ OnlyIn [.gleno] s t) ∧
  (∀ (q : Req) (u : Fin 4) (s : State), admits q .operator s = true → s.life.state = .running → calEnabled 1 s = true → s.cal.runs = [] →
    calFails 1 u s = 0 → calActive s = true → s.power.level = 0 → fits .background 3 s = true →
    Yields (.calRun q 1 (BitVec.ofNat 16 u)) s fun t =>
      t.cal.runs.map (fun r => (r.kind, r.inst)) = [(1, u.val)] ∧ unitsOf cCal (calKey 1 u) t = 3 ∧ Answered q 0 [] s t) ∧
  (∀ (q : Req) (n : BitVec 16) (s : State), admits q .operator s = true →
    Yields (.calRun q 2 n) s fun t => Answered q 0x0301 [] s t ∧ OnlyIn [.gleno] s t) ∧
  (∀ (k n : Nat) (s : State), (Tab.find (calKey k n) s.cal.dueSince).isSome = true → standing .calOverdue (calKey k n) s = false →
    Yields (.calOverdue k n) s fun t =>
      Stands .calOverdue (calKey k n) t ∧ countOf 0x340F 7 t = countOf 0x340F 7 s + 1 ∧ OnlyIn [.pins, .regs, .obs, .upd] s t)

/-- CAL_RUN_COMPLETE, CAL_SLEW_TICK, RECORD_WRITE (R318, R404, R407, R411, R417, R419, R585): an accepted table of an event unit is valid and its
record waits, a run that was preempted is discarded with reason 0x24; a slew moves by at most its step a tick; a record goes to the other bank with
its sequence raised by one, and after two failed readbacks waits on with its alarm; an image on probation that cannot read the format of the reserve
writes none. -/
def Obligations.CalibrationOutcomes : Prop :=
  (∀ (u : Fin 4) (w : Nat) (s : State), calRuns 1 u s = true → w ≤ 6000 →
    Yields (.calRunComplete 1 u (.tap false w)) s fun t =>
      (unit u t).calValid = true ∧ (unit u t).calTime = timeA s ∧ (unit u t).calWidest = w ∧ (unit u t).calRunning = false ∧
      calRuns 1 u t = false ∧ unitsOf cCal (calKey 1 u) t = 0 ∧ countOf 0x340F 1 t = countOf 0x340F 1 s + 1 ∧
      t.cal.waiting.any (fun x => x.kind == 1 && x.inst == u.val) = true) ∧
  (∀ (k n : Nat) (r : CalRun) (s : State), s.cal.runs = [r] → r.kind = k → r.inst = n →
    Yields (.calRunComplete k n .preempted) s fun t =>
      t.cal.runs = [] ∧ unitsOf cCal (calKey k n) t = 0 ∧ (t.cal.log.head?.map (fun x => (x.outcome, x.reason))) = some (2, 0x24) ∧
      countOf 0x340F 3 t = countOf 0x340F 3 s + 1) ∧
  (∀ (k n : Nat) (r : CalRes) (s : State), calRuns k n s = false → Yields (.calRunComplete k n r) s fun t => t = s) ∧
  (∀ (k : Nat) (x : Slew) (s : State), calActive s = true → s.cal.slews = [(k, x)] →
    Yields .calSlewTick s fun t =>
      t.cal.slews.map (fun p => p.2.target) = [x.target] ∧
      (∀ p, p ∈ t.cal.slews → (p.2.value - x.value).natAbs ≤ cfg 0x3401 0 s * 65536 ∧ (p.2.target - p.2.value).natAbs ≤ (x.target - x.value).natAbs) ∧
      OnlyIn [.cal] s t) ∧
  (∀ (w : RecWait) (s : State), s.cal.waiting = [w] → w.urgent = true → w.kind = 1 → w.req = none → s.cal.records = [] → recWritable s = true → flashOk s = true →
    Yields (.recordWrite 0) s fun t =>
      t.cal.waiting = [] ∧ t.cal.records = [(calKey 1 w.inst, ⟨false, 1, s.now, recFormat s⟩)] ∧ t.cal.failures = s.cal.failures ∧
      countOf 0x340F 6 t = countOf 0x340F 6 s + 1) ∧
  (∀ (w : RecWait) (s : State), s.cal.waiting = [w] → w.urgent = true → recWritable s = true → flashOk s = true →
    Yields (.recordWrite 2) s fun t =>
      t.cal.waiting = [w] ∧ t.cal.records = s.cal.records ∧ t.cal.failures = s.cal.failures + 2 ∧
      Stands .recordFailed (calKey w.kind w.inst) t) ∧
  (∀ (fails : Fin 3) (s : State), s.upd.state = 4 → recFormat s < oldestFormat s → Yields (.recordWrite fails) s fun t => t = s)

/-- RX_ADAPT_TRIAL, RX_MARGIN_ALARM, LANE_INFERRED, AGEING_REFIT (R412 to R414, R421): a better trial moves one receiver setting by one unit within
its range; a margin below its warning raises the lane's alarm and one above ends it; an unmeasured lane takes the mean changes and is marked inferred;
a refit with a small residual is kept and its record waits. -/
def Obligations.ReceiversAndAgeing : Prop :=
  (∀ (c : Chan) (k : Lane) (s : State), calEnabled 5 s = true → (cod c s).stage = 6 → (cod c s).locked.getLsbD k = true →
    s.power.level = 0 → s.life.state = .running → (laneCal (4 * c + k) s).ctle < 15 →
    Yields (.rxAdaptTrial c k 0 true true) s fun t =>
      (laneCal (4 * c + k) t).ctle = (laneCal (4 * c + k) s).ctle + 1 ∧
      (∀ n : Nat, n ≠ 4 * c.val + k.val → laneCal n t = laneCal n s) ∧ OnlyIn [.cal] s t) ∧
  (∀ (c : Chan) (k : Lane) (n : Fin 5) (up : Bool) (s : State), Yields (.rxAdaptTrial c k n up false) s fun t => t = s) ∧
  (∀ (c : Chan) (k : Lane) (m : BitVec 16) (s : State), m.toInt < (cfg 0x3406 0 s : Nat) →
    Yields (.rxMarginAlarm c k m) s fun t =>
      (laneCal (4 * c + k) t).margin = m ∧ Stands .rxMargin (4 * c + k) t ∧ OnlyIn [.pins, .regs, .obs, .cal, .upd] s t) ∧
  (∀ (c : Chan) (k : Lane) (m : BitVec 16) (s : State), (cfg 0x3406 0 s : Nat) ≤ m.toInt →
    Yields (.rxMarginAlarm c k m) s fun t =>
      (laneCal (4 * c + k) t).margin = m ∧ ¬ Stands .rxMargin (4 * c + k) t ∧ OnlyIn [.pins, .regs, .obs, .cal] s t) ∧
  (∀ (c : Chan) (k : Lane) (x y : Int) (s : State),
    Yields (.laneInferred c k x y) s fun t =>
      (laneCal (4 * c + k) t).inferred = true ∧ (laneCal (4 * c + k) t).rx = (laneCal (4 * c + k) s).rx + y ∧
      (∀ n : Nat, n ≠ 4 * c.val + k.val → laneCal n t = laneCal n s) ∧ OnlyIn [.cal] s t) ∧
  (∀ (code n : Nat) (f : AgeFit) (s : State), calActive s = true → f.resid ≤ 3 * f.noise → code ≠ 2 → code ≠ 6 →
    Yields (.ageingRefit code n f) s fun t =>
      Tab.find (calKey code n) t.cal.ages = some ⟨f.flags, f.words, timeA s, f.days⟩ ∧
      countOf 0x340F 5 t = countOf 0x340F 5 s + 1 ∧ t.cal.waiting.any (fun x => x.kind == 9) = true ∧ OnlyIn [.regs, .obs, .cal] s t) ∧
  (∀ (code n : Nat) (f : AgeFit) (s : State), calActive s = true → 3 * f.noise < f.resid →
    Yields (.ageingRefit code n f) s fun t =>
      t.cal.ages = s.cal.ages ∧ (t.cal.log.head?.map (fun x => (x.outcome, x.reason))) = some (2, 0x20) ∧ OnlyIn [.cal] s t)

/-! ## Forwarding -/

/-- FRAME_RECEIVED, TABLE_WRITE, TABLE_READ_REQ, METER_READ_REQ, EPOCH_DRAIN_COMPLETE (R76, R252, R427, R446, R449, R451, R453, R461, R462): a frame
that the MAC does not accept leaves nothing, none enters the pipeline on a shroud channel (R513), at level 4 it is discarded under reason 15, and on a
cross-connect channel a good one goes into the fabric towards its next hop; TABLE_WRITE writes one label entry or is refused with its reason; reads
fill the session's values; an entry whose drain ended is free. -/
def Obligations.FramesAndTables : Prop :=
  (∀ (c : Chan) (f : List Byte) (x : RxSec) (a : Arrival) (s : State), (cod c s).stage ≠ 6 ∨ macAccepts c f s = false →
    Yields (.frameReceived c f x a) s fun t => t = s) ∧
  (∀ (c : Chan) (f : List Byte) (x : RxSec) (a : Arrival) (s : State), (cod c s).stage = 6 → macAccepts c f s = true → shroudLink c s = none →
    isControl c f s = false → s.power.level = 4 →
    Yields (.frameReceived c f x a) s fun t =>
      countOf 0x400F 15 t = countOf 0x400F 15 s + 1 ∧ OnlyIn [.regs, .obs] s t) ∧
  (∀ (c : Chan) (f : List Byte) (x : RxSec) (a : Arrival) (j : Nat) (s : State), (cod c s).stage = 6 → macAccepts c f s = true →
    shroudLink c s = some j → Yields (.frameReceived c f x a) s fun t => OnlyIn [.regs, .obs] s t) ∧
  (∀ (c : Chan) (f : List Byte) (a : Arrival) (n : Nat) (s : State), (cod c s).stage = 6 → macAccepts c f s = true → shroudLink c s = none →
    isControl c f s = false → s.power.level ≠ 4 → macPolicy c s = 0 → cfg 0x4007 (c + 1) s = 1 → cfg 0x4009 (c + 1) s = n → n ≠ 0xFFFFFFFF →
    s.fwd.tables.classif = [] → (parseOn c f s).bad = false → ¬ (0x0180C2000000 ≤ (parseOn c f s).dmac ∧ (parseOn c f s).dmac ≤ 0x0180C200000F) →
    a.waiting + (f.length + 4) ≤ 49152 → xcStream c s = none → nhUsable n s = true → cfg 0x4102 (c + 1) s = 0xFFFFFFFF →
    bit (remarkOf c (qosIn c (parseOn c f s) s % 16) (min (qosIn c (parseOn c f s) s / 16 % 4) 2) s) 15 = false → inMirrors c 0 s = [] →
    fabQ (tileOf c) (tileOf (field (row n s.fwd.tables.nh).bits 254 247)) s = [] → f.length ≤ 20000 →
    Yields (.frameReceived c f .clear a) s fun t =>
      (∃ k : Copy, fabQ (tileOf c) (tileOf (field (row n s.fwd.tables.nh).bits 254 247)) t = [k] ∧ k.raw = f ∧ k.way = .hop n ∧ k.ing = c.val ∧
        k.out = field (row n s.fwd.tables.nh).bits 254 247 ∧ k.len = f.length + 4 ∧ k.epoch = s.fwd.epoch ∧ k.entry = s.now) ∧
      OnlyIn [.regs, .obs, .sw] s t) ∧
  (∀ (q : Req) (d data : List Byte) (i : Nat) (s : State), admits q .operator s = true → d.length ≤ 188 → setScheduled 8 s = false →
    readOps 1 d = some [⟨1, 1, i, data⟩] → data.length = 16 → i < 2097152 →
    field (BitVec.ofNat 128 (keepAbove 28 (leNat data))) 126 124 ≤ 4 →
    targetOk (field (BitVec.ofNat 128 (keepAbove 28 (leNat data))) 103 102) (labelRefs (BitVec.ofNat 128 (keepAbove 28 (leNat data)))) = true →
    refsLive (labelRefs (BitVec.ofNat 128 (keepAbove 28 (leNat data)))) s.fwd.tables = true →
    Yields (.tableWrite q d) s fun t =>
      t.fwd = { s.fwd with tables := { s.fwd.tables with label := Tab.put 0 i (BitVec.ofNat 128 (keepAbove 28 (leNat data))) s.fwd.tables.label } } ∧
      Answered q 0 [] s t ∧ OnlyIn [.gleno, .fwd] s t) ∧
  (∀ (q : Req) (d : List Byte) (o : TxnOp) (s : State), admits q .operator s = true → d.length ≤ 188 → setScheduled 8 s = false →
    readOps 1 d = some [o] → tableWriteTakes o s = false →
    Yields (.tableWrite q d) s fun t =>
      (session q.sess t).map (fun e => e.txnFail) = some (txnFailBytes 0 1 0 false) ∧ Answered q 0x0819 [] s t ∧ OnlyIn [.gleno] s t) ∧
  (∀ (q : Req) (d : List Byte) (s : State), admits q .operator s = true → d.length ≤ 188 → setScheduled 8 s = true →
    Yields (.tableWrite q d) s fun t => Answered q 0x0401 [] s t ∧ OnlyIn [.gleno] s t) ∧
  (∀ (q : Req) (i : BitVec 32) (s : State), admits q .operator s = true → i.toNat < 2097152 →
    Yields (.tableReadReq q ([1, 0, 0, 0] ++ leBytes 4 i.toNat ++ List.replicate 16 0)) s fun t =>
      (session q.sess t).map (fun e => (e.tableRead, e.tableErr)) =
        some (leBytes 16 (Tab.get 0 i.toNat s.fwd.tables.label).toNat ++ [3, 0, 0, 0] ++ leBytes 4 0, 0) ∧
      Answered q 0 [] s t ∧ OnlyIn [.gleno] s t) ∧
  (∀ (q : Req) (d : List Byte) (s : State), admits q .operator s = true → d.length ≠ 24 →
    Yields (.tableReadReq q d) s fun t => Answered q 0x0302 [] s t ∧ OnlyIn [.gleno] s t) ∧
  (∀ (q : Req) (n : BitVec 32) (s : State), admits q .operator s = true → n.toNat ≤ 262143 →
    Yields (.meterReadReq q n) s fun t =>
      (session q.sess t).map (fun e => e.meterReq) = some (n.toNat + 1) ∧ Answered q 0 [] s t ∧ OnlyIn [.gleno] s t) ∧
  (∀ (q : Req) (n : BitVec 32) (s : State), admits q .operator s = true → 262143 < n.toNat →
    Yields (.meterReadReq q n) s fun t => Answered q 0x0301 [] s t ∧ OnlyIn [.gleno] s t) ∧
  (∀ s : State, Yields .epochDrainComplete s fun t =>
    (∀ x : Nat × Row, x ∈ t.fwd.tables.nh ↔ x ∈ s.fwd.tables.nh ∧ ¬ (x.2.st = .draining ∧ drained x.2.mark s = true)) ∧
    (∀ x : Nat × Row, x ∈ t.fwd.tables.group ↔ x ∈ s.fwd.tables.group ∧ ¬ (x.2.st = .draining ∧ drained x.2.mark s = true)) ∧
    t.fwd.tables.label = s.fwd.tables.label ∧ t.fwd.tables.prefixes = s.fwd.tables.prefixes ∧ OnlyIn [.fwd] s t)

/-! ## Fabric, buffers and the overflow store -/

/-- FABRIC_DELIVERY, FABRIC_WAIT_EXPIRY, ON_DIE_RESIDENCE_EXPIRY (R465, R469, R471, R472): the copy the link serves next leaves its fabric queue and
joins its queue on die, or is discarded by the first test that fails; a head that has waited 2 µs, and the heads of a queue that are 197 µs old, are
discarded under their reasons. -/
def Obligations.FabricAndBuffers : Prop :=
  (∀ (et : Tile) (room h : Bool) (it : Nat) (k : Copy) (rest : List Copy) (s : State), nextIngress et s = some (it, h) → fabQ it et s = k :: rest →
    k.mc = none → k.isMirror = false → (cod k.out s).stage = 6 → tailQ k.out k.cls s = [] → spillPct k.out k.cls s = 0 → dieTest k s = 0 →
    (∀ c : Nat, (gate c s).oper = none) →
    Yields (.fabricDelivery et room) s fun t =>
      fabQ it et t = rest ∧ dieQ k.out k.cls t = dieQ k.out k.cls s ++ [k] ∧
      (∀ n : Nat, n ≠ 16 * k.out + k.cls → Tab.get [] n t.sw.queues = Tab.get [] n s.sw.queues) ∧ t.sw.ovf = s.sw.ovf ∧
      OnlyIn [.regs, .obs, .sw, .egr] s t) ∧
  (∀ (et : Tile) (room h : Bool) (it : Nat) (k : Copy) (rest : List Copy) (s : State), nextIngress et s = some (it, h) → fabQ it et s = k :: rest →
    k.mc = none → k.isMirror = false → (cod k.out s).stage = 6 → tailQ k.out k.cls s = [] → spillPct k.out k.cls s = 0 → dieTest k s = 1 →
    (∀ c : Nat, (gate c s).oper = none) →
    Yields (.fabricDelivery et room) s fun t =>
      fabQ it et t = rest ∧ t.sw.queues = s.sw.queues ∧ countOf 0x4210 1 t = countOf 0x4210 1 s + 1 ∧ OnlyIn [.regs, .obs, .sw] s t) ∧
  (∀ (et : Tile) (room : Bool) (s : State), nextIngress et s = none → Yields (.fabricDelivery et room) s fun t => t = s) ∧
  (∀ (it et : Tile) (k : Copy) (rest : List Copy) (s : State), fabQ it et s = k :: rest → k.entry + 200 ≤ s.now →
    Yields (.fabricWaitExpiry it et) s fun t =>
      fabQ it et t = rest ∧ countOf 0x4210 9 t = countOf 0x4210 9 s + 1 ∧ t.sw.queues = s.sw.queues ∧ OnlyIn [.regs, .obs, .sw] s t) ∧
  (∀ (it et : Tile) (k : Copy) (rest : List Copy) (s : State), fabQ it et s = k :: rest → s.now < k.entry + 200 →
    Yields (.fabricWaitExpiry it et) s fun t => t = s) ∧
  (∀ (c : Chan) (q : Fin 16) (k : Copy) (rest : List Copy) (s : State), dieQ c q s = k :: rest → k.origin + 19700 ≤ s.now →
    (rest.head?.all fun k2 => decide (s.now < k2.origin + 19700)) = true → (gate c s).oper = none →
    Yields (.onDieResidenceExpiry c q) s fun t =>
      dieQ c q t = rest ∧ countOf 0x4210 6 t = countOf 0x4210 6 s + 1 ∧ t.sw.fab = s.sw.fab ∧ t.sw.ovf = s.sw.ovf ∧
      OnlyIn [.regs, .obs, .sw, .egr] s t) ∧
  (∀ (c : Chan) (q : Fin 16) (k : Copy) (rest : List Copy) (s : State), dieQ c q s = k :: rest → s.now < k.origin + 19700 → (gate c s).oper = none →
    Yields (.onDieResidenceExpiry c q) s fun t => t = s)

/-- OVF_STACKS_AWAKE, OVF_AGEING_TICK, OVF_RETURN, OVF_IDLE_CLOSE, OVF_STACK_FAILURE, OVF_RETEST_COMPLETE, OVF_RETRY (R475, R477, R483): the store
opens when its granted stacks wake, discards what reached the age limit, returns the head of a tail on die in order, closes after a second empty,
fails with a stack, and is CLOSED again after a retest that leaves three stacks. -/
def Obligations.OverflowStore : Prop :=
  (∀ s : State, s.sw.ovf.st = .opening → unitsOf cOvf 0 s ≠ 0 → s.power.level < 2 → cfgB 0x4204 0 s = true →
    Yields .ovfStacksAwake s fun t => t.sw.ovf = { s.sw.ovf with st := .open_, emptyAt := s.now } ∧ OnlyIn [.sw] s t) ∧
  (∀ s : State, s.sw.ovf.st ≠ .opening → Yields .ovfStacksAwake s fun t => t = s) ∧
  (∀ (n : Nat) (k : Copy) (s : State), s.sw.ovf.st = .open_ → s.sw.ovf.tails = [(n, [k])] → binOld k s = true →
    Yields .ovfAgeingTick s fun t =>
      t.sw.ovf.tails = [] ∧ countOf 0x4210 7 t = countOf 0x4210 7 s + 1 ∧ t.sw.queues = s.sw.queues ∧ OnlyIn [.regs, .obs, .sw] s t) ∧
  (∀ s : State, s.sw.ovf.st ≠ .draining → (∀ x ∈ s.sw.ovf.tails, ∀ k ∈ x.2, binOld k s = false) → Yields .ovfAgeingTick s fun t => t = s) ∧
  (∀ (c : Chan) (q : Fin 16) (k : Copy) (rest : List Copy) (s : State), returns c q s = true → tailQ c q s = k :: rest → s.sw.ovf.st = .open_ →
    (gate c s).oper = none →
    Yields (.ovfReturn c q false) s fun t =>
      tailQ c q t = rest ∧ dieQ c q t = dieQ c q s ++ [{ k with origin := s.now }] ∧ OnlyIn [.regs, .obs, .sw, .egr] s t) ∧
  (∀ (c : Chan) (q : Fin 16) (k : Copy) (rest : List Copy) (s : State), returns c q s = true → tailQ c q s = k :: rest → s.sw.ovf.st = .open_ →
    (gate c s).oper = none →
    Yields (.ovfReturn c q true) s fun t =>
      tailQ c q t = rest ∧ t.sw.queues = s.sw.queues ∧ countOf 0x4210 10 t = countOf 0x4210 10 s + 1 ∧ OnlyIn [.regs, .obs, .sw] s t) ∧
  (∀ (c : Chan) (q : Fin 16) (bad : Bool) (s : State), returns c q s = false → Yields (.ovfReturn c q bad) s fun t => t = s) ∧
  (∀ s : State, s.sw.ovf.st = .open_ → s.sw.ovf.tails = [] → s.sw.ovf.emptyAt + 100000000 ≤ s.now →
    Yields .ovfIdleClose s fun t =>
      t.sw.ovf.st = .closed ∧ unitsOf cOvf 0 t = 0 ∧ t.sw.queues = s.sw.queues ∧ OnlyIn [.power, .sw] s t) ∧
  (∀ s : State, s.sw.ovf.tails ≠ [] → Yields .ovfIdleClose s fun t => t = s) ∧
  (∀ s : State, s.sw.ovf.st ≠ .closed → s.sw.ovf.st ≠ .failed →
    Yields .ovfStackFailure s fun t =>
      t.sw.ovf.st = .failed ∧ t.sw.ovf.tails = [] ∧ t.sw.ovf.retest = true ∧ unitsOf cOvf 0 t = 0 ∧ Stands .ovfFailed noInst t ∧
      t.sw.queues = s.sw.queues ∧ OnlyIn [.pins, .power, .regs, .obs, .sw, .upd] s t) ∧
  (∀ s : State, s.sw.ovf.st = .closed → Yields .ovfStackFailure s fun t => t = s) ∧
  (∀ (p : BitVec 4) (s : State), s.sw.ovf.st = .failed → s.sw.ovf.retest = true → 3 ≤ laneCount p →
    Yields (.ovfRetestComplete p) s fun t =>
      t.sw.ovf = { s.sw.ovf with st := .closed, retest := false, memStacks := p } ∧ ¬ Stands .ovfFailed noInst t ∧
      (Stands .ovfThree noInst t ↔ p ≠ 0xF) ∧ OnlyIn [.pins, .regs, .obs, .sw] s t) ∧
  (∀ (p : BitVec 4) (s : State), s.sw.ovf.st = .failed → s.sw.ovf.retest = true → laneCount p < 3 →
    Yields (.ovfRetestComplete p) s fun t => t.sw.ovf = { s.sw.ovf with retest := false, memStacks := p } ∧ OnlyIn [.sw] s t) ∧
  (∀ (q : Req) (s : State), admits q .operator s = true → s.sw.ovf.st = .failed →
    Yields (.ovfRetry q true) s fun t => t.sw.ovf = { s.sw.ovf with retest := true } ∧ Answered q 0 [] s t ∧ OnlyIn [.gleno, .sw] s t) ∧
  (∀ (q : Req) (s : State), admits q .operator s = true →
    Yields (.ovfRetry q false) s fun t => Answered q 0 [] s t ∧ OnlyIn [.gleno] s t)

/-! ## The egress scheduler -/

/-- EGRESS_SELECT, SHAPER_REFILL, SHAPER_FORGIVE, GATE_ENTRY_CHANGE, GATE_LIST_START (R486, R490, R491, R493, R498, R501): the head of the highest
strict queue that may go leaves and is charged, nothing leaves where no head is eligible; a bucket gains its rate up to its burst; a forgiven bucket
is marked; the gates in force are those of the entry the time falls in; a pending list whose start has come is in force. -/
def Obligations.EgressAndGates : Prop :=
  (∀ (c : Chan) (off : Nat) (st : Int) (k : Copy) (rest : List Copy) (f : List Byte) (s : State), (gate c s).oper = none → dieQ c 15 s = k :: rest →
    eligible c 15 ((domOf (gateDom c s) s).counter.lsb + off) (outLen k s) s = true → (bucket c 15 s).passes = true → rewrite k s = (0, f) →
    macPolicy c s = 0 → transitAt f s = none → (∀ n : Nat, n < 16 → mirrorFlag n 2 s = false) →
    Yields (.egressSelect c off st) s fun t =>
      dieQ c 15 t = rest ∧ Emitted [⟨.frame, c, 15 :: f.map (fun b => (b.toNat : Int))⟩] s t ∧
      ((bucket c 15 s).enabled = true → (bucket c 15 t).t = (bucket c 15 s).t - ((f.length + 4) * 1024 : Nat)) ∧
      t.sw.fab = s.sw.fab ∧ t.sw.ovf = s.sw.ovf ∧ OnlyIn [.regs, .obs, .sw, .egr, .wire] s t) ∧
  (∀ (c : Chan) (off : Nat) (st : Int) (s : State), (gate c s).oper = none →
    (∀ q : Nat, q < 16 → dieQ c q s = [] ∨ s.power.level = 4 ∨ (cod c s).stage ≠ 6) →
    Yields (.egressSelect c off st) s fun t => t = s) ∧
  (∀ (n : Nat) (b : Bucket) (s : State), (s.egr.buckets.map (fun x => x.1)).Nodup → Tab.get Bucket.reset n s.egr.buckets = b →
    b.enabled = true → b.forgive = false → b.next = none → b.enNext = none →
    Yields .shaperRefill s fun t =>
      Tab.get Bucket.reset n t.egr.buckets =
        { b with t := min (b.t + ((b.rate * 65536 + b.rem) / 1000000 : Nat)) (b.burst * 1024 : Nat), rem := (b.rate * 65536 + b.rem) % 1000000 } ∧
      t.egr.gates = s.egr.gates ∧ OnlyIn [.egr] s t) ∧
  (∀ (n : Nat) (b : Bucket) (s : State), (s.egr.buckets.map (fun x => x.1)).Nodup → Tab.get Bucket.reset n s.egr.buckets = b →
    b.enabled = false → b.enNext = none → b.forgive = true →
    Yields .shaperRefill s fun t =>
      (Tab.get Bucket.reset n t.egr.buckets).t = max b.t 0 ∧ (Tab.get Bucket.reset n t.egr.buckets).forgive = false) ∧
  (∀ (q : Req) (c : Chan) (n : Fin 12) (v : BitVec 32) (s : State), admits q .operator s = true → v.getLsbD n = true →
    Yields (.shaperForgive q (BitVec.ofNat 8 (c + 1)) v) s fun t =>
      (bucket c n t).forgive = true ∧ (bucket c n t).t = (bucket c n s).t ∧ (v.getLsbD 16 = true → (bucket c 32 t).forgive = true) ∧
      countOf 0x430D 5 t = countOf 0x430D 5 s + 1 ∧ Answered q 0 [] s t ∧ OnlyIn [.regs, .gleno, .obs, .egr] s t) ∧
  (∀ (q : Req) (v : BitVec 32) (s : State), admits q .operator s = true →
    Yields (.shaperForgive q 0 v) s fun t => Answered q 0x0102 [] s t ∧ OnlyIn [.gleno] s t) ∧
  (∀ (c : Chan) (l : GateList) (s : State), (gate c s).oper = some l → cfgB 0x4303 (c + 1) s = true →
    Yields (.gateEntryChange c) s fun t =>
      (gate c t).entry = (l.entryAt (domOf (gateDom c s) s).counter.lsb).1 ∧ (gate c t).gates = (l.entryAt (domOf (gateDom c s) s).counter.lsb).2 ∧
      (gate c t).oper = some l ∧ t.egr.buckets = s.egr.buckets ∧ OnlyIn [.egr] s t) ∧
  (∀ (c : Chan) (s : State), (gate c s).oper = none → Yields (.gateEntryChange c) s fun t => t = s) ∧
  (∀ (c : Chan) (p : GatePend) (rest : List GatePend) (s : State), (gate c s).pend = p :: rest → p.timed = true →
    p.list.start ≤ (domOf (gateDom c s) s).counter.lsb → cfgB 0x4303 (c + 1) s = true → (∀ q : Nat, dieQ c q s = []) →
    Yields (.gateListStart c) s fun t =>
      (gate c t).oper = some p.list ∧ (gate c t).pend = rest ∧ (gate c t).gates = (p.list.entryAt (domOf (gateDom c s) s).counter.lsb).2 ∧
      (gate c t).restepped = false ∧ (gate c t).overrun = false ∧ OnlyIn [.regs, .obs, .egr] s t) ∧
  (∀ (c : Chan) (p : GatePend) (rest : List GatePend) (s : State), (gate c s).pend = p :: rest →
    (domOf (gateDom c s) s).counter.lsb < p.list.start →
    Yields (.gateListStart c) s fun t => t = s)

/-! ## The Gleno field network -/

/-- KR_TRAINING_COMPLETE, KR_TRAINING_RETRY, KR_LINK_DOWN, GLENO_BOTH_DOWN, CYCLE_START_RECEIVED, MASTER_HOLDOFF_EXPIRY, CYCLE_START_TRANSMIT,
JOIN_START, JOIN_UNACKNOWLEDGED, PRESENCE_LOST, NODE_LOST (R64, R87, R182, R183, R188, R193, R201 to R205): ports train, go down and retrain with
their alarms; the first valid cycle-start makes a listening module join, one without a slot for it makes it NO SLOT; the hold-off makes it the master,
which sends cycle-starts on every trained port; joining sets JOIN and warns after 64 cycles; absence makes it join again; an unheard node is lost and
counted. -/
def Obligations.GlenoCycle : Prop :=
  (∀ (p : Fin 2) (alone : Bool) (s : State), gport p s = .training → s.life.state ≠ .strapFault →
    Yields (.krTrainingComplete p alone) s fun t =>
      gport p t = .trained ∧ gport (1 - p.val) t = gport (1 - p.val) s ∧ unitsOf cGleno p t = 2 ∧ ¬ Stands .bothPortsDown noInst t ∧
      (s.gleno.state = .off → s.life.nymyx = true → s.life.latched = true → t.gleno.state = .listen) ∧
      (gport (1 - p.val) s = .trained → starting s = true → s.life.stage = 1 → t.life.stage = 2) ∧
      OnlyIn [.pins, .life, .power, .regs, .gleno, .obs, .upd] s t) ∧
  (∀ (p : Fin 2) (alone : Bool) (s : State), gport p s ≠ .training → Yields (.krTrainingComplete p alone) s fun t => t = s) ∧
  (∀ (p : Fin 2) (s : State), gport p s ≠ .trained → s.life.regulators = true → s.life.state ≠ .strapFault →
    Yields (.krTrainingRetry p) s fun t =>
      gport p t = .training ∧ (gport (1 - p.val) s = .trained → Stands .onePortDown noInst t) ∧
      OnlyIn [.pins, .power, .regs, .gleno, .obs, .upd] s t) ∧
  (∀ (p : Fin 2) (s : State), gport p s = .trained →
    Yields (.krLinkDown p) s fun t =>
      gport p t = .training ∧ unitsOf cGleno p t = 0 ∧ (Stands .onePortDown noInst t ↔ gport (1 - p.val) s = .trained) ∧
      OnlyIn [.pins, .power, .regs, .gleno, .obs, .upd] s t) ∧
  (∀ s : State, portTrained s = false → s.life.nymyx = true → standing .bothPortsDown noInst s = false →
    Yields .glenoBothDown s fun t => Stands .bothPortsDown noInst t ∧ OnlyIn [.pins, .regs, .obs, .upd] s t) ∧
  (∀ s : State, portTrained s = true → Yields .glenoBothDown s fun t => t = s) ∧
  (∀ (h : GHead) (b : CycleBody) (s : State), readsFrame h s = false → Yields (.cycleStartReceived h b) s fun t => t = s) ∧
  (∀ (h : GHead) (b : CycleBody) (s : State), readsFrame h s = true → h.kind = 1 → h.source.toNat ≤ 31 →
    (cycleValid b = false ∨ follows h.source.toNat s = false) →
    Yields (.cycleStartReceived h b) s fun t => countOf 0x120A 6 t = countOf 0x120A 6 s + 1 ∧ OnlyIn [.regs, .obs] s t) ∧
  (∀ (h : GHead) (b : CycleBody) (s : State), readsFrame h s = true → h.kind = 1 → h.source.toNat ≤ 31 → cycleValid b = true →
    s.gleno.state = .listen → s.gleno.master = none → address s < b.slots.toNat →
    Yields (.cycleStartReceived h b) s fun t =>
      t.gleno.state = .joining ∧ t.gleno.join = false ∧ t.gleno.master = some h.source.toNat ∧ t.gleno.cycle = h.cycle ∧
      t.gleno.cycleTime = b.time ∧ t.gleno.slots = b.slots.toNat ∧ OnlyIn [.gleno] s t) ∧
  (∀ (h : GHead) (b : CycleBody) (s : State), readsFrame h s = true → h.kind = 1 → h.source.toNat ≤ 31 → cycleValid b = true →
    s.gleno.state = .listen → s.gleno.master = none → b.slots.toNat ≤ address s →
    Yields (.cycleStartReceived h b) s fun t =>
      t.gleno.state = .noSlot ∧ Stands .noSlot noInst t ∧ OnlyIn [.pins, .regs, .gleno, .obs, .upd] s t) ∧
  (∀ s : State, s.gleno.state = .listen → s.gleno.master = none → paired s = false → cfgB 0x4400 0 s = false → s.life.state = .running →
    Yields .masterHoldoffExpiry s fun t =>
      t.gleno.state = .master ∧ t.gleno.master = some (address s) ∧ t.gleno.slots = 32 ∧
      t.gleno.cycleTime = BitVec.ofNat 16 (max s.gleno.masterTime 200) ∧ OnlyIn [.pins, .regs, .gleno, .obs] s t) ∧
  (∀ s : State, s.gleno.state = .master ∨ s.gleno.state = .noSlot ∨ s.gleno.state = .off → Yields .masterHoldoffExpiry s fun t => t = s) ∧
  (∀ s : State, s.gleno.state = .master →
    Yields .cycleStartTransmit s fun t =>
      t.gleno.cycle = (if s.gleno.followed then s.gleno.cycle + 1 else 0) ∧
      t.gleno.presence = s.gleno.heardNow ||| s.gleno.heardPrev ||| s.gleno.heardPrev2 ∧ t.gleno.heardPrev = s.gleno.heardNow ∧ t.gleno.heardNow = 0 ∧
      Emitted ((trainedPorts s).map fun p => ⟨.cycleStart, p, [s.gleno.etherType, glenoMax s, address s,
        ((if s.gleno.followed then s.gleno.cycle + 1 else 0 : BitVec 32).toNat : Int), s.gleno.cycleTime.toNat, 32, glenoMin s,
        (s.gleno.heardNow ||| s.gleno.heardPrev ||| s.gleno.heardPrev2).toNat, s.gleno.joinSeen.toNat]⟩) s t ∧
      OnlyIn [.gleno, .wire] s t) ∧
  (∀ s : State, s.gleno.state ≠ .master → Yields .cycleStartTransmit s fun t => t = s) ∧
  (∀ s : State, s.gleno.state = .joining → s.gleno.join = false → 4 ≤ s.gleno.heard →
    Yields .joinStart s fun t => t = { s with gleno := { s.gleno with join := true, joinCycles := 0 } }) ∧
  (∀ s : State, s.gleno.state ≠ .joining ∨ s.gleno.heard < 4 → Yields .joinStart s fun t => t = s) ∧
  (∀ s : State, s.gleno.state = .joining → s.gleno.join = true → 64 ≤ s.gleno.joinCycles → standing .joinUnacked noInst s = false →
    Yields .joinUnacknowledged s fun t => Stands .joinUnacked noInst t ∧ t.gleno = s.gleno ∧ OnlyIn [.pins, .regs, .obs, .upd] s t) ∧
  (∀ s : State, s.gleno.joinCycles < 64 → Yields .joinUnacknowledged s fun t => t = s) ∧
  (∀ s : State, s.gleno.state = .joined → 3 ≤ s.gleno.absentRun →
    Yields .presenceLost s fun t => t.gleno.state = .joining ∧ t.gleno.join = true ∧ OnlyIn [.gleno] s t) ∧
  (∀ s : State, s.gleno.absentRun < 3 → Yields .presenceLost s fun t => t = s) ∧
  (∀ (a : Fin 32) (s : State), s.gleno.master.isSome = true → s.gleno.lost.getLsbD a = false → a.val ≠ address s → unheard a s.gleno = true →
    a.val ≠ mateAddress s →
    Yields (.nodeLost a) s fun t =>
      t.gleno.lost = s.gleno.lost ||| ((1#32) <<< a.val) ∧ countOf 0x120A 8 t = countOf 0x120A 8 s + 1 ∧ OnlyIn [.regs, .gleno, .obs] s t) ∧
  (∀ (a : Fin 32) (s : State), unheard a s.gleno = false → Yields (.nodeLost a) s fun t => t = s)

/-- SLOT_TRANSMIT, REQUEST_COMPLETION, COMPLETION_TIMEOUT, SLOT_FRAME_RECEIVED, HANDSHAKE_OPEN, HANDSHAKE_PROVE, HANDSHAKE_ACCEPT_RECEIVED,
HANDSHAKE_GRANT_RECEIVED, HANDSHAKE_TIMEOUT, SESSION_IDLE_TIMEOUT, SESSION_LIFETIME_EXPIRY (R195, R198, R199, R201, R205, R207, R208, R211 to R213,
R543, R554): an answer that fits goes out in the slot frame and a late frame is counted; a slot frame marks its source as heard, one from the own
address makes the module silent, a record with an accepted SEQ is run and a repeated SEQ is counted; handshakes are accepted, refused or dropped, a
session opens with its role and ends with its limits. -/
def Obligations.GlenoSessions : Prop :=
  (∀ (a : Answer) (p : Nat) (s : State), sends s = true → markedPorts s = [p] → s.gleno.answers = [a] → recSize a ≤ 554 → s.gleno.late = false →
    (∀ x ∈ s.gleno.sessions, x.2.txSeq + 1 < 4294967296) →
    Yields (.slotTransmit true) s fun t =>
      t.gleno.answers = [] ∧ t.gleno.completions = s.gleno.completions ∧ t.gleno.hbCount = s.gleno.hbCount + 1 ∧
      (∃ f, Emitted [⟨.slotFrame, p, f⟩] s t) ∧
      (session a.sess t).map (fun e => e.txSeq) = (session a.sess s).map (fun e => e.txSeq + 1) ∧ t.gleno.late = false ∧
      OnlyIn [.gleno, .wire] s t) ∧
  (∀ s : State, sends s = true → markedPorts s ≠ [] →
    Yields (.slotTransmit false) s fun t =>
      t.gleno.answers = s.gleno.answers ∧ countOf 0x120A 1 t = countOf 0x120A 1 s + 1 ∧
      t.gleno.late = (s.gleno.late || !s.gleno.answers.isEmpty) ∧ OnlyIn [.regs, .gleno, .obs] s t) ∧
  (∀ (b : Bool) (s : State), sends s = false → Yields (.slotTransmit b) s fun t => t = s) ∧
  (∀ (a : Answer) (l : List Answer) (p : Nat) (s : State), s.gleno.completions = a :: l → accepting s = true → markedPorts s = [p] →
    (∀ x ∈ s.gleno.sessions, x.2.txSeq + 1 < 4294967296) →
    Yields .requestCompletion s fun t =>
      t.gleno.completions = l ∧ t.gleno.answers = s.gleno.answers ∧ (∃ f, Emitted [⟨.slotFrame, p, f⟩] s t) ∧ OnlyIn [.gleno, .wire] s t) ∧
  (∀ s : State, s.gleno.completions = [] → Yields .requestCompletion s fun t => t = s) ∧
  (∀ (q : Req) (s : State), isPending q s = true →
    Yields (.completionTimeout q) s fun t =>
      t.gleno.completions = s.gleno.completions ++ [⟨q.sess, q.id, 0x0401, []⟩] ∧ isPending q t = false ∧ OnlyIn [.gleno] s t) ∧
  (∀ (q : Req) (s : State), isPending q s = false → Yields (.completionTimeout q) s fun t => t = s) ∧
  (∀ (h : GHead) (hb : BitVec 16) (s : State), readsFrame h s = true → h.kind = 2 → h.source.toNat ≤ 31 → h.source.toNat ≠ address s →
    h.source.toNat ≠ mateAddress s →
    Yields (.slotFrameReceived h hb [] false) s fun t =>
      t.gleno.heardNow = s.gleno.heardNow ||| ((1#32) <<< h.source.toNat) ∧ t.gleno.lost = s.gleno.lost &&& ~~~((1#32) <<< h.source.toNat) ∧
      OnlyIn [.gleno] s t) ∧
  (∀ (h : GHead) (hb : BitVec 16) (rs : List GRec) (beyond : Bool) (s : State), readsFrame h s = true → h.kind = 2 → h.source.toNat ≤ 31 →
    h.source.toNat = address s → s.gleno.state ≠ .master → s.gleno.state ≠ .noSlot →
    Yields (.slotFrameReceived h hb rs beyond) s fun t =>
      t.gleno.state = .silent ∧ Stands .addressConflict noInst t ∧ OnlyIn [.pins, .regs, .gleno, .obs, .upd] s t) ∧
  (∀ (h : GHead) (hb : BitVec 16) (n : BitVec 16) (x : Seal) (e : Session) (id : BitVec 16) (hi : Nat) (m : BitVec 64) (s : State),
    readsFrame h s = true → h.kind = 2 → h.source.toNat ≤ 31 → h.source.toNat ≠ address s → h.source.toNat ≠ mateAddress s →
    accepting s = true → answers0701 s = false → session n.toNat s = some e → e.peer = h.source.toNat → e.transfer = none → e.kept = [] →
    x.ok = true → seqAccept x.seq e.seqHigh e.seqMask = some (hi, m) → x.seq < 4294967295 →
    Yields (.slotFrameReceived h hb [⟨n, BitVec.ofNat 8 (address s), 1, x, leBytes 2 id.toNat ++ [6, 0]⟩] false) s fun t =>
      Answered ⟨n.toNat, id⟩ 0 [] s t ∧
      (session n.toNat t).map (fun e => (e.seqHigh, e.seqMask, e.lastAt)) = some (some hi, m, s.now) ∧ OnlyIn [.gleno] s t) ∧
  (∀ (h : GHead) (hb : BitVec 16) (n : BitVec 16) (x : Seal) (e : Session) (c : List Byte) (s : State),
    readsFrame h s = true → h.kind = 2 → h.source.toNat ≤ 31 → h.source.toNat ≠ address s → h.source.toNat ≠ mateAddress s →
    accepting s = true → session n.toNat s = some e → e.peer = h.source.toNat → s.gleno.heardNow.getLsbD h.source.toNat = false →
    x.ok = true → seqAccept x.seq e.seqHigh e.seqMask = none →
    Yields (.slotFrameReceived h hb [⟨n, BitVec.ofNat 8 (address s), 1, x, c⟩] false) s fun t =>
      t.gleno.answers = s.gleno.answers ∧ countOf 0x120A 5 t = countOf 0x120A 5 s + 1 ∧ t.gleno.sessions = s.gleno.sessions ∧
      OnlyIn [.regs, .gleno, .obs] s t) ∧
  (∀ (src : Fin 32) (id : BitVec 16) (lo hi : BitVec 8) (role : Fin 4) (v : Nat) (s : State), accepting s = true → src.val < 2 →
    openFault (roleOfCode role) s = 0 → common lo.toNat hi.toNat s = some v →
    Yields (.handshakeOpen src id lo hi role) s fun t =>
      shake src id t = some ⟨id, src, roleOfCode role, v, freeNumber s, false⟩ ∧
      Emitted [⟨.handshake, src, [2, (id.toNat : Int), v, freeNumber s]⟩] s t ∧ t.gleno.sessions = s.gleno.sessions ∧ OnlyIn [.gleno, .wire] s t) ∧
  (∀ (src : Fin 32) (id : BitVec 16) (lo hi : BitVec 8) (role : Fin 4) (v : Nat) (s : State), accepting s = true → src.val < 2 →
    openFault (roleOfCode role) s ≠ 0 → common lo.toNat hi.toNat s = some v →
    Yields (.handshakeOpen src id lo hi role) s fun t =>
      t.gleno.handshakes = s.gleno.handshakes ∧ Emitted [⟨.handshake, src, [255, (id.toNat : Int), ((openFault (roleOfCode role) s).toNat : Int)]⟩] s t ∧
      countOf 0x120A 10 t = countOf 0x120A 10 s + 1 ∧ OnlyIn [.regs, .obs, .wire] s t) ∧
  (∀ (src : Fin 32) (id : BitVec 16) (lo hi : BitVec 8) (role : Fin 4) (s : State), accepting s = false →
    Yields (.handshakeOpen src id lo hi role) s fun t => countOf 0x120A 3 t = countOf 0x120A 3 s + 1 ∧ OnlyIn [.regs, .obs] s t) ∧
  (∀ (src : Fin 32) (id : BitVec 16) (chain : List Byte) (sig dev leaf : Bool) (i : PairInfo) (h : Handshake) (s : State), accepting s = true →
    shake src id s = some h → h.pair = false → s.life.state ≠ .restarting → bootMigrates s = false → s.trust.state = 0 → s.gleno.sessions = [] →
    Yields (.handshakeProve src id chain sig dev leaf i) s fun t =>
      (if sig = true ∧ Config.selfSigned chain = true then
        ((session h.session t).map (fun e => (e.peer, e.role, e.version)) = some (h.peer, .custodian, h.version) ∧
          ∃ f, Emitted [⟨.handshake, h.peer, 4 :: f⟩] s t)
       else t.gleno.sessions = [] ∧ Emitted [⟨.handshake, h.peer, [255, (h.id.toNat : Int), 0x080D]⟩] s t ∧
        countOf 0x120A 10 t = countOf 0x120A 10 s + 1) ∧
      t.gleno.handshakes = s.gleno.handshakes.erase h ∧ OnlyIn [.regs, .gleno, .obs, .wire] s t) ∧
  (∀ (src : Fin 32) (id : BitVec 16) (chain : List Byte) (sig dev leaf : Bool) (i : PairInfo) (s : State), accepting s = true → shake src id s = none →
    Yields (.handshakeProve src id chain sig dev leaf i) s fun t => countOf 0x120A 5 t = countOf 0x120A 5 s + 1 ∧ OnlyIn [.regs, .obs] s t) ∧
  (∀ (v : BitVec 8) (n : BitVec 16) (chain : List Byte) (h : Handshake) (s : State), accepting s = true →
    s.gleno.handshakes.find? (fun h => h.pair && !sideB s) = some h → glenoMin s ≤ v.toNat → v.toNat ≤ glenoMax s →
    Yields (.handshakeAcceptReceived v n chain true true true) s fun t =>
      Emitted [⟨.handshake, h.peer, [3, (h.id.toNat : Int)]⟩] s t ∧
      (∃ x ∈ t.gleno.handshakes, x.session = n.toNat ∧ x.version = v.toNat ∧ x.pair = true) ∧ OnlyIn [.regs, .gleno, .obs, .trust, .wire] s t) ∧
  (∀ (v : BitVec 8) (n : BitVec 16) (chain : List Byte) (dev leaf : Bool) (h : Handshake) (s : State), accepting s = true →
    s.gleno.handshakes.find? (fun h => h.pair && !sideB s) = some h →
    Yields (.handshakeAcceptReceived v n chain false dev leaf) s fun t =>
      Stands .pairAuth noInst t ∧ t.gleno.handshakes = s.gleno.handshakes.erase h ∧ t.wire = s.wire ∧
      OnlyIn [.pins, .regs, .gleno, .obs, .upd, .trust] s t) ∧
  (∀ (i : PairInfo) (h : Handshake) (s : State), accepting s = true →
    s.gleno.handshakes.find? (fun h => h.pair && !sideB s && h.session != 0) = some h →
    Yields (.handshakeGrantReceived true i) s fun t =>
      t.gleno.pairSess = some h.session ∧ t.pair.mateSerial = i.serial ∧ t.pair.role ≠ .unpaired ∧ ¬ Stands .pairAuth noInst t) ∧
  (∀ (i : PairInfo) (h : Handshake) (s : State), accepting s = true →
    s.gleno.handshakes.find? (fun h => h.pair && !sideB s && h.session != 0) = some h →
    Yields (.handshakeGrantReceived false i) s fun t => countOf 0x120A 4 t = countOf 0x120A 4 s + 1 ∧ OnlyIn [.regs, .obs] s t) ∧
  (∀ (src : Fin 32) (id : BitVec 16) (h : Handshake) (s : State), shake src id s = some h →
    Yields (.handshakeTimeout src id) s fun t => t.gleno.handshakes = s.gleno.handshakes.erase h ∧ OnlyIn [.gleno] s t) ∧
  (∀ (n : BitVec 16) (e : Session) (s : State), session n.toNat s = some e → e.lastAt + e.idle * 100000000 ≤ s.now →
    Yields (.sessionIdleTimeout n) s fun t => session n.toNat t = none ∧ (∀ m : Nat, m ≠ n.toNat → session m t = session m s)) ∧
  (∀ (n : BitVec 16) (e : Session) (s : State), session n.toNat s = some e → s.now < e.lastAt + e.idle * 100000000 →
    Yields (.sessionIdleTimeout n) s fun t => t = s) ∧
  (∀ (n : BitVec 16) (e : Session) (s : State), session n.toNat s = some e → e.openedAt + 8640000000000 ≤ s.now →
    Yields (.sessionLifetimeExpiry n) s fun t => session n.toNat t = none ∧ (∀ m : Nat, m ≠ n.toNat → session m t = session m s)) ∧
  (∀ (n : BitVec 16) (e : Session) (s : State), session n.toNat s = some e → s.now < e.openedAt + 8640000000000 →
    Yields (.sessionLifetimeExpiry n) s fun t => t = s)

/-! ## The register space -/

/-- REGISTER_WRITE, MASKED_WRITE, POSTED_WRITE, POSTED_WRITE_LANDED, POSTED_WRITE_DROPPED, RC_FIELD_READ, WIDE_READ_LATCH, WIDE_UPPER_WRITE,
WIDE_LOW_WRITE, GUARD_UNLOCK, GUARD_LOCK, GUARD_WRONG_KEY, GUARD_TIMEOUT, WINDOW_WRITE, WINDOW_READ, REG_BLOCK_READ, REG_BLOCK_WRITE (R108, R117 to
R121, R123, R124, R127 to R132, R136): each at one register of its kind: a guarded field is refused without its guard and written once with it, a
masked write changes the bits of its mask, a posted write waits, lands or is dropped, an RC field is cleared by its read, a wide value is read and
written whole, the guard opens, locks and counts wrong keys, a window writes every member and reads its members together, a block transfer gives its
registers in order. -/
def Obligations.RegisterAccess : Prop :=
  (∀ (q : Req) (v : Word) (e : Session) (s : State), admits q .operator s = true → session q.sess s = some e → e.regAddr = 0xB0010 →
    guardAllows 0xB0000 q.sess s = true →
    Yields (.registerWrite q v) s fun t =>
      t.pair = { s.pair with inhibit := v.getLsbD 0 } ∧ (blockOf 0xB0000 t).open_ = none ∧ Answered q 0 [] s t ∧
      (session q.sess t).map (fun e => (e.regStatus, e.regAddr)) = some (0, if e.regInc then 0xB0014 else 0xB0010) ∧
      OnlyIn [.regs, .gleno, .pair] s t) ∧
  (∀ (q : Req) (v : Word) (e : Session) (s : State), admits q .operator s = true → session q.sess s = some e → e.regAddr = 0xB0010 →
    guardAllows 0xB0000 q.sess s = false →
    Yields (.registerWrite q v) s fun t =>
      (blockOf 0xB0000 t).violation = true ∧ countOf 0x5009 1 t = countOf 0x5009 1 s + 1 ∧ Answered q 0x0202 [] s t ∧
      OnlyIn [.regs, .gleno, .obs] s t) ∧
  (∀ (q : Req) (v : Word) (e : Session) (s : State), admits q .operator s = true → session q.sess s = some e → e.regAddr = 0x70000 →
    Yields (.registerWrite q v) s fun t => Answered q 0x0802 [] s t ∧ OnlyIn [.gleno] s t) ∧
  (∀ (q : Req) (m p : BitVec 16) (e : Session) (s : State), admits q .operator s = true → session q.sess s = some e → e.regAddr = 0x20 →
    Yields (.maskedWrite q m p) s fun t =>
      Tab.get 0 0x20 t.regs.words = (Tab.get 0 0x20 s.regs.words &&& ~~~(m.zeroExtend 32) ||| (p &&& m).zeroExtend 32) &&& 0xFFFF ∧
      Answered q 0 [] s t ∧ OnlyIn [.regs, .gleno] s t) ∧
  (∀ (q : Req) (v : Word) (c : Chan) (e : Session) (s : State), admits q .operator s = true → session q.sess s = some e →
    e.regAddr = BitVec.ofNat 32 (0x80010 + c * 0x200) → (blockOf (0x80000 + c * 0x200) s).posted.length < 4 →
    Yields (.postedWrite q v) s fun t =>
      (blockOf (0x80000 + c * 0x200) t).posted = (blockOf (0x80000 + c * 0x200) s).posted ++ [⟨0x80010 + c * 0x200, v⟩] ∧
      Answered q 0 [] s t ∧ OnlyIn [.regs, .gleno] s t) ∧
  (∀ (q : Req) (v : Word) (c : Chan) (e : Session) (s : State), admits q .operator s = true → session q.sess s = some e →
    e.regAddr = BitVec.ofNat 32 (0x80010 + c * 0x200) → 4 ≤ (blockOf (0x80000 + c * 0x200) s).posted.length →
    Yields (.postedWrite q v) s fun t => Answered q 0x0401 [] s t ∧ OnlyIn [.gleno] s t) ∧
  (∀ (w : Word) (rest : List Posted) (s : State), (blockOf 0 s).posted = ⟨0x30, w⟩ :: rest →
    Yields (.postedWriteLanded 0) s fun t =>
      (blockOf 0 t).posted = rest ∧ t.regs.assetTag = (s.regs.assetTag &&& ~~~(0xFFFFFFFF#128)) ||| w.zeroExtend 128 ∧ OnlyIn [.regs] s t) ∧
  (∀ (base : Nat) (s : State), (blockOf base s).posted = [] → Yields (.postedWriteLanded base) s fun t => t = s) ∧
  (∀ (base : Nat) (w : Posted) (rest : List Posted) (s : State), (blockOf base s).posted = w :: rest →
    Yields (.postedWriteDropped base) s fun t =>
      (blockOf base t).posted = rest ∧ (blockOf base t).postFail = true ∧ Stands .postFail (blockNo base) t ∧
      OnlyIn [.pins, .regs, .obs, .upd] s t) ∧
  (∀ (base : Nat) (s : State), (blockOf base s).posted = [] → Yields (.postedWriteDropped base) s fun t => t = s) ∧
  (∀ (q : Req) (k : Tile) (e : Session) (s : State), admits q .observer s = true → session q.sess s = some e →
    e.regAddr = BitVec.ofNat 32 (tsuAddr k 0x18) →
    Yields (.rcFieldRead q) s fun t =>
      Answered q 0 (leBytes 4 (Tab.get 0 (tsuAddr k 0x18) s.regs.rc).toNat) s t ∧ Tab.get 0 (tsuAddr k 0x18) t.regs.rc = 0 ∧
      (∀ a : Nat, a ≠ tsuAddr k 0x18 → Tab.get 0 a t.regs.rc = Tab.get 0 a s.regs.rc) ∧ OnlyIn [.regs, .gleno] s t) ∧
  (∀ (q : Req) (e : Session) (s : State), admits q .observer s = true → session q.sess s = some e → e.regAddr = 0x24 →
    Yields (.wideReadLatch q) s fun t =>
      Answered q 0 (leBytes 4 (wordOf 0 (uptime s)).toNat) s t ∧
      (session q.sess t).map (fun e => Tab.get 0 0x28 e.readSh) = some (wordOf 1 (uptime s)) ∧ OnlyIn [.gleno] s t) ∧
  (∀ (q : Req) (e : Session) (s : State), admits q .observer s = true → session q.sess s = some e → e.regAddr = 0x28 →
    Yields (.wideReadLatch q) s fun t => Answered q 0 (leBytes 4 (Tab.get 0 0x28 e.readSh).toNat) s t ∧ OnlyIn [.gleno] s t) ∧
  (∀ (q : Req) (v : Word) (e : Session) (s : State), admits q .operator s = true → session q.sess s = some e → e.regAddr = 0x20084 →
    Yields (.wideUpperWrite q v) s fun t =>
      (session q.sess t).map (fun e => Tab.get 0 0x20084 e.writeSh) = some v ∧ Answered q 0 [] s t ∧ OnlyIn [.gleno] s t) ∧
  (∀ (q : Req) (v : Word) (e : Session) (s : State), admits q .operator s = true → session q.sess s = some e → e.regAddr = 0x20080 →
    guardAllows 0x20000 q.sess s = true → hostOwns .a s = true →
    (v.toNat + (Tab.get 0 0x20084 e.writeSh).toNat * 2 ^ 32) / 2 ^ 16 % 2 ^ 32 ≤ 999999999 →
    Yields (.wideLowWrite q v) s fun t =>
      t.tb.a.counter = ⟨lsbOf ⟨BitVec.ofNat 48 ((v.toNat + (Tab.get 0 0x20084 e.writeSh).toNat * 2 ^ 32 + (Tab.get 0 0x20088 e.writeSh).toNat * 2 ^ 64) / 2 ^ 48),
        BitVec.ofNat 32 ((v.toNat + (Tab.get 0 0x20084 e.writeSh).toNat * 2 ^ 32 + (Tab.get 0 0x20088 e.writeSh).toNat * 2 ^ 64) / 2 ^ 16),
        BitVec.ofNat 16 v.toNat⟩, 0⟩ ∧ Answered q 0 [] s t) ∧
  (∀ (q : Req) (v : Word) (e : Session) (s : State), admits q .operator s = true → session q.sess s = some e → e.regAddr = 0x20080 →
    (guardAllows 0x20000 q.sess s = false ∨ hostOwns .a s = false) →
    Yields (.wideLowWrite q v) s fun t =>
      Answered q 0x0202 [] s t ∧ (blockOf 0x20000 t).violation = true ∧ countOf 0x5009 1 t = countOf 0x5009 1 s + 1 ∧
      OnlyIn [.regs, .gleno, .obs] s t) ∧
  (∀ (q : Req) (e : Session) (s : State), admits q .operator s = true → session q.sess s = some e → e.regAddr = 0xB0008 →
    (blockOf 0xB0000 s).locked = false → sticky 0xB0000 s = false →
    Yields (.guardUnlock q) s fun t =>
      (blockOf 0xB0000 t).open_ = some q.sess ∧ (blockOf 0xB0000 t).wrongRun = 0 ∧ guardAllows 0xB0000 q.sess t = true ∧ Answered q 0 [] s t ∧
      OnlyIn [.regs, .gleno] s t) ∧
  (∀ (q : Req) (e : Session) (s : State), admits q .operator s = true → session q.sess s = some e → e.regAddr = 0xB0008 →
    (blockOf 0xB0000 s).locked = true →
    Yields (.guardUnlock q) s fun t => Answered q 0x0202 [] s t ∧ OnlyIn [.gleno] s t) ∧
  (∀ (q : Req) (e : Session) (s : State), admits q .operator s = true → session q.sess s = some e → e.regAddr = 0xB0008 →
    Yields (.guardLock q) s fun t =>
      (blockOf 0xB0000 t).locked = true ∧ (blockOf 0xB0000 t).open_ = none ∧ (∀ n : Nat, guardAllows 0xB0000 n t = false) ∧ Answered q 0 [] s t ∧
      OnlyIn [.regs, .gleno] s t) ∧
  (∀ (q : Req) (v : Word) (e : Session) (s : State), admits q .operator s = true → session q.sess s = some e → e.regAddr = 0xB0008 →
    v ≠ 0xC1E7 → v ≠ 0x5A1C →
    Yields (.guardWrongKey q v) s fun t =>
      (blockOf 0xB0000 t).wrongRun = (blockOf 0xB0000 s).wrongRun + 1 ∧ (blockOf 0xB0000 t).open_ ≠ some q.sess ∧
      countOf 0x5009 2 t = countOf 0x5009 2 s + 1 ∧
      (3 ≤ (blockOf 0xB0000 s).wrongRun → (blockOf 0xB0000 s).wrongAlm = false → Stands .wrongKeys (blockNo 0xB0000) t) ∧
      Answered q 0 [] s t ∧ OnlyIn [.pins, .regs, .gleno, .obs, .upd] s t) ∧
  (∀ (base : Nat) (s : State),
    Yields (.guardTimeout base) s fun t =>
      blockOf base t = { blockOf base s with open_ := none } ∧ (∀ b : Nat, b ≠ base → blockOf b t = blockOf b s) ∧ OnlyIn [.regs] s t) ∧
  (∀ (q : Req) (v : Word) (c : Chan) (e : Session) (s : State), admits q .operator s = true → session q.sess s = some e → e.regAddr = 0xF0010 →
    (List.range 192).filter (fun k => (Tab.get 0 0 s.dict.members).getLsbD k) = [c.val] → (blockOf (0x80000 + c * 0x200) s).posted.length < 4 →
    Yields (.windowWrite q v) s fun t =>
      (blockOf (0x80000 + c * 0x200) t).posted = (blockOf (0x80000 + c * 0x200) s).posted ++ [⟨0x80010 + c * 0x200, v⟩] ∧
      (session q.sess t).map (fun e => e.skipped) = some 0 ∧ Answered q 0 [] s t ∧ OnlyIn [.regs, .gleno] s t) ∧
  (∀ (q : Req) (v : Word) (e : Session) (s : State), admits q .operator s = true → session q.sess s = some e → e.regAddr = 0xF0010 →
    (List.range 192).filter (fun k => (Tab.get 0 0 s.dict.members).getLsbD k) = [] →
    Yields (.windowWrite q v) s fun t => Answered q 0x0803 [] s t ∧ OnlyIn [.gleno] s t) ∧
  (∀ (q : Req) (c : Chan) (e : Session) (s : State), admits q .observer s = true → session q.sess s = some e → e.regAddr = 0xF0018 →
    (List.range 192).filter (fun k => (Tab.get 0 0 s.dict.members).getLsbD k) = [c.val] →
    Yields (.windowRead q) s fun t =>
      Answered q 0 (leBytes 4 (channelVal c 0x18 s).toNat) s t ∧ OnlyIn [.gleno] s t) ∧
  (∀ (q : Req) (e : Session) (s : State), admits q .observer s = true → session q.sess s = some e → e.regAddr = 0xF0018 →
    (List.range 192).filter (fun k => (Tab.get 0 0 s.dict.members).getLsbD k) = [] →
    Yields (.windowRead q) s fun t => Answered q 0x0803 [] s t ∧ OnlyIn [.gleno] s t) ∧
  (∀ (q : Req) (e : Session) (s : State), admits q .observer s = true → session q.sess s = some e → e.regAddr = 0x20 → e.regCount = 1 →
    e.transfer = none →
    Yields (.regBlockRead q) s fun t =>
      (session q.sess t).map (fun e => (e.transfer, e.regDone, e.regStatus)) =
        some (some ⟨key 0x5005 0, false, 4, leBytes 4 (Tab.get 0 0x20 s.regs.words).toNat, 0⟩, 1, 0) ∧
      Answered q 0 (leBytes 4 4 ++ leBytes 4 (crc32 (leBytes 4 (Tab.get 0 0x20 s.regs.words).toNat)).toNat) s t ∧ OnlyIn [.gleno] s t) ∧
  (∀ (q : Req) (d : List Byte) (e : Session) (s : State), admits q .operator s = true → session q.sess s = some e → d.length ≠ 4 * e.regCount.toNat →
    Yields (.regBlockWrite q d) s fun t => Answered q 0x0302 [] s t ∧ OnlyIn [.gleno] s t) ∧
  (∀ (q : Req) (m p : BitVec 16) (e : Session) (s : State), admits q .operator s = true → session q.sess s = some e → e.regAddr = 0x20 → e.regCount = 1 →
    Yields (.regBlockWrite q (leBytes 4 (m ++ p).toNat)) s fun t =>
      Tab.get 0 0x20 t.regs.words = (Tab.get 0 0x20 s.regs.words &&& ~~~(m.zeroExtend 32) ||| (p &&& m).zeroExtend 32) &&& 0xFFFF ∧
      (session q.sess t).map (fun e => (e.regDone, e.regStatus)) = some (1, 0) ∧ Answered q 0 [] s t ∧ OnlyIn [.regs, .gleno] s t)

/-! ## The object dictionary -/

/-- OBJECT_READ, OBJECT_WRITE, INITIATE_READ_TRANSFER, INITIATE_WRITE_TRANSFER, SEGMENT, ABORT_TRANSFER, TRANSFER_TIMEOUT, SESSION_CLOSE,
CLOSE_SESSION (R144, R145, R149, R150, R154, R175 to R177, R212): a value that passes its checks is in force and is read back, one that fails is
refused with the status of its check; a transfer opens, moves its segments in order, and a segment out of order, an abort or a time-out ends it; a
session closes. -/
def Obligations.DictionaryRequests : Prop :=
  (∀ (q : Req) (s : State), admits q .observer s = true →
    Yields (.objectRead q 0x130A 0) s fun t => Answered q 0 (cfgBytes 0x130A 0 s) s t ∧ OnlyIn [.gleno] s t) ∧
  (∀ (q : Req) (i : BitVec 16) (sub : BitVec 8) (s : State), admits q .observer s = true → objRow i.toNat = none →
    Yields (.objectRead q i sub) s fun t => Answered q 0x0101 [] s t ∧ OnlyIn [.gleno] s t) ∧
  (∀ (q : Req) (s : State), admits q .observer s = true →
    Yields (.objectRead q 0x5005 0) s fun t => Answered q 0x0302 [] s t ∧ OnlyIn [.gleno] s t) ∧
  (∀ (q : Req) (s : State), admits q .observer s = true →
    Yields (.objectRead q 0x1101 0) s fun t => Answered q 0x0804 [] s t ∧ OnlyIn [.gleno] s t) ∧
  (∀ (q : Req) (n : Nat) (s : State), admits q .operator s = true → n ≤ 200 →
    Yields (.objectWrite q 0x130A 0 (leBytes 2 n)) s fun t =>
      cfgBytes 0x130A 0 t = leBytes 2 n ∧ (∀ i j : Nat, key i j ≠ key 0x130A 0 → cfgBytes i j t = cfgBytes i j s) ∧ Answered q 0 [] s t ∧
      OnlyIn [.dict, .gleno] s t) ∧
  (∀ (q : Req) (n : Nat) (s : State), admits q .operator s = true → 200 < n → n < 65536 →
    Yields (.objectWrite q 0x130A 0 (leBytes 2 n)) s fun t => Answered q 0x0301 [] s t ∧ OnlyIn [.gleno] s t) ∧
  (∀ (q : Req) (v : List Byte) (s : State), admits q .operator s = true → v.length ≠ 2 →
    Yields (.objectWrite q 0x130A 0 v) s fun t => Answered q 0x0302 [] s t ∧ OnlyIn [.gleno] s t) ∧
  (∀ (q : Req) (v : List Byte) (e : Session) (s : State), admits q .observer s = true → session q.sess s = some e → e.role = .observer →
    Yields (.objectWrite q 0x130A 0 v) s fun t => Answered q 0x0201 [] s t ∧ OnlyIn [.gleno] s t) ∧
  (∀ (q : Req) (e : Session) (s : State), admits q .observer s = true → session q.sess s = some e → e.transfer = none → cfgBytes 0x700B 0 s ≠ [] →
    Yields (.initiateReadTransfer q 0x700B 0) s fun t =>
      (session q.sess t).map (fun e => e.transfer) =
        some (some ⟨key 0x700B 0, false, (cfgBytes 0x700B 0 s).length, cfgBytes 0x700B 0 s, 0⟩) ∧
      Answered q 0 (leBytes 4 (cfgBytes 0x700B 0 s).length ++ leBytes 4 (crc32 (cfgBytes 0x700B 0 s)).toNat) s t ∧ OnlyIn [.gleno] s t) ∧
  (∀ (q : Req) (e : Session) (s : State), admits q .observer s = true → session q.sess s = some e → e.transfer.isSome = true →
    Yields (.initiateReadTransfer q 0x700B 0) s fun t => Answered q 0x0401 [] s t ∧ OnlyIn [.gleno] s t) ∧
  (∀ (q : Req) (n : BitVec 32) (e : Session) (s : State), admits q .operator s = true → session q.sess s = some e → e.transfer = none → n.toNat ≤ 4096 →
    Yields (.initiateWriteTransfer q 0x700B 0 n) s fun t =>
      (session q.sess t).map (fun e => e.transfer) = some (some ⟨key 0x700B 0, true, n.toNat, [], 0⟩) ∧ Answered q 0 [] s t ∧ OnlyIn [.gleno] s t) ∧
  (∀ (q : Req) (n : BitVec 32) (s : State), admits q .operator s = true → 4096 < n.toNat →
    Yields (.initiateWriteTransfer q 0x700B 0 n) s fun t => Answered q 0x0302 [] s t ∧ OnlyIn [.gleno] s t) ∧
  (∀ (q : Req) (n : BitVec 32) (d : List Byte) (crc : BitVec 32) (e : Session) (x : Transfer) (s : State), admits q .observer s = true →
    session q.sess s = some e → e.transfer = some x → x.write = false → x.nextSeg = n.toNat → x.key = key 0x700B 0 → 512 * (n.toNat + 1) < x.total →
    Yields (.segment q n false d crc) s fun t =>
      Answered q 0 (leBytes 4 n.toNat ++ (x.data.drop (512 * n.toNat)).take 512) s t ∧
      (session q.sess t).map (fun e => e.transfer) = some (some { x with nextSeg := n.toNat + 1 }) ∧ OnlyIn [.gleno] s t) ∧
  (∀ (q : Req) (n : BitVec 32) (d : List Byte) (crc : BitVec 32) (e : Session) (x : Transfer) (s : State), admits q .observer s = true →
    session q.sess s = some e → e.transfer = some x → x.write = false → x.nextSeg = n.toNat → x.key = key 0x700B 0 → x.total ≤ 512 * (n.toNat + 1) →
    Yields (.segment q n false d crc) s fun t =>
      Answered q 0 (leBytes 4 n.toNat ++ (x.data.drop (512 * n.toNat)).take 512) s t ∧
      (session q.sess t).map (fun e => e.transfer) = some none ∧ OnlyIn [.gleno] s t) ∧
  (∀ (q : Req) (n : BitVec 32) (d : List Byte) (crc : BitVec 32) (e : Session) (x : Transfer) (s : State), admits q .observer s = true →
    session q.sess s = some e → e.transfer = some x → x.write = true → x.nextSeg = n.toNat → x.key = key 0x700B 0 → d.length ≤ 512 →
    x.data.length + d.length ≤ x.total →
    Yields (.segment q n false d crc) s fun t =>
      Answered q 0 [] s t ∧ (session q.sess t).map (fun e => e.transfer) = some (some { x with data := x.data ++ d, nextSeg := n.toNat + 1 }) ∧
      OnlyIn [.gleno] s t) ∧
  (∀ (q : Req) (n : BitVec 32) (last : Bool) (d : List Byte) (crc : BitVec 32) (e : Session) (x : Transfer) (s : State), admits q .observer s = true →
    session q.sess s = some e → e.transfer = some x → x.nextSeg ≠ n.toNat → x.key = key 0x700B 0 →
    Yields (.segment q n last d crc) s fun t =>
      Answered q 0x0808 [] s t ∧ (session q.sess t).map (fun e => e.transfer) = some none ∧ OnlyIn [.gleno] s t) ∧
  (∀ (q : Req) (e : Session) (x : Transfer) (s : State), admits q .observer s = true → session q.sess s = some e → e.transfer = some x →
    x.key = key 0x700B 0 →
    Yields (.abortTransfer q) s fun t =>
      Answered q 0x0808 [] s t ∧ (session q.sess t).map (fun e => e.transfer) = some none ∧ OnlyIn [.gleno] s t) ∧
  (∀ (q : Req) (e : Session) (s : State), admits q .observer s = true → session q.sess s = some e → e.transfer = none →
    Yields (.abortTransfer q) s fun t => Answered q 0 [] s t ∧ OnlyIn [.gleno] s t) ∧
  (∀ (n : BitVec 16) (e : Session) (x : Transfer) (s : State), session n.toNat s = some e → e.transfer = some x → x.key = key 0x700B 0 →
    Yields (.transferTimeout n) s fun t => session n.toNat t = some { e with transfer := none } ∧ OnlyIn [.gleno] s t) ∧
  (∀ (q : Req) (n : BitVec 16) (s : State), admits q .custodian s = true → (session n.toNat s).isSome = true →
    Yields (.sessionClose q n) s fun t =>
      session n.toNat t = none ∧ Answered q 0 [] s t ∧ (∀ x ∈ t.snaps, x.2.owner ≠ n.toNat) ∧ t.commits = s.commits) ∧
  (∀ (q : Req) (n : BitVec 16) (s : State), admits q .custodian s = true → session n.toNat s = none →
    Yields (.sessionClose q n) s fun t => Answered q 0x0301 [] s t ∧ OnlyIn [.gleno] s t) ∧
  (∀ (q : Req) (s : State), admits q .observer s = true →
    Yields (.closeSession q) s fun t => session q.sess t = none ∧ Answered q 0 [] s t ∧ t.commits = s.commits)

/-- RWS_STAGE, OVEN_STEER, SETTINGS_CLEAR, SETTINGS_SAVE, SNAP_REQUEST, SNAP_RELEASE, SNAP_SLOT_EXPIRY, STATUS_SNAP_REQUEST (R118, R152, R153, R160,
R161, R173, R174, R345, R602): a staged value waits in its session with the generation of its set and is not in force; steering is posted while the
host owns the oven; settings are armed to clear, saved under a grant or refused; a snapshot takes the lowest free slot, whose content is frozen until
it is freed. -/
def Obligations.StagingAndSnapshots : Prop :=
  (∀ (q : Req) (c : Chan) (b : Bool) (e : Session) (s : State), admits q .custodian s = true → session q.sess s = some e → e.staged = [] →
    Yields (.rwsStage q 0x2001 (BitVec.ofNat 8 (c + 1)) [if b then 1 else 0]) s fun t =>
      (session q.sess t).map (fun e => e.staged) = some [⟨key 0x2001 (c + 1), [if b then 1 else 0], false⟩] ∧
      (session q.sess t).map (fun e => Tab.get 0 1 e.recGen) = some (Tab.get 0 1 s.commits.generation + 1) ∧
      Answered q 0 [] s t ∧ OnlyIn [.gleno] s t) ∧
  (∀ (q : Req) (v : List Byte) (s : State), admits q .custodian s = true → v.length ≠ 1 →
    Yields (.rwsStage q 0x2001 1 v) s fun t => Answered q 0x0302 [] s t ∧ OnlyIn [.gleno] s t) ∧
  (∀ (q : Req) (v : BitVec 32) (s : State), admits q .operator s = true → -1000000000 ≤ v.toInt → v.toInt ≤ 1000000000 → cfg 0x3211 0 s = 1 →
    postFull 0x40000 s = false →
    Yields (.ovenSteer q v) s fun t =>
      (blockOf 0x40000 t).posted = (blockOf 0x40000 s).posted ++ [⟨0x40020, v⟩] ∧ Answered q 0 [] s t ∧ OnlyIn [.regs, .gleno] s t) ∧
  (∀ (q : Req) (v : BitVec 32) (s : State), admits q .operator s = true → -1000000000 ≤ v.toInt → v.toInt ≤ 1000000000 → cfg 0x3211 0 s ≠ 1 →
    Yields (.ovenSteer q v) s fun t => Answered q 0x0814 [] s t ∧ OnlyIn [.gleno] s t) ∧
  (∀ (q : Req) (v : BitVec 32) (s : State), admits q .operator s = true → 1000000000 < v.toInt →
    Yields (.ovenSteer q v) s fun t => Answered q 0x0301 [] s t ∧ OnlyIn [.gleno] s t) ∧
  (∀ (q : Req) (s : State), admits q .custodian s = true →
    Yields (.settingsClear q 0x5A) s fun t => t.dict = { s.dict with clearArmed := true } ∧ Answered q 0 [] s t ∧ OnlyIn [.dict, .gleno] s t) ∧
  (∀ (q : Req) (v : BitVec 8) (s : State), admits q .custodian s = true → v ≠ 0x5A → v ≠ 0 →
    Yields (.settingsClear q v) s fun t => Answered q 0x0301 [] s t ∧ OnlyIn [.gleno] s t) ∧
  (∀ s : State, s.dict.pendSave ≠ [] → s.life.nymyx = true → s.life.state ≠ .restarting → flashOk s = true →
    Yields .settingsSave s fun t =>
      t.dict.pendSave = [] ∧ t.dict.vals = s.dict.vals ∧ countOf 0x130D 1 t = countOf 0x130D 1 s + 1 ∧ OnlyIn [.regs, .dict, .obs, .upd] s t) ∧
  (∀ s : State, s.dict.pendSave ≠ [] → s.life.nymyx = true → s.life.state ≠ .restarting → flashOk s = false →
    Yields .settingsSave s fun t => t.dict = s.dict ∧ countOf 0x130D 2 t = countOf 0x130D 2 s + 1 ∧ OnlyIn [.regs, .obs] s t) ∧
  (∀ s : State, s.dict.pendSave = [] → Yields .settingsSave s fun t => t = s) ∧
  (∀ (q : Req) (m : BitVec 32) (k : Nat) (s : State), admits q .operator s = true → freeSnap s = some k →
    Yields (.snapRequest q m) s fun t =>
      (Tab.find k t.snaps).map (fun x => (x.owner, x.mask, x.captured, x.pairNumber)) = some (q.sess, m, timeA s, s.commits.pairNumber) ∧
      (∀ j : Nat, j ≠ k → Tab.find j t.snaps = Tab.find j s.snaps) ∧ Answered q 0 [BitVec.ofNat 8 k] s t ∧ OnlyIn [.snaps, .gleno] s t) ∧
  (∀ (q : Req) (m : BitVec 32) (s : State), admits q .operator s = true → freeSnap s = none →
    Yields (.snapRequest q m) s fun t => Answered q 0x080A [] s t ∧ OnlyIn [.gleno] s t) ∧
  (∀ (q : Req) (k : BitVec 8) (s : State), admits q .operator s = true → 1 ≤ k.toNat → k.toNat ≤ 4 →
    Yields (.snapRelease q k) s fun t =>
      Tab.find k.toNat t.snaps = none ∧ (∀ j : Nat, j ≠ k.toNat → Tab.find j t.snaps = Tab.find j s.snaps) ∧ Answered q 0 [] s t ∧
      OnlyIn [.snaps, .gleno] s t) ∧
  (∀ (q : Req) (k : BitVec 8) (s : State), admits q .operator s = true → (k.toNat = 0 ∨ 4 < k.toNat) →
    Yields (.snapRelease q k) s fun t => Answered q 0x0301 [] s t ∧ OnlyIn [.gleno] s t) ∧
  (∀ (k : Fin 5) (s : State),
    Yields (.snapSlotExpiry k false) s fun t =>
      Tab.find k.val t.snaps = none ∧ (∀ j : Nat, j ≠ k.val → Tab.find j t.snaps = Tab.find j s.snaps) ∧ OnlyIn [.snaps] s t) ∧
  (∀ (k : Fin 5) (s : State),
    Yields (.snapSlotExpiry k true) s fun t =>
      Tab.find k.val t.obs.slots = none ∧ (∀ j : Nat, j ≠ k.val → Tab.find j t.obs.slots = Tab.find j s.obs.slots) ∧ t.obs.counts = s.obs.counts ∧
      OnlyIn [.obs] s t) ∧
  (∀ (q : Req) (s : State), admits q .operator s = true →
    Yields (.statusSnapRequest q [0x0A, 0x13, 0, 0]) s fun t =>
      (session q.sess t).map (fun e => e.statSnap) =
        some (timeBytes (timeA s) ++ timeBytes (timeOf (domA s)) ++ entry 0x130A 0 (typeOf 0x130A) (cfgBytes 0x130A 0 s)) ∧
      Answered q 0 [] s t ∧ OnlyIn [.gleno] s t) ∧
  (∀ (q : Req) (v : List Byte) (s : State), admits q .operator s = true → v.length % 4 ≠ 0 ∨ v = [] ∨ 256 < v.length →
    Yields (.statusSnapRequest q v) s fun t => Answered q 0x0302 [] s t ∧ OnlyIn [.gleno] s t)

/-! ## Commits -/

/-- COMMIT, COMMIT_APPLY, COMMIT_ABORT, PAIR_COMMIT_REPLY, PAIR_COMMIT_TIMEOUT, PAIR_COMMIT_REQUEST, PAIR_COMMIT_ORDER, PAIR_COMMIT_CANCEL,
PAIR_CANCEL_CONFIRM, PAIR_SCOPE_WRITE, PAIR_SCOPE_CONFIRM, PAIR_SCOPE_TIMEOUT, RESYNC_IMAGE_RECEIVED (R161 to R169, R172, R532): a commit that passes
its checks is scheduled and applies on one edge with its generations; one that fails changes nothing but its record; an abort discards; a pair commit
passes by request, reply and order, and fails, is cancelled or diverges as its exchange goes; the scope and a resynchronisation image come into force. -/
def Obligations.Commits : Prop :=
  (∀ (q : Req) (m : BitVec 32) (e : Session) (s : State), admits q .operator s = true → session q.sess s = some e → namedSets m e = [] →
    Yields (.commit q m) s fun t => Answered q 0 [] s t ∧ OnlyIn [.gleno] s t) ∧
  (∀ (q : Req) (m : BitVec 32) (e : Session) (c : Commit) (s : State), admits q .operator s = true → session q.sess s = some e →
    c = commitOf q m (namedSets m e) e s → namedSets m e ≠ [] → setsBusy c.sets s = false → resyncing s = false → migratingRole .tables s = false →
    gensHold c.sets c.values e s = true → setsFault c.values s = none → drawOf c.values s = 0 → lsbOf e.commitAt = 0 → c.pair = false →
    Yields (.commit q m) s fun t =>
      t.commits.scheduled = s.commits.scheduled ++ [c] ∧ t.commits.generation = s.commits.generation ∧
      (session q.sess t).map (fun e => (e.staged, e.commitAt)) = some (e.staged.filter (fun v => !c.values.contains v), Time96.zero) ∧
      Answered q 0 [] s t ∧ OnlyIn [.commits, .gleno] s t) ∧
  (∀ (q : Req) (m : BitVec 32) (e : Session) (s : State), admits q .operator s = true → session q.sess s = some e → namedSets m e ≠ [] →
    setsBusy (namedSets m e) s = true →
    Yields (.commit q m) s fun t => Answered q 0x0401 [] s t ∧ t.commits = s.commits ∧ OnlyIn [.gleno] s t) ∧
  (∀ (q : Req) (m : BitVec 32) (e : Session) (s : State), admits q .operator s = true → session q.sess s = some e → namedSets m e ≠ [] →
    setsBusy (namedSets m e) s = false → resyncing s = false → migratingRole .tables s = false →
    gensHold (namedSets m e) (valuesOf (namedSets m e) e.staged) e s = false →
    Yields (.commit q m) s fun t =>
      Answered q 0x0501 [] s t ∧ (session q.sess t).map (fun e => e.staged) = some e.staged ∧
      ((session q.sess t).bind (fun e => e.results.head?)).map (fun r => (r.status, r.mask)) = some (0x0501, m) ∧ OnlyIn [.gleno] s t) ∧
  (∀ (c : Commit) (n : Chan) (v : List Byte) (e : Session) (s : State), s.commits.scheduled = [c] → due c s = true → c.sets = [2] →
    c.values = [⟨key 0x2104 (n + 1), v, false⟩] → c.pair = false → inScope 2 s = false → session c.sess s = some e →
    Yields .commitApply s fun t =>
      cfgBytes 0x2104 (n + 1) t = v ∧ (∀ i j : Nat, key i j ≠ key 0x2104 (n + 1) → cfgBytes i j t = cfgBytes i j s) ∧
      Tab.get 0 2 t.commits.generation = (Tab.get 0 2 s.commits.generation + 1) % 4294967296 ∧
      (∀ k : Nat, k ≠ 2 → Tab.get 0 k t.commits.generation = Tab.get 0 k s.commits.generation) ∧ t.commits.scheduled = [] ∧
      ((session c.sess t).bind (fun e => e.results.head?)).map (fun r => (r.status, r.mask, r.applied)) = some (0, c.mask, timeA s) ∧
      OnlyIn [.dict, .commits, .gleno] s t) ∧
  (∀ s : State, (∀ c ∈ s.commits.scheduled, due c s = false) → Yields .commitApply s fun t => t = s) ∧
  (∀ (q : Req) (m : BitVec 32) (e : Session) (s : State), admits q .operator s = true → session q.sess s = some e →
    (∀ c ∈ s.commits.scheduled, abortHits q.sess m c = false) → s.commits.exchange = none →
    Yields (.commitAbort q m) s fun t =>
      (session q.sess t).map (fun e => e.staged) = some (e.staged.filter (fun v => !m.getLsbD (stagedSet v))) ∧ Answered q 0 [] s t ∧
      OnlyIn [.gleno] s t) ∧
  (∀ (q : Req) (m : BitVec 32) (e : Session) (c : Commit) (s : State), admits q .operator s = true → session q.sess s = some e →
    s.commits.scheduled = [c] → abortHits q.sess m c = true → c.pair = false → s.commits.exchange = none →
    Yields (.commitAbort q m) s fun t =>
      t.commits.scheduled = [] ∧ t.dict = s.dict ∧
      ((session q.sess t).bind (fun e => e.results.head?)).map (fun r => r.status) = some 0x0826 ∧ Answered q 0 [] s t ∧
      OnlyIn [.commits, .gleno] s t) ∧
  (∀ (x : Seal) (e : PairExchange) (number : BitVec 32) (s : State), Verifies x s → s.commits.exchange = some e → isPending e.req s = true →
    e.commit.given = false → sideB s = true → s.commits.pairState = 0 →
    Yields (.pairCommitReply x 0 0 0 0 0 number) s fun t =>
      t.commits.exchange = none ∧ t.commits.pairState = (if e.commit.pair || s.commits.scheduled.any (fun c => c.pair) then 1 else 0) ∧
      t.commits.scheduled = s.commits.scheduled ++ [{ e.commit with
        at_ := some (max (domA s + 2 * lsbPerMs) (lsbOf e.commit.requested + prepTime e.commit.values)), pairNo := number }] ∧
      Completed e.req 0 s t) ∧
  (∀ (x : Seal) (st : Status) (idx : BitVec 16) (sub reason : BitVec 8) (op number : BitVec 32) (e : PairExchange) (s : State), Verifies x s →
    s.commits.exchange = some e → isPending e.req s = true → st ≠ 0 →
    Yields (.pairCommitReply x st idx sub reason op number) s fun t =>
      t.commits.exchange = none ∧ t.commits.scheduled = s.commits.scheduled ∧ Completed e.req 0x0809 s t ∧
      ((session e.req.sess t).bind (fun e => e.results.head?)).map (fun r => (r.status, r.mateStatus)) = some (0x0809, st)) ∧
  (∀ (e : PairExchange) (s : State), s.commits.exchange = some e → isPending e.req s = true →
    Yields .pairCommitTimeout s fun t =>
      t.commits.exchange = none ∧ t.commits.scheduled = s.commits.scheduled ∧ Completed e.req 0x0809 s t ∧
      ((session e.req.sess t).bind (fun e => e.results.head?)).map (fun r => (r.status, r.mateStatus)) = some (0x0809, 0xFFFF)) ∧
  (∀ s : State, s.commits.exchange = none → Yields .pairCommitTimeout s fun t => t = s) ∧
  (∀ (x : Seal) (m : BitVec 32) (g : List (Nat × BitVec 32)) (v : List (Nat × List Byte)) (s : State), Verifies x s → s.life.state ≠ .restarting →
    mateFault g (v.map (fun y => ⟨y.1, y.2, false⟩)) s = none →
    Yields (.pairCommitRequest x m g v) s fun t =>
      (t.commits.mateCommit.map (fun c => (c.sess, c.mask, c.sets, c.pair))) = some (0, m, g.map (fun y => y.1), true) ∧
      t.commits.scheduled = s.commits.scheduled ∧ OnlyIn [.commits, .pair, .wire] s t) ∧
  (∀ (x : Seal) (m : BitVec 32) (g : List (Nat × BitVec 32)) (v : List (Nat × List Byte)) (s : State), s.life.state = .restarting →
    Yields (.pairCommitRequest x m g v) s fun t => t = s) ∧
  (∀ (x : Seal) (a : Time96) (number : BitVec 32) (given : Bool) (c : Commit) (s : State), Verifies x s → s.commits.mateCommit = some c →
    domA s ≤ lsbOf a → session c.sess s = none →
    Yields (.pairCommitOrder x a number given) s fun t =>
      t.commits.scheduled = s.commits.scheduled ++ [{ c with at_ := some (lsbOf a), pairNo := number, given := given }] ∧
      t.commits.mateCommit = none ∧ t.commits.pairCounter = number ∧ OnlyIn [.commits, .pair] s t) ∧
  (∀ (x : Seal) (a : Time96) (number : BitVec 32) (given : Bool) (c : Commit) (s : State), Verifies x s → s.commits.mateCommit = some c →
    lsbOf a < domA s →
    Yields (.pairCommitOrder x a number given) s fun t =>
      t.commits.scheduled = s.commits.scheduled ∧ t.commits.pairState = 2 ∧ Stands .pairDiverged noInst t) ∧
  (∀ (x : Seal) (number : BitVec 32) (s : State), Verifies x s → s.commits.scheduled = [] →
    Yields (.pairCommitCancel x number) s fun t =>
      t.commits = { s.commits with mateCommit := none } ∧ OnlyIn [.commits, .pair] s t) ∧
  (∀ (x : Seal) (c : Commit) (s : State), Verifies x s → s.commits.scheduled = [c] → c.pair = true → c.sess = 0 → domA s + lsbPerMs ≤ c.at_.getD 0 →
    Yields (.pairCommitCancel x c.pairNo) s fun t =>
      t.commits.scheduled = [] ∧ t.commits.mateCommit = none ∧ t.wire.length = s.wire.length + 1 ∧ OnlyIn [.commits, .pair, .wire] s t) ∧
  (∀ (x : Seal) (c : Commit) (q : Req) (s : State), Verifies x s → s.commits.scheduled = [c] → c.cancel = true → c.abortReq = some q →
    isPending q s = true → domA s < c.at_.getD 0 →
    Yields (.pairCancelConfirm x c.pairNo) s fun t =>
      t.commits.scheduled = [] ∧ Completed q 0 s t ∧ t.dict = s.dict ∧ OnlyIn [.commits, .pair, .gleno] s t) ∧
  (∀ (x : Seal) (number : BitVec 32) (s : State), Verifies x s → s.commits.scheduled = [] →
    Yields (.pairCancelConfirm x number) s fun t => t.commits.pairState = 2 ∧ Stands .pairDiverged noInst t) ∧
  (∀ (q : Req) (v : BitVec 32) (e : Session) (s : State), admits q .custodian s = true → session q.sess s = some e → matePresent s = false →
    writeFault false e 0x1107 0 (leBytes 4 v.toNat) s = 0 →
    Yields (.pairScopeWrite q v) s fun t => cfgBytes 0x1107 0 t = leBytes 4 v.toNat ∧ Answered q 0 [] s t ∧ OnlyIn [.dict, .gleno] s t) ∧
  (∀ (q : Req) (v : BitVec 32) (e : Session) (s : State), admits q .custodian s = true → session q.sess s = some e → matePresent s = true →
    s.commits.scopeEx = none → mateAway s = false → writeFault false e 0x1107 0 (leBytes 4 v.toNat) s = 0 →
    Yields (.pairScopeWrite q v) s fun t =>
      t.commits.scopeEx = some ⟨q, v⟩ ∧ t.dict = s.dict ∧ Answered q 0x0402 [] s t ∧ OnlyIn [.regs, .commits, .gleno, .obs, .pair, .wire] s t) ∧
  (∀ (x : Seal) (v : BitVec 32) (w : ScopeExchange) (s : State), Verifies x s → s.commits.scopeEx = some w → isPending w.req s = true →
    Yields (.pairScopeConfirm x v) s fun t =>
      cfgBytes 0x1107 0 t = leBytes 4 w.value.toNat ∧ t.commits.scopeEx = none ∧ Completed w.req 0 s t ∧ OnlyIn [.dict, .commits, .pair, .gleno] s t) ∧
  (∀ (x : Seal) (v : BitVec 32) (s : State), Verifies x s → s.commits.scopeEx = none →
    Yields (.pairScopeConfirm x v) s fun t =>
      cfgBytes 0x1107 0 t = leBytes 4 v.toNat ∧ t.wire.length = s.wire.length + 1 ∧ OnlyIn [.dict, .pair, .wire] s t) ∧
  (∀ (w : ScopeExchange) (s : State), s.commits.scopeEx = some w → isPending w.req s = true →
    Yields .pairScopeTimeout s fun t =>
      t.commits = { s.commits with scopeEx := none } ∧ Completed w.req 0x0809 s t ∧ OnlyIn [.commits, .gleno] s t) ∧
  (∀ s : State, s.commits.scopeEx = none → Yields .pairScopeTimeout s fun t => t = s) ∧
  (∀ (x : Seal) (b : List Byte) (n : Tables) (number : BitVec 32) (s : State), Verifies x s → s.pair.resync = true → s.pair.role = .standby →
    cfg 0x1107 0 s = 0x100 → imageTables [8] (extRefs s) [b] [] [] s.fwd.tables = some n → imageFrees s.fwd.tables n = false →
    s.fwd.tables.meters = [] → s.fwd.tables.streams = [] →
    Yields (.resyncImageReceived x [] [b] [] [] number) s fun t =>
      t.fwd.tables = n ∧ t.commits.pairNumber = number ∧ t.commits.pairState = 0 ∧ t.pair.resync = false ∧ ¬ Stands .pairDiverged noInst t ∧
      Tab.get 0 8 t.commits.generation = (Tab.get 0 8 s.commits.generation + 1) % 4294967296) ∧
  (∀ (x : Seal) (v : List (Nat × List Byte)) (a b c : List (List Byte)) (number : BitVec 32) (s : State), s.pair.resync = false →
    Yields (.resyncImageReceived x v a b c number) s fun t => t = s)

/-! ## The mated pair -/

/-- PAIRING_TIMEOUT, PAIRING_RETRY, PAIR_SESSION_RENEW, SHROUD_HELLO_SEND, SHROUD_HELLO_RECEIVED, SHROUD_HEARTBEAT_SEND, SHROUD_HEARTBEAT_RECEIVED,
SHROUD_HEARTBEAT_LOST, GLENO_HEARTBEAT_LOST, ARBITRATION_ANSWER, ARBITRATION_RETRY, ARB_TIMEOUT_EXPIRY, SILENCE_HOLDOFF_EXPIRY (R87, R207, R510, R511,
R514 to R516, R524, R525): side A opens the pair session; a hello of the mate confirms a link and another's marks it miscabled; a heartbeat that
verifies is taken and one that does not is counted; lost heartbeats are counted, with both lost the standby asks the witness, whose grant makes it
active and whose refusal leaves it standby. -/
def Obligations.PairLiveness : Prop :=
  (∀ s : State, paired s = false → 4 ≤ s.life.stage → cfgB 0x4400 0 s = true →
    Yields .pairingTimeout s fun t =>
      t.pair.role = .unpaired ∧ (s.life.state = .starting → s.life.stage = 4 → t.life.stage = 5) ∧ OnlyIn [.life, .regs, .pair] s t) ∧
  (∀ s : State, paired s = true → Yields .pairingTimeout s fun t => t = s) ∧
  (∀ s : State, paired s = false → cfgB 0x4400 0 s = true → accepting s = true → sideB s = false →
    Yields .pairingRetry s fun t =>
      (∃ h ∈ t.gleno.handshakes, h.pair = true ∧ h.peer = mateAddress s) ∧ Emitted [⟨.pairing, mateAddress s, [1]⟩] s t ∧ OnlyIn [.gleno, .wire] s t) ∧
  (∀ s : State, sideB s = true → Yields .pairingRetry s fun t => t = s) ∧
  (∀ s : State, paired s = true → sideB s = false → accepting s = true →
    Yields .pairSessionRenew s fun t =>
      Emitted [⟨.pairing, mateAddress s, [1]⟩] s t ∧ t.gleno.pairSess = s.gleno.pairSess ∧ OnlyIn [.gleno, .wire] s t) ∧
  (∀ s : State, paired s = false → Yields .pairSessionRenew s fun t => t = s) ∧
  (∀ s : State, linkLit 0 s = true → linkLit 1 s = false →
    Yields .shroudHelloSend s fun t =>
      Emitted [⟨.hello, (linkChan 0 s).getD 0, [s.factory.serial.toNat, s.life.address.toNat, 0, shroudMax s, shroudMin s]⟩] s t ∧
      OnlyIn [.wire] s t) ∧
  (∀ (j : Fin 2) (lnk vmax vmin : Fin 256) (s : State), linkLit j s = true → paired s = true → lnk.val = j.val → vmin.val ≤ vmax.val →
    vmin.val ≤ shroudMax s → shroudMin s ≤ vmax.val → shroudMin s ≤ shroudMax s → 0 < min (shroudMax s) vmax.val →
    Yields (.shroudHelloReceived j s.pair.mateSerial (BitVec.ofNat 8 (mateAddress s)) lnk vmax vmin) s fun t =>
      (link j t).hello = true ∧ (link j t).miscabled = false ∧ (link j t).version = min (shroudMax s) vmax.val ∧
      ¬ Stands .shroudMiscabled j t ∧ ¬ Stands .shroudVersion j t ∧ OnlyIn [.pins, .regs, .obs, .pair] s t) ∧
  (∀ (j : Fin 2) (serial : BitVec 64) (addr : BitVec 8) (lnk vmax vmin : Fin 256) (s : State), linkLit j s = true → paired s = true →
    (serial ≠ s.pair.mateSerial ∨ lnk.val ≠ j.val) →
    Yields (.shroudHelloReceived j serial addr lnk vmax vmin) s fun t =>
      (link j t).hello = false ∧ (link j t).miscabled = true ∧ Stands .shroudMiscabled j t ∧ OnlyIn [.pins, .regs, .obs, .pair, .upd] s t) ∧
  (∀ s : State, linkTalks 0 s = true → linkTalks 1 s = false → paired s = true →
    Yields .shroudHeartbeatSend s fun t =>
      t.pair = { s.pair with hbCount := s.pair.hbCount + 1, txSeq := s.pair.txSeq + 1 } ∧
      Emitted [⟨.heartbeat, (linkChan 0 s).getD 0, 0 :: (s.pair.txSeq : Int) ::
        [((s.pair.hbCount + 1).toNat : Int), s.pair.role.code, beatFlags s, s.pair.epoch.toNat, s.commits.pairNumber.toNat, s.pair.ckptSeq.toNat,
          txQlOf 255 s, (ownDs (domInst .a s) s).cls.toNat, (esmcChain s).getD 0 0, (esmcChain s).getD 1 0]⟩] s t ∧
      OnlyIn [.pair, .wire] s t) ∧
  (∀ s : State, linkTalks 0 s = false → linkTalks 1 s = false → Yields .shroudHeartbeatSend s fun t => t = s) ∧
  (∀ (j : Fin 2) (x : Seal) (h : Beat) (s : State), linkTalks j s = true → Verifies x s → s.pair.role = .active → h.role.val = 1 →
    Yields (.shroudHeartbeatReceived j x h) s fun t =>
      t.pair.shroudHb = true ∧ (link j t).beat = true ∧ t.pair.mateRole = 1 ∧ t.pair.mateNumber = h.number ∧ t.pair.mateCkpt = h.ckpt ∧
      t.pair.epoch = BitVec.ofNat 32 (max s.pair.epoch.toNat h.epoch.toNat) ∧ t.pair.role = .active ∧ ¬ Stands .shroudLost noInst t) ∧
  (∀ (j : Fin 2) (x : Seal) (h : Beat) (s : State), linkTalks j s = true → paired s = true → x.ok = false →
    Yields (.shroudHeartbeatReceived j x h) s fun t => countOf 0x120A 4 t = countOf 0x120A 4 s + 1 ∧ OnlyIn [.regs, .obs] s t) ∧
  (∀ (j : Fin 2) (x : Seal) (h : Beat) (s : State), linkTalks j s = false → Yields (.shroudHeartbeatReceived j x h) s fun t => t = s) ∧
  (∀ s : State, s.pair.shroudHb = true → s.pair.glenoHb = true → s.pair.mateRole = 1 →
    Yields .shroudHeartbeatLost s fun t =>
      t.pair.shroudHb = false ∧ t.pair.missed = s.pair.missed + 3 ∧ Stands .shroudLost noInst t ∧ countOf 0x4413 7 t = countOf 0x4413 7 s + 1 ∧
      t.pair.role = s.pair.role ∧ (link 0 t).beat = false ∧ (link 1 t).beat = false ∧ OnlyIn [.pins, .regs, .obs, .pair, .upd] s t) ∧
  (∀ s : State, s.pair.shroudHb = false → Yields .shroudHeartbeatLost s fun t => t = s) ∧
  (∀ s : State, s.pair.glenoHb = true → s.pair.shroudHb = true → s.pair.mateRole = 1 →
    Yields .glenoHeartbeatLost s fun t =>
      t.pair.glenoHb = false ∧ Stands .glenoMateLost noInst t ∧ countOf 0x4413 8 t = countOf 0x4413 8 s + 1 ∧ t.pair.role = s.pair.role ∧
      OnlyIn [.pins, .regs, .obs, .pair, .upd] s t) ∧
  (∀ s : State, s.pair.glenoHb = true → s.pair.shroudHb = false → paired s = true → s.pair.role = .standby → s.pair.mateStopped = false →
    s.pair.handover = none → portTrained s = true → s.pair.witness.isSome = true →
    Yields .glenoHeartbeatLost s fun t =>
      t.pair.arbitrating = true ∧ t.pair.role = .standby ∧ countOf 0x4413 4 t = countOf 0x4413 4 s + 1 ∧ t.wire.length = s.wire.length + 1) ∧
  (∀ s : State, s.pair.glenoHb = false → Yields .glenoHeartbeatLost s fun t => t = s) ∧
  (∀ (epoch : BitVec 32) (s : State), s.pair.arbitrating = true → mateLost s = true → s.pair.role = .standby → s.pair.inhibit = false →
    Yields (.arbitrationAnswer true epoch) s fun t =>
      t.pair.role = .active ∧ t.pair.epoch = epoch ∧ t.pair.arbitrating = false ∧ countOf 0x4413 1 t = countOf 0x4413 1 s + 1) ∧
  (∀ (epoch : BitVec 32) (s : State), s.pair.arbitrating = true → mateLost s = true → s.pair.role = .standby →
    Yields (.arbitrationAnswer false epoch) s fun t =>
      t.pair = { s.pair with arbitrating := false, refused := true, holdoff := false } ∧ countOf 0x4413 5 t = countOf 0x4413 5 s + 1 ∧
      OnlyIn [.regs, .obs, .pair] s t) ∧
  (∀ (g : Bool) (epoch : BitVec 32) (s : State), s.pair.arbitrating = false → Yields (.arbitrationAnswer g epoch) s fun t => t = s) ∧
  (∀ s : State, s.pair.refused = true → mateLost s = true → s.pair.role = .standby → s.pair.witness.isSome = true → portTrained s = true →
    Yields .arbitrationRetry s fun t =>
      t.pair = { s.pair with arbitrating := true } ∧ countOf 0x4413 4 t = countOf 0x4413 4 s + 1 ∧ t.wire.length = s.wire.length + 1 ∧
      OnlyIn [.regs, .obs, .pair, .wire] s t) ∧
  (∀ s : State, s.pair.refused = false → Yields .arbitrationRetry s fun t => t = s) ∧
  (∀ s : State, mateLost s = true → s.pair.role = .standby → s.pair.holdoff = false → s.pair.refused = false →
    Yields .arbTimeoutExpiry s fun t =>
      t.pair = { s.pair with holdoff := true } ∧ countOf 0x4413 6 t = countOf 0x4413 6 s + 1 ∧ OnlyIn [.regs, .obs, .pair] s t) ∧
  (∀ s : State, mateLost s = false → Yields .arbTimeoutExpiry s fun t => t = s) ∧
  (∀ s : State, s.pair.holdoff = true → mateLost s = true → s.pair.role = .standby → s.pair.inhibit = false →
    Yields .silenceHoldoffExpiry s fun t =>
      t.pair.role = .active ∧ t.pair.epoch = BitVec.ofNat 32 (max s.pair.epoch.toNat s.pair.mateEpoch.toNat + 1) ∧ t.pair.holdoff = false ∧
      countOf 0x4413 1 t = countOf 0x4413 1 s + 1) ∧
  (∀ s : State, s.pair.holdoff = true → mateLost s = true → s.pair.role = .standby → s.pair.inhibit = true →
    Yields .silenceHoldoffExpiry s fun t =>
      t.pair.role = .standby ∧ Stands .takeoverInhibited noInst t ∧ OnlyIn [.pins, .regs, .obs, .pair, .upd] s t) ∧
  (∀ s : State, s.pair.holdoff = false → Yields .silenceHoldoffExpiry s fun t => t = s)

/-- SHROUD_TIME_SYNC_SEND, SHROUD_SYNC_RECEIVED, SHROUD_REQUEST_RECEIVED, SHROUD_ANSWER_RECEIVED, CHECKPOINT_SEND, CHECKPOINT_RECEIVED,
REPLICA_RECEIVED, STREAM_RESET_TIMEOUT, STREAM_READ_REQ, ROLE_SWAP, HANDOVER_NOTICE_RECEIVED, HANDOVER_CONFIRMED, HANDOVER_CONFIRM_TIMEOUT,
HANDOVER_SECOND_N, PAIR_RESYNC, WITNESS_REGISTER (R517, R522, R523, R526, R528, R529, R531 to R533, R535): the active module syncs and the standby
answers, a good exchange gives the offsets of the mate's slot; a checkpoint is numbered and held; a replica at level 4 is discarded; a stream takes
any number after its time-out; a handover is noticed, confirmed, abandoned or done at second N; a standby resynchronises; the witness is the session
that registers. -/
def Obligations.PairExchanges : Prop :=
  (∀ (t1 : Int) (j : Nat) (s : State), mateLink s = some j → s.pair.role = .active →
    Yields (.shroudTimeSyncSend t1) s fun t =>
      t.pair = { s.pair with exNo := s.pair.exNo + 1, txSeq := s.pair.txSeq + 1 } ∧
      Emitted [⟨.shroudSync, (linkChan j s).getD 0, [j, s.pair.txSeq, 1, (s.pair.exNo + 1).toNat, shroudFlags j false s, t1, bMinusA s]⟩] s t ∧
      OnlyIn [.pair, .wire] s t) ∧
  (∀ (t1 : Int) (s : State), s.pair.role ≠ .active → Yields (.shroudTimeSyncSend t1) s fun t => t = s) ∧
  (∀ (j : Fin 2) (x : Seal) (ex : BitVec 16) (fl : BitVec 8) (t1 dba t2 t3 : Int) (s : State), linkUp j s = true → Verifies x s →
    s.pair.role = .standby → (tsu (tileOf ((linkChan j s).getD 0)) s).queue.length < 32 →
    Yields (.shroudSyncReceived j x ex fl t1 dba t2 t3) s fun t =>
      (t.pair.exch.map (fun e => (e.link, e.ex, e.t1, e.t2, e.t3, e.dba, e.bma, e.at_))) = some (j.val, ex, t1, t2, t3, dba, bMinusA s, s.now) ∧
      t.wire.length = s.wire.length + 1 ∧ OnlyIn [.ptp, .pair, .wire] s t) ∧
  (∀ (j : Fin 2) (x : Seal) (ex : BitVec 16) (t4 : Int) (s : State), linkUp j s = true → Verifies x s → s.pair.role = .active →
    Yields (.shroudRequestReceived j x ex t4) s fun t =>
      Emitted [⟨.shroudAnswer, (linkChan j s).getD 0, [j, s.pair.txSeq, 3, ex.toNat, shroudFlags j true s, t4]⟩] s t ∧ OnlyIn [.ptp, .pair, .wire] s t) ∧
  (∀ (j : Fin 2) (x : Seal) (ex : BitVec 16) (t4 : Int) (s : State), linkUp j s = false → Yields (.shroudRequestReceived j x ex t4) s fun t => t = s) ∧
  (∀ (j : Fin 2) (x : Seal) (e : ShroudEx) (t4 : Int) (s : State), linkUp j s = true → Verifies x s → s.pair.role = .standby → s.pair.exch = some e →
    e.link = j.val → e.bad = false → e.epochA = s.tb.a.epoch → e.epochB = s.tb.b.epoch → s.now ≤ e.at_ + 6250000 →
    onJury (tileOf ((linkChan j s).getD 0)) s = false → s.pair.offs = [] →
    Yields (.shroudAnswerReceived j x e.ex 0 true t4) s fun t =>
      t.pair.exch = none ∧
      t.pair.offs = [(j.val, s.now, ((e.t2 - e.t1) - (t4 - e.t3)) / 2, ((e.t2 - e.t1) - (t4 - e.t3)) / 2 + (e.bma - e.dba))] ∧
      (slot (4 + j) t).timeErr = -(((e.t2 - e.t1) - (t4 - e.t3)) / 2) ∧ (slot (4 + j) t).present = true ∧ OnlyIn [.refs, .pair] s t) ∧
  (∀ (j : Fin 2) (x : Seal) (ex : BitVec 16) (fl : BitVec 8) (t4 : Int) (e : ShroudEx) (s : State), linkUp j s = true → Verifies x s →
    s.pair.exch = some e →
    Yields (.shroudAnswerReceived j x ex fl false t4) s fun t => t.pair.exch = none ∧ t.pair.offs = s.pair.offs ∧ OnlyIn [.pair] s t) ∧
  (∀ s : State, s.pair.role = .active → s.life.state ≠ .restarting → migratingRole .pair s = false →
    Yields .checkpointSend s fun t => t.pair.ckptSeq = s.pair.ckptSeq + 1 ∧ t.pair.held = s.pair.held ∧ OnlyIn [.pair, .wire] s t) ∧
  (∀ s : State, s.pair.role ≠ .active → Yields .checkpointSend s fun t => t = s) ∧
  (∀ (x : Seal) (b : List Byte) (s : State), Verifies x s → s.pair.role = .standby → b.length = 160 →
    Yields (.checkpointReceived x b) s fun t =>
      t.pair.held = some ⟨b, s.now⟩ ∧ t.pair.ckptSeq = BitVec.ofNat 32 (ckNat b 0 4) ∧ t.pair.mateEpoch = BitVec.ofNat 32 (ckNat b 16 4) ∧
      t.pair.role = .standby ∧ OnlyIn [.regs, .obs, .tb, .egr, .pair] s t) ∧
  (∀ (x : Seal) (b : List Byte) (s : State), Verifies x s → s.pair.role = .active → Yields (.checkpointReceived x b) s fun t => OnlyIn [.pair] s t ∧ t.pair.held = s.pair.held) ∧
  (∀ (j : Fin 2) (c : Nat) (b : List Byte) (a : Arrival) (s : State), linkChan j s = some c → linkUp j s = true → 20 ≤ b.length → s.power.level = 4 →
    Yields (.replicaReceived j b a) s fun t => countOf 0x4413 9 t = countOf 0x4413 9 s + 1 ∧ OnlyIn [.regs, .obs] s t) ∧
  (∀ (j : Fin 2) (c : Nat) (b : List Byte) (a : Arrival) (s : State), linkChan j s = some c → linkUp j s = true → 20 ≤ b.length → s.power.level ≠ 4 →
    a.overload = false → streamCfg (ckNat b 0 2) s = 0 → nhUsable (ckNat b 8 4) s = true →
    fabQ (tileOf c) (tileOf (field (row (ckNat b 8 4) s.fwd.tables.nh).bits 254 247)) s = [] → b.length ≤ 20000 →
    Yields (.replicaReceived j b a) s fun t =>
      (fabQ (tileOf c) (tileOf (field (row (ckNat b 8 4) s.fwd.tables.nh).bits 254 247)) t).map (fun k => (k.raw, k.way, k.cls)) =
        [((b.drop 16).take (b.length - 20), .hop (ckNat b 8 4), (b.getD 3 0).toNat % 16)] ∧ OnlyIn [.sw] s t) ∧
  (∀ (n : BitVec 16) (s : State), field (streamCfg n.toNat s) 127 125 = 6 → (stream n.toNat s).takeAny = false →
    Yields (.streamResetTimeout n) s fun t =>
      (stream n.toNat t).takeAny = true ∧ (∀ i : Nat, i ≠ n.toNat → stream i t = stream i s) ∧ t.fwd.tables = s.fwd.tables ∧ OnlyIn [.fwd] s t) ∧
  (∀ (n : BitVec 16) (s : State), (stream n.toNat s).takeAny = true → Yields (.streamResetTimeout n) s fun t => t = s) ∧
  (∀ (q : Req) (n : BitVec 16) (s : State), admits q .operator s = true →
    Yields (.streamReadReq q n) s fun t =>
      (session q.sess t).map (fun e => e.streamRead) = some (streamBytes n.toNat s) ∧ Answered q 0 [] s t ∧ OnlyIn [.gleno] s t) ∧
  (∀ (q : Req) (s : State), admits q .operator s = true → handoverOk s = true → s.pair.handover = none →
    Yields (.roleSwap q true) s fun t =>
      t.pair.handover = some ⟨some q, false, false, handoverSecond s, false⟩ ∧ t.pair.role = s.pair.role ∧ Answered q 0x0402 [] s t) ∧
  (∀ (q : Req) (s : State), admits q .operator s = true → handoverOk s = false →
    Yields (.roleSwap q true) s fun t => Answered q 0x081C [] s t ∧ OnlyIn [.gleno] s t) ∧
  (∀ (x : Seal) (n : Nat) (s : State), Verifies x s → s.pair.role = .standby → s.pair.inhibit = false →
    Yields (.handoverNoticeReceived x n) s fun t =>
      t.pair.handover = some ⟨none, false, true, n, true⟩ ∧ t.wire.length = s.wire.length + 1 ∧ OnlyIn [.pair, .wire] s t) ∧
  (∀ (x : Seal) (h : Handover) (s : State), Verifies x s → s.pair.handover = some h →
    Yields (.handoverConfirmed x) s fun t => t.pair.handover = some { h with confirmed := true } ∧ t.pair.role = s.pair.role ∧ OnlyIn [.pair] s t) ∧
  (∀ (h : Handover) (q : Req) (s : State), s.pair.handover = some h → h.confirmed = false → h.req = some q → h.stop = false → isPending q s = true →
    Yields .handoverConfirmTimeout s fun t => t.pair.handover = none ∧ Completed q 0x081C s t ∧ t.pair.role = s.pair.role ∧ OnlyIn [.pair, .gleno] s t) ∧
  (∀ s : State, s.pair.handover = none → Yields .handoverConfirmTimeout s fun t => t = s) ∧
  (∀ (h : Handover) (s : State), s.pair.handover = some h → h.confirmed = true → ((h.second * lsbPerSec : Nat) : Int) ≤ s.tb.p → h.incoming = true →
    s.pair.role = .standby →
    Yields .handoverSecondN s fun t =>
      t.pair.role = .active ∧ t.pair.handover = none ∧ countOf 0x4413 2 t = countOf 0x4413 2 s + 1 ∧
      t.pair.epoch = BitVec.ofNat 32 (max s.pair.epoch.toNat s.pair.mateEpoch.toNat + 1)) ∧
  (∀ (h : Handover) (s : State), s.pair.handover = some h → h.confirmed = true → ((h.second * lsbPerSec : Nat) : Int) ≤ s.tb.p → h.incoming = false →
    h.req = none →
    Yields .handoverSecondN s fun t => t.pair.role = .standby ∧ t.pair.handover = none ∧ countOf 0x4413 2 t = countOf 0x4413 2 s + 1) ∧
  (∀ (h : Handover) (s : State), s.pair.handover = some h → s.tb.p < ((h.second * lsbPerSec : Nat) : Int) →
    Yields .handoverSecondN s fun t => t = s) ∧
  (∀ (q : Req) (s : State), admits q .operator s = true → s.pair.role = .standby → paired s = true → s.pair.resync = false →
    s.pair.mateNumber = s.commits.pairNumber → diverged s = false →
    Yields (.pairResync q true) s fun t =>
      t.commits.pairState = 0 ∧ t.pair.resync = false ∧ ¬ Stands .pairDiverged noInst t ∧ Answered q 0 [] s t) ∧
  (∀ (q : Req) (s : State), admits q .operator s = true → s.pair.role = .standby → paired s = true → s.pair.resync = false → diverged s = true →
    shroudUp s = true →
    Yields (.pairResync q true) s fun t => t.commits.pairState = 2 ∧ t.pair.resync = true ∧ t.wire.length = s.wire.length + 1 ∧ Answered q 0 [] s t) ∧
  (∀ (q : Req) (s : State), admits q .operator s = true → s.pair.role ≠ .standby →
    Yields (.pairResync q true) s fun t => Answered q 0x081D [] s t ∧ OnlyIn [.gleno] s t) ∧
  (∀ (q : Req) (s : State), admits q .operator s = true →
    Yields (.witnessRegister q true) s fun t => t.pair = { s.pair with witness := some q.sess } ∧ Answered q 0 [] s t ∧ OnlyIn [.pair, .gleno] s t) ∧
  (∀ (q : Req) (s : State), admits q .operator s = true →
    Yields (.witnessRegister q false) s fun t => t.pair.witness ≠ some q.sess ∧ Answered q 0 [] s t ∧ OnlyIn [.pair, .gleno] s t)

/-! ## Trust and keys -/

/-- TAMPER_EVENT, TAMPER_ACK, ZEROISE_OPERATOR_SECRETS, ZEROISE_ALL, LDEVID_GENERATE, LDEVID_GENERATED, ATTEST_REQUEST, ATTEST_REPORT_READY,
SERVICE_OPEN, SERVICE_EXPIRY, COUNTER_INCREMENT, ENTROPY_FAULT, ENTROPY_RETEST, ISLAND_CLOCK_SET (R538 to R546, R548, R555, R556): a tamper event is
recorded, counted and acted on by its policy; zeroising erases the secrets and the sessions; keys and reports are made on request unless the entropy
source has failed; the service role opens for its minutes; a counter rises by one or stays at its maximum; the island clock follows a traceable domain
A. -/
def Obligations.IslandCommands : Prop :=
  (∀ (k : Fin 6) (s : State), cfg 0x6011 (k + 1) s = 0 → s.life.nymyx = true →
    Yields (.tamperEvent k) s fun t =>
      t.trust.classes = s.trust.classes ||| BitVec.ofNat 6 (2 ^ k.val) ∧ t.trust.log.head? = some ⟨islandClock s, k.val + 1, 0⟩ ∧
      t.trust.lock = s.trust.lock ∧ Stands .tamperRecord (k + 1) t ∧ countOf 0x601D 4 t = countOf 0x601D 4 s + 1 ∧ t.gleno = s.gleno ∧
      OnlyIn [.pins, .regs, .obs, .upd, .trust] s t) ∧
  (∀ (k : Fin 6) (s : State), cfg 0x6011 (k + 1) s = 1 → s.life.nymyx = true →
    Yields (.tamperEvent k) s fun t =>
      t.trust.lock = true ∧ t.trust.service = none ∧ Stands .tamperLock (k + 1) t ∧ (∀ x ∈ t.gleno.sessions, x.2.role = .custodian)) ∧
  (∀ (k : Fin 6) (s : State), cfg 0x6011 (k + 1) s = 2 → s.life.nymyx = true →
    Yields (.tamperEvent k) s fun t =>
      t.trust.halKeys = [] ∧ t.trust.cas = [] ∧ t.trust.ldevid = false ∧ t.trust.state = (if s.trust.state = 3 then 3 else 0) ∧ t.gleno.sessions = [] ∧
      Stands .tamperZero (k + 1) t) ∧
  (∀ (q : Req) (s : State), admits q .custodian s = true →
    Yields (.tamperAck q true) s fun t =>
      t.trust = { s.trust with lock := false, classes := 0 } ∧ (∀ c : Fin 6, ¬ Stands .tamperLock (c + 1) t) ∧ Answered q 0 [] s t ∧
      OnlyIn [.pins, .regs, .gleno, .obs, .trust] s t) ∧
  (∀ (q : Req) (s : State), admits q .custodian s = true →
    Yields (.tamperAck q false) s fun t => Answered q 0 [] s t ∧ OnlyIn [.gleno] s t) ∧
  (∀ (q : Req) (s : State), admits q .custodian s = true →
    Yields (.zeroiseOperatorSecrets q) s fun t =>
      t.trust.halKeys = [] ∧ t.trust.cas = [] ∧ t.trust.ldevid = false ∧ t.trust.ldevChain = [] ∧ t.trust.pendKey = false ∧ t.trust.state = (if s.trust.state = 3 then 3 else 0) ∧
      t.trust.idevid = s.trust.idevid ∧ t.gleno.sessions = [] ∧
      (∀ v ∈ t.dict.vals, v.1 / 256 ≠ 0x6005 ∧ v.1 / 256 ≠ 0x6006 ∧ v.1 / 256 ≠ 0x6007 ∧ v.1 / 256 ≠ 0x6008) ∧ Answered q 0x0402 [] s t ∧
      t.gleno.completions = s.gleno.completions ++ [⟨q.sess, q.id, 0, []⟩]) ∧
  (∀ (q : Req) (s : State), admits q .operator s = true → admits q .custodian s = false →
    Yields (.zeroiseOperatorSecrets q) s fun t => Answered q 0x0201 [] s t ∧ OnlyIn [.gleno] s t) ∧
  (∀ (q : Req) (s : State), admits q .custodian s = true →
    Yields (.zeroiseAll q) s fun t =>
      t.trust.halKeys = [] ∧ t.trust.cas = [] ∧ t.trust.idevid = false ∧ t.trust.state = 3 ∧ t.regs.assetTag = 0 ∧ t.gleno.sessions = [] ∧
      t.gleno.pairSess = none ∧ (s.life.nymyx = true → s.life.state = .running → t.life.state = .stopping) ∧ Answered q 0x0402 [] s t) ∧
  (∀ (q : Req) (s : State), admits q .custodian s = true → s.trust.entropy = false → bootMigrates s = false → s.trust.genReq = none →
    Yields (.ldevidGenerate q true) s fun t =>
      t.trust = { s.trust with genReq := some q } ∧ Answered q 0x0402 [] s t ∧ OnlyIn [.regs, .gleno, .obs, .trust] s t) ∧
  (∀ (q : Req) (s : State), admits q .custodian s = true → s.trust.entropy = true →
    Yields (.ldevidGenerate q true) s fun t => Answered q 0x0401 [] s t ∧ OnlyIn [.gleno] s t) ∧
  (∀ (q : Req) (s : State), s.trust.genReq = some q → isPending q s = true →
    Yields .ldevidGenerated s fun t =>
      t.trust.genReq = none ∧ t.trust.pendKey = true ∧ t.trust.ldevid = s.trust.ldevid ∧ Completed q 0 s t ∧ OnlyIn [.gleno, .trust, .draws] s t) ∧
  (∀ s : State, s.trust.genReq = none → Yields .ldevidGenerated s fun t => t = s) ∧
  (∀ (q : Req) (v : List Byte) (e : Session) (s : State), admits q .custodian s = true → session q.sess s = some e → v.length = 36 →
    v.getD 32 0 = 0 → bootMigrates s = false → e.attestReq = none → s.trust.entropy = false →
    Yields (.attestRequest q v) s fun t =>
      (session q.sess t).map (fun e => (e.attestReq, e.nonce)) = some (some q, v) ∧ Answered q 0x0402 [] s t ∧ OnlyIn [.regs, .gleno, .obs] s t) ∧
  (∀ (q : Req) (v : List Byte) (s : State), admits q .custodian s = true → v.length ≠ 36 →
    Yields (.attestRequest q v) s fun t => Answered q 0x0302 [] s t ∧ OnlyIn [.gleno] s t) ∧
  (∀ (n : Nat) (e : Session) (q : Req) (s : State), session n s = some e → e.attestReq = some q → q.sess = n → q.id ∈ e.pendingIds →
    Yields (.attestReportReady n) s fun t =>
      (session n t).map (fun e => (e.attest.take 312, e.attestReq)) = some ((attestBody e.nonce s).take 312, none) ∧
      countOf 0x601D 6 t = countOf 0x601D 6 s + 1 ∧ Completed q 0 s t ∧ OnlyIn [.regs, .gleno, .obs, .draws] s t) ∧
  (∀ (n : Nat) (s : State), session n s = none → Yields (.attestReportReady n) s fun t => t = s) ∧
  (∀ (q : Req) (m : BitVec 16) (s : State), admits q .custodian s = true → 0 < m.toNat → m.toNat ≤ 1440 → s.trust.lock = false →
    Yields (.serviceOpen q m) s fun t =>
      t.trust = { s.trust with service := some (s.now + m.toNat * 6000000000) } ∧ Answered q 0 [] s t ∧ OnlyIn [.gleno, .trust] s t) ∧
  (∀ (q : Req) (m : BitVec 16) (s : State), admits q .custodian s = true → 1440 < m.toNat →
    Yields (.serviceOpen q m) s fun t => Answered q 0x0301 [] s t ∧ OnlyIn [.gleno] s t) ∧
  (∀ (x : Nat) (s : State), s.trust.service = some x → x ≤ s.now →
    Yields .serviceExpiry s fun t => t.trust.service = none ∧ (∀ y ∈ t.gleno.sessions, y.2.role ≠ .service)) ∧
  (∀ (x : Nat) (s : State), s.trust.service = some x → s.now < x → Yields .serviceExpiry s fun t => t = s) ∧
  (∀ (q : Req) (n : BitVec 8) (s : State), admits q .custodian s = true → 5 ≤ n.toNat → n.toNat ≤ 7 → s.trust.counters.length = 8 →
    s.trust.counters.getD n.toNat 0 ≠ 0xFFFFFFFF →
    Yields (.counterIncrement q n) s fun t =>
      t.trust.counters.getD n.toNat 0 = s.trust.counters.getD n.toNat 0 + 1 ∧
      (∀ i : Nat, i ≠ n.toNat → t.trust.counters.getD i 0 = s.trust.counters.getD i 0) ∧ Answered q 0 [] s t ∧ OnlyIn [.gleno, .trust] s t) ∧
  (∀ (q : Req) (n : BitVec 8) (s : State), admits q .custodian s = true → 5 ≤ n.toNat → n.toNat ≤ 7 → s.trust.counters.getD n.toNat 0 = 0xFFFFFFFF →
    Yields (.counterIncrement q n) s fun t => Answered q 0x0820 [] s t ∧ OnlyIn [.gleno] s t) ∧
  (∀ (q : Req) (n : BitVec 8) (s : State), admits q .custodian s = true → (n.toNat < 5 ∨ 7 < n.toNat) →
    Yields (.counterIncrement q n) s fun t => Answered q 0x0301 [] s t ∧ OnlyIn [.gleno] s t) ∧
  (∀ s : State, s.trust.entropy = false →
    Yields .entropyFault s fun t =>
      t.trust = { s.trust with entropy := true } ∧ Stands .entropy noInst t ∧ countOf 0x601D 12 t = countOf 0x601D 12 s + 1 ∧
      OnlyIn [.pins, .regs, .obs, .trust, .upd] s t) ∧
  (∀ s : State, s.trust.entropy = true → Yields .entropyFault s fun t => t = s) ∧
  (∀ s : State, s.trust.entropy = true →
    Yields (.entropyRetest true) s fun t =>
      t.trust = { s.trust with entropy := false } ∧ ¬ Stands .entropy noInst t ∧ OnlyIn [.pins, .regs, .obs, .trust] s t) ∧
  (∀ s : State, Yields (.entropyRetest false) s fun t => t = s) ∧
  (∀ s : State, s.life.state ≠ .unpowered → s.tb.a.traceable = true →
    Yields .islandClockSet s fun t =>
      t.trust = { s.trust with clock := domA s * 32768 / lsbPerSec, clockAt := s.now, clockOk := true } ∧ OnlyIn [.trust] s t) ∧
  (∀ s : State, s.tb.a.traceable = false → Yields .islandClockSet s fun t => t = s)

/-- MKA_PDU_RECEIVED, MKA_HELLO_SEND, MKA_PEER_TIMEOUT, MACSEC_CAK_WRITE, MACSEC_REKEY, HALYARD_KEY_WRITE, HALYARD_KEY_ROLLOVER (R559, R562, R563,
R565, R566): a live peer's PDU is taken by the end that is not the key server, a PDU that does not verify raises the alarm, a peer silent for 6 s ends
the association; a CAK clears what it replaces; a Halyard key is installed, refused or removed. -/
def Obligations.LinkKeys : Prop :=
  (∀ (c : Chan) (m : MkaPdu) (k : Fin 4 × BitVec 32) (s : State), mkaRuns c s = true → m.icvOk = true → m.suite = true → m.live = true →
    keyServer c m s = false → m.sak = some k → (ca c s).sak = false →
    Yields (.mkaPduReceived c m) s fun t =>
      ca c t = { ca c s with live := true, server := false, sak := true, rekey := false, an := k.1.val, keyNo := k.2, pn := 1 } ∧
      ¬ Stands .macsecPeer c t ∧ OnlyIn [.pins, .regs, .obs, .trust] s t) ∧
  (∀ (c : Chan) (m : MkaPdu) (s : State), mkaRuns c s = true → m.icvOk = true → m.suite = true → m.live = true →
    keyServer c m s = true → (ca c s).sak = false → (ca c s).rekey = false → m.rekey = false → s.life.state ≠ .restarting → s.trust.entropy = false →
    Yields (.mkaPduReceived c m) s fun t =>
      (ca c t).live = true ∧ (ca c t).server = true ∧ (ca c t).rekey = true ∧ (ca c t).keyNo = (ca c s).keyNo + 1 ∧
      (ca c t).an = ((ca c s).an + 1) % 4 ∧ t.draws = s.draws + 1) ∧
  (∀ (c : Chan) (m : MkaPdu) (s : State), mkaRuns c s = true → m.icvOk = false →
    Yields (.mkaPduReceived c m) s fun t => Stands .macsecPeer c t ∧ t.trust = s.trust ∧ OnlyIn [.pins, .regs, .obs, .upd] s t) ∧
  (∀ (c : Chan) (m : MkaPdu) (s : State), mkaRuns c s = false → Yields (.mkaPduReceived c m) s fun t => t = s) ∧
  (∀ (c : Chan) (s : State), s.life.state ≠ .restarting → (∀ d : Chan, mkaRuns d s = decide (d = c)) →
    Yields .mkaHelloSend s fun t =>
      Emitted [⟨.mka, c, [ownPrio c s, ownSci c s, b2n (ca c s).live, b2n ((ca c s).server && (ca c s).rekey), (ca c s).an, (ca c s).keyNo.toNat,
        b2n (ca c s).sak]⟩] s t ∧ OnlyIn [.wire] s t) ∧
  (∀ s : State, s.life.state = .restarting → Yields .mkaHelloSend s fun t => t = s) ∧
  (∀ (c : Chan) (s : State), (ca c s).live = true →
    Yields (.mkaPeerTimeout c) s fun t =>
      ca c t = { ca c s with live := false, sak := false, rekey := false } ∧ Stands .macsecPeer c t ∧
      countOf 0x601D 7 t = countOf 0x601D 7 s + 1 ∧ OnlyIn [.pins, .regs, .obs, .trust, .upd] s t) ∧
  (∀ (c : Chan) (s : State), (ca c s).live = false → Yields (.mkaPeerTimeout c) s fun t => t = s) ∧
  (∀ (q : Req) (c : Chan) (v : List Byte) (s : State), admits q .custodian s = true → v.length = 68 → 1 ≤ (v.getD 0 0).toNat → (v.getD 0 0).toNat ≤ 32 →
    Yields (.macsecCakWrite q (BitVec.ofNat 8 (c + 1)) v) s fun t =>
      ca c t = { Ca.reset with ckn := (v.drop 4).take (v.getD 0 0).toNat, cak := v.drop 36 } ∧
      (∀ d : Nat, d ≠ c.val → ca d t = ca d s) ∧ Answered q 0 [] s t ∧ OnlyIn [.gleno, .trust] s t) ∧
  (∀ (q : Req) (c : Chan) (v : List Byte) (s : State), admits q .custodian s = true → v.length ≠ 68 →
    Yields (.macsecCakWrite q (BitVec.ofNat 8 (c + 1)) v) s fun t => Answered q 0x0302 [] s t ∧ OnlyIn [.gleno] s t) ∧
  (∀ (q : Req) (c : Chan) (s : State), admits q .custodian s = true → s.trust.entropy = false → mkaRuns c s = true → (ca c s).live = true →
    (ca c s).server = true →
    Yields (.macsecRekey q (BitVec.ofNat 8 (c + 1)) true) s fun t =>
      (ca c t).rekey = true ∧ (ca c t).keyNo = (ca c s).keyNo + 1 ∧ Answered q 0 [] s t ∧ OnlyIn [.gleno, .trust, .draws] s t) ∧
  (∀ (q : Req) (c : Chan) (s : State), admits q .custodian s = true → s.trust.entropy = true →
    Yields (.macsecRekey q (BitVec.ofNat 8 (c + 1)) true) s fun t => Answered q 0x0401 [] s t ∧ OnlyIn [.gleno] s t) ∧
  (∀ (q : Req) (n : Fin 16) (v : List Byte) (s : State), admits q .custodian s = true → v.length = 56 → BitVec.ofNat 32 (leNat (v.take 4)) ≠ 0 →
    s.trust.halKeys = [] →
    Yields (.halyardKeyWrite q (BitVec.ofNat 8 (n + 1)) v) s fun t =>
      t.trust.halKeys = [(n.val + 1, ⟨BitVec.ofNat 32 (leNat (v.take 4)), v.getD 4 0 &&& 3#8, v.getD 5 0, leNat ((v.drop 8).take 8),
        leNat ((v.drop 16).take 8), v.drop 24⟩)] ∧ Answered q 0 [] s t ∧ OnlyIn [.pins, .regs, .gleno, .obs, .ptp, .trust, .upd] s t) ∧
  (∀ (q : Req) (n m : Fin 16) (v : List Byte) (k : HalKey) (s : State), admits q .custodian s = true → v.length = 56 →
    k.id = BitVec.ofNat 32 (leNat (v.take 4)) → k.id ≠ 0 → s.trust.halKeys = [(m.val + 1, k)] → m ≠ n →
    Yields (.halyardKeyWrite q (BitVec.ofNat 8 (n + 1)) v) s fun t => Answered q 0x081F [] s t ∧ OnlyIn [.gleno] s t) ∧
  (∀ s : State, Yields .halyardKeyRollover s fun t =>
    (∀ (c : Chan) (i : Fin 2), (port c i s).st ≠ .disabled → portFault c i s = true → (port c i t).st = .faulty) ∧
    (∀ (c : Chan) (i : Fin 2), (port c i s).st = .faulty → portFault c i s = false → mustSuspend c s = false → (port c i t).st = .listening) ∧
    (∀ (c : Chan) (i : Fin 2), (port c i s).st = .disabled → port c i t = port c i s) ∧ OnlyIn [.pins, .regs, .obs, .ptp, .upd] s t)

/-! ## Firmware update -/

/-- UPDATE_DOWNLOAD_INITIATE, IMAGE_VERIFIED, UPDATE_ARM, UPDATE_DISARM, UPDATE_ARM_RESTART, UPDATE_CONFIRM_ACCEPT, UPDATE_REJECT, UPDATE_DISCARD,
AUTO_CONFIRM_EXPIRY, FLASH_COPY_BLOCK, RESERVE_REFRESH_BLOCK, BOOT_ROM_RETRY (R540, R571 to R573, R575 to R578, R580, R581, R583, R589): a download
opens under its grant, a verified image is staged, armed and disarmed in order, a write out of order is refused; confirming never lowers counter 0 and
starts the refresh of the reserve; the copies move one block at a time and end in their state; the boot ROM runs the first image that verifies. -/
def Obligations.FirmwareUpdate : Prop :=
  (∀ (q : Req) (n : Nat) (e : Session) (s : State), admits q .custodian s = true → session q.sess s = some e → bootMigrates s = false →
    e.transfer = none → s.life.state ≠ .stopping → s.upd.state ≤ 1 → s.upd.download = none → s.upd.verifyReq = none → 4353 ≤ n → n ≤ 67108864 →
    backgroundFits 4 s = true →
    Yields (.updateDownloadInitiate q n) s fun t =>
      t.upd = { s.upd with state := 0, staging := [], rejected := false, download := some q.sess, seq := s.upd.seq + 1, written := timeA s } ∧
      unitsOf cFlash 3 t = 4 ∧ (session q.sess t).map (fun e => e.transfer) = some (some ⟨imageKey, true, n, [], 0⟩) ∧
      countOf 0x130D 1 t = countOf 0x130D 1 s + 1 ∧ Answered q 0 [] s t ∧ OnlyIn [.power, .regs, .gleno, .obs, .upd] s t) ∧
  (∀ (q : Req) (n : Nat) (e : Session) (s : State), admits q .custodian s = true → session q.sess s = some e → bootMigrates s = false →
    e.transfer = none → s.life.state ≠ .stopping → 1 < s.upd.state →
    Yields (.updateDownloadInitiate q n) s fun t => Answered q 0x0822 [] s t ∧ OnlyIn [.gleno] s t) ∧
  (∀ (v : Fin 9) (q : Req) (s : State), s.upd.verifyReq = some q → isPending q s = true → verifyImage s.upd.staging v s = 0 →
    Yields (.imageVerified v) s fun t =>
      t.upd.state = 1 ∧ t.upd.outcome = 1 ∧ t.upd.reason = 0 ∧ t.upd.verifyReq = none ∧ countOf 0x610B 1 t = countOf 0x610B 1 s + 1 ∧
      Completed q 0 s t ∧ OnlyIn [.regs, .gleno, .obs, .upd] s t) ∧
  (∀ (v : Fin 9) (q : Req) (s : State), s.upd.verifyReq = some q → isPending q s = true → verifyImage s.upd.staging v s ≠ 0 →
    Yields (.imageVerified v) s fun t =>
      t.upd.state = s.upd.state ∧ t.upd.outcome = 2 ∧ t.upd.reason = verifyImage s.upd.staging v s ∧ countOf 0x610B 2 t = countOf 0x610B 2 s + 1 ∧
      Completed q 0x0823 s t ∧ OnlyIn [.regs, .gleno, .obs, .upd] s t) ∧
  (∀ (v : Fin 9) (s : State), s.upd.verifyReq = none → Yields (.imageVerified v) s fun t => t = s) ∧
  (∀ (q : Req) (s : State), admits q .custodian s = true → bootMigrates s = false → s.upd.state = 1 → s.upd.download = none →
    Yields (.updateArm q) s fun t =>
      t.upd = { s.upd with state := 2, seq := s.upd.seq + 1, written := timeA s } ∧ Answered q 0 [] s t ∧ OnlyIn [.gleno, .upd] s t) ∧
  (∀ (q : Req) (s : State), admits q .custodian s = true → bootMigrates s = false → s.upd.state ≠ 1 →
    Yields (.updateArm q) s fun t => Answered q 0x0822 [] s t ∧ OnlyIn [.gleno] s t) ∧
  (∀ (q : Req) (s : State), admits q .custodian s = true → bootMigrates s = false → s.upd.state = 2 →
    Yields (.updateDisarm q) s fun t =>
      t.upd = { s.upd with state := 1, seq := s.upd.seq + 1, written := timeA s } ∧ Answered q 0 [] s t ∧ OnlyIn [.gleno, .upd] s t) ∧
  (∀ (q : Req) (s : State), admits q .custodian s = true → bootMigrates s = false → s.upd.state ≠ 2 →
    Yields (.updateDisarm q) s fun t => Answered q 0x0822 [] s t ∧ OnlyIn [.gleno] s t) ∧
  (∀ (q : Req) (s : State), admits q .custodian s = true → bootMigrates s = false → s.upd.state = 1 → s.upd.download = none →
    s.life.state = .running → paired s = false →
    Yields (.updateArmRestart q) s fun t => t.upd.state = 2 ∧ t.upd.staging = s.upd.staging ∧ t.life.state = .reset ∧ t.factory = s.factory) ∧
  (∀ (q : Req) (s : State), admits q .custodian s = true → bootMigrates s = false → s.life.state = .running → s.upd.state ≠ 1 →
    Yields (.updateArmRestart q) s fun t => Answered q 0x0822 [] s t ∧ OnlyIn [.gleno] s t) ∧
  (∀ (q : Req) (s : State), admits q .custodian s = true → bootMigrates s = false → s.upd.state = 4 → s.trust.counters.length = 8 →
    Yields (.updateConfirmAccept q) s fun t =>
      t.upd.state = 5 ∧ t.upd.outcome = 4 ∧ t.upd.block = 0 ∧ Stands .reserveInvalid noInst t ∧ countOf 0x610B 3 t = countOf 0x610B 3 s + 1 ∧
      (t.trust.counters.getD 0 0).toNat = max (s.trust.counters.getD 0 0).toNat (releaseOf s.upd.active).toNat ∧
      t.power.waiting = s.power.waiting ++ [⟨.background, .flashWrite 3, 4⟩] ∧ Answered q 0x0402 [] s t ∧
      t.gleno.completions = s.gleno.completions ++ [⟨q.sess, q.id, 0, []⟩]) ∧
  (∀ (q : Req) (s : State), admits q .custodian s = true → bootMigrates s = false → s.upd.state ≠ 4 →
    Yields (.updateConfirmAccept q) s fun t => Answered q 0x0822 [] s t ∧ OnlyIn [.gleno] s t) ∧
  (∀ (q : Req) (s : State), admits q .custodian s = true → bootMigrates s = false → s.upd.state = 4 →
    Yields (.updateReject q) s fun t =>
      t.upd = { s.upd with starts := 3, seq := s.upd.seq + 1, written := timeA s } ∧ t.trust = s.trust ∧ Answered q 0x0402 [] s t ∧
      t.gleno.completions = s.gleno.completions ++ [⟨q.sess, q.id, 0, []⟩]) ∧
  (∀ (q : Req) (s : State), admits q .custodian s = true → bootMigrates s = false → s.upd.state ≠ 4 →
    Yields (.updateReject q) s fun t => Answered q 0x0822 [] s t ∧ OnlyIn [.gleno] s t) ∧
  (∀ (q : Req) (s : State), admits q .custodian s = true → bootMigrates s = false → (s.upd.state = 1 ∨ s.upd.state = 2) →
    Yields (.updateDiscard q true) s fun t =>
      t.upd.state = 0 ∧ t.upd.staging = [] ∧ t.upd.outcome = 6 ∧ t.upd.release = releaseOf s.upd.staging ∧ t.upd.active = s.upd.active ∧
      t.upd.reserve = s.upd.reserve ∧ Answered q 0 [] s t ∧ OnlyIn [.gleno, .upd] s t) ∧
  (∀ (q : Req) (s : State), admits q .custodian s = true → bootMigrates s = false →
    Yields (.updateDiscard q false) s fun t => Answered q 0 [] s t ∧ OnlyIn [.gleno] s t) ∧
  (∀ s : State, s.upd.state = 4 → cfg 0x6108 0 s ≠ 0 → s.upd.since + cfg 0x6108 0 s * 6000000000 ≤ s.now → s.upd.clean = true → s.life.stage = 7 →
    s.life.nymyx = true →
    Yields .autoConfirmExpiry s fun t =>
      t.upd.state = 5 ∧ t.upd.outcome = 4 ∧ Stands .reserveInvalid noInst t ∧ OnlyIn [.pins, .power, .regs, .obs, .trust, .upd] s t) ∧
  (∀ s : State, s.upd.clean = false ∨ cfg 0x6108 0 s = 0 → Yields .autoConfirmExpiry s fun t => t = s) ∧
  (∀ s : State, s.life.nymyx = false → s.life.state = .starting → s.power.level ≠ 4 → unitsOf cFlash 3 s ≠ 0 → s.upd.state = 3 → s.upd.block + 1 < blocksOf s.upd.staging →
    Yields .flashCopyBlock s fun t =>
      t.upd = { s.upd with active := copyBlock s.upd.staging s.upd.active s.upd.block, block := s.upd.block + 1, seq := s.upd.seq + 1, written := timeA s } ∧
      OnlyIn [.upd] s t) ∧
  (∀ s : State, s.life.nymyx = false → s.life.state = .starting → s.power.level ≠ 4 → unitsOf cFlash 3 s ≠ 0 → s.upd.state = 3 → blocksOf s.upd.staging ≤ s.upd.block + 1 →
    Yields .flashCopyBlock s fun t =>
      t.upd.active = s.upd.staging ∧ t.upd.state = 4 ∧ t.upd.starts = 1 ∧ t.upd.outcome = 3 ∧ t.upd.runs = some .active ∧ t.upd.staging = s.upd.staging ∧
      unitsOf cFlash 3 t = 0 ∧ OnlyIn [.power, .trust, .upd] s t) ∧
  (∀ s : State, s.life.nymyx = false → s.life.state = .starting → s.power.level ≠ 4 → unitsOf cFlash 3 s ≠ 0 → s.upd.state = 6 → blocksOf s.upd.reserve ≤ s.upd.block + 1 →
    Yields .flashCopyBlock s fun t =>
      t.upd.active = s.upd.reserve ∧ t.upd.state = 0 ∧ t.upd.outcome = 5 ∧ t.upd.rejected = true ∧ countOf 0x610B 4 t = countOf 0x610B 4 s + 1 ∧
      unitsOf cFlash 3 t = 0 ∧ OnlyIn [.power, .regs, .obs, .trust, .upd] s t) ∧
  (∀ s : State, s.power.level = 4 ∨ unitsOf cFlash 3 s = 0 → Yields .flashCopyBlock s fun t => t = s) ∧
  (∀ s : State, s.upd.state = 5 → unitsOf cFlash 3 s ≠ 0 → s.power.level = 0 → s.life.nymyx = true → s.upd.block + 1 < blocksOf s.upd.active →
    Yields .reserveRefreshBlock s fun t =>
      t.upd = { s.upd with reserve := copyBlock s.upd.active s.upd.reserve s.upd.block, block := s.upd.block + 1, seq := s.upd.seq + 1, written := timeA s } ∧
      OnlyIn [.upd] s t) ∧
  (∀ s : State, s.upd.state = 5 → unitsOf cFlash 3 s ≠ 0 → s.power.level = 0 → s.life.nymyx = true → blocksOf s.upd.active ≤ s.upd.block + 1 →
    Yields .reserveRefreshBlock s fun t =>
      t.upd.reserve = s.upd.active ∧ t.upd.state = 0 ∧ t.upd.starts = 0 ∧ t.upd.staging = [] ∧ unitsOf cFlash 3 t = 0 ∧
      ¬ Stands .reserveInvalid noInst t ∧ OnlyIn [.pins, .power, .regs, .obs, .upd] s t) ∧
  (∀ s : State, s.upd.state = 5 → unitsOf cFlash 3 s ≠ 0 → s.power.level ≠ 0 → s.life.nymyx = true → s.upd.block + 1 < blocksOf s.upd.active →
    Yields .reserveRefreshBlock s fun t =>
      t.upd.reserve = copyBlock s.upd.active s.upd.reserve s.upd.block ∧ t.upd.block = s.upd.block + 1 ∧ t.upd.state = 5 ∧ unitsOf cFlash 3 t = 0 ∧
      t.power.waiting = s.power.waiting ++ [⟨.background, .flashWrite 3, 4⟩] ∧ OnlyIn [.power, .upd] s t) ∧
  (∀ s : State, unitsOf cFlash 3 s = 0 → Yields .reserveRefreshBlock s fun t => t = s) ∧
  (∀ (a r g : Fin 9) (s : State), s.upd.runs = none → s.life.nymyx = false → s.life.state = .starting → s.life.stage ≠ 0 →
    unitsOf cFlash 3 s = 0 →
    Yields (.bootRomRetry a r g) s fun t =>
      t.upd.runs = (if verifyImage s.upd.active a s = 0 then some .active else if verifyImage s.upd.reserve r s = 0 then some .reserve
        else if verifyImage s.upd.staging g s = 0 then some .staging else none) ∧ t.upd.state = s.upd.state ∧ OnlyIn [.trust, .upd] s t) ∧
  (∀ (a r g : Fin 9) (s : State), s.upd.runs.isSome = true → Yields (.bootRomRetry a r g) s fun t => t = s)

/-! ## Counters, alarms, the event log and sampling -/

/-- CTR_SNAP_REQUEST, COUNTER_SWEEP_START, COUNTER_SWEEP_COMPLETE, CTR_SNAP_RELEASE, ALARM_ACK, ALARM_HOLD_EXPIRY, EVENT_LOG_FLUSH, SAMPLE_START,
SAMPLE_STOP, SAMPLE_DURATION_EXPIRY, INSTRUCTION_SAMPLE, PROG_SELECT (R596, R599 to R601, R603, R605, R607, R609 to R611): a counter snapshot takes
the lowest free slot, its sweep copies its cells and completes, its release frees it; an event alarm ends by acknowledgement or hold, a condition
alarm by neither; unwritten events reach the flash ring under a grant; sampling starts under a grant, records while its queue has room and ends with
its reason; a select zeroes its counter. -/
def Obligations.Observability : Prop :=
  (∀ (q : Req) (f n : BitVec 16) (fl : BitVec 8) (e : Session) (k : Nat) (s : State), admits q .operator s = true → session q.sess s = some e →
    e.ctrSnapAt = Time96.zero → n ≠ 0 → f.toNat + n.toNat ≤ 8192 → freeSlot s = some k →
    Yields (.ctrSnapRequest q f n fl) s fun t =>
      (Tab.find k t.obs.slots).map (fun c => (c.owner, c.first, c.count, c.clear, c.at_, c.started, c.done)) =
        some (q.sess, f.toNat, n.toNat, fl.getLsbD 0, none, false, false) ∧
      (∀ j : Nat, j ≠ k → Tab.find j t.obs.slots = Tab.find j s.obs.slots) ∧ Answered q 0 [BitVec.ofNat 8 k] s t ∧ OnlyIn [.gleno, .obs] s t) ∧
  (∀ (q : Req) (f n : BitVec 16) (fl : BitVec 8) (s : State), admits q .operator s = true → (n = 0 ∨ 8192 < f.toNat + n.toNat) →
    Yields (.ctrSnapRequest q f n fl) s fun t => Answered q 0x0301 [] s t ∧ OnlyIn [.gleno] s t) ∧
  (∀ (q : Req) (f n : BitVec 16) (fl : BitVec 8) (e : Session) (s : State), admits q .operator s = true → session q.sess s = some e →
    e.ctrSnapAt = Time96.zero → n ≠ 0 → f.toNat + n.toNat ≤ 8192 → freeSlot s = none →
    Yields (.ctrSnapRequest q f n fl) s fun t => Answered q 0x080A [] s t ∧ OnlyIn [.gleno] s t) ∧
  (∀ (k : Fin 5) (c : CtrSnap) (s : State), Tab.find k.val s.obs.slots = some c → c.at_ = none → c.started = false → s.obs.sweepBusy = none →
    c.cells = [] → c.clear = false → pairedCell c.first s = false →
    Yields (.counterSweepStart k) s fun t =>
      t.obs.sweepBusy = some k.val ∧ t.obs.sweepCell = c.first ∧
      Tab.find k.val t.obs.slots = some { c with started := true, firstRead := timeA s, lastRead := timeA s, cells := [cellValue c.first s],
                                                 ovf := c.ovf ++ [s.obs.ovfMap.contains c.first] } ∧ t.obs.counts = s.obs.counts ∧ OnlyIn [.obs] s t) ∧
  (∀ (k : Fin 5) (s : State), s.obs.sweepBusy.isSome = true → Yields (.counterSweepStart k) s fun t => t = s) ∧
  (∀ (k : Nat) (c : CtrSnap) (s : State), s.obs.sweepBusy = some k → Tab.find k s.obs.slots = some c → c.count ≤ c.cells.length →
    Yields .counterSweepComplete s fun t =>
      t.obs.sweepBusy = none ∧ Tab.find k t.obs.slots = some { c with done := true } ∧ t.obs.sweepFirst = c.firstRead ∧ t.obs.sweepLast = c.lastRead ∧
      OnlyIn [.obs] s t) ∧
  (∀ (k : Nat) (c : CtrSnap) (s : State), s.obs.sweepBusy = some k → Tab.find k s.obs.slots = some c → c.cells.length < c.count →
    Yields .counterSweepComplete s fun t => t = s) ∧
  (∀ (q : Req) (k : BitVec 8) (s : State), admits q .operator s = true → 1 ≤ k.toNat → k.toNat ≤ 4 →
    Yields (.ctrSnapRelease q k) s fun t =>
      Tab.find k.toNat t.obs.slots = none ∧ (∀ j : Nat, j ≠ k.toNat → Tab.find j t.obs.slots = Tab.find j s.obs.slots) ∧ Answered q 0 [] s t ∧
      OnlyIn [.gleno, .obs] s t) ∧
  (∀ (q : Req) (k : BitVec 8) (s : State), admits q .operator s = true → (k.toNat = 0 ∨ 4 < k.toNat) →
    Yields (.ctrSnapRelease q k) s fun t => Answered q 0x0301 [] s t ∧ OnlyIn [.gleno] s t) ∧
  (∀ (q : Req) (s : State), admits q .operator s = true →
    Yields (.alarmAck q 0xFFFF) s fun t =>
      (∀ x ∈ t.obs.alarms, x.alarm.condition = true) ∧ (∀ x ∈ s.obs.alarms, x.alarm.condition = true → x ∈ t.obs.alarms) ∧ Answered q 0 [] s t ∧
      OnlyIn [.pins, .regs, .gleno, .obs] s t) ∧
  (∀ (a : Alarm) (i : Nat) (s : State), a.condition = false →
    Yields (.alarmHoldExpiry a i) s fun t =>
      ¬ Stands a i t ∧ (∀ (b : Alarm) (j : Nat), (b ≠ a ∨ j ≠ i) → (Stands b j t ↔ Stands b j s)) ∧ OnlyIn [.pins, .regs, .obs] s t) ∧
  (∀ (a : Alarm) (i : Nat) (s : State), a.condition = true → Yields (.alarmHoldExpiry a i) s fun t => t = s) ∧
  (∀ s : State, s.obs.unwritten ≠ 0 → s.life.nymyx = true → s.life.state ≠ .restarting → flashOk s = true →
    s.obs.flash.length + s.obs.unwritten ≤ 131072 → s.obs.unwritten ≤ s.obs.events.length →
    Yields .eventLogFlush s fun t =>
      t.obs.flash = s.obs.flash ++ s.obs.events.drop (s.obs.events.length - s.obs.unwritten) ∧ t.obs.unwritten = 0 ∧
      t.obs.events = s.obs.events ∧ countOf 0x130D 1 t = countOf 0x130D 1 s + 1 ∧ OnlyIn [.regs, .obs] s t) ∧
  (∀ s : State, s.obs.unwritten ≠ 0 → s.life.nymyx = true → s.life.state ≠ .restarting → flashOk s = false →
    Yields .eventLogFlush s fun t => t.obs.flash = s.obs.flash ∧ countOf 0x130D 2 t = countOf 0x130D 2 s + 1 ∧ OnlyIn [.regs, .obs] s t) ∧
  (∀ s : State, s.obs.unwritten = 0 → Yields .eventLogFlush s fun t => t = s) ∧
  (∀ (q : Req) (s : State), admits q .operator s = true → s.obs.sampling = false → sampleMask s ≠ 0 → roleRuns .obs s = true → backgroundFits 1 s = true →
    Yields (.sampleStart q) s fun t =>
      t.obs.sampling = true ∧ t.obs.sampleEnd = 0 ∧ unitsOf cSample 0 t = 1 ∧ countOf 0x130D 1 t = countOf 0x130D 1 s + 1 ∧ Answered q 0 [] s t ∧
      OnlyIn [.power, .regs, .gleno, .obs] s t) ∧
  (∀ (q : Req) (s : State), admits q .operator s = true → s.obs.sampling = true →
    Yields (.sampleStart q) s fun t => Answered q 0x0825 [] s t ∧ OnlyIn [.gleno] s t) ∧
  (∀ (q : Req) (s : State), admits q .operator s = true → s.obs.sampling = true →
    Yields (.sampleStop q) s fun t =>
      t.obs.sampling = false ∧ t.obs.sampleEnd = 2 ∧ unitsOf cSample 0 t = 0 ∧ t.obs.samples = s.obs.samples ∧ Answered q 0 [] s t ∧
      OnlyIn [.power, .gleno, .obs] s t) ∧
  (∀ s : State, s.obs.sampling = true → leNat ((cfgBytes 0x7011 0 s).drop 8) ≠ 0 →
    Yields .sampleDurationExpiry s fun t =>
      t.obs.sampling = false ∧ t.obs.sampleEnd = 1 ∧ unitsOf cSample 0 t = 0 ∧ OnlyIn [.power, .obs] s t) ∧
  (∀ s : State, s.obs.sampling = false → Yields .sampleDurationExpiry s fun t => t = s) ∧
  (∀ (e : SparNo) (fl : BitVec 8) (pc d : Word) (lat : BitVec 16) (st : Fin 5) (iv : Word) (x : SparEngine) (s : State), s.life.spar[e.val]? = some x →
    s.obs.sampling = true → bit (sampleMask s) e.val = true → x.power = .running → s.obs.samples.length < 4096 →
    Yields (.instructionSample e fl pc d lat st iv) s fun t =>
      t.obs.samples = s.obs.samples ++ [⟨⟨(timeA s).sec, (timeA s).ns, 0⟩, e.val, sparCode x.role, sampleEvent s, fl &&& 0xF#8, pc, d, lat,
        BitVec.ofNat 8 st.val, iv⟩] ∧ OnlyIn [.obs] s t) ∧
  (∀ (e : SparNo) (fl : BitVec 8) (pc d : Word) (lat : BitVec 16) (st : Fin 5) (iv : Word) (x : SparEngine) (s : State), s.life.spar[e.val]? = some x →
    s.obs.sampling = true → bit (sampleMask s) e.val = true → x.power = .running → 4096 ≤ s.obs.samples.length →
    Yields (.instructionSample e fl pc d lat st iv) s fun t =>
      t.obs.samples = s.obs.samples ∧ t.obs.discarded = s.obs.discarded + 1 ∧ countOf 0x7015 3 t = countOf 0x7015 3 s + 1 ∧ OnlyIn [.regs, .obs] s t) ∧
  (∀ (e : SparNo) (fl : BitVec 8) (pc d : Word) (lat : BitVec 16) (st : Fin 5) (iv : Word) (s : State), s.obs.sampling = false →
    Yields (.instructionSample e fl pc d lat st iv) s fun t => t = s) ∧
  (∀ (q : Req) (p : Fin 128) (v : Word) (s : State), admits q .operator s = true →
    Yields (.progSelect q (BitVec.ofNat 8 (p + 1)) v) s fun t =>
      progSel p t = v &&& progBits ∧ Tab.get 0 p.val t.obs.prog = 0 ∧
      (∀ n : Nat, n ≠ p.val → n ≠ p.val + 1 → progSel n t = progSel n s ∧ Tab.get 0 n t.obs.prog = Tab.get 0 n s.obs.prog) ∧
      cfgBytes 0x7006 (p + 1) t = leBytes 4 (v &&& progBits).toNat ∧ Answered q 0 [] s t ∧ OnlyIn [.dict, .gleno, .obs] s t)
end

