-- ==== Sys2Proof/Laws/Tab.lean ====
section
/-!
SUPPORT. The laws of sparse tables: what a read gives after a write, and that a write keeps the canonical form.
-/
namespace Sys2Proof.Machine

variable {α : Type}

@[simp] theorem Tab.find_nil (k : Nat) : Tab.find k ([] : Tab α) = none := rfl
@[simp] theorem Tab.get_nil (d : α) (k : Nat) : Tab.get d k ([] : Tab α) = d := rfl

/-- A key that was set holds what was set. -/
@[simp] theorem Tab.find_set_same (k : Nat) (v : α) (t : Tab α) : Tab.find k (Tab.set k v t) = some v := by
  induction t with
  | nil => simp [Tab.set, Tab.find]
  | cons x t ih =>
    obtain ⟨j, w⟩ := x
    simp only [Tab.set]
    split
    · simp [Tab.find]
    · split <;> simp_all [Tab.find]

/-- Setting a key leaves every other key as it was. -/
theorem Tab.find_set_ne {k j : Nat} (h : j ≠ k) (v : α) (t : Tab α) : Tab.find j (Tab.set k v t) = Tab.find j t := by
  induction t with
  | nil => simp [Tab.set, Tab.find, h]
  | cons x t ih =>
    obtain ⟨i, w⟩ := x
    simp only [Tab.set]
    split
    · subst_vars; simp [Tab.find, h]
    · split <;> simp_all [Tab.find]

/-- Nothing stands at a key that was erased. -/
@[simp] theorem Tab.find_erase_same (k : Nat) (t : Tab α) : Tab.find k (Tab.erase k t) = none := by
  induction t with
  | nil => rfl
  | cons x t ih =>
    obtain ⟨i, w⟩ := x
    simp only [Tab.erase]
    split <;> simp_all [Tab.find]

/-- Erasing a key leaves every other key as it was. -/
theorem Tab.find_erase_ne {k j : Nat} (h : j ≠ k) (t : Tab α) : Tab.find j (Tab.erase k t) = Tab.find j t := by
  induction t with
  | nil => rfl
  | cons x t ih =>
    obtain ⟨i, w⟩ := x
    simp only [Tab.erase]
    split <;> simp_all [Tab.find]

theorem Tab.get_eq (d : α) (k : Nat) (t : Tab α) : Tab.get d k t = (Tab.find k t).getD d := by
  unfold Tab.get; split <;> simp_all

@[simp] theorem Tab.get_set_same (d : α) (k : Nat) (v : α) (t : Tab α) : Tab.get d k (Tab.set k v t) = v := by
  simp [Tab.get_eq]

theorem Tab.get_set_ne {k j : Nat} (h : j ≠ k) (d v : α) (t : Tab α) : Tab.get d j (Tab.set k v t) = Tab.get d j t := by
  simp [Tab.get_eq, Tab.find_set_ne h]

@[simp] theorem Tab.get_erase_same (d : α) (k : Nat) (t : Tab α) : Tab.get d k (Tab.erase k t) = d := by
  simp [Tab.get_eq]

theorem Tab.get_erase_ne {k j : Nat} (h : j ≠ k) (d : α) (t : Tab α) : Tab.get d j (Tab.erase k t) = Tab.get d j t := by
  simp [Tab.get_eq, Tab.find_erase_ne h]

/-- The length of a list after an element is replaced. -/
@[simp] theorem length_setAt (n : Nat) (v : α) (l : List α) : (setAt n v l).length = l.length := by
  induction l generalizing n with
  | nil => cases n <;> rfl
  | cons x t ih => cases n <;> simp [setAt, ih]

theorem getElem?_setAt_same (n : Nat) (v : α) (l : List α) (h : n < l.length) : (setAt n v l)[n]? = some v := by
  induction l generalizing n with
  | nil => simp at h
  | cons x t ih => cases n <;> simp_all [setAt]

theorem getElem?_setAt_ne {n m : Nat} (h : m ≠ n) (v : α) (l : List α) : (setAt n v l)[m]? = l[m]? := by
  induction l generalizing n m with
  | nil => cases n <;> rfl
  | cons x t ih => cases n <;> cases m <;> simp_all [setAt]

theorem Tab.above_mono {j k : Nat} (h : j ≤ k) (t : Tab α) (ha : Tab.above k t = true) : Tab.above j t = true := by
  induction t with
  | nil => rfl
  | cons x t ih => obtain ⟨i, w⟩ := x; simp_all [Tab.above]; omega

theorem Tab.above_set {j k : Nat} (h : j < k) (v : α) (t : Tab α) (ha : Tab.above j t = true) : Tab.above j (Tab.set k v t) = true := by
  induction t with
  | nil => simp [Tab.set, Tab.above, h]
  | cons x t ih =>
    obtain ⟨i, w⟩ := x
    simp only [Tab.set]
    split
    · simp_all [Tab.above]
    · split <;> simp_all [Tab.above]

theorem Tab.above_erase {j k : Nat} (t : Tab α) (ha : Tab.above j t = true) : Tab.above j (Tab.erase k t) = true := by
  induction t with
  | nil => rfl
  | cons x t ih =>
    obtain ⟨i, w⟩ := x
    simp only [Tab.erase]
    split <;> simp_all [Tab.above]

variable [DecidableEq α]

/-- A read of the key written gives the value written, the default too. -/
@[simp] theorem Tab.get_put_same (d : α) (k : Nat) (v : α) (t : Tab α) : Tab.get d k (Tab.put d k v t) = v := by
  unfold Tab.put; split <;> simp_all

/-- A write leaves every other key as it was. -/
theorem Tab.get_put_ne {k j : Nat} (h : j ≠ k) (d v : α) (t : Tab α) : Tab.get d j (Tab.put d k v t) = Tab.get d j t := by
  unfold Tab.put; split
  · exact Tab.get_erase_ne h d t
  · exact Tab.get_set_ne h d v t

@[simp] theorem Tab.get_upd_same (d : α) (k : Nat) (f : α → α) (t : Tab α) : Tab.get d k (Tab.upd d k f t) = f (Tab.get d k t) := by
  simp [Tab.upd]

theorem Tab.get_upd_ne {k j : Nat} (h : j ≠ k) (d : α) (f : α → α) (t : Tab α) : Tab.get d j (Tab.upd d k f t) = Tab.get d j t := by
  simp [Tab.upd, Tab.get_put_ne h]

/-- Setting a value other than the default keeps the canonical form. -/
theorem Tab.wf_set {d v : α} (hv : v ≠ d) (k : Nat) (t : Tab α) (h : Tab.wf d t = true) : Tab.wf d (Tab.set k v t) = true := by
  induction t with
  | nil => simp [Tab.set, Tab.wf, Tab.above, hv]
  | cons x t ih =>
    obtain ⟨i, w⟩ := x
    simp only [Tab.wf, Bool.and_eq_true, decide_eq_true_eq] at h
    simp only [Tab.set]
    split
    · subst_vars; simp_all [Tab.wf]
    · split
      · rename_i hk
        simp_all [Tab.wf, Tab.above]
        exact Tab.above_mono (Nat.le_of_lt hk) t h.1.2
      · rename_i h1 h2
        simp_all [Tab.wf]
        exact Tab.above_set (by omega) v t h.1.2

/-- Erasing a key keeps the canonical form. -/
theorem Tab.wf_erase (d : α) (k : Nat) (t : Tab α) (h : Tab.wf d t = true) : Tab.wf d (Tab.erase k t) = true := by
  induction t with
  | nil => rfl
  | cons x t ih =>
    obtain ⟨i, w⟩ := x
    simp only [Tab.wf, Bool.and_eq_true, decide_eq_true_eq] at h
    simp only [Tab.erase]
    split
    · exact ih h.2
    · simp_all [Tab.wf, Tab.above_erase]

/-- A write keeps the canonical form. -/
theorem Tab.wf_put (d : α) (k : Nat) (v : α) (t : Tab α) (h : Tab.wf d t = true) : Tab.wf d (Tab.put d k v t) = true := by
  unfold Tab.put; split
  · exact Tab.wf_erase d k t h
  · exact Tab.wf_set ‹_› k t h

theorem Tab.wf_upd (d : α) (k : Nat) (f : α → α) (t : Tab α) (h : Tab.wf d t = true) : Tab.wf d (Tab.upd d k f t) = true :=
  Tab.wf_put d k _ t h

end Sys2Proof.Machine
end

