-- ==== Sys2Proof/Laws/State.lean ====
section
/-!
SUPPORT. What the shared operations leave alone: for each operation one simplification lemma that says which parts of the state it
keeps; the parts that it does not name are those it may change.
-/
namespace Sys2Proof.Machine

@[simp] theorem foldl_factory {α : Type} (g : State → α → State) (l : List α) (s : State) (h : ∀ s x, (g s x).factory = s.factory) :
    (l.foldl g s).factory = s.factory := by
  induction l generalizing s with
  | nil => rfl
  | cons a t ih => simp [ih, h]

@[simp] theorem ite_factory (c : Prop) [Decidable c] (a b : State) : (if c then a else b).factory = if c then a.factory else b.factory := by split <;> rfl

@[simp] theorem foldl_pins {α : Type} (g : State → α → State) (l : List α) (s : State) (h : ∀ s x, (g s x).pins = s.pins) :
    (l.foldl g s).pins = s.pins := by
  induction l generalizing s with
  | nil => rfl
  | cons a t ih => simp [ih, h]

@[simp] theorem ite_pins (c : Prop) [Decidable c] (a b : State) : (if c then a else b).pins = if c then a.pins else b.pins := by split <;> rfl

@[simp] theorem foldl_life {α : Type} (g : State → α → State) (l : List α) (s : State) (h : ∀ s x, (g s x).life = s.life) :
    (l.foldl g s).life = s.life := by
  induction l generalizing s with
  | nil => rfl
  | cons a t ih => simp [ih, h]

@[simp] theorem ite_life (c : Prop) [Decidable c] (a b : State) : (if c then a else b).life = if c then a.life else b.life := by split <;> rfl

@[simp] theorem foldl_power {α : Type} (g : State → α → State) (l : List α) (s : State) (h : ∀ s x, (g s x).power = s.power) :
    (l.foldl g s).power = s.power := by
  induction l generalizing s with
  | nil => rfl
  | cons a t ih => simp [ih, h]

@[simp] theorem ite_power (c : Prop) [Decidable c] (a b : State) : (if c then a else b).power = if c then a.power else b.power := by split <;> rfl

@[simp] theorem foldl_regs {α : Type} (g : State → α → State) (l : List α) (s : State) (h : ∀ s x, (g s x).regs = s.regs) :
    (l.foldl g s).regs = s.regs := by
  induction l generalizing s with
  | nil => rfl
  | cons a t ih => simp [ih, h]

@[simp] theorem ite_regs (c : Prop) [Decidable c] (a b : State) : (if c then a else b).regs = if c then a.regs else b.regs := by split <;> rfl

@[simp] theorem foldl_dict {α : Type} (g : State → α → State) (l : List α) (s : State) (h : ∀ s x, (g s x).dict = s.dict) :
    (l.foldl g s).dict = s.dict := by
  induction l generalizing s with
  | nil => rfl
  | cons a t ih => simp [ih, h]

@[simp] theorem ite_dict (c : Prop) [Decidable c] (a b : State) : (if c then a else b).dict = if c then a.dict else b.dict := by split <;> rfl

@[simp] theorem foldl_commits {α : Type} (g : State → α → State) (l : List α) (s : State) (h : ∀ s x, (g s x).commits = s.commits) :
    (l.foldl g s).commits = s.commits := by
  induction l generalizing s with
  | nil => rfl
  | cons a t ih => simp [ih, h]

@[simp] theorem ite_commits (c : Prop) [Decidable c] (a b : State) : (if c then a else b).commits = if c then a.commits else b.commits := by split <;> rfl

@[simp] theorem foldl_snaps {α : Type} (g : State → α → State) (l : List α) (s : State) (h : ∀ s x, (g s x).snaps = s.snaps) :
    (l.foldl g s).snaps = s.snaps := by
  induction l generalizing s with
  | nil => rfl
  | cons a t ih => simp [ih, h]

@[simp] theorem ite_snaps (c : Prop) [Decidable c] (a b : State) : (if c then a else b).snaps = if c then a.snaps else b.snaps := by split <;> rfl

@[simp] theorem foldl_gleno {α : Type} (g : State → α → State) (l : List α) (s : State) (h : ∀ s x, (g s x).gleno = s.gleno) :
    (l.foldl g s).gleno = s.gleno := by
  induction l generalizing s with
  | nil => rfl
  | cons a t ih => simp [ih, h]

@[simp] theorem ite_gleno (c : Prop) [Decidable c] (a b : State) : (if c then a else b).gleno = if c then a.gleno else b.gleno := by split <;> rfl

@[simp] theorem foldl_obs {α : Type} (g : State → α → State) (l : List α) (s : State) (h : ∀ s x, (g s x).obs = s.obs) :
    (l.foldl g s).obs = s.obs := by
  induction l generalizing s with
  | nil => rfl
  | cons a t ih => simp [ih, h]

@[simp] theorem ite_obs (c : Prop) [Decidable c] (a b : State) : (if c then a else b).obs = if c then a.obs else b.obs := by split <;> rfl

@[simp] theorem foldl_optics {α : Type} (g : State → α → State) (l : List α) (s : State) (h : ∀ s x, (g s x).optics = s.optics) :
    (l.foldl g s).optics = s.optics := by
  induction l generalizing s with
  | nil => rfl
  | cons a t ih => simp [ih, h]

@[simp] theorem ite_optics (c : Prop) [Decidable c] (a b : State) : (if c then a else b).optics = if c then a.optics else b.optics := by split <;> rfl

@[simp] theorem foldl_tb {α : Type} (g : State → α → State) (l : List α) (s : State) (h : ∀ s x, (g s x).tb = s.tb) :
    (l.foldl g s).tb = s.tb := by
  induction l generalizing s with
  | nil => rfl
  | cons a t ih => simp [ih, h]

@[simp] theorem ite_tb (c : Prop) [Decidable c] (a b : State) : (if c then a else b).tb = if c then a.tb else b.tb := by split <;> rfl

@[simp] theorem foldl_vern {α : Type} (g : State → α → State) (l : List α) (s : State) (h : ∀ s x, (g s x).vern = s.vern) :
    (l.foldl g s).vern = s.vern := by
  induction l generalizing s with
  | nil => rfl
  | cons a t ih => simp [ih, h]

@[simp] theorem ite_vern (c : Prop) [Decidable c] (a b : State) : (if c then a else b).vern = if c then a.vern else b.vern := by split <;> rfl

@[simp] theorem foldl_refs {α : Type} (g : State → α → State) (l : List α) (s : State) (h : ∀ s x, (g s x).refs = s.refs) :
    (l.foldl g s).refs = s.refs := by
  induction l generalizing s with
  | nil => rfl
  | cons a t ih => simp [ih, h]

@[simp] theorem ite_refs (c : Prop) [Decidable c] (a b : State) : (if c then a else b).refs = if c then a.refs else b.refs := by split <;> rfl

@[simp] theorem foldl_ptp {α : Type} (g : State → α → State) (l : List α) (s : State) (h : ∀ s x, (g s x).ptp = s.ptp) :
    (l.foldl g s).ptp = s.ptp := by
  induction l generalizing s with
  | nil => rfl
  | cons a t ih => simp [ih, h]

@[simp] theorem ite_ptp (c : Prop) [Decidable c] (a b : State) : (if c then a else b).ptp = if c then a.ptp else b.ptp := by split <;> rfl

@[simp] theorem foldl_cal {α : Type} (g : State → α → State) (l : List α) (s : State) (h : ∀ s x, (g s x).cal = s.cal) :
    (l.foldl g s).cal = s.cal := by
  induction l generalizing s with
  | nil => rfl
  | cons a t ih => simp [ih, h]

@[simp] theorem ite_cal (c : Prop) [Decidable c] (a b : State) : (if c then a else b).cal = if c then a.cal else b.cal := by split <;> rfl

@[simp] theorem foldl_fwd {α : Type} (g : State → α → State) (l : List α) (s : State) (h : ∀ s x, (g s x).fwd = s.fwd) :
    (l.foldl g s).fwd = s.fwd := by
  induction l generalizing s with
  | nil => rfl
  | cons a t ih => simp [ih, h]

@[simp] theorem ite_fwd (c : Prop) [Decidable c] (a b : State) : (if c then a else b).fwd = if c then a.fwd else b.fwd := by split <;> rfl

@[simp] theorem foldl_sw {α : Type} (g : State → α → State) (l : List α) (s : State) (h : ∀ s x, (g s x).sw = s.sw) :
    (l.foldl g s).sw = s.sw := by
  induction l generalizing s with
  | nil => rfl
  | cons a t ih => simp [ih, h]

@[simp] theorem ite_sw (c : Prop) [Decidable c] (a b : State) : (if c then a else b).sw = if c then a.sw else b.sw := by split <;> rfl

@[simp] theorem foldl_egr {α : Type} (g : State → α → State) (l : List α) (s : State) (h : ∀ s x, (g s x).egr = s.egr) :
    (l.foldl g s).egr = s.egr := by
  induction l generalizing s with
  | nil => rfl
  | cons a t ih => simp [ih, h]

@[simp] theorem ite_egr (c : Prop) [Decidable c] (a b : State) : (if c then a else b).egr = if c then a.egr else b.egr := by split <;> rfl

@[simp] theorem foldl_pair {α : Type} (g : State → α → State) (l : List α) (s : State) (h : ∀ s x, (g s x).pair = s.pair) :
    (l.foldl g s).pair = s.pair := by
  induction l generalizing s with
  | nil => rfl
  | cons a t ih => simp [ih, h]

@[simp] theorem ite_pair (c : Prop) [Decidable c] (a b : State) : (if c then a else b).pair = if c then a.pair else b.pair := by split <;> rfl

@[simp] theorem foldl_trust {α : Type} (g : State → α → State) (l : List α) (s : State) (h : ∀ s x, (g s x).trust = s.trust) :
    (l.foldl g s).trust = s.trust := by
  induction l generalizing s with
  | nil => rfl
  | cons a t ih => simp [ih, h]

@[simp] theorem ite_trust (c : Prop) [Decidable c] (a b : State) : (if c then a else b).trust = if c then a.trust else b.trust := by split <;> rfl

@[simp] theorem foldl_upd {α : Type} (g : State → α → State) (l : List α) (s : State) (h : ∀ s x, (g s x).upd = s.upd) :
    (l.foldl g s).upd = s.upd := by
  induction l generalizing s with
  | nil => rfl
  | cons a t ih => simp [ih, h]

@[simp] theorem ite_upd (c : Prop) [Decidable c] (a b : State) : (if c then a else b).upd = if c then a.upd else b.upd := by split <;> rfl

@[simp] theorem foldl_wire {α : Type} (g : State → α → State) (l : List α) (s : State) (h : ∀ s x, (g s x).wire = s.wire) :
    (l.foldl g s).wire = s.wire := by
  induction l generalizing s with
  | nil => rfl
  | cons a t ih => simp [ih, h]

@[simp] theorem ite_wire (c : Prop) [Decidable c] (a b : State) : (if c then a else b).wire = if c then a.wire else b.wire := by split <;> rfl

@[simp] theorem foldl_now {α : Type} (g : State → α → State) (l : List α) (s : State) (h : ∀ s x, (g s x).now = s.now) :
    (l.foldl g s).now = s.now := by
  induction l generalizing s with
  | nil => rfl
  | cons a t ih => simp [ih, h]

@[simp] theorem ite_now (c : Prop) [Decidable c] (a b : State) : (if c then a else b).now = if c then a.now else b.now := by split <;> rfl

@[simp] theorem foldl_started {α : Type} (g : State → α → State) (l : List α) (s : State) (h : ∀ s x, (g s x).started = s.started) :
    (l.foldl g s).started = s.started := by
  induction l generalizing s with
  | nil => rfl
  | cons a t ih => simp [ih, h]

@[simp] theorem ite_started (c : Prop) [Decidable c] (a b : State) : (if c then a else b).started = if c then a.started else b.started := by split <;> rfl

@[simp] theorem foldl_draws {α : Type} (g : State → α → State) (l : List α) (s : State) (h : ∀ s x, (g s x).draws = s.draws) :
    (l.foldl g s).draws = s.draws := by
  induction l generalizing s with
  | nil => rfl
  | cons a t ih => simp [ih, h]

@[simp] theorem ite_draws (c : Prop) [Decidable c] (a b : State) : (if c then a else b).draws = if c then a.draws else b.draws := by split <;> rfl

@[simp] theorem foldl_pending {α : Type} (g : State → α → State) (l : List α) (s : State) (h : ∀ s x, (g s x).pending = s.pending) :
    (l.foldl g s).pending = s.pending := by
  induction l generalizing s with
  | nil => rfl
  | cons a t ih => simp [ih, h]

@[simp] theorem ite_pending (c : Prop) [Decidable c] (a b : State) : (if c then a else b).pending = if c then a.pending else b.pending := by split <;> rfl

@[simp] theorem putSession_frame (n : Nat) (e : Session) (s : State) :
    (putSession n e s).factory = s.factory ∧ (putSession n e s).pins = s.pins ∧ (putSession n e s).life = s.life ∧
    (putSession n e s).power = s.power ∧ (putSession n e s).regs = s.regs ∧ (putSession n e s).dict = s.dict ∧
    (putSession n e s).commits = s.commits ∧ (putSession n e s).snaps = s.snaps ∧ (putSession n e s).obs = s.obs ∧
    (putSession n e s).optics = s.optics ∧ (putSession n e s).tb = s.tb ∧ (putSession n e s).vern = s.vern ∧
    (putSession n e s).refs = s.refs ∧ (putSession n e s).ptp = s.ptp ∧ (putSession n e s).cal = s.cal ∧
    (putSession n e s).fwd = s.fwd ∧ (putSession n e s).sw = s.sw ∧ (putSession n e s).egr = s.egr ∧
    (putSession n e s).pair = s.pair ∧ (putSession n e s).trust = s.trust ∧ (putSession n e s).upd = s.upd ∧
    (putSession n e s).wire = s.wire ∧ (putSession n e s).now = s.now ∧ (putSession n e s).started = s.started ∧
    (putSession n e s).draws = s.draws ∧ (putSession n e s).pending = s.pending := by
  exact ⟨rfl, rfl, rfl, rfl, rfl, rfl, rfl, rfl, rfl, rfl, rfl, rfl, rfl, rfl, rfl, rfl, rfl, rfl, rfl, rfl, rfl, rfl, rfl, rfl, rfl, rfl⟩

@[simp] theorem updPair_frame (f : Pair → Pair) (s : State) :
    (updPair f s).factory = s.factory ∧ (updPair f s).pins = s.pins ∧ (updPair f s).life = s.life ∧
    (updPair f s).power = s.power ∧ (updPair f s).regs = s.regs ∧ (updPair f s).dict = s.dict ∧
    (updPair f s).commits = s.commits ∧ (updPair f s).snaps = s.snaps ∧ (updPair f s).gleno = s.gleno ∧
    (updPair f s).obs = s.obs ∧ (updPair f s).optics = s.optics ∧ (updPair f s).tb = s.tb ∧
    (updPair f s).vern = s.vern ∧ (updPair f s).refs = s.refs ∧ (updPair f s).ptp = s.ptp ∧
    (updPair f s).cal = s.cal ∧ (updPair f s).fwd = s.fwd ∧ (updPair f s).sw = s.sw ∧ (updPair f s).egr = s.egr ∧
    (updPair f s).trust = s.trust ∧ (updPair f s).upd = s.upd ∧ (updPair f s).wire = s.wire ∧
    (updPair f s).now = s.now ∧ (updPair f s).started = s.started ∧ (updPair f s).draws = s.draws ∧
    (updPair f s).pending = s.pending := by
  exact ⟨rfl, rfl, rfl, rfl, rfl, rfl, rfl, rfl, rfl, rfl, rfl, rfl, rfl, rfl, rfl, rfl, rfl, rfl, rfl, rfl, rfl, rfl, rfl, rfl, rfl, rfl⟩

@[simp] theorem setEntry_frame (code inst st units : Nat) (s : State) :
    (setEntry code inst st units s).factory = s.factory ∧ (setEntry code inst st units s).pins = s.pins ∧
    (setEntry code inst st units s).life = s.life ∧ (setEntry code inst st units s).regs = s.regs ∧
    (setEntry code inst st units s).dict = s.dict ∧ (setEntry code inst st units s).commits = s.commits ∧
    (setEntry code inst st units s).snaps = s.snaps ∧ (setEntry code inst st units s).gleno = s.gleno ∧
    (setEntry code inst st units s).obs = s.obs ∧ (setEntry code inst st units s).optics = s.optics ∧
    (setEntry code inst st units s).tb = s.tb ∧ (setEntry code inst st units s).vern = s.vern ∧
    (setEntry code inst st units s).refs = s.refs ∧ (setEntry code inst st units s).ptp = s.ptp ∧
    (setEntry code inst st units s).cal = s.cal ∧ (setEntry code inst st units s).fwd = s.fwd ∧
    (setEntry code inst st units s).sw = s.sw ∧ (setEntry code inst st units s).egr = s.egr ∧
    (setEntry code inst st units s).pair = s.pair ∧ (setEntry code inst st units s).trust = s.trust ∧
    (setEntry code inst st units s).upd = s.upd ∧ (setEntry code inst st units s).wire = s.wire ∧
    (setEntry code inst st units s).now = s.now ∧ (setEntry code inst st units s).started = s.started ∧
    (setEntry code inst st units s).draws = s.draws ∧ (setEntry code inst st units s).pending = s.pending := by
  exact ⟨rfl, rfl, rfl, rfl, rfl, rfl, rfl, rfl, rfl, rfl, rfl, rfl, rfl, rfl, rfl, rfl, rfl, rfl, rfl, rfl, rfl, rfl, rfl, rfl, rfl, rfl⟩

@[simp] theorem emit_frame (k : EmitKind) (port : Nat) (f : List Int) (s : State) :
    (emit k port f s).factory = s.factory ∧ (emit k port f s).pins = s.pins ∧ (emit k port f s).life = s.life ∧
    (emit k port f s).power = s.power ∧ (emit k port f s).regs = s.regs ∧ (emit k port f s).dict = s.dict ∧
    (emit k port f s).commits = s.commits ∧ (emit k port f s).snaps = s.snaps ∧ (emit k port f s).gleno = s.gleno ∧
    (emit k port f s).obs = s.obs ∧ (emit k port f s).optics = s.optics ∧ (emit k port f s).tb = s.tb ∧
    (emit k port f s).vern = s.vern ∧ (emit k port f s).refs = s.refs ∧ (emit k port f s).ptp = s.ptp ∧
    (emit k port f s).cal = s.cal ∧ (emit k port f s).fwd = s.fwd ∧ (emit k port f s).sw = s.sw ∧
    (emit k port f s).egr = s.egr ∧ (emit k port f s).pair = s.pair ∧ (emit k port f s).trust = s.trust ∧
    (emit k port f s).upd = s.upd ∧ (emit k port f s).now = s.now ∧ (emit k port f s).started = s.started ∧
    (emit k port f s).draws = s.draws ∧ (emit k port f s).pending = s.pending := by
  exact ⟨rfl, rfl, rfl, rfl, rfl, rfl, rfl, rfl, rfl, rfl, rfl, rfl, rfl, rfl, rfl, rfl, rfl, rfl, rfl, rfl, rfl, rfl, rfl, rfl, rfl, rfl⟩

@[simp] theorem sendShroud_frame (k : EmitKind) (j : Nat) (f : List Int) (s : State) :
    (sendShroud k j f s).factory = s.factory ∧ (sendShroud k j f s).pins = s.pins ∧
    (sendShroud k j f s).life = s.life ∧ (sendShroud k j f s).power = s.power ∧ (sendShroud k j f s).regs = s.regs ∧
    (sendShroud k j f s).dict = s.dict ∧ (sendShroud k j f s).commits = s.commits ∧
    (sendShroud k j f s).snaps = s.snaps ∧ (sendShroud k j f s).gleno = s.gleno ∧ (sendShroud k j f s).obs = s.obs ∧
    (sendShroud k j f s).optics = s.optics ∧ (sendShroud k j f s).tb = s.tb ∧ (sendShroud k j f s).vern = s.vern ∧
    (sendShroud k j f s).refs = s.refs ∧ (sendShroud k j f s).ptp = s.ptp ∧ (sendShroud k j f s).cal = s.cal ∧
    (sendShroud k j f s).fwd = s.fwd ∧ (sendShroud k j f s).sw = s.sw ∧ (sendShroud k j f s).egr = s.egr ∧
    (sendShroud k j f s).trust = s.trust ∧ (sendShroud k j f s).upd = s.upd ∧ (sendShroud k j f s).now = s.now ∧
    (sendShroud k j f s).started = s.started ∧ (sendShroud k j f s).draws = s.draws ∧
    (sendShroud k j f s).pending = s.pending := by
  exact ⟨rfl, rfl, rfl, rfl, rfl, rfl, rfl, rfl, rfl, rfl, rfl, rfl, rfl, rfl, rfl, rfl, rfl, rfl, rfl, rfl, rfl, rfl, rfl, rfl, rfl⟩

@[simp] theorem updCod_frame (c : Nat) (f : Coding → Coding) (s : State) :
    (updCod c f s).factory = s.factory ∧ (updCod c f s).pins = s.pins ∧ (updCod c f s).life = s.life ∧
    (updCod c f s).power = s.power ∧ (updCod c f s).regs = s.regs ∧ (updCod c f s).dict = s.dict ∧
    (updCod c f s).commits = s.commits ∧ (updCod c f s).snaps = s.snaps ∧ (updCod c f s).gleno = s.gleno ∧
    (updCod c f s).obs = s.obs ∧ (updCod c f s).tb = s.tb ∧ (updCod c f s).vern = s.vern ∧
    (updCod c f s).refs = s.refs ∧ (updCod c f s).ptp = s.ptp ∧ (updCod c f s).cal = s.cal ∧
    (updCod c f s).fwd = s.fwd ∧ (updCod c f s).sw = s.sw ∧ (updCod c f s).egr = s.egr ∧
    (updCod c f s).pair = s.pair ∧ (updCod c f s).trust = s.trust ∧ (updCod c f s).upd = s.upd ∧
    (updCod c f s).wire = s.wire ∧ (updCod c f s).now = s.now ∧ (updCod c f s).started = s.started ∧
    (updCod c f s).draws = s.draws ∧ (updCod c f s).pending = s.pending := by
  exact ⟨rfl, rfl, rfl, rfl, rfl, rfl, rfl, rfl, rfl, rfl, rfl, rfl, rfl, rfl, rfl, rfl, rfl, rfl, rfl, rfl, rfl, rfl, rfl, rfl, rfl, rfl⟩

@[simp] theorem setRc_frame (addr : Nat) (mask : Word) (s : State) :
    (setRc addr mask s).factory = s.factory ∧ (setRc addr mask s).pins = s.pins ∧ (setRc addr mask s).life = s.life ∧
    (setRc addr mask s).power = s.power ∧ (setRc addr mask s).dict = s.dict ∧
    (setRc addr mask s).commits = s.commits ∧ (setRc addr mask s).snaps = s.snaps ∧
    (setRc addr mask s).gleno = s.gleno ∧ (setRc addr mask s).obs = s.obs ∧ (setRc addr mask s).optics = s.optics ∧
    (setRc addr mask s).tb = s.tb ∧ (setRc addr mask s).vern = s.vern ∧ (setRc addr mask s).refs = s.refs ∧
    (setRc addr mask s).ptp = s.ptp ∧ (setRc addr mask s).cal = s.cal ∧ (setRc addr mask s).fwd = s.fwd ∧
    (setRc addr mask s).sw = s.sw ∧ (setRc addr mask s).egr = s.egr ∧ (setRc addr mask s).pair = s.pair ∧
    (setRc addr mask s).trust = s.trust ∧ (setRc addr mask s).upd = s.upd ∧ (setRc addr mask s).wire = s.wire ∧
    (setRc addr mask s).now = s.now ∧ (setRc addr mask s).started = s.started ∧ (setRc addr mask s).draws = s.draws ∧
    (setRc addr mask s).pending = s.pending := by
  exact ⟨rfl, rfl, rfl, rfl, rfl, rfl, rfl, rfl, rfl, rfl, rfl, rfl, rfl, rfl, rfl, rfl, rfl, rfl, rfl, rfl, rfl, rfl, rfl, rfl, rfl, rfl⟩

@[simp] theorem updOpt_frame (c : Nat) (f : Optic → Optic) (s : State) :
    (updOpt c f s).factory = s.factory ∧ (updOpt c f s).pins = s.pins ∧ (updOpt c f s).life = s.life ∧
    (updOpt c f s).power = s.power ∧ (updOpt c f s).regs = s.regs ∧ (updOpt c f s).dict = s.dict ∧
    (updOpt c f s).commits = s.commits ∧ (updOpt c f s).snaps = s.snaps ∧ (updOpt c f s).gleno = s.gleno ∧
    (updOpt c f s).obs = s.obs ∧ (updOpt c f s).tb = s.tb ∧ (updOpt c f s).vern = s.vern ∧
    (updOpt c f s).refs = s.refs ∧ (updOpt c f s).ptp = s.ptp ∧ (updOpt c f s).cal = s.cal ∧
    (updOpt c f s).fwd = s.fwd ∧ (updOpt c f s).sw = s.sw ∧ (updOpt c f s).egr = s.egr ∧
    (updOpt c f s).pair = s.pair ∧ (updOpt c f s).trust = s.trust ∧ (updOpt c f s).upd = s.upd ∧
    (updOpt c f s).wire = s.wire ∧ (updOpt c f s).now = s.now ∧ (updOpt c f s).started = s.started ∧
    (updOpt c f s).draws = s.draws ∧ (updOpt c f s).pending = s.pending := by
  exact ⟨rfl, rfl, rfl, rfl, rfl, rfl, rfl, rfl, rfl, rfl, rfl, rfl, rfl, rfl, rfl, rfl, rfl, rfl, rfl, rfl, rfl, rfl, rfl, rfl, rfl, rfl⟩

@[simp] theorem updGleno_frame (f : Gleno → Gleno) (s : State) :
    (updGleno f s).factory = s.factory ∧ (updGleno f s).pins = s.pins ∧ (updGleno f s).life = s.life ∧
    (updGleno f s).power = s.power ∧ (updGleno f s).regs = s.regs ∧ (updGleno f s).dict = s.dict ∧
    (updGleno f s).commits = s.commits ∧ (updGleno f s).snaps = s.snaps ∧ (updGleno f s).obs = s.obs ∧
    (updGleno f s).optics = s.optics ∧ (updGleno f s).tb = s.tb ∧ (updGleno f s).vern = s.vern ∧
    (updGleno f s).refs = s.refs ∧ (updGleno f s).ptp = s.ptp ∧ (updGleno f s).cal = s.cal ∧
    (updGleno f s).fwd = s.fwd ∧ (updGleno f s).sw = s.sw ∧ (updGleno f s).egr = s.egr ∧
    (updGleno f s).pair = s.pair ∧ (updGleno f s).trust = s.trust ∧ (updGleno f s).upd = s.upd ∧
    (updGleno f s).wire = s.wire ∧ (updGleno f s).now = s.now ∧ (updGleno f s).started = s.started ∧
    (updGleno f s).draws = s.draws ∧ (updGleno f s).pending = s.pending := by
  exact ⟨rfl, rfl, rfl, rfl, rfl, rfl, rfl, rfl, rfl, rfl, rfl, rfl, rfl, rfl, rfl, rfl, rfl, rfl, rfl, rfl, rfl, rfl, rfl, rfl, rfl, rfl⟩

@[simp] theorem contacts_frame (s : State) :
    (contacts s).factory = s.factory ∧ (contacts s).life = s.life ∧ (contacts s).power = s.power ∧
    (contacts s).regs = s.regs ∧ (contacts s).dict = s.dict ∧ (contacts s).commits = s.commits ∧
    (contacts s).snaps = s.snaps ∧ (contacts s).gleno = s.gleno ∧ (contacts s).obs = s.obs ∧
    (contacts s).optics = s.optics ∧ (contacts s).tb = s.tb ∧ (contacts s).vern = s.vern ∧
    (contacts s).refs = s.refs ∧ (contacts s).ptp = s.ptp ∧ (contacts s).cal = s.cal ∧ (contacts s).fwd = s.fwd ∧
    (contacts s).sw = s.sw ∧ (contacts s).egr = s.egr ∧ (contacts s).pair = s.pair ∧ (contacts s).trust = s.trust ∧
    (contacts s).upd = s.upd ∧ (contacts s).wire = s.wire ∧ (contacts s).now = s.now ∧
    (contacts s).started = s.started ∧ (contacts s).draws = s.draws ∧ (contacts s).pending = s.pending := by
  exact ⟨rfl, rfl, rfl, rfl, rfl, rfl, rfl, rfl, rfl, rfl, rfl, rfl, rfl, rfl, rfl, rfl, rfl, rfl, rfl, rfl, rfl, rfl, rfl, rfl, rfl, rfl⟩

@[simp] theorem updUnit_frame (u : Nat) (f : Eu → Eu) (s : State) :
    (updUnit u f s).factory = s.factory ∧ (updUnit u f s).pins = s.pins ∧ (updUnit u f s).life = s.life ∧
    (updUnit u f s).power = s.power ∧ (updUnit u f s).regs = s.regs ∧ (updUnit u f s).dict = s.dict ∧
    (updUnit u f s).commits = s.commits ∧ (updUnit u f s).snaps = s.snaps ∧ (updUnit u f s).gleno = s.gleno ∧
    (updUnit u f s).obs = s.obs ∧ (updUnit u f s).optics = s.optics ∧ (updUnit u f s).tb = s.tb ∧
    (updUnit u f s).refs = s.refs ∧ (updUnit u f s).ptp = s.ptp ∧ (updUnit u f s).cal = s.cal ∧
    (updUnit u f s).fwd = s.fwd ∧ (updUnit u f s).sw = s.sw ∧ (updUnit u f s).egr = s.egr ∧
    (updUnit u f s).pair = s.pair ∧ (updUnit u f s).trust = s.trust ∧ (updUnit u f s).upd = s.upd ∧
    (updUnit u f s).wire = s.wire ∧ (updUnit u f s).now = s.now ∧ (updUnit u f s).started = s.started ∧
    (updUnit u f s).draws = s.draws ∧ (updUnit u f s).pending = s.pending := by
  exact ⟨rfl, rfl, rfl, rfl, rfl, rfl, rfl, rfl, rfl, rfl, rfl, rfl, rfl, rfl, rfl, rfl, rfl, rfl, rfl, rfl, rfl, rfl, rfl, rfl, rfl, rfl⟩

@[simp] theorem logCal_frame (r : CalLog) (s : State) :
    (logCal r s).factory = s.factory ∧ (logCal r s).pins = s.pins ∧ (logCal r s).life = s.life ∧
    (logCal r s).power = s.power ∧ (logCal r s).regs = s.regs ∧ (logCal r s).dict = s.dict ∧
    (logCal r s).commits = s.commits ∧ (logCal r s).snaps = s.snaps ∧ (logCal r s).gleno = s.gleno ∧
    (logCal r s).obs = s.obs ∧ (logCal r s).optics = s.optics ∧ (logCal r s).tb = s.tb ∧ (logCal r s).vern = s.vern ∧
    (logCal r s).refs = s.refs ∧ (logCal r s).ptp = s.ptp ∧ (logCal r s).fwd = s.fwd ∧ (logCal r s).sw = s.sw ∧
    (logCal r s).egr = s.egr ∧ (logCal r s).pair = s.pair ∧ (logCal r s).trust = s.trust ∧ (logCal r s).upd = s.upd ∧
    (logCal r s).wire = s.wire ∧ (logCal r s).now = s.now ∧ (logCal r s).started = s.started ∧
    (logCal r s).draws = s.draws ∧ (logCal r s).pending = s.pending := by
  exact ⟨rfl, rfl, rfl, rfl, rfl, rfl, rfl, rfl, rfl, rfl, rfl, rfl, rfl, rfl, rfl, rfl, rfl, rfl, rfl, rfl, rfl, rfl, rfl, rfl, rfl, rfl⟩

@[simp] theorem queueRec_frame (kind inst : Nat) (urgent : Bool) (q : Option Req) (s : State) :
    (queueRec kind inst urgent q s).factory = s.factory ∧ (queueRec kind inst urgent q s).pins = s.pins ∧
    (queueRec kind inst urgent q s).life = s.life ∧ (queueRec kind inst urgent q s).power = s.power ∧
    (queueRec kind inst urgent q s).regs = s.regs ∧ (queueRec kind inst urgent q s).dict = s.dict ∧
    (queueRec kind inst urgent q s).commits = s.commits ∧ (queueRec kind inst urgent q s).snaps = s.snaps ∧
    (queueRec kind inst urgent q s).gleno = s.gleno ∧ (queueRec kind inst urgent q s).obs = s.obs ∧
    (queueRec kind inst urgent q s).optics = s.optics ∧ (queueRec kind inst urgent q s).tb = s.tb ∧
    (queueRec kind inst urgent q s).vern = s.vern ∧ (queueRec kind inst urgent q s).refs = s.refs ∧
    (queueRec kind inst urgent q s).ptp = s.ptp ∧ (queueRec kind inst urgent q s).fwd = s.fwd ∧
    (queueRec kind inst urgent q s).sw = s.sw ∧ (queueRec kind inst urgent q s).egr = s.egr ∧
    (queueRec kind inst urgent q s).pair = s.pair ∧ (queueRec kind inst urgent q s).trust = s.trust ∧
    (queueRec kind inst urgent q s).upd = s.upd ∧ (queueRec kind inst urgent q s).wire = s.wire ∧
    (queueRec kind inst urgent q s).now = s.now ∧ (queueRec kind inst urgent q s).started = s.started ∧
    (queueRec kind inst urgent q s).draws = s.draws ∧ (queueRec kind inst urgent q s).pending = s.pending := by
  exact ⟨rfl, rfl, rfl, rfl, rfl, rfl, rfl, rfl, rfl, rfl, rfl, rfl, rfl, rfl, rfl, rfl, rfl, rfl, rfl, rfl, rfl, rfl, rfl, rfl, rfl, rfl⟩

@[simp] theorem stepP_frame (s : State) :
    (stepP s).factory = s.factory ∧ (stepP s).pins = s.pins ∧ (stepP s).life = s.life ∧ (stepP s).power = s.power ∧
    (stepP s).dict = s.dict ∧ (stepP s).commits = s.commits ∧ (stepP s).snaps = s.snaps ∧ (stepP s).gleno = s.gleno ∧
    (stepP s).obs = s.obs ∧ (stepP s).optics = s.optics ∧ (stepP s).vern = s.vern ∧ (stepP s).ptp = s.ptp ∧
    (stepP s).cal = s.cal ∧ (stepP s).fwd = s.fwd ∧ (stepP s).sw = s.sw ∧ (stepP s).egr = s.egr ∧
    (stepP s).pair = s.pair ∧ (stepP s).trust = s.trust ∧ (stepP s).upd = s.upd ∧ (stepP s).wire = s.wire ∧
    (stepP s).now = s.now ∧ (stepP s).started = s.started ∧ (stepP s).draws = s.draws ∧
    (stepP s).pending = s.pending := by
  exact ⟨rfl, rfl, rfl, rfl, rfl, rfl, rfl, rfl, rfl, rfl, rfl, rfl, rfl, rfl, rfl, rfl, rfl, rfl, rfl, rfl, rfl, rfl, rfl, rfl⟩

@[simp] theorem updGate_frame (c : Nat) (f : Gate → Gate) (s : State) :
    (updGate c f s).factory = s.factory ∧ (updGate c f s).pins = s.pins ∧ (updGate c f s).life = s.life ∧
    (updGate c f s).power = s.power ∧ (updGate c f s).regs = s.regs ∧ (updGate c f s).dict = s.dict ∧
    (updGate c f s).commits = s.commits ∧ (updGate c f s).snaps = s.snaps ∧ (updGate c f s).gleno = s.gleno ∧
    (updGate c f s).obs = s.obs ∧ (updGate c f s).optics = s.optics ∧ (updGate c f s).tb = s.tb ∧
    (updGate c f s).vern = s.vern ∧ (updGate c f s).refs = s.refs ∧ (updGate c f s).ptp = s.ptp ∧
    (updGate c f s).cal = s.cal ∧ (updGate c f s).fwd = s.fwd ∧ (updGate c f s).sw = s.sw ∧
    (updGate c f s).pair = s.pair ∧ (updGate c f s).trust = s.trust ∧ (updGate c f s).upd = s.upd ∧
    (updGate c f s).wire = s.wire ∧ (updGate c f s).now = s.now ∧ (updGate c f s).started = s.started ∧
    (updGate c f s).draws = s.draws ∧ (updGate c f s).pending = s.pending := by
  exact ⟨rfl, rfl, rfl, rfl, rfl, rfl, rfl, rfl, rfl, rfl, rfl, rfl, rfl, rfl, rfl, rfl, rfl, rfl, rfl, rfl, rfl, rfl, rfl, rfl, rfl, rfl⟩

@[simp] theorem gateNow_frame (c : Nat) (s : State) :
    (gateNow c s).factory = s.factory ∧ (gateNow c s).pins = s.pins ∧ (gateNow c s).life = s.life ∧
    (gateNow c s).power = s.power ∧ (gateNow c s).regs = s.regs ∧ (gateNow c s).dict = s.dict ∧
    (gateNow c s).commits = s.commits ∧ (gateNow c s).snaps = s.snaps ∧ (gateNow c s).gleno = s.gleno ∧
    (gateNow c s).obs = s.obs ∧ (gateNow c s).optics = s.optics ∧ (gateNow c s).tb = s.tb ∧
    (gateNow c s).vern = s.vern ∧ (gateNow c s).refs = s.refs ∧ (gateNow c s).ptp = s.ptp ∧
    (gateNow c s).cal = s.cal ∧ (gateNow c s).fwd = s.fwd ∧ (gateNow c s).sw = s.sw ∧ (gateNow c s).pair = s.pair ∧
    (gateNow c s).trust = s.trust ∧ (gateNow c s).upd = s.upd ∧ (gateNow c s).wire = s.wire ∧
    (gateNow c s).now = s.now ∧ (gateNow c s).started = s.started ∧ (gateNow c s).draws = s.draws ∧
    (gateNow c s).pending = s.pending := by
  exact ⟨rfl, rfl, rfl, rfl, rfl, rfl, rfl, rfl, rfl, rfl, rfl, rfl, rfl, rfl, rfl, rfl, rfl, rfl, rfl, rfl, rfl, rfl, rfl, rfl, rfl, rfl⟩

@[simp] theorem putDie_frame (c q : Nat) (l : List Copy) (s : State) :
    (putDie c q l s).factory = s.factory ∧ (putDie c q l s).pins = s.pins ∧ (putDie c q l s).life = s.life ∧
    (putDie c q l s).power = s.power ∧ (putDie c q l s).regs = s.regs ∧ (putDie c q l s).dict = s.dict ∧
    (putDie c q l s).commits = s.commits ∧ (putDie c q l s).snaps = s.snaps ∧ (putDie c q l s).gleno = s.gleno ∧
    (putDie c q l s).obs = s.obs ∧ (putDie c q l s).optics = s.optics ∧ (putDie c q l s).tb = s.tb ∧
    (putDie c q l s).vern = s.vern ∧ (putDie c q l s).refs = s.refs ∧ (putDie c q l s).ptp = s.ptp ∧
    (putDie c q l s).cal = s.cal ∧ (putDie c q l s).fwd = s.fwd ∧ (putDie c q l s).pair = s.pair ∧
    (putDie c q l s).trust = s.trust ∧ (putDie c q l s).upd = s.upd ∧ (putDie c q l s).wire = s.wire ∧
    (putDie c q l s).now = s.now ∧ (putDie c q l s).started = s.started ∧ (putDie c q l s).draws = s.draws ∧
    (putDie c q l s).pending = s.pending := by
  exact ⟨rfl, rfl, rfl, rfl, rfl, rfl, rfl, rfl, rfl, rfl, rfl, rfl, rfl, rfl, rfl, rfl, rfl, rfl, rfl, rfl, rfl, rfl, rfl, rfl, rfl⟩

@[simp] theorem updSlot_frame (k : Nat) (f : Slot → Slot) (s : State) :
    (updSlot k f s).factory = s.factory ∧ (updSlot k f s).pins = s.pins ∧ (updSlot k f s).life = s.life ∧
    (updSlot k f s).power = s.power ∧ (updSlot k f s).regs = s.regs ∧ (updSlot k f s).dict = s.dict ∧
    (updSlot k f s).commits = s.commits ∧ (updSlot k f s).snaps = s.snaps ∧ (updSlot k f s).gleno = s.gleno ∧
    (updSlot k f s).obs = s.obs ∧ (updSlot k f s).optics = s.optics ∧ (updSlot k f s).tb = s.tb ∧
    (updSlot k f s).vern = s.vern ∧ (updSlot k f s).ptp = s.ptp ∧ (updSlot k f s).cal = s.cal ∧
    (updSlot k f s).fwd = s.fwd ∧ (updSlot k f s).sw = s.sw ∧ (updSlot k f s).egr = s.egr ∧
    (updSlot k f s).pair = s.pair ∧ (updSlot k f s).trust = s.trust ∧ (updSlot k f s).upd = s.upd ∧
    (updSlot k f s).wire = s.wire ∧ (updSlot k f s).now = s.now ∧ (updSlot k f s).started = s.started ∧
    (updSlot k f s).draws = s.draws ∧ (updSlot k f s).pending = s.pending := by
  exact ⟨rfl, rfl, rfl, rfl, rfl, rfl, rfl, rfl, rfl, rfl, rfl, rfl, rfl, rfl, rfl, rfl, rfl, rfl, rfl, rfl, rfl, rfl, rfl, rfl, rfl, rfl⟩

@[simp] theorem updUpd_frame (f : Update → Update) (s : State) :
    (updUpd f s).factory = s.factory ∧ (updUpd f s).pins = s.pins ∧ (updUpd f s).life = s.life ∧
    (updUpd f s).power = s.power ∧ (updUpd f s).regs = s.regs ∧ (updUpd f s).dict = s.dict ∧
    (updUpd f s).commits = s.commits ∧ (updUpd f s).snaps = s.snaps ∧ (updUpd f s).gleno = s.gleno ∧
    (updUpd f s).obs = s.obs ∧ (updUpd f s).optics = s.optics ∧ (updUpd f s).tb = s.tb ∧ (updUpd f s).vern = s.vern ∧
    (updUpd f s).refs = s.refs ∧ (updUpd f s).ptp = s.ptp ∧ (updUpd f s).cal = s.cal ∧ (updUpd f s).fwd = s.fwd ∧
    (updUpd f s).sw = s.sw ∧ (updUpd f s).egr = s.egr ∧ (updUpd f s).pair = s.pair ∧ (updUpd f s).trust = s.trust ∧
    (updUpd f s).wire = s.wire ∧ (updUpd f s).now = s.now ∧ (updUpd f s).started = s.started ∧
    (updUpd f s).draws = s.draws ∧ (updUpd f s).pending = s.pending := by
  exact ⟨rfl, rfl, rfl, rfl, rfl, rfl, rfl, rfl, rfl, rfl, rfl, rfl, rfl, rfl, rfl, rfl, rfl, rfl, rfl, rfl, rfl, rfl, rfl, rfl, rfl, rfl⟩

@[simp] theorem writeRecord_frame (s : State) :
    (writeRecord s).factory = s.factory ∧ (writeRecord s).pins = s.pins ∧ (writeRecord s).life = s.life ∧
    (writeRecord s).power = s.power ∧ (writeRecord s).regs = s.regs ∧ (writeRecord s).dict = s.dict ∧
    (writeRecord s).commits = s.commits ∧ (writeRecord s).snaps = s.snaps ∧ (writeRecord s).gleno = s.gleno ∧
    (writeRecord s).obs = s.obs ∧ (writeRecord s).optics = s.optics ∧ (writeRecord s).tb = s.tb ∧
    (writeRecord s).vern = s.vern ∧ (writeRecord s).refs = s.refs ∧ (writeRecord s).ptp = s.ptp ∧
    (writeRecord s).cal = s.cal ∧ (writeRecord s).fwd = s.fwd ∧ (writeRecord s).sw = s.sw ∧
    (writeRecord s).egr = s.egr ∧ (writeRecord s).pair = s.pair ∧ (writeRecord s).trust = s.trust ∧
    (writeRecord s).wire = s.wire ∧ (writeRecord s).now = s.now ∧ (writeRecord s).started = s.started ∧
    (writeRecord s).draws = s.draws ∧ (writeRecord s).pending = s.pending := by
  exact ⟨rfl, rfl, rfl, rfl, rfl, rfl, rfl, rfl, rfl, rfl, rfl, rfl, rfl, rfl, rfl, rfl, rfl, rfl, rfl, rfl, rfl, rfl, rfl, rfl, rfl, rfl⟩

@[simp] theorem updEng_frame (t : Nat) (f : Engine → Engine) (s : State) :
    (updEng t f s).factory = s.factory ∧ (updEng t f s).pins = s.pins ∧ (updEng t f s).life = s.life ∧
    (updEng t f s).power = s.power ∧ (updEng t f s).regs = s.regs ∧ (updEng t f s).dict = s.dict ∧
    (updEng t f s).commits = s.commits ∧ (updEng t f s).snaps = s.snaps ∧ (updEng t f s).gleno = s.gleno ∧
    (updEng t f s).obs = s.obs ∧ (updEng t f s).tb = s.tb ∧ (updEng t f s).vern = s.vern ∧
    (updEng t f s).refs = s.refs ∧ (updEng t f s).ptp = s.ptp ∧ (updEng t f s).cal = s.cal ∧
    (updEng t f s).fwd = s.fwd ∧ (updEng t f s).sw = s.sw ∧ (updEng t f s).egr = s.egr ∧
    (updEng t f s).pair = s.pair ∧ (updEng t f s).trust = s.trust ∧ (updEng t f s).upd = s.upd ∧
    (updEng t f s).wire = s.wire ∧ (updEng t f s).now = s.now ∧ (updEng t f s).started = s.started ∧
    (updEng t f s).draws = s.draws ∧ (updEng t f s).pending = s.pending := by
  exact ⟨rfl, rfl, rfl, rfl, rfl, rfl, rfl, rfl, rfl, rfl, rfl, rfl, rfl, rfl, rfl, rfl, rfl, rfl, rfl, rfl, rfl, rfl, rfl, rfl, rfl, rfl⟩

@[simp] theorem updBucket_frame (c n : Nat) (f : Bucket → Bucket) (s : State) :
    (updBucket c n f s).factory = s.factory ∧ (updBucket c n f s).pins = s.pins ∧ (updBucket c n f s).life = s.life ∧
    (updBucket c n f s).power = s.power ∧ (updBucket c n f s).regs = s.regs ∧ (updBucket c n f s).dict = s.dict ∧
    (updBucket c n f s).commits = s.commits ∧ (updBucket c n f s).snaps = s.snaps ∧
    (updBucket c n f s).gleno = s.gleno ∧ (updBucket c n f s).obs = s.obs ∧ (updBucket c n f s).optics = s.optics ∧
    (updBucket c n f s).tb = s.tb ∧ (updBucket c n f s).vern = s.vern ∧ (updBucket c n f s).refs = s.refs ∧
    (updBucket c n f s).ptp = s.ptp ∧ (updBucket c n f s).cal = s.cal ∧ (updBucket c n f s).fwd = s.fwd ∧
    (updBucket c n f s).sw = s.sw ∧ (updBucket c n f s).pair = s.pair ∧ (updBucket c n f s).trust = s.trust ∧
    (updBucket c n f s).upd = s.upd ∧ (updBucket c n f s).wire = s.wire ∧ (updBucket c n f s).now = s.now ∧
    (updBucket c n f s).started = s.started ∧ (updBucket c n f s).draws = s.draws ∧
    (updBucket c n f s).pending = s.pending := by
  exact ⟨rfl, rfl, rfl, rfl, rfl, rfl, rfl, rfl, rfl, rfl, rfl, rfl, rfl, rfl, rfl, rfl, rfl, rfl, rfl, rfl, rfl, rfl, rfl, rfl, rfl, rfl⟩

@[simp] theorem updObs_frame (f : Obs → Obs) (s : State) :
    (updObs f s).factory = s.factory ∧ (updObs f s).pins = s.pins ∧ (updObs f s).life = s.life ∧
    (updObs f s).power = s.power ∧ (updObs f s).regs = s.regs ∧ (updObs f s).dict = s.dict ∧
    (updObs f s).commits = s.commits ∧ (updObs f s).snaps = s.snaps ∧ (updObs f s).gleno = s.gleno ∧
    (updObs f s).optics = s.optics ∧ (updObs f s).tb = s.tb ∧ (updObs f s).vern = s.vern ∧
    (updObs f s).refs = s.refs ∧ (updObs f s).ptp = s.ptp ∧ (updObs f s).cal = s.cal ∧ (updObs f s).fwd = s.fwd ∧
    (updObs f s).sw = s.sw ∧ (updObs f s).egr = s.egr ∧ (updObs f s).pair = s.pair ∧ (updObs f s).trust = s.trust ∧
    (updObs f s).upd = s.upd ∧ (updObs f s).wire = s.wire ∧ (updObs f s).now = s.now ∧
    (updObs f s).started = s.started ∧ (updObs f s).draws = s.draws ∧ (updObs f s).pending = s.pending := by
  exact ⟨rfl, rfl, rfl, rfl, rfl, rfl, rfl, rfl, rfl, rfl, rfl, rfl, rfl, rfl, rfl, rfl, rfl, rfl, rfl, rfl, rfl, rfl, rfl, rfl, rfl, rfl⟩

@[simp] theorem setOvf_frame (st : OvfSt) (s : State) :
    (setOvf st s).factory = s.factory ∧ (setOvf st s).pins = s.pins ∧ (setOvf st s).life = s.life ∧
    (setOvf st s).power = s.power ∧ (setOvf st s).regs = s.regs ∧ (setOvf st s).dict = s.dict ∧
    (setOvf st s).commits = s.commits ∧ (setOvf st s).snaps = s.snaps ∧ (setOvf st s).gleno = s.gleno ∧
    (setOvf st s).obs = s.obs ∧ (setOvf st s).optics = s.optics ∧ (setOvf st s).tb = s.tb ∧
    (setOvf st s).vern = s.vern ∧ (setOvf st s).refs = s.refs ∧ (setOvf st s).ptp = s.ptp ∧
    (setOvf st s).cal = s.cal ∧ (setOvf st s).fwd = s.fwd ∧ (setOvf st s).egr = s.egr ∧ (setOvf st s).pair = s.pair ∧
    (setOvf st s).trust = s.trust ∧ (setOvf st s).upd = s.upd ∧ (setOvf st s).wire = s.wire ∧
    (setOvf st s).now = s.now ∧ (setOvf st s).started = s.started ∧ (setOvf st s).draws = s.draws ∧
    (setOvf st s).pending = s.pending := by
  exact ⟨rfl, rfl, rfl, rfl, rfl, rfl, rfl, rfl, rfl, rfl, rfl, rfl, rfl, rfl, rfl, rfl, rfl, rfl, rfl, rfl, rfl, rfl, rfl, rfl, rfl, rfl⟩

@[simp] theorem aimSlew_frame (kind inst : Nat) (v : Int) (s : State) :
    (aimSlew kind inst v s).factory = s.factory ∧ (aimSlew kind inst v s).pins = s.pins ∧
    (aimSlew kind inst v s).life = s.life ∧ (aimSlew kind inst v s).power = s.power ∧
    (aimSlew kind inst v s).regs = s.regs ∧ (aimSlew kind inst v s).dict = s.dict ∧
    (aimSlew kind inst v s).commits = s.commits ∧ (aimSlew kind inst v s).snaps = s.snaps ∧
    (aimSlew kind inst v s).gleno = s.gleno ∧ (aimSlew kind inst v s).obs = s.obs ∧
    (aimSlew kind inst v s).optics = s.optics ∧ (aimSlew kind inst v s).tb = s.tb ∧
    (aimSlew kind inst v s).vern = s.vern ∧ (aimSlew kind inst v s).refs = s.refs ∧
    (aimSlew kind inst v s).ptp = s.ptp ∧ (aimSlew kind inst v s).fwd = s.fwd ∧ (aimSlew kind inst v s).sw = s.sw ∧
    (aimSlew kind inst v s).egr = s.egr ∧ (aimSlew kind inst v s).pair = s.pair ∧
    (aimSlew kind inst v s).trust = s.trust ∧ (aimSlew kind inst v s).upd = s.upd ∧
    (aimSlew kind inst v s).wire = s.wire ∧ (aimSlew kind inst v s).now = s.now ∧
    (aimSlew kind inst v s).started = s.started ∧ (aimSlew kind inst v s).draws = s.draws ∧
    (aimSlew kind inst v s).pending = s.pending := by
  exact ⟨rfl, rfl, rfl, rfl, rfl, rfl, rfl, rfl, rfl, rfl, rfl, rfl, rfl, rfl, rfl, rfl, rfl, rfl, rfl, rfl, rfl, rfl, rfl, rfl, rfl, rfl⟩

@[simp] theorem setVal_frame (idx sub : Nat) (v : List Byte) (s : State) :
    (setVal idx sub v s).factory = s.factory ∧ (setVal idx sub v s).pins = s.pins ∧
    (setVal idx sub v s).life = s.life ∧ (setVal idx sub v s).power = s.power ∧ (setVal idx sub v s).regs = s.regs ∧
    (setVal idx sub v s).commits = s.commits ∧ (setVal idx sub v s).snaps = s.snaps ∧
    (setVal idx sub v s).gleno = s.gleno ∧ (setVal idx sub v s).obs = s.obs ∧
    (setVal idx sub v s).optics = s.optics ∧ (setVal idx sub v s).tb = s.tb ∧ (setVal idx sub v s).vern = s.vern ∧
    (setVal idx sub v s).refs = s.refs ∧ (setVal idx sub v s).ptp = s.ptp ∧ (setVal idx sub v s).cal = s.cal ∧
    (setVal idx sub v s).fwd = s.fwd ∧ (setVal idx sub v s).sw = s.sw ∧ (setVal idx sub v s).egr = s.egr ∧
    (setVal idx sub v s).pair = s.pair ∧ (setVal idx sub v s).trust = s.trust ∧ (setVal idx sub v s).upd = s.upd ∧
    (setVal idx sub v s).wire = s.wire ∧ (setVal idx sub v s).now = s.now ∧
    (setVal idx sub v s).started = s.started ∧ (setVal idx sub v s).draws = s.draws ∧
    (setVal idx sub v s).pending = s.pending := by
  exact ⟨rfl, rfl, rfl, rfl, rfl, rfl, rfl, rfl, rfl, rfl, rfl, rfl, rfl, rfl, rfl, rfl, rfl, rfl, rfl, rfl, rfl, rfl, rfl, rfl, rfl, rfl⟩

@[simp] theorem updOut_frame (n : Nat) (f : Output → Output) (s : State) :
    (updOut n f s).factory = s.factory ∧ (updOut n f s).pins = s.pins ∧ (updOut n f s).life = s.life ∧
    (updOut n f s).power = s.power ∧ (updOut n f s).regs = s.regs ∧ (updOut n f s).dict = s.dict ∧
    (updOut n f s).commits = s.commits ∧ (updOut n f s).snaps = s.snaps ∧ (updOut n f s).gleno = s.gleno ∧
    (updOut n f s).obs = s.obs ∧ (updOut n f s).optics = s.optics ∧ (updOut n f s).tb = s.tb ∧
    (updOut n f s).vern = s.vern ∧ (updOut n f s).ptp = s.ptp ∧ (updOut n f s).cal = s.cal ∧
    (updOut n f s).fwd = s.fwd ∧ (updOut n f s).sw = s.sw ∧ (updOut n f s).egr = s.egr ∧
    (updOut n f s).pair = s.pair ∧ (updOut n f s).trust = s.trust ∧ (updOut n f s).upd = s.upd ∧
    (updOut n f s).wire = s.wire ∧ (updOut n f s).now = s.now ∧ (updOut n f s).started = s.started ∧
    (updOut n f s).draws = s.draws ∧ (updOut n f s).pending = s.pending := by
  exact ⟨rfl, rfl, rfl, rfl, rfl, rfl, rfl, rfl, rfl, rfl, rfl, rfl, rfl, rfl, rfl, rfl, rfl, rfl, rfl, rfl, rfl, rfl, rfl, rfl, rfl, rfl⟩

@[simp] theorem updPort_frame (c i : Nat) (f : PtpPort → PtpPort) (s : State) :
    (updPort c i f s).factory = s.factory ∧ (updPort c i f s).pins = s.pins ∧ (updPort c i f s).life = s.life ∧
    (updPort c i f s).power = s.power ∧ (updPort c i f s).regs = s.regs ∧ (updPort c i f s).dict = s.dict ∧
    (updPort c i f s).commits = s.commits ∧ (updPort c i f s).snaps = s.snaps ∧ (updPort c i f s).gleno = s.gleno ∧
    (updPort c i f s).obs = s.obs ∧ (updPort c i f s).optics = s.optics ∧ (updPort c i f s).tb = s.tb ∧
    (updPort c i f s).vern = s.vern ∧ (updPort c i f s).refs = s.refs ∧ (updPort c i f s).cal = s.cal ∧
    (updPort c i f s).fwd = s.fwd ∧ (updPort c i f s).sw = s.sw ∧ (updPort c i f s).egr = s.egr ∧
    (updPort c i f s).pair = s.pair ∧ (updPort c i f s).trust = s.trust ∧ (updPort c i f s).upd = s.upd ∧
    (updPort c i f s).wire = s.wire ∧ (updPort c i f s).now = s.now ∧ (updPort c i f s).started = s.started ∧
    (updPort c i f s).draws = s.draws ∧ (updPort c i f s).pending = s.pending := by
  exact ⟨rfl, rfl, rfl, rfl, rfl, rfl, rfl, rfl, rfl, rfl, rfl, rfl, rfl, rfl, rfl, rfl, rfl, rfl, rfl, rfl, rfl, rfl, rfl, rfl, rfl, rfl⟩

@[simp] theorem bumpCounter_frame (i : Nat) (s : State) :
    (bumpCounter i s).factory = s.factory ∧ (bumpCounter i s).pins = s.pins ∧ (bumpCounter i s).life = s.life ∧
    (bumpCounter i s).power = s.power ∧ (bumpCounter i s).regs = s.regs ∧ (bumpCounter i s).dict = s.dict ∧
    (bumpCounter i s).commits = s.commits ∧ (bumpCounter i s).snaps = s.snaps ∧ (bumpCounter i s).gleno = s.gleno ∧
    (bumpCounter i s).obs = s.obs ∧ (bumpCounter i s).optics = s.optics ∧ (bumpCounter i s).tb = s.tb ∧
    (bumpCounter i s).vern = s.vern ∧ (bumpCounter i s).refs = s.refs ∧ (bumpCounter i s).ptp = s.ptp ∧
    (bumpCounter i s).cal = s.cal ∧ (bumpCounter i s).fwd = s.fwd ∧ (bumpCounter i s).sw = s.sw ∧
    (bumpCounter i s).egr = s.egr ∧ (bumpCounter i s).pair = s.pair ∧ (bumpCounter i s).upd = s.upd ∧
    (bumpCounter i s).wire = s.wire ∧ (bumpCounter i s).now = s.now ∧ (bumpCounter i s).started = s.started ∧
    (bumpCounter i s).draws = s.draws ∧ (bumpCounter i s).pending = s.pending := by
  exact ⟨rfl, rfl, rfl, rfl, rfl, rfl, rfl, rfl, rfl, rfl, rfl, rfl, rfl, rfl, rfl, rfl, rfl, rfl, rfl, rfl, rfl, rfl, rfl, rfl, rfl, rfl⟩

@[simp] theorem freeCtr_frame (k : Nat) (s : State) :
    (freeCtr k s).factory = s.factory ∧ (freeCtr k s).pins = s.pins ∧ (freeCtr k s).life = s.life ∧
    (freeCtr k s).power = s.power ∧ (freeCtr k s).regs = s.regs ∧ (freeCtr k s).dict = s.dict ∧
    (freeCtr k s).commits = s.commits ∧ (freeCtr k s).snaps = s.snaps ∧ (freeCtr k s).gleno = s.gleno ∧
    (freeCtr k s).optics = s.optics ∧ (freeCtr k s).tb = s.tb ∧ (freeCtr k s).vern = s.vern ∧
    (freeCtr k s).refs = s.refs ∧ (freeCtr k s).ptp = s.ptp ∧ (freeCtr k s).cal = s.cal ∧ (freeCtr k s).fwd = s.fwd ∧
    (freeCtr k s).sw = s.sw ∧ (freeCtr k s).egr = s.egr ∧ (freeCtr k s).pair = s.pair ∧
    (freeCtr k s).trust = s.trust ∧ (freeCtr k s).upd = s.upd ∧ (freeCtr k s).wire = s.wire ∧
    (freeCtr k s).now = s.now ∧ (freeCtr k s).started = s.started ∧ (freeCtr k s).draws = s.draws ∧
    (freeCtr k s).pending = s.pending := by
  exact ⟨rfl, rfl, rfl, rfl, rfl, rfl, rfl, rfl, rfl, rfl, rfl, rfl, rfl, rfl, rfl, rfl, rfl, rfl, rfl, rfl, rfl, rfl, rfl, rfl, rfl, rfl⟩

@[simp] theorem updDet_frame (d : Nat) (f : Det → Det) (s : State) :
    (updDet d f s).factory = s.factory ∧ (updDet d f s).pins = s.pins ∧ (updDet d f s).life = s.life ∧
    (updDet d f s).power = s.power ∧ (updDet d f s).regs = s.regs ∧ (updDet d f s).dict = s.dict ∧
    (updDet d f s).commits = s.commits ∧ (updDet d f s).snaps = s.snaps ∧ (updDet d f s).gleno = s.gleno ∧
    (updDet d f s).obs = s.obs ∧ (updDet d f s).optics = s.optics ∧ (updDet d f s).tb = s.tb ∧
    (updDet d f s).refs = s.refs ∧ (updDet d f s).ptp = s.ptp ∧ (updDet d f s).cal = s.cal ∧
    (updDet d f s).fwd = s.fwd ∧ (updDet d f s).sw = s.sw ∧ (updDet d f s).egr = s.egr ∧
    (updDet d f s).pair = s.pair ∧ (updDet d f s).trust = s.trust ∧ (updDet d f s).upd = s.upd ∧
    (updDet d f s).wire = s.wire ∧ (updDet d f s).now = s.now ∧ (updDet d f s).started = s.started ∧
    (updDet d f s).draws = s.draws ∧ (updDet d f s).pending = s.pending := by
  exact ⟨rfl, rfl, rfl, rfl, rfl, rfl, rfl, rfl, rfl, rfl, rfl, rfl, rfl, rfl, rfl, rfl, rfl, rfl, rfl, rfl, rfl, rfl, rfl, rfl, rfl, rfl⟩

@[simp] theorem detLost_frame (d : Nat) (s : State) :
    (detLost d s).factory = s.factory ∧ (detLost d s).pins = s.pins ∧ (detLost d s).life = s.life ∧
    (detLost d s).power = s.power ∧ (detLost d s).regs = s.regs ∧ (detLost d s).dict = s.dict ∧
    (detLost d s).commits = s.commits ∧ (detLost d s).snaps = s.snaps ∧ (detLost d s).gleno = s.gleno ∧
    (detLost d s).obs = s.obs ∧ (detLost d s).optics = s.optics ∧ (detLost d s).tb = s.tb ∧
    (detLost d s).refs = s.refs ∧ (detLost d s).ptp = s.ptp ∧ (detLost d s).cal = s.cal ∧ (detLost d s).fwd = s.fwd ∧
    (detLost d s).sw = s.sw ∧ (detLost d s).egr = s.egr ∧ (detLost d s).pair = s.pair ∧
    (detLost d s).trust = s.trust ∧ (detLost d s).upd = s.upd ∧ (detLost d s).wire = s.wire ∧
    (detLost d s).now = s.now ∧ (detLost d s).started = s.started ∧ (detLost d s).draws = s.draws ∧
    (detLost d s).pending = s.pending := by
  exact ⟨rfl, rfl, rfl, rfl, rfl, rfl, rfl, rfl, rfl, rfl, rfl, rfl, rfl, rfl, rfl, rfl, rfl, rfl, rfl, rfl, rfl, rfl, rfl, rfl, rfl, rfl⟩

@[simp] theorem stepSlew_frame (kind inst : Nat) (v : Int) (s : State) :
    (stepSlew kind inst v s).factory = s.factory ∧ (stepSlew kind inst v s).pins = s.pins ∧
    (stepSlew kind inst v s).life = s.life ∧ (stepSlew kind inst v s).power = s.power ∧
    (stepSlew kind inst v s).regs = s.regs ∧ (stepSlew kind inst v s).dict = s.dict ∧
    (stepSlew kind inst v s).commits = s.commits ∧ (stepSlew kind inst v s).snaps = s.snaps ∧
    (stepSlew kind inst v s).gleno = s.gleno ∧ (stepSlew kind inst v s).obs = s.obs ∧
    (stepSlew kind inst v s).optics = s.optics ∧ (stepSlew kind inst v s).tb = s.tb ∧
    (stepSlew kind inst v s).vern = s.vern ∧ (stepSlew kind inst v s).refs = s.refs ∧
    (stepSlew kind inst v s).ptp = s.ptp ∧ (stepSlew kind inst v s).fwd = s.fwd ∧
    (stepSlew kind inst v s).sw = s.sw ∧ (stepSlew kind inst v s).egr = s.egr ∧
    (stepSlew kind inst v s).pair = s.pair ∧ (stepSlew kind inst v s).trust = s.trust ∧
    (stepSlew kind inst v s).upd = s.upd ∧ (stepSlew kind inst v s).wire = s.wire ∧
    (stepSlew kind inst v s).now = s.now ∧ (stepSlew kind inst v s).started = s.started ∧
    (stepSlew kind inst v s).draws = s.draws ∧ (stepSlew kind inst v s).pending = s.pending := by
  exact ⟨rfl, rfl, rfl, rfl, rfl, rfl, rfl, rfl, rfl, rfl, rfl, rfl, rfl, rfl, rfl, rfl, rfl, rfl, rfl, rfl, rfl, rfl, rfl, rfl, rfl, rfl⟩

@[simp] theorem updAsym_frame (c : Nat) (f : Asym → Asym) (s : State) :
    (updAsym c f s).factory = s.factory ∧ (updAsym c f s).pins = s.pins ∧ (updAsym c f s).life = s.life ∧
    (updAsym c f s).power = s.power ∧ (updAsym c f s).regs = s.regs ∧ (updAsym c f s).dict = s.dict ∧
    (updAsym c f s).commits = s.commits ∧ (updAsym c f s).snaps = s.snaps ∧ (updAsym c f s).gleno = s.gleno ∧
    (updAsym c f s).obs = s.obs ∧ (updAsym c f s).optics = s.optics ∧ (updAsym c f s).tb = s.tb ∧
    (updAsym c f s).vern = s.vern ∧ (updAsym c f s).refs = s.refs ∧ (updAsym c f s).cal = s.cal ∧
    (updAsym c f s).fwd = s.fwd ∧ (updAsym c f s).sw = s.sw ∧ (updAsym c f s).egr = s.egr ∧
    (updAsym c f s).pair = s.pair ∧ (updAsym c f s).trust = s.trust ∧ (updAsym c f s).upd = s.upd ∧
    (updAsym c f s).wire = s.wire ∧ (updAsym c f s).now = s.now ∧ (updAsym c f s).started = s.started ∧
    (updAsym c f s).draws = s.draws ∧ (updAsym c f s).pending = s.pending := by
  exact ⟨rfl, rfl, rfl, rfl, rfl, rfl, rfl, rfl, rfl, rfl, rfl, rfl, rfl, rfl, rfl, rfl, rfl, rfl, rfl, rfl, rfl, rfl, rfl, rfl, rfl, rfl⟩

@[simp] theorem ovfClose_frame (s : State) :
    (ovfClose s).factory = s.factory ∧ (ovfClose s).pins = s.pins ∧ (ovfClose s).life = s.life ∧
    (ovfClose s).regs = s.regs ∧ (ovfClose s).dict = s.dict ∧ (ovfClose s).commits = s.commits ∧
    (ovfClose s).snaps = s.snaps ∧ (ovfClose s).gleno = s.gleno ∧ (ovfClose s).obs = s.obs ∧
    (ovfClose s).optics = s.optics ∧ (ovfClose s).tb = s.tb ∧ (ovfClose s).vern = s.vern ∧
    (ovfClose s).refs = s.refs ∧ (ovfClose s).ptp = s.ptp ∧ (ovfClose s).cal = s.cal ∧ (ovfClose s).fwd = s.fwd ∧
    (ovfClose s).egr = s.egr ∧ (ovfClose s).pair = s.pair ∧ (ovfClose s).trust = s.trust ∧ (ovfClose s).upd = s.upd ∧
    (ovfClose s).wire = s.wire ∧ (ovfClose s).now = s.now ∧ (ovfClose s).started = s.started ∧
    (ovfClose s).draws = s.draws ∧ (ovfClose s).pending = s.pending := by
  exact ⟨rfl, rfl, rfl, rfl, rfl, rfl, rfl, rfl, rfl, rfl, rfl, rfl, rfl, rfl, rfl, rfl, rfl, rfl, rfl, rfl, rfl, rfl, rfl, rfl, rfl⟩

@[simp] theorem draw_frame (s : State) :
    (draw s).factory = s.factory ∧ (draw s).pins = s.pins ∧ (draw s).life = s.life ∧ (draw s).power = s.power ∧
    (draw s).regs = s.regs ∧ (draw s).dict = s.dict ∧ (draw s).commits = s.commits ∧ (draw s).snaps = s.snaps ∧
    (draw s).gleno = s.gleno ∧ (draw s).obs = s.obs ∧ (draw s).optics = s.optics ∧ (draw s).tb = s.tb ∧
    (draw s).vern = s.vern ∧ (draw s).refs = s.refs ∧ (draw s).ptp = s.ptp ∧ (draw s).cal = s.cal ∧
    (draw s).fwd = s.fwd ∧ (draw s).sw = s.sw ∧ (draw s).egr = s.egr ∧ (draw s).pair = s.pair ∧
    (draw s).trust = s.trust ∧ (draw s).upd = s.upd ∧ (draw s).wire = s.wire ∧ (draw s).now = s.now ∧
    (draw s).started = s.started ∧ (draw s).pending = s.pending := by
  exact ⟨rfl, rfl, rfl, rfl, rfl, rfl, rfl, rfl, rfl, rfl, rfl, rfl, rfl, rfl, rfl, rfl, rfl, rfl, rfl, rfl, rfl, rfl, rfl, rfl, rfl, rfl⟩

@[simp] theorem toListen_frame (c : Nat) (s : State) :
    (toListen c s).factory = s.factory ∧ (toListen c s).pins = s.pins ∧ (toListen c s).life = s.life ∧
    (toListen c s).power = s.power ∧ (toListen c s).regs = s.regs ∧ (toListen c s).dict = s.dict ∧
    (toListen c s).commits = s.commits ∧ (toListen c s).snaps = s.snaps ∧ (toListen c s).gleno = s.gleno ∧
    (toListen c s).obs = s.obs ∧ (toListen c s).tb = s.tb ∧ (toListen c s).vern = s.vern ∧
    (toListen c s).refs = s.refs ∧ (toListen c s).ptp = s.ptp ∧ (toListen c s).cal = s.cal ∧
    (toListen c s).fwd = s.fwd ∧ (toListen c s).sw = s.sw ∧ (toListen c s).egr = s.egr ∧
    (toListen c s).pair = s.pair ∧ (toListen c s).trust = s.trust ∧ (toListen c s).upd = s.upd ∧
    (toListen c s).wire = s.wire ∧ (toListen c s).now = s.now ∧ (toListen c s).started = s.started ∧
    (toListen c s).pending = s.pending := by
  exact ⟨rfl, rfl, rfl, rfl, rfl, rfl, rfl, rfl, rfl, rfl, rfl, rfl, rfl, rfl, rfl, rfl, rfl, rfl, rfl, rfl, rfl, rfl, rfl, rfl, rfl⟩

@[simp] theorem updPower_frame (f : Power → Power) (s : State) :
    (updPower f s).factory = s.factory ∧ (updPower f s).pins = s.pins ∧ (updPower f s).life = s.life ∧
    (updPower f s).regs = s.regs ∧ (updPower f s).dict = s.dict ∧ (updPower f s).commits = s.commits ∧
    (updPower f s).snaps = s.snaps ∧ (updPower f s).gleno = s.gleno ∧ (updPower f s).obs = s.obs ∧
    (updPower f s).optics = s.optics ∧ (updPower f s).tb = s.tb ∧ (updPower f s).vern = s.vern ∧
    (updPower f s).refs = s.refs ∧ (updPower f s).ptp = s.ptp ∧ (updPower f s).cal = s.cal ∧
    (updPower f s).fwd = s.fwd ∧ (updPower f s).sw = s.sw ∧ (updPower f s).egr = s.egr ∧
    (updPower f s).pair = s.pair ∧ (updPower f s).trust = s.trust ∧ (updPower f s).upd = s.upd ∧
    (updPower f s).wire = s.wire ∧ (updPower f s).now = s.now ∧ (updPower f s).started = s.started ∧
    (updPower f s).draws = s.draws ∧ (updPower f s).pending = s.pending := by
  exact ⟨rfl, rfl, rfl, rfl, rfl, rfl, rfl, rfl, rfl, rfl, rfl, rfl, rfl, rfl, rfl, rfl, rfl, rfl, rfl, rfl, rfl, rfl, rfl, rfl, rfl, rfl⟩

@[simp] theorem unwait_frame (a : Ask) (s : State) :
    (unwait a s).factory = s.factory ∧ (unwait a s).pins = s.pins ∧ (unwait a s).life = s.life ∧
    (unwait a s).regs = s.regs ∧ (unwait a s).dict = s.dict ∧ (unwait a s).commits = s.commits ∧
    (unwait a s).snaps = s.snaps ∧ (unwait a s).gleno = s.gleno ∧ (unwait a s).obs = s.obs ∧
    (unwait a s).optics = s.optics ∧ (unwait a s).tb = s.tb ∧ (unwait a s).vern = s.vern ∧
    (unwait a s).refs = s.refs ∧ (unwait a s).ptp = s.ptp ∧ (unwait a s).cal = s.cal ∧ (unwait a s).fwd = s.fwd ∧
    (unwait a s).sw = s.sw ∧ (unwait a s).egr = s.egr ∧ (unwait a s).pair = s.pair ∧ (unwait a s).trust = s.trust ∧
    (unwait a s).upd = s.upd ∧ (unwait a s).wire = s.wire ∧ (unwait a s).now = s.now ∧
    (unwait a s).started = s.started ∧ (unwait a s).draws = s.draws ∧ (unwait a s).pending = s.pending := by
  exact ⟨rfl, rfl, rfl, rfl, rfl, rfl, rfl, rfl, rfl, rfl, rfl, rfl, rfl, rfl, rfl, rfl, rfl, rfl, rfl, rfl, rfl, rfl, rfl, rfl, rfl, rfl⟩

@[simp] theorem updEu_frame (u : Nat) (f : Eu → Eu) (s : State) :
    (updEu u f s).factory = s.factory ∧ (updEu u f s).pins = s.pins ∧ (updEu u f s).life = s.life ∧
    (updEu u f s).power = s.power ∧ (updEu u f s).regs = s.regs ∧ (updEu u f s).dict = s.dict ∧
    (updEu u f s).commits = s.commits ∧ (updEu u f s).snaps = s.snaps ∧ (updEu u f s).gleno = s.gleno ∧
    (updEu u f s).obs = s.obs ∧ (updEu u f s).optics = s.optics ∧ (updEu u f s).tb = s.tb ∧
    (updEu u f s).refs = s.refs ∧ (updEu u f s).ptp = s.ptp ∧ (updEu u f s).cal = s.cal ∧ (updEu u f s).fwd = s.fwd ∧
    (updEu u f s).sw = s.sw ∧ (updEu u f s).egr = s.egr ∧ (updEu u f s).pair = s.pair ∧
    (updEu u f s).trust = s.trust ∧ (updEu u f s).upd = s.upd ∧ (updEu u f s).wire = s.wire ∧
    (updEu u f s).now = s.now ∧ (updEu u f s).started = s.started ∧ (updEu u f s).draws = s.draws ∧
    (updEu u f s).pending = s.pending := by
  exact ⟨rfl, rfl, rfl, rfl, rfl, rfl, rfl, rfl, rfl, rfl, rfl, rfl, rfl, rfl, rfl, rfl, rfl, rfl, rfl, rfl, rfl, rfl, rfl, rfl, rfl, rfl⟩

@[simp] theorem openPair_frame (s : State) :
    (openPair s).factory = s.factory ∧ (openPair s).pins = s.pins ∧ (openPair s).life = s.life ∧
    (openPair s).power = s.power ∧ (openPair s).regs = s.regs ∧ (openPair s).dict = s.dict ∧
    (openPair s).commits = s.commits ∧ (openPair s).snaps = s.snaps ∧ (openPair s).obs = s.obs ∧
    (openPair s).optics = s.optics ∧ (openPair s).tb = s.tb ∧ (openPair s).vern = s.vern ∧
    (openPair s).refs = s.refs ∧ (openPair s).ptp = s.ptp ∧ (openPair s).cal = s.cal ∧ (openPair s).fwd = s.fwd ∧
    (openPair s).sw = s.sw ∧ (openPair s).egr = s.egr ∧ (openPair s).trust = s.trust ∧ (openPair s).upd = s.upd ∧
    (openPair s).now = s.now ∧ (openPair s).started = s.started ∧ (openPair s).draws = s.draws ∧
    (openPair s).pending = s.pending := by
  exact ⟨rfl, rfl, rfl, rfl, rfl, rfl, rfl, rfl, rfl, rfl, rfl, rfl, rfl, rfl, rfl, rfl, rfl, rfl, rfl, rfl, rfl, rfl, rfl, rfl⟩

@[simp] theorem bookBank_frame (t st : Nat) (s : State) :
    (bookBank t st s).factory = s.factory ∧ (bookBank t st s).pins = s.pins ∧ (bookBank t st s).life = s.life ∧
    (bookBank t st s).regs = s.regs ∧ (bookBank t st s).dict = s.dict ∧ (bookBank t st s).commits = s.commits ∧
    (bookBank t st s).snaps = s.snaps ∧ (bookBank t st s).gleno = s.gleno ∧ (bookBank t st s).obs = s.obs ∧
    (bookBank t st s).optics = s.optics ∧ (bookBank t st s).tb = s.tb ∧ (bookBank t st s).vern = s.vern ∧
    (bookBank t st s).refs = s.refs ∧ (bookBank t st s).ptp = s.ptp ∧ (bookBank t st s).cal = s.cal ∧
    (bookBank t st s).fwd = s.fwd ∧ (bookBank t st s).sw = s.sw ∧ (bookBank t st s).egr = s.egr ∧
    (bookBank t st s).pair = s.pair ∧ (bookBank t st s).trust = s.trust ∧ (bookBank t st s).upd = s.upd ∧
    (bookBank t st s).wire = s.wire ∧ (bookBank t st s).now = s.now ∧ (bookBank t st s).started = s.started ∧
    (bookBank t st s).draws = s.draws ∧ (bookBank t st s).pending = s.pending := by
  exact ⟨rfl, rfl, rfl, rfl, rfl, rfl, rfl, rfl, rfl, rfl, rfl, rfl, rfl, rfl, rfl, rfl, rfl, rfl, rfl, rfl, rfl, rfl, rfl, rfl, rfl, rfl⟩

@[simp] theorem updLife_frame (f : Life → Life) (s : State) :
    (updLife f s).factory = s.factory ∧ (updLife f s).pins = s.pins ∧ (updLife f s).power = s.power ∧
    (updLife f s).regs = s.regs ∧ (updLife f s).dict = s.dict ∧ (updLife f s).commits = s.commits ∧
    (updLife f s).snaps = s.snaps ∧ (updLife f s).gleno = s.gleno ∧ (updLife f s).obs = s.obs ∧
    (updLife f s).optics = s.optics ∧ (updLife f s).tb = s.tb ∧ (updLife f s).vern = s.vern ∧
    (updLife f s).refs = s.refs ∧ (updLife f s).ptp = s.ptp ∧ (updLife f s).cal = s.cal ∧ (updLife f s).fwd = s.fwd ∧
    (updLife f s).sw = s.sw ∧ (updLife f s).egr = s.egr ∧ (updLife f s).pair = s.pair ∧
    (updLife f s).trust = s.trust ∧ (updLife f s).upd = s.upd ∧ (updLife f s).wire = s.wire ∧
    (updLife f s).now = s.now ∧ (updLife f s).started = s.started ∧ (updLife f s).draws = s.draws ∧
    (updLife f s).pending = s.pending := by
  exact ⟨rfl, rfl, rfl, rfl, rfl, rfl, rfl, rfl, rfl, rfl, rfl, rfl, rfl, rfl, rfl, rfl, rfl, rfl, rfl, rfl, rfl, rfl, rfl, rfl, rfl, rfl⟩

@[simp] theorem seqNext_frame (c i ty : Nat) (s : State) :
    (seqNext c i ty s).factory = s.factory ∧ (seqNext c i ty s).pins = s.pins ∧ (seqNext c i ty s).life = s.life ∧
    (seqNext c i ty s).power = s.power ∧ (seqNext c i ty s).regs = s.regs ∧ (seqNext c i ty s).dict = s.dict ∧
    (seqNext c i ty s).commits = s.commits ∧ (seqNext c i ty s).snaps = s.snaps ∧
    (seqNext c i ty s).gleno = s.gleno ∧ (seqNext c i ty s).obs = s.obs ∧ (seqNext c i ty s).optics = s.optics ∧
    (seqNext c i ty s).tb = s.tb ∧ (seqNext c i ty s).vern = s.vern ∧ (seqNext c i ty s).refs = s.refs ∧
    (seqNext c i ty s).cal = s.cal ∧ (seqNext c i ty s).fwd = s.fwd ∧ (seqNext c i ty s).sw = s.sw ∧
    (seqNext c i ty s).egr = s.egr ∧ (seqNext c i ty s).pair = s.pair ∧ (seqNext c i ty s).trust = s.trust ∧
    (seqNext c i ty s).upd = s.upd ∧ (seqNext c i ty s).wire = s.wire ∧ (seqNext c i ty s).now = s.now ∧
    (seqNext c i ty s).started = s.started ∧ (seqNext c i ty s).draws = s.draws ∧
    (seqNext c i ty s).pending = s.pending := by
  exact ⟨rfl, rfl, rfl, rfl, rfl, rfl, rfl, rfl, rfl, rfl, rfl, rfl, rfl, rfl, rfl, rfl, rfl, rfl, rfl, rfl, rfl, rfl, rfl, rfl, rfl, rfl⟩

@[simp] theorem askSpare_frame (t j : Nat) (planned : Bool) (s : State) :
    (askSpare t j planned s).factory = s.factory ∧ (askSpare t j planned s).pins = s.pins ∧
    (askSpare t j planned s).life = s.life ∧ (askSpare t j planned s).regs = s.regs ∧
    (askSpare t j planned s).dict = s.dict ∧ (askSpare t j planned s).commits = s.commits ∧
    (askSpare t j planned s).snaps = s.snaps ∧ (askSpare t j planned s).gleno = s.gleno ∧
    (askSpare t j planned s).obs = s.obs ∧ (askSpare t j planned s).tb = s.tb ∧
    (askSpare t j planned s).vern = s.vern ∧ (askSpare t j planned s).refs = s.refs ∧
    (askSpare t j planned s).ptp = s.ptp ∧ (askSpare t j planned s).cal = s.cal ∧
    (askSpare t j planned s).fwd = s.fwd ∧ (askSpare t j planned s).sw = s.sw ∧
    (askSpare t j planned s).egr = s.egr ∧ (askSpare t j planned s).pair = s.pair ∧
    (askSpare t j planned s).trust = s.trust ∧ (askSpare t j planned s).upd = s.upd ∧
    (askSpare t j planned s).wire = s.wire ∧ (askSpare t j planned s).now = s.now ∧
    (askSpare t j planned s).started = s.started ∧ (askSpare t j planned s).draws = s.draws ∧
    (askSpare t j planned s).pending = s.pending := by
  exact ⟨rfl, rfl, rfl, rfl, rfl, rfl, rfl, rfl, rfl, rfl, rfl, rfl, rfl, rfl, rfl, rfl, rfl, rfl, rfl, rfl, rfl, rfl, rfl, rfl, rfl⟩

@[simp] theorem updBlock_frame (base : Nat) (f : Block → Block) (s : State) :
    (updBlock base f s).factory = s.factory ∧ (updBlock base f s).pins = s.pins ∧ (updBlock base f s).life = s.life ∧
    (updBlock base f s).power = s.power ∧ (updBlock base f s).dict = s.dict ∧
    (updBlock base f s).commits = s.commits ∧ (updBlock base f s).snaps = s.snaps ∧
    (updBlock base f s).gleno = s.gleno ∧ (updBlock base f s).obs = s.obs ∧ (updBlock base f s).optics = s.optics ∧
    (updBlock base f s).tb = s.tb ∧ (updBlock base f s).vern = s.vern ∧ (updBlock base f s).refs = s.refs ∧
    (updBlock base f s).ptp = s.ptp ∧ (updBlock base f s).cal = s.cal ∧ (updBlock base f s).fwd = s.fwd ∧
    (updBlock base f s).sw = s.sw ∧ (updBlock base f s).egr = s.egr ∧ (updBlock base f s).pair = s.pair ∧
    (updBlock base f s).trust = s.trust ∧ (updBlock base f s).upd = s.upd ∧ (updBlock base f s).wire = s.wire ∧
    (updBlock base f s).now = s.now ∧ (updBlock base f s).started = s.started ∧ (updBlock base f s).draws = s.draws ∧
    (updBlock base f s).pending = s.pending := by
  exact ⟨rfl, rfl, rfl, rfl, rfl, rfl, rfl, rfl, rfl, rfl, rfl, rfl, rfl, rfl, rfl, rfl, rfl, rfl, rfl, rfl, rfl, rfl, rfl, rfl, rfl, rfl⟩

@[simp] theorem post_frame (base a : Nat) (v : Word) (s : State) :
    (post base a v s).factory = s.factory ∧ (post base a v s).pins = s.pins ∧ (post base a v s).life = s.life ∧
    (post base a v s).power = s.power ∧ (post base a v s).dict = s.dict ∧ (post base a v s).commits = s.commits ∧
    (post base a v s).snaps = s.snaps ∧ (post base a v s).gleno = s.gleno ∧ (post base a v s).obs = s.obs ∧
    (post base a v s).optics = s.optics ∧ (post base a v s).tb = s.tb ∧ (post base a v s).vern = s.vern ∧
    (post base a v s).refs = s.refs ∧ (post base a v s).ptp = s.ptp ∧ (post base a v s).cal = s.cal ∧
    (post base a v s).fwd = s.fwd ∧ (post base a v s).sw = s.sw ∧ (post base a v s).egr = s.egr ∧
    (post base a v s).pair = s.pair ∧ (post base a v s).trust = s.trust ∧ (post base a v s).upd = s.upd ∧
    (post base a v s).wire = s.wire ∧ (post base a v s).now = s.now ∧ (post base a v s).started = s.started ∧
    (post base a v s).draws = s.draws ∧ (post base a v s).pending = s.pending := by
  exact ⟨rfl, rfl, rfl, rfl, rfl, rfl, rfl, rfl, rfl, rfl, rfl, rfl, rfl, rfl, rfl, rfl, rfl, rfl, rfl, rfl, rfl, rfl, rfl, rfl, rfl, rfl⟩

@[simp] theorem seedSlot_frame (b : List Byte) (s : State) (k : Nat) :
    (seedSlot b s k).factory = s.factory ∧ (seedSlot b s k).pins = s.pins ∧ (seedSlot b s k).life = s.life ∧
    (seedSlot b s k).power = s.power ∧ (seedSlot b s k).regs = s.regs ∧ (seedSlot b s k).dict = s.dict ∧
    (seedSlot b s k).commits = s.commits ∧ (seedSlot b s k).snaps = s.snaps ∧ (seedSlot b s k).gleno = s.gleno ∧
    (seedSlot b s k).obs = s.obs ∧ (seedSlot b s k).optics = s.optics ∧ (seedSlot b s k).tb = s.tb ∧
    (seedSlot b s k).vern = s.vern ∧ (seedSlot b s k).ptp = s.ptp ∧ (seedSlot b s k).cal = s.cal ∧
    (seedSlot b s k).fwd = s.fwd ∧ (seedSlot b s k).sw = s.sw ∧ (seedSlot b s k).egr = s.egr ∧
    (seedSlot b s k).pair = s.pair ∧ (seedSlot b s k).trust = s.trust ∧ (seedSlot b s k).upd = s.upd ∧
    (seedSlot b s k).wire = s.wire ∧ (seedSlot b s k).now = s.now ∧ (seedSlot b s k).started = s.started ∧
    (seedSlot b s k).draws = s.draws ∧ (seedSlot b s k).pending = s.pending := by
  exact ⟨rfl, rfl, rfl, rfl, rfl, rfl, rfl, rfl, rfl, rfl, rfl, rfl, rfl, rfl, rfl, rfl, rfl, rfl, rfl, rfl, rfl, rfl, rfl, rfl, rfl, rfl⟩

@[simp] theorem touchStaged_frame (k : ObjKey) (s : State) :
    (touchStaged k s).factory = s.factory ∧ (touchStaged k s).pins = s.pins ∧ (touchStaged k s).life = s.life ∧
    (touchStaged k s).power = s.power ∧ (touchStaged k s).regs = s.regs ∧ (touchStaged k s).dict = s.dict ∧
    (touchStaged k s).commits = s.commits ∧ (touchStaged k s).snaps = s.snaps ∧ (touchStaged k s).obs = s.obs ∧
    (touchStaged k s).optics = s.optics ∧ (touchStaged k s).tb = s.tb ∧ (touchStaged k s).vern = s.vern ∧
    (touchStaged k s).refs = s.refs ∧ (touchStaged k s).ptp = s.ptp ∧ (touchStaged k s).cal = s.cal ∧
    (touchStaged k s).fwd = s.fwd ∧ (touchStaged k s).sw = s.sw ∧ (touchStaged k s).egr = s.egr ∧
    (touchStaged k s).pair = s.pair ∧ (touchStaged k s).trust = s.trust ∧ (touchStaged k s).upd = s.upd ∧
    (touchStaged k s).wire = s.wire ∧ (touchStaged k s).now = s.now ∧ (touchStaged k s).started = s.started ∧
    (touchStaged k s).draws = s.draws ∧ (touchStaged k s).pending = s.pending := by
  exact ⟨rfl, rfl, rfl, rfl, rfl, rfl, rfl, rfl, rfl, rfl, rfl, rfl, rfl, rfl, rfl, rfl, rfl, rfl, rfl, rfl, rfl, rfl, rfl, rfl, rfl, rfl⟩

@[simp] theorem holdOutputs_frame (s : State) :
    (holdOutputs s).factory = s.factory ∧ (holdOutputs s).life = s.life ∧ (holdOutputs s).power = s.power ∧
    (holdOutputs s).regs = s.regs ∧ (holdOutputs s).dict = s.dict ∧ (holdOutputs s).commits = s.commits ∧
    (holdOutputs s).snaps = s.snaps ∧ (holdOutputs s).gleno = s.gleno ∧ (holdOutputs s).obs = s.obs ∧
    (holdOutputs s).optics = s.optics ∧ (holdOutputs s).tb = s.tb ∧ (holdOutputs s).vern = s.vern ∧
    (holdOutputs s).refs = s.refs ∧ (holdOutputs s).ptp = s.ptp ∧ (holdOutputs s).cal = s.cal ∧
    (holdOutputs s).fwd = s.fwd ∧ (holdOutputs s).sw = s.sw ∧ (holdOutputs s).egr = s.egr ∧
    (holdOutputs s).pair = s.pair ∧ (holdOutputs s).trust = s.trust ∧ (holdOutputs s).upd = s.upd ∧
    (holdOutputs s).wire = s.wire ∧ (holdOutputs s).now = s.now ∧ (holdOutputs s).started = s.started ∧
    (holdOutputs s).draws = s.draws ∧ (holdOutputs s).pending = s.pending := by
  exact ⟨rfl, rfl, rfl, rfl, rfl, rfl, rfl, rfl, rfl, rfl, rfl, rfl, rfl, rfl, rfl, rfl, rfl, rfl, rfl, rfl, rfl, rfl, rfl, rfl, rfl, rfl⟩

@[simp] theorem updMdll_frame (m : Nat) (f : Mdll → Mdll) (s : State) :
    (updMdll m f s).factory = s.factory ∧ (updMdll m f s).pins = s.pins ∧ (updMdll m f s).life = s.life ∧
    (updMdll m f s).power = s.power ∧ (updMdll m f s).regs = s.regs ∧ (updMdll m f s).dict = s.dict ∧
    (updMdll m f s).commits = s.commits ∧ (updMdll m f s).snaps = s.snaps ∧ (updMdll m f s).gleno = s.gleno ∧
    (updMdll m f s).obs = s.obs ∧ (updMdll m f s).optics = s.optics ∧ (updMdll m f s).vern = s.vern ∧
    (updMdll m f s).refs = s.refs ∧ (updMdll m f s).ptp = s.ptp ∧ (updMdll m f s).cal = s.cal ∧
    (updMdll m f s).fwd = s.fwd ∧ (updMdll m f s).sw = s.sw ∧ (updMdll m f s).egr = s.egr ∧
    (updMdll m f s).pair = s.pair ∧ (updMdll m f s).trust = s.trust ∧ (updMdll m f s).upd = s.upd ∧
    (updMdll m f s).wire = s.wire ∧ (updMdll m f s).now = s.now ∧ (updMdll m f s).started = s.started ∧
    (updMdll m f s).draws = s.draws ∧ (updMdll m f s).pending = s.pending := by
  exact ⟨rfl, rfl, rfl, rfl, rfl, rfl, rfl, rfl, rfl, rfl, rfl, rfl, rfl, rfl, rfl, rfl, rfl, rfl, rfl, rfl, rfl, rfl, rfl, rfl, rfl, rfl⟩

@[simp] theorem capture_frame (s : State) :
    (capture s).factory = s.factory ∧ (capture s).pins = s.pins ∧ (capture s).life = s.life ∧
    (capture s).power = s.power ∧ (capture s).regs = s.regs ∧ (capture s).dict = s.dict ∧
    (capture s).commits = s.commits ∧ (capture s).snaps = s.snaps ∧ (capture s).gleno = s.gleno ∧
    (capture s).obs = s.obs ∧ (capture s).optics = s.optics ∧ (capture s).vern = s.vern ∧ (capture s).refs = s.refs ∧
    (capture s).ptp = s.ptp ∧ (capture s).cal = s.cal ∧ (capture s).fwd = s.fwd ∧ (capture s).sw = s.sw ∧
    (capture s).egr = s.egr ∧ (capture s).pair = s.pair ∧ (capture s).trust = s.trust ∧ (capture s).upd = s.upd ∧
    (capture s).wire = s.wire ∧ (capture s).now = s.now ∧ (capture s).started = s.started ∧
    (capture s).draws = s.draws ∧ (capture s).pending = s.pending := by
  exact ⟨rfl, rfl, rfl, rfl, rfl, rfl, rfl, rfl, rfl, rfl, rfl, rfl, rfl, rfl, rfl, rfl, rfl, rfl, rfl, rfl, rfl, rfl, rfl, rfl, rfl, rfl⟩

@[simp] theorem updTsu_frame (t : Nat) (f : Tsu → Tsu) (s : State) :
    (updTsu t f s).factory = s.factory ∧ (updTsu t f s).pins = s.pins ∧ (updTsu t f s).life = s.life ∧
    (updTsu t f s).power = s.power ∧ (updTsu t f s).regs = s.regs ∧ (updTsu t f s).dict = s.dict ∧
    (updTsu t f s).commits = s.commits ∧ (updTsu t f s).snaps = s.snaps ∧ (updTsu t f s).gleno = s.gleno ∧
    (updTsu t f s).obs = s.obs ∧ (updTsu t f s).optics = s.optics ∧ (updTsu t f s).tb = s.tb ∧
    (updTsu t f s).vern = s.vern ∧ (updTsu t f s).refs = s.refs ∧ (updTsu t f s).cal = s.cal ∧
    (updTsu t f s).fwd = s.fwd ∧ (updTsu t f s).sw = s.sw ∧ (updTsu t f s).egr = s.egr ∧
    (updTsu t f s).pair = s.pair ∧ (updTsu t f s).trust = s.trust ∧ (updTsu t f s).upd = s.upd ∧
    (updTsu t f s).wire = s.wire ∧ (updTsu t f s).now = s.now ∧ (updTsu t f s).started = s.started ∧
    (updTsu t f s).draws = s.draws ∧ (updTsu t f s).pending = s.pending := by
  exact ⟨rfl, rfl, rfl, rfl, rfl, rfl, rfl, rfl, rfl, rfl, rfl, rfl, rfl, rfl, rfl, rfl, rfl, rfl, rfl, rfl, rfl, rfl, rfl, rfl, rfl, rfl⟩

@[simp] theorem updTrust_frame (f : Trust → Trust) (s : State) :
    (updTrust f s).factory = s.factory ∧ (updTrust f s).pins = s.pins ∧ (updTrust f s).life = s.life ∧
    (updTrust f s).power = s.power ∧ (updTrust f s).regs = s.regs ∧ (updTrust f s).dict = s.dict ∧
    (updTrust f s).commits = s.commits ∧ (updTrust f s).snaps = s.snaps ∧ (updTrust f s).gleno = s.gleno ∧
    (updTrust f s).obs = s.obs ∧ (updTrust f s).optics = s.optics ∧ (updTrust f s).tb = s.tb ∧
    (updTrust f s).vern = s.vern ∧ (updTrust f s).refs = s.refs ∧ (updTrust f s).ptp = s.ptp ∧
    (updTrust f s).cal = s.cal ∧ (updTrust f s).fwd = s.fwd ∧ (updTrust f s).sw = s.sw ∧ (updTrust f s).egr = s.egr ∧
    (updTrust f s).pair = s.pair ∧ (updTrust f s).upd = s.upd ∧ (updTrust f s).wire = s.wire ∧
    (updTrust f s).now = s.now ∧ (updTrust f s).started = s.started ∧ (updTrust f s).draws = s.draws ∧
    (updTrust f s).pending = s.pending := by
  exact ⟨rfl, rfl, rfl, rfl, rfl, rfl, rfl, rfl, rfl, rfl, rfl, rfl, rfl, rfl, rfl, rfl, rfl, rfl, rfl, rfl, rfl, rfl, rfl, rfl, rfl, rfl⟩

@[simp] theorem bootRuns_frame (r : Region) (s : State) :
    (bootRuns r s).factory = s.factory ∧ (bootRuns r s).pins = s.pins ∧ (bootRuns r s).life = s.life ∧
    (bootRuns r s).power = s.power ∧ (bootRuns r s).regs = s.regs ∧ (bootRuns r s).dict = s.dict ∧
    (bootRuns r s).commits = s.commits ∧ (bootRuns r s).snaps = s.snaps ∧ (bootRuns r s).gleno = s.gleno ∧
    (bootRuns r s).obs = s.obs ∧ (bootRuns r s).optics = s.optics ∧ (bootRuns r s).tb = s.tb ∧
    (bootRuns r s).vern = s.vern ∧ (bootRuns r s).refs = s.refs ∧ (bootRuns r s).ptp = s.ptp ∧
    (bootRuns r s).cal = s.cal ∧ (bootRuns r s).fwd = s.fwd ∧ (bootRuns r s).sw = s.sw ∧ (bootRuns r s).egr = s.egr ∧
    (bootRuns r s).pair = s.pair ∧ (bootRuns r s).wire = s.wire ∧ (bootRuns r s).now = s.now ∧
    (bootRuns r s).started = s.started ∧ (bootRuns r s).draws = s.draws ∧ (bootRuns r s).pending = s.pending := by
  exact ⟨rfl, rfl, rfl, rfl, rfl, rfl, rfl, rfl, rfl, rfl, rfl, rfl, rfl, rfl, rfl, rfl, rfl, rfl, rfl, rfl, rfl, rfl, rfl, rfl, rfl⟩

@[simp] theorem updTile_frame (t : Nat) (f : TileState → TileState) (s : State) :
    (updTile t f s).factory = s.factory ∧ (updTile t f s).pins = s.pins ∧ (updTile t f s).life = s.life ∧
    (updTile t f s).regs = s.regs ∧ (updTile t f s).dict = s.dict ∧ (updTile t f s).commits = s.commits ∧
    (updTile t f s).snaps = s.snaps ∧ (updTile t f s).gleno = s.gleno ∧ (updTile t f s).obs = s.obs ∧
    (updTile t f s).optics = s.optics ∧ (updTile t f s).tb = s.tb ∧ (updTile t f s).vern = s.vern ∧
    (updTile t f s).refs = s.refs ∧ (updTile t f s).ptp = s.ptp ∧ (updTile t f s).cal = s.cal ∧
    (updTile t f s).fwd = s.fwd ∧ (updTile t f s).sw = s.sw ∧ (updTile t f s).egr = s.egr ∧
    (updTile t f s).pair = s.pair ∧ (updTile t f s).trust = s.trust ∧ (updTile t f s).upd = s.upd ∧
    (updTile t f s).wire = s.wire ∧ (updTile t f s).now = s.now ∧ (updTile t f s).started = s.started ∧
    (updTile t f s).draws = s.draws ∧ (updTile t f s).pending = s.pending := by
  exact ⟨rfl, rfl, rfl, rfl, rfl, rfl, rfl, rfl, rfl, rfl, rfl, rfl, rfl, rfl, rfl, rfl, rfl, rfl, rfl, rfl, rfl, rfl, rfl, rfl, rfl, rfl⟩

@[simp] theorem updCa_frame (c : Nat) (f : Ca → Ca) (s : State) :
    (updCa c f s).factory = s.factory ∧ (updCa c f s).pins = s.pins ∧ (updCa c f s).life = s.life ∧
    (updCa c f s).power = s.power ∧ (updCa c f s).regs = s.regs ∧ (updCa c f s).dict = s.dict ∧
    (updCa c f s).commits = s.commits ∧ (updCa c f s).snaps = s.snaps ∧ (updCa c f s).gleno = s.gleno ∧
    (updCa c f s).obs = s.obs ∧ (updCa c f s).optics = s.optics ∧ (updCa c f s).tb = s.tb ∧
    (updCa c f s).vern = s.vern ∧ (updCa c f s).refs = s.refs ∧ (updCa c f s).ptp = s.ptp ∧
    (updCa c f s).cal = s.cal ∧ (updCa c f s).fwd = s.fwd ∧ (updCa c f s).sw = s.sw ∧ (updCa c f s).egr = s.egr ∧
    (updCa c f s).pair = s.pair ∧ (updCa c f s).upd = s.upd ∧ (updCa c f s).wire = s.wire ∧
    (updCa c f s).now = s.now ∧ (updCa c f s).started = s.started ∧ (updCa c f s).draws = s.draws ∧
    (updCa c f s).pending = s.pending := by
  exact ⟨rfl, rfl, rfl, rfl, rfl, rfl, rfl, rfl, rfl, rfl, rfl, rfl, rfl, rfl, rfl, rfl, rfl, rfl, rfl, rfl, rfl, rfl, rfl, rfl, rfl, rfl⟩

@[simp] theorem setResult_frame (o r : Nat) (rel : BitVec 32) (s : State) :
    (setResult o r rel s).factory = s.factory ∧ (setResult o r rel s).pins = s.pins ∧
    (setResult o r rel s).life = s.life ∧ (setResult o r rel s).power = s.power ∧
    (setResult o r rel s).regs = s.regs ∧ (setResult o r rel s).dict = s.dict ∧
    (setResult o r rel s).commits = s.commits ∧ (setResult o r rel s).snaps = s.snaps ∧
    (setResult o r rel s).gleno = s.gleno ∧ (setResult o r rel s).obs = s.obs ∧
    (setResult o r rel s).optics = s.optics ∧ (setResult o r rel s).tb = s.tb ∧ (setResult o r rel s).vern = s.vern ∧
    (setResult o r rel s).refs = s.refs ∧ (setResult o r rel s).ptp = s.ptp ∧ (setResult o r rel s).cal = s.cal ∧
    (setResult o r rel s).fwd = s.fwd ∧ (setResult o r rel s).sw = s.sw ∧ (setResult o r rel s).egr = s.egr ∧
    (setResult o r rel s).pair = s.pair ∧ (setResult o r rel s).trust = s.trust ∧
    (setResult o r rel s).wire = s.wire ∧ (setResult o r rel s).now = s.now ∧
    (setResult o r rel s).started = s.started ∧ (setResult o r rel s).draws = s.draws ∧
    (setResult o r rel s).pending = s.pending := by
  exact ⟨rfl, rfl, rfl, rfl, rfl, rfl, rfl, rfl, rfl, rfl, rfl, rfl, rfl, rfl, rfl, rfl, rfl, rfl, rfl, rfl, rfl, rfl, rfl, rfl, rfl, rfl⟩

@[simp] theorem putFab_frame (it et : Nat) (l : List Copy) (s : State) :
    (putFab it et l s).factory = s.factory ∧ (putFab it et l s).pins = s.pins ∧ (putFab it et l s).life = s.life ∧
    (putFab it et l s).power = s.power ∧ (putFab it et l s).regs = s.regs ∧ (putFab it et l s).dict = s.dict ∧
    (putFab it et l s).commits = s.commits ∧ (putFab it et l s).snaps = s.snaps ∧
    (putFab it et l s).gleno = s.gleno ∧ (putFab it et l s).obs = s.obs ∧ (putFab it et l s).optics = s.optics ∧
    (putFab it et l s).tb = s.tb ∧ (putFab it et l s).vern = s.vern ∧ (putFab it et l s).refs = s.refs ∧
    (putFab it et l s).ptp = s.ptp ∧ (putFab it et l s).cal = s.cal ∧ (putFab it et l s).fwd = s.fwd ∧
    (putFab it et l s).egr = s.egr ∧ (putFab it et l s).pair = s.pair ∧ (putFab it et l s).trust = s.trust ∧
    (putFab it et l s).upd = s.upd ∧ (putFab it et l s).wire = s.wire ∧ (putFab it et l s).now = s.now ∧
    (putFab it et l s).started = s.started ∧ (putFab it et l s).draws = s.draws ∧
    (putFab it et l s).pending = s.pending := by
  exact ⟨rfl, rfl, rfl, rfl, rfl, rfl, rfl, rfl, rfl, rfl, rfl, rfl, rfl, rfl, rfl, rfl, rfl, rfl, rfl, rfl, rfl, rfl, rfl, rfl, rfl, rfl⟩

@[simp] theorem dropShake_frame (h : Handshake) (s : State) :
    (dropShake h s).factory = s.factory ∧ (dropShake h s).pins = s.pins ∧ (dropShake h s).life = s.life ∧
    (dropShake h s).power = s.power ∧ (dropShake h s).regs = s.regs ∧ (dropShake h s).dict = s.dict ∧
    (dropShake h s).commits = s.commits ∧ (dropShake h s).snaps = s.snaps ∧ (dropShake h s).obs = s.obs ∧
    (dropShake h s).optics = s.optics ∧ (dropShake h s).tb = s.tb ∧ (dropShake h s).vern = s.vern ∧
    (dropShake h s).refs = s.refs ∧ (dropShake h s).ptp = s.ptp ∧ (dropShake h s).cal = s.cal ∧
    (dropShake h s).fwd = s.fwd ∧ (dropShake h s).sw = s.sw ∧ (dropShake h s).egr = s.egr ∧
    (dropShake h s).pair = s.pair ∧ (dropShake h s).trust = s.trust ∧ (dropShake h s).upd = s.upd ∧
    (dropShake h s).wire = s.wire ∧ (dropShake h s).now = s.now ∧ (dropShake h s).started = s.started ∧
    (dropShake h s).draws = s.draws ∧ (dropShake h s).pending = s.pending := by
  exact ⟨rfl, rfl, rfl, rfl, rfl, rfl, rfl, rfl, rfl, rfl, rfl, rfl, rfl, rfl, rfl, rfl, rfl, rfl, rfl, rfl, rfl, rfl, rfl, rfl, rfl, rfl⟩

@[simp] theorem updQ_frame (k : Nat) (time : Bool) (f : Qualif → Qualif) (s : State) :
    (updQ k time f s).factory = s.factory ∧ (updQ k time f s).pins = s.pins ∧ (updQ k time f s).life = s.life ∧
    (updQ k time f s).power = s.power ∧ (updQ k time f s).regs = s.regs ∧ (updQ k time f s).dict = s.dict ∧
    (updQ k time f s).commits = s.commits ∧ (updQ k time f s).snaps = s.snaps ∧ (updQ k time f s).gleno = s.gleno ∧
    (updQ k time f s).obs = s.obs ∧ (updQ k time f s).optics = s.optics ∧ (updQ k time f s).tb = s.tb ∧
    (updQ k time f s).vern = s.vern ∧ (updQ k time f s).ptp = s.ptp ∧ (updQ k time f s).cal = s.cal ∧
    (updQ k time f s).fwd = s.fwd ∧ (updQ k time f s).sw = s.sw ∧ (updQ k time f s).egr = s.egr ∧
    (updQ k time f s).pair = s.pair ∧ (updQ k time f s).trust = s.trust ∧ (updQ k time f s).upd = s.upd ∧
    (updQ k time f s).wire = s.wire ∧ (updQ k time f s).now = s.now ∧ (updQ k time f s).started = s.started ∧
    (updQ k time f s).draws = s.draws ∧ (updQ k time f s).pending = s.pending := by
  exact ⟨rfl, rfl, rfl, rfl, rfl, rfl, rfl, rfl, rfl, rfl, rfl, rfl, rfl, rfl, rfl, rfl, rfl, rfl, rfl, rfl, rfl, rfl, rfl, rfl, rfl, rfl⟩

@[simp] theorem updLane_frame (n : Nat) (f : LaneCal → LaneCal) (s : State) :
    (updLane n f s).factory = s.factory ∧ (updLane n f s).pins = s.pins ∧ (updLane n f s).life = s.life ∧
    (updLane n f s).power = s.power ∧ (updLane n f s).regs = s.regs ∧ (updLane n f s).dict = s.dict ∧
    (updLane n f s).commits = s.commits ∧ (updLane n f s).snaps = s.snaps ∧ (updLane n f s).gleno = s.gleno ∧
    (updLane n f s).obs = s.obs ∧ (updLane n f s).optics = s.optics ∧ (updLane n f s).tb = s.tb ∧
    (updLane n f s).vern = s.vern ∧ (updLane n f s).refs = s.refs ∧ (updLane n f s).ptp = s.ptp ∧
    (updLane n f s).fwd = s.fwd ∧ (updLane n f s).sw = s.sw ∧ (updLane n f s).egr = s.egr ∧
    (updLane n f s).pair = s.pair ∧ (updLane n f s).trust = s.trust ∧ (updLane n f s).upd = s.upd ∧
    (updLane n f s).wire = s.wire ∧ (updLane n f s).now = s.now ∧ (updLane n f s).started = s.started ∧
    (updLane n f s).draws = s.draws ∧ (updLane n f s).pending = s.pending := by
  exact ⟨rfl, rfl, rfl, rfl, rfl, rfl, rfl, rfl, rfl, rfl, rfl, rfl, rfl, rfl, rfl, rfl, rfl, rfl, rfl, rfl, rfl, rfl, rfl, rfl, rfl, rfl⟩

@[simp] theorem reachStage_frame (n : Nat) (s : State) :
    (reachStage n s).factory = s.factory ∧ (reachStage n s).pins = s.pins ∧ (reachStage n s).power = s.power ∧
    (reachStage n s).regs = s.regs ∧ (reachStage n s).dict = s.dict ∧ (reachStage n s).commits = s.commits ∧
    (reachStage n s).snaps = s.snaps ∧ (reachStage n s).gleno = s.gleno ∧ (reachStage n s).obs = s.obs ∧
    (reachStage n s).optics = s.optics ∧ (reachStage n s).tb = s.tb ∧ (reachStage n s).vern = s.vern ∧
    (reachStage n s).refs = s.refs ∧ (reachStage n s).ptp = s.ptp ∧ (reachStage n s).cal = s.cal ∧
    (reachStage n s).fwd = s.fwd ∧ (reachStage n s).sw = s.sw ∧ (reachStage n s).egr = s.egr ∧
    (reachStage n s).pair = s.pair ∧ (reachStage n s).trust = s.trust ∧ (reachStage n s).upd = s.upd ∧
    (reachStage n s).wire = s.wire ∧ (reachStage n s).now = s.now ∧ (reachStage n s).started = s.started ∧
    (reachStage n s).draws = s.draws ∧ (reachStage n s).pending = s.pending := by
  exact ⟨rfl, rfl, rfl, rfl, rfl, rfl, rfl, rfl, rfl, rfl, rfl, rfl, rfl, rfl, rfl, rfl, rfl, rfl, rfl, rfl, rfl, rfl, rfl, rfl, rfl, rfl⟩

@[simp] theorem rxStamp_frame (c : Nat) (s : State) :
    (rxStamp c s).factory = s.factory ∧ (rxStamp c s).pins = s.pins ∧ (rxStamp c s).life = s.life ∧
    (rxStamp c s).power = s.power ∧ (rxStamp c s).regs = s.regs ∧ (rxStamp c s).dict = s.dict ∧
    (rxStamp c s).commits = s.commits ∧ (rxStamp c s).snaps = s.snaps ∧ (rxStamp c s).gleno = s.gleno ∧
    (rxStamp c s).obs = s.obs ∧ (rxStamp c s).optics = s.optics ∧ (rxStamp c s).tb = s.tb ∧
    (rxStamp c s).vern = s.vern ∧ (rxStamp c s).refs = s.refs ∧ (rxStamp c s).cal = s.cal ∧
    (rxStamp c s).fwd = s.fwd ∧ (rxStamp c s).sw = s.sw ∧ (rxStamp c s).egr = s.egr ∧ (rxStamp c s).pair = s.pair ∧
    (rxStamp c s).trust = s.trust ∧ (rxStamp c s).upd = s.upd ∧ (rxStamp c s).wire = s.wire ∧
    (rxStamp c s).now = s.now ∧ (rxStamp c s).started = s.started ∧ (rxStamp c s).draws = s.draws ∧
    (rxStamp c s).pending = s.pending := by
  exact ⟨rfl, rfl, rfl, rfl, rfl, rfl, rfl, rfl, rfl, rfl, rfl, rfl, rfl, rfl, rfl, rfl, rfl, rfl, rfl, rfl, rfl, rfl, rfl, rfl, rfl, rfl⟩

end Sys2Proof.Machine
end

