-- ==== Sys2Proof/Laws/Frames.lean ====
section
/-!
SUPPORT. What the larger shared operations leave alone, each from the lemmas of the operations it is built of.
-/
namespace Sys2Proof.Machine

@[simp] theorem updSession_frame (n : Nat) (f : Session → Session) (s : State) :
    (updSession n f s).factory = s.factory ∧ (updSession n f s).pins = s.pins ∧ (updSession n f s).life = s.life ∧
    (updSession n f s).power = s.power ∧ (updSession n f s).regs = s.regs ∧ (updSession n f s).dict = s.dict ∧
    (updSession n f s).commits = s.commits ∧ (updSession n f s).snaps = s.snaps ∧ (updSession n f s).obs = s.obs ∧
    (updSession n f s).optics = s.optics ∧ (updSession n f s).tb = s.tb ∧ (updSession n f s).vern = s.vern ∧
    (updSession n f s).refs = s.refs ∧ (updSession n f s).ptp = s.ptp ∧ (updSession n f s).cal = s.cal ∧
    (updSession n f s).fwd = s.fwd ∧ (updSession n f s).sw = s.sw ∧ (updSession n f s).egr = s.egr ∧
    (updSession n f s).pair = s.pair ∧ (updSession n f s).trust = s.trust ∧ (updSession n f s).upd = s.upd ∧
    (updSession n f s).wire = s.wire ∧ (updSession n f s).now = s.now ∧ (updSession n f s).started = s.started ∧
    (updSession n f s).draws = s.draws ∧ (updSession n f s).pending = s.pending := by
  unfold updSession; (try dsimp only); (repeat' split) <;> simp

@[simp] theorem complete_frame (q : Req) (st : Status) (d : List Byte) (s : State) :
    (complete q st d s).factory = s.factory ∧ (complete q st d s).pins = s.pins ∧ (complete q st d s).life = s.life ∧
    (complete q st d s).power = s.power ∧ (complete q st d s).regs = s.regs ∧ (complete q st d s).dict = s.dict ∧
    (complete q st d s).commits = s.commits ∧ (complete q st d s).snaps = s.snaps ∧ (complete q st d s).obs = s.obs ∧
    (complete q st d s).optics = s.optics ∧ (complete q st d s).tb = s.tb ∧ (complete q st d s).vern = s.vern ∧
    (complete q st d s).refs = s.refs ∧ (complete q st d s).ptp = s.ptp ∧ (complete q st d s).cal = s.cal ∧
    (complete q st d s).fwd = s.fwd ∧ (complete q st d s).sw = s.sw ∧ (complete q st d s).egr = s.egr ∧
    (complete q st d s).pair = s.pair ∧ (complete q st d s).trust = s.trust ∧ (complete q st d s).upd = s.upd ∧
    (complete q st d s).wire = s.wire ∧ (complete q st d s).now = s.now ∧ (complete q st d s).started = s.started ∧
    (complete q st d s).draws = s.draws ∧ (complete q st d s).pending = s.pending := by
  simp [complete]

@[simp] theorem abandonHandover_frame (s : State) :
    (abandonHandover s).factory = s.factory ∧ (abandonHandover s).pins = s.pins ∧
    (abandonHandover s).power = s.power ∧ (abandonHandover s).regs = s.regs ∧ (abandonHandover s).dict = s.dict ∧
    (abandonHandover s).commits = s.commits ∧ (abandonHandover s).snaps = s.snaps ∧ (abandonHandover s).obs = s.obs ∧
    (abandonHandover s).optics = s.optics ∧ (abandonHandover s).tb = s.tb ∧ (abandonHandover s).vern = s.vern ∧
    (abandonHandover s).refs = s.refs ∧ (abandonHandover s).ptp = s.ptp ∧ (abandonHandover s).cal = s.cal ∧
    (abandonHandover s).fwd = s.fwd ∧ (abandonHandover s).sw = s.sw ∧ (abandonHandover s).egr = s.egr ∧
    (abandonHandover s).trust = s.trust ∧ (abandonHandover s).upd = s.upd ∧ (abandonHandover s).wire = s.wire ∧
    (abandonHandover s).now = s.now ∧ (abandonHandover s).started = s.started ∧ (abandonHandover s).draws = s.draws ∧
    (abandonHandover s).pending = s.pending := by
  unfold abandonHandover; (try dsimp only); (repeat' split) <;> simp

@[simp] theorem endDownload_frame (s : State) :
    (endDownload s).factory = s.factory ∧ (endDownload s).pins = s.pins ∧ (endDownload s).life = s.life ∧
    (endDownload s).regs = s.regs ∧ (endDownload s).dict = s.dict ∧ (endDownload s).commits = s.commits ∧
    (endDownload s).snaps = s.snaps ∧ (endDownload s).gleno = s.gleno ∧ (endDownload s).obs = s.obs ∧
    (endDownload s).optics = s.optics ∧ (endDownload s).tb = s.tb ∧ (endDownload s).vern = s.vern ∧
    (endDownload s).refs = s.refs ∧ (endDownload s).ptp = s.ptp ∧ (endDownload s).cal = s.cal ∧
    (endDownload s).fwd = s.fwd ∧ (endDownload s).sw = s.sw ∧ (endDownload s).egr = s.egr ∧
    (endDownload s).pair = s.pair ∧ (endDownload s).trust = s.trust ∧ (endDownload s).wire = s.wire ∧
    (endDownload s).now = s.now ∧ (endDownload s).started = s.started ∧ (endDownload s).draws = s.draws ∧
    (endDownload s).pending = s.pending := by
  unfold endDownload; (try dsimp only); (repeat' split) <;> simp

@[simp] theorem abortDownload_frame (s : State) :
    (abortDownload s).factory = s.factory ∧ (abortDownload s).pins = s.pins ∧ (abortDownload s).life = s.life ∧
    (abortDownload s).regs = s.regs ∧ (abortDownload s).dict = s.dict ∧ (abortDownload s).commits = s.commits ∧
    (abortDownload s).snaps = s.snaps ∧ (abortDownload s).obs = s.obs ∧ (abortDownload s).optics = s.optics ∧
    (abortDownload s).tb = s.tb ∧ (abortDownload s).vern = s.vern ∧ (abortDownload s).refs = s.refs ∧
    (abortDownload s).ptp = s.ptp ∧ (abortDownload s).cal = s.cal ∧ (abortDownload s).fwd = s.fwd ∧
    (abortDownload s).sw = s.sw ∧ (abortDownload s).egr = s.egr ∧ (abortDownload s).pair = s.pair ∧
    (abortDownload s).trust = s.trust ∧ (abortDownload s).wire = s.wire ∧ (abortDownload s).now = s.now ∧
    (abortDownload s).started = s.started ∧ (abortDownload s).draws = s.draws ∧
    (abortDownload s).pending = s.pending := by
  unfold abortDownload; (try dsimp only); (repeat' split) <;> simp

@[simp] theorem recordCommit_frame (n : Nat) (r : CommitRec) (s : State) :
    (recordCommit n r s).factory = s.factory ∧ (recordCommit n r s).pins = s.pins ∧
    (recordCommit n r s).life = s.life ∧ (recordCommit n r s).power = s.power ∧ (recordCommit n r s).regs = s.regs ∧
    (recordCommit n r s).dict = s.dict ∧ (recordCommit n r s).commits = s.commits ∧
    (recordCommit n r s).snaps = s.snaps ∧ (recordCommit n r s).obs = s.obs ∧
    (recordCommit n r s).optics = s.optics ∧ (recordCommit n r s).tb = s.tb ∧ (recordCommit n r s).vern = s.vern ∧
    (recordCommit n r s).refs = s.refs ∧ (recordCommit n r s).ptp = s.ptp ∧ (recordCommit n r s).cal = s.cal ∧
    (recordCommit n r s).fwd = s.fwd ∧ (recordCommit n r s).sw = s.sw ∧ (recordCommit n r s).egr = s.egr ∧
    (recordCommit n r s).pair = s.pair ∧ (recordCommit n r s).trust = s.trust ∧ (recordCommit n r s).upd = s.upd ∧
    (recordCommit n r s).wire = s.wire ∧ (recordCommit n r s).now = s.now ∧
    (recordCommit n r s).started = s.started ∧ (recordCommit n r s).draws = s.draws ∧
    (recordCommit n r s).pending = s.pending := by
  simp [recordCommit]

@[simp] theorem setTransfer_frame (n : Nat) (t : Option Transfer) (s : State) :
    (setTransfer n t s).factory = s.factory ∧ (setTransfer n t s).pins = s.pins ∧ (setTransfer n t s).life = s.life ∧
    (setTransfer n t s).power = s.power ∧ (setTransfer n t s).regs = s.regs ∧ (setTransfer n t s).dict = s.dict ∧
    (setTransfer n t s).commits = s.commits ∧ (setTransfer n t s).snaps = s.snaps ∧ (setTransfer n t s).obs = s.obs ∧
    (setTransfer n t s).optics = s.optics ∧ (setTransfer n t s).tb = s.tb ∧ (setTransfer n t s).vern = s.vern ∧
    (setTransfer n t s).refs = s.refs ∧ (setTransfer n t s).ptp = s.ptp ∧ (setTransfer n t s).cal = s.cal ∧
    (setTransfer n t s).fwd = s.fwd ∧ (setTransfer n t s).sw = s.sw ∧ (setTransfer n t s).egr = s.egr ∧
    (setTransfer n t s).pair = s.pair ∧ (setTransfer n t s).trust = s.trust ∧ (setTransfer n t s).upd = s.upd ∧
    (setTransfer n t s).wire = s.wire ∧ (setTransfer n t s).now = s.now ∧ (setTransfer n t s).started = s.started ∧
    (setTransfer n t s).draws = s.draws ∧ (setTransfer n t s).pending = s.pending := by
  simp [setTransfer]

@[simp] theorem abortTransfer_frame (n : Nat) (e : Session) (s : State) :
    (abortTransfer n e s).factory = s.factory ∧ (abortTransfer n e s).pins = s.pins ∧
    (abortTransfer n e s).life = s.life ∧ (abortTransfer n e s).regs = s.regs ∧ (abortTransfer n e s).dict = s.dict ∧
    (abortTransfer n e s).commits = s.commits ∧ (abortTransfer n e s).snaps = s.snaps ∧
    (abortTransfer n e s).obs = s.obs ∧ (abortTransfer n e s).optics = s.optics ∧ (abortTransfer n e s).tb = s.tb ∧
    (abortTransfer n e s).vern = s.vern ∧ (abortTransfer n e s).refs = s.refs ∧ (abortTransfer n e s).ptp = s.ptp ∧
    (abortTransfer n e s).cal = s.cal ∧ (abortTransfer n e s).fwd = s.fwd ∧ (abortTransfer n e s).sw = s.sw ∧
    (abortTransfer n e s).egr = s.egr ∧ (abortTransfer n e s).pair = s.pair ∧ (abortTransfer n e s).trust = s.trust ∧
    (abortTransfer n e s).wire = s.wire ∧ (abortTransfer n e s).now = s.now ∧
    (abortTransfer n e s).started = s.started ∧ (abortTransfer n e s).draws = s.draws ∧
    (abortTransfer n e s).pending = s.pending := by
  unfold abortTransfer; (try dsimp only); (repeat' split) <;> simp

@[simp] theorem bookLanes_frame (c : Nat) (s : State) :
    (bookLanes c s).factory = s.factory ∧ (bookLanes c s).pins = s.pins ∧ (bookLanes c s).life = s.life ∧
    (bookLanes c s).regs = s.regs ∧ (bookLanes c s).dict = s.dict ∧ (bookLanes c s).commits = s.commits ∧
    (bookLanes c s).snaps = s.snaps ∧ (bookLanes c s).gleno = s.gleno ∧ (bookLanes c s).obs = s.obs ∧
    (bookLanes c s).optics = s.optics ∧ (bookLanes c s).tb = s.tb ∧ (bookLanes c s).vern = s.vern ∧
    (bookLanes c s).refs = s.refs ∧ (bookLanes c s).ptp = s.ptp ∧ (bookLanes c s).cal = s.cal ∧
    (bookLanes c s).fwd = s.fwd ∧ (bookLanes c s).sw = s.sw ∧ (bookLanes c s).egr = s.egr ∧
    (bookLanes c s).pair = s.pair ∧ (bookLanes c s).trust = s.trust ∧ (bookLanes c s).upd = s.upd ∧
    (bookLanes c s).wire = s.wire ∧ (bookLanes c s).now = s.now ∧ (bookLanes c s).started = s.started ∧
    (bookLanes c s).draws = s.draws ∧ (bookLanes c s).pending = s.pending := by
  simp [bookLanes]

@[simp] theorem setCod_frame (c : Nat) (f : Coding → Coding) (s : State) :
    (setCod c f s).factory = s.factory ∧ (setCod c f s).pins = s.pins ∧ (setCod c f s).life = s.life ∧
    (setCod c f s).regs = s.regs ∧ (setCod c f s).dict = s.dict ∧ (setCod c f s).commits = s.commits ∧
    (setCod c f s).snaps = s.snaps ∧ (setCod c f s).gleno = s.gleno ∧ (setCod c f s).obs = s.obs ∧
    (setCod c f s).tb = s.tb ∧ (setCod c f s).vern = s.vern ∧ (setCod c f s).refs = s.refs ∧
    (setCod c f s).ptp = s.ptp ∧ (setCod c f s).cal = s.cal ∧ (setCod c f s).fwd = s.fwd ∧ (setCod c f s).sw = s.sw ∧
    (setCod c f s).egr = s.egr ∧ (setCod c f s).pair = s.pair ∧ (setCod c f s).trust = s.trust ∧
    (setCod c f s).upd = s.upd ∧ (setCod c f s).wire = s.wire ∧ (setCod c f s).now = s.now ∧
    (setCod c f s).started = s.started ∧ (setCod c f s).draws = s.draws ∧ (setCod c f s).pending = s.pending := by
  simp [setCod]

@[simp] theorem countW_frame (idx sub w n : Nat) (s : State) :
    (countW idx sub w n s).factory = s.factory ∧ (countW idx sub w n s).pins = s.pins ∧
    (countW idx sub w n s).life = s.life ∧ (countW idx sub w n s).power = s.power ∧
    (countW idx sub w n s).dict = s.dict ∧ (countW idx sub w n s).commits = s.commits ∧
    (countW idx sub w n s).snaps = s.snaps ∧ (countW idx sub w n s).gleno = s.gleno ∧
    (countW idx sub w n s).optics = s.optics ∧ (countW idx sub w n s).tb = s.tb ∧
    (countW idx sub w n s).vern = s.vern ∧ (countW idx sub w n s).refs = s.refs ∧
    (countW idx sub w n s).ptp = s.ptp ∧ (countW idx sub w n s).cal = s.cal ∧ (countW idx sub w n s).fwd = s.fwd ∧
    (countW idx sub w n s).sw = s.sw ∧ (countW idx sub w n s).egr = s.egr ∧ (countW idx sub w n s).pair = s.pair ∧
    (countW idx sub w n s).trust = s.trust ∧ (countW idx sub w n s).upd = s.upd ∧
    (countW idx sub w n s).wire = s.wire ∧ (countW idx sub w n s).now = s.now ∧
    (countW idx sub w n s).started = s.started ∧ (countW idx sub w n s).draws = s.draws ∧
    (countW idx sub w n s).pending = s.pending := by
  simp [countW]

@[simp] theorem count_frame (idx sub : Nat) (s : State) :
    (count idx sub s).factory = s.factory ∧ (count idx sub s).pins = s.pins ∧ (count idx sub s).life = s.life ∧
    (count idx sub s).power = s.power ∧ (count idx sub s).dict = s.dict ∧ (count idx sub s).commits = s.commits ∧
    (count idx sub s).snaps = s.snaps ∧ (count idx sub s).gleno = s.gleno ∧ (count idx sub s).optics = s.optics ∧
    (count idx sub s).tb = s.tb ∧ (count idx sub s).vern = s.vern ∧ (count idx sub s).refs = s.refs ∧
    (count idx sub s).ptp = s.ptp ∧ (count idx sub s).cal = s.cal ∧ (count idx sub s).fwd = s.fwd ∧
    (count idx sub s).sw = s.sw ∧ (count idx sub s).egr = s.egr ∧ (count idx sub s).pair = s.pair ∧
    (count idx sub s).trust = s.trust ∧ (count idx sub s).upd = s.upd ∧ (count idx sub s).wire = s.wire ∧
    (count idx sub s).now = s.now ∧ (count idx sub s).started = s.started ∧ (count idx sub s).draws = s.draws ∧
    (count idx sub s).pending = s.pending := by
  simp [count]

@[simp] theorem pushEvent_frame (e : Event) (s : State) :
    (pushEvent e s).factory = s.factory ∧ (pushEvent e s).pins = s.pins ∧ (pushEvent e s).life = s.life ∧
    (pushEvent e s).power = s.power ∧ (pushEvent e s).dict = s.dict ∧ (pushEvent e s).commits = s.commits ∧
    (pushEvent e s).snaps = s.snaps ∧ (pushEvent e s).gleno = s.gleno ∧ (pushEvent e s).optics = s.optics ∧
    (pushEvent e s).tb = s.tb ∧ (pushEvent e s).vern = s.vern ∧ (pushEvent e s).refs = s.refs ∧
    (pushEvent e s).ptp = s.ptp ∧ (pushEvent e s).cal = s.cal ∧ (pushEvent e s).fwd = s.fwd ∧
    (pushEvent e s).sw = s.sw ∧ (pushEvent e s).egr = s.egr ∧ (pushEvent e s).pair = s.pair ∧
    (pushEvent e s).trust = s.trust ∧ (pushEvent e s).upd = s.upd ∧ (pushEvent e s).wire = s.wire ∧
    (pushEvent e s).now = s.now ∧ (pushEvent e s).started = s.started ∧ (pushEvent e s).draws = s.draws ∧
    (pushEvent e s).pending = s.pending := by
  simp [pushEvent]

@[simp] theorem logEvent_frame (k : EventKind) (inst cls : Nat) (s : State) :
    (logEvent k inst cls s).factory = s.factory ∧ (logEvent k inst cls s).pins = s.pins ∧
    (logEvent k inst cls s).life = s.life ∧ (logEvent k inst cls s).power = s.power ∧
    (logEvent k inst cls s).dict = s.dict ∧ (logEvent k inst cls s).commits = s.commits ∧
    (logEvent k inst cls s).snaps = s.snaps ∧ (logEvent k inst cls s).gleno = s.gleno ∧
    (logEvent k inst cls s).optics = s.optics ∧ (logEvent k inst cls s).tb = s.tb ∧
    (logEvent k inst cls s).vern = s.vern ∧ (logEvent k inst cls s).refs = s.refs ∧
    (logEvent k inst cls s).ptp = s.ptp ∧ (logEvent k inst cls s).cal = s.cal ∧ (logEvent k inst cls s).fwd = s.fwd ∧
    (logEvent k inst cls s).sw = s.sw ∧ (logEvent k inst cls s).egr = s.egr ∧ (logEvent k inst cls s).pair = s.pair ∧
    (logEvent k inst cls s).trust = s.trust ∧ (logEvent k inst cls s).upd = s.upd ∧
    (logEvent k inst cls s).wire = s.wire ∧ (logEvent k inst cls s).now = s.now ∧
    (logEvent k inst cls s).started = s.started ∧ (logEvent k inst cls s).draws = s.draws ∧
    (logEvent k inst cls s).pending = s.pending := by
  simp [logEvent]

@[simp] theorem endAlarm_frame (a : Alarm) (inst : Nat) (s : State) :
    (endAlarm a inst s).factory = s.factory ∧ (endAlarm a inst s).life = s.life ∧
    (endAlarm a inst s).power = s.power ∧ (endAlarm a inst s).dict = s.dict ∧
    (endAlarm a inst s).commits = s.commits ∧ (endAlarm a inst s).snaps = s.snaps ∧
    (endAlarm a inst s).gleno = s.gleno ∧ (endAlarm a inst s).optics = s.optics ∧ (endAlarm a inst s).tb = s.tb ∧
    (endAlarm a inst s).vern = s.vern ∧ (endAlarm a inst s).refs = s.refs ∧ (endAlarm a inst s).ptp = s.ptp ∧
    (endAlarm a inst s).cal = s.cal ∧ (endAlarm a inst s).fwd = s.fwd ∧ (endAlarm a inst s).sw = s.sw ∧
    (endAlarm a inst s).egr = s.egr ∧ (endAlarm a inst s).pair = s.pair ∧ (endAlarm a inst s).trust = s.trust ∧
    (endAlarm a inst s).upd = s.upd ∧ (endAlarm a inst s).wire = s.wire ∧ (endAlarm a inst s).now = s.now ∧
    (endAlarm a inst s).started = s.started ∧ (endAlarm a inst s).draws = s.draws ∧
    (endAlarm a inst s).pending = s.pending := by
  simp [endAlarm]

@[simp] theorem endRun_frame (kind inst : Nat) (s : State) :
    (endRun kind inst s).factory = s.factory ∧ (endRun kind inst s).pins = s.pins ∧
    (endRun kind inst s).life = s.life ∧ (endRun kind inst s).regs = s.regs ∧ (endRun kind inst s).dict = s.dict ∧
    (endRun kind inst s).commits = s.commits ∧ (endRun kind inst s).snaps = s.snaps ∧
    (endRun kind inst s).gleno = s.gleno ∧ (endRun kind inst s).obs = s.obs ∧
    (endRun kind inst s).optics = s.optics ∧ (endRun kind inst s).tb = s.tb ∧ (endRun kind inst s).refs = s.refs ∧
    (endRun kind inst s).ptp = s.ptp ∧ (endRun kind inst s).fwd = s.fwd ∧ (endRun kind inst s).sw = s.sw ∧
    (endRun kind inst s).egr = s.egr ∧ (endRun kind inst s).pair = s.pair ∧ (endRun kind inst s).trust = s.trust ∧
    (endRun kind inst s).upd = s.upd ∧ (endRun kind inst s).wire = s.wire ∧ (endRun kind inst s).now = s.now ∧
    (endRun kind inst s).started = s.started ∧ (endRun kind inst s).draws = s.draws ∧
    (endRun kind inst s).pending = s.pending := by
  simp [endRun]

@[simp] theorem logInfo_frame (k : EventKind) (inst : Nat) (s : State) :
    (logInfo k inst s).factory = s.factory ∧ (logInfo k inst s).pins = s.pins ∧ (logInfo k inst s).life = s.life ∧
    (logInfo k inst s).power = s.power ∧ (logInfo k inst s).dict = s.dict ∧ (logInfo k inst s).commits = s.commits ∧
    (logInfo k inst s).snaps = s.snaps ∧ (logInfo k inst s).gleno = s.gleno ∧ (logInfo k inst s).optics = s.optics ∧
    (logInfo k inst s).tb = s.tb ∧ (logInfo k inst s).vern = s.vern ∧ (logInfo k inst s).refs = s.refs ∧
    (logInfo k inst s).ptp = s.ptp ∧ (logInfo k inst s).cal = s.cal ∧ (logInfo k inst s).fwd = s.fwd ∧
    (logInfo k inst s).sw = s.sw ∧ (logInfo k inst s).egr = s.egr ∧ (logInfo k inst s).pair = s.pair ∧
    (logInfo k inst s).trust = s.trust ∧ (logInfo k inst s).upd = s.upd ∧ (logInfo k inst s).wire = s.wire ∧
    (logInfo k inst s).now = s.now ∧ (logInfo k inst s).started = s.started ∧ (logInfo k inst s).draws = s.draws ∧
    (logInfo k inst s).pending = s.pending := by
  simp [logInfo]

@[simp] theorem acceptRun_frame (kind inst samples resid : Nat) (s : State) :
    (acceptRun kind inst samples resid s).factory = s.factory ∧ (acceptRun kind inst samples resid s).life = s.life ∧
    (acceptRun kind inst samples resid s).dict = s.dict ∧ (acceptRun kind inst samples resid s).commits = s.commits ∧
    (acceptRun kind inst samples resid s).snaps = s.snaps ∧ (acceptRun kind inst samples resid s).gleno = s.gleno ∧
    (acceptRun kind inst samples resid s).optics = s.optics ∧ (acceptRun kind inst samples resid s).tb = s.tb ∧
    (acceptRun kind inst samples resid s).refs = s.refs ∧ (acceptRun kind inst samples resid s).ptp = s.ptp ∧
    (acceptRun kind inst samples resid s).fwd = s.fwd ∧ (acceptRun kind inst samples resid s).sw = s.sw ∧
    (acceptRun kind inst samples resid s).egr = s.egr ∧ (acceptRun kind inst samples resid s).pair = s.pair ∧
    (acceptRun kind inst samples resid s).trust = s.trust ∧ (acceptRun kind inst samples resid s).upd = s.upd ∧
    (acceptRun kind inst samples resid s).wire = s.wire ∧ (acceptRun kind inst samples resid s).now = s.now ∧
    (acceptRun kind inst samples resid s).started = s.started ∧
    (acceptRun kind inst samples resid s).draws = s.draws ∧
    (acceptRun kind inst samples resid s).pending = s.pending := by
  simp [acceptRun]

@[simp] theorem endSeed_frame (n k : Nat) (s : State) :
    (endSeed n k s).factory = s.factory ∧ (endSeed n k s).pins = s.pins ∧ (endSeed n k s).life = s.life ∧
    (endSeed n k s).power = s.power ∧ (endSeed n k s).regs = s.regs ∧ (endSeed n k s).dict = s.dict ∧
    (endSeed n k s).commits = s.commits ∧ (endSeed n k s).snaps = s.snaps ∧ (endSeed n k s).gleno = s.gleno ∧
    (endSeed n k s).obs = s.obs ∧ (endSeed n k s).optics = s.optics ∧ (endSeed n k s).tb = s.tb ∧
    (endSeed n k s).vern = s.vern ∧ (endSeed n k s).refs = s.refs ∧ (endSeed n k s).ptp = s.ptp ∧
    (endSeed n k s).cal = s.cal ∧ (endSeed n k s).fwd = s.fwd ∧ (endSeed n k s).sw = s.sw ∧
    (endSeed n k s).egr = s.egr ∧ (endSeed n k s).trust = s.trust ∧ (endSeed n k s).upd = s.upd ∧
    (endSeed n k s).wire = s.wire ∧ (endSeed n k s).now = s.now ∧ (endSeed n k s).started = s.started ∧
    (endSeed n k s).draws = s.draws ∧ (endSeed n k s).pending = s.pending := by
  simp [endSeed]

@[simp] theorem judgeP_frame (s : State) :
    (judgeP s).factory = s.factory ∧ (judgeP s).pins = s.pins ∧ (judgeP s).life = s.life ∧
    (judgeP s).power = s.power ∧ (judgeP s).dict = s.dict ∧ (judgeP s).commits = s.commits ∧
    (judgeP s).snaps = s.snaps ∧ (judgeP s).gleno = s.gleno ∧ (judgeP s).obs = s.obs ∧ (judgeP s).optics = s.optics ∧
    (judgeP s).vern = s.vern ∧ (judgeP s).ptp = s.ptp ∧ (judgeP s).cal = s.cal ∧ (judgeP s).fwd = s.fwd ∧
    (judgeP s).sw = s.sw ∧ (judgeP s).egr = s.egr ∧ (judgeP s).pair = s.pair ∧ (judgeP s).trust = s.trust ∧
    (judgeP s).upd = s.upd ∧ (judgeP s).wire = s.wire ∧ (judgeP s).now = s.now ∧ (judgeP s).started = s.started ∧
    (judgeP s).draws = s.draws ∧ (judgeP s).pending = s.pending := by
  simp [judgeP]

@[simp] theorem updDom_frame (d : Domain) (f : DomainState → DomainState) (s : State) :
    (updDom d f s).factory = s.factory ∧ (updDom d f s).pins = s.pins ∧ (updDom d f s).life = s.life ∧
    (updDom d f s).power = s.power ∧ (updDom d f s).regs = s.regs ∧ (updDom d f s).dict = s.dict ∧
    (updDom d f s).commits = s.commits ∧ (updDom d f s).snaps = s.snaps ∧ (updDom d f s).gleno = s.gleno ∧
    (updDom d f s).obs = s.obs ∧ (updDom d f s).optics = s.optics ∧ (updDom d f s).vern = s.vern ∧
    (updDom d f s).refs = s.refs ∧ (updDom d f s).ptp = s.ptp ∧ (updDom d f s).cal = s.cal ∧
    (updDom d f s).fwd = s.fwd ∧ (updDom d f s).sw = s.sw ∧ (updDom d f s).egr = s.egr ∧
    (updDom d f s).pair = s.pair ∧ (updDom d f s).trust = s.trust ∧ (updDom d f s).upd = s.upd ∧
    (updDom d f s).wire = s.wire ∧ (updDom d f s).now = s.now ∧ (updDom d f s).started = s.started ∧
    (updDom d f s).draws = s.draws ∧ (updDom d f s).pending = s.pending := by
  unfold updDom; (try dsimp only); (repeat' split) <;> simp

@[simp] theorem stepped_frame (d : Domain) (s : State) :
    (stepped d s).factory = s.factory ∧ (stepped d s).pins = s.pins ∧ (stepped d s).life = s.life ∧
    (stepped d s).power = s.power ∧ (stepped d s).dict = s.dict ∧ (stepped d s).commits = s.commits ∧
    (stepped d s).snaps = s.snaps ∧ (stepped d s).gleno = s.gleno ∧ (stepped d s).optics = s.optics ∧
    (stepped d s).ptp = s.ptp ∧ (stepped d s).cal = s.cal ∧ (stepped d s).fwd = s.fwd ∧ (stepped d s).sw = s.sw ∧
    (stepped d s).egr = s.egr ∧ (stepped d s).pair = s.pair ∧ (stepped d s).trust = s.trust ∧
    (stepped d s).upd = s.upd ∧ (stepped d s).wire = s.wire ∧ (stepped d s).now = s.now ∧
    (stepped d s).started = s.started ∧ (stepped d s).draws = s.draws ∧ (stepped d s).pending = s.pending := by
  unfold stepped; (try dsimp only); (repeat' split) <;> simp

@[simp] theorem adjTime_frame (d : Domain) (a : Int) (s : State) :
    (adjTime d a s).factory = s.factory ∧ (adjTime d a s).pins = s.pins ∧ (adjTime d a s).life = s.life ∧
    (adjTime d a s).power = s.power ∧ (adjTime d a s).dict = s.dict ∧ (adjTime d a s).commits = s.commits ∧
    (adjTime d a s).snaps = s.snaps ∧ (adjTime d a s).gleno = s.gleno ∧ (adjTime d a s).optics = s.optics ∧
    (adjTime d a s).ptp = s.ptp ∧ (adjTime d a s).cal = s.cal ∧ (adjTime d a s).fwd = s.fwd ∧
    (adjTime d a s).sw = s.sw ∧ (adjTime d a s).egr = s.egr ∧ (adjTime d a s).pair = s.pair ∧
    (adjTime d a s).trust = s.trust ∧ (adjTime d a s).upd = s.upd ∧ (adjTime d a s).wire = s.wire ∧
    (adjTime d a s).now = s.now ∧ (adjTime d a s).started = s.started ∧ (adjTime d a s).draws = s.draws ∧
    (adjTime d a s).pending = s.pending := by
  simp [adjTime]

@[simp] theorem gateTrimQ_frame (c : Nat) (s : State) (q : Nat) :
    (gateTrimQ c s q).factory = s.factory ∧ (gateTrimQ c s q).pins = s.pins ∧ (gateTrimQ c s q).life = s.life ∧
    (gateTrimQ c s q).power = s.power ∧ (gateTrimQ c s q).dict = s.dict ∧ (gateTrimQ c s q).commits = s.commits ∧
    (gateTrimQ c s q).snaps = s.snaps ∧ (gateTrimQ c s q).gleno = s.gleno ∧ (gateTrimQ c s q).optics = s.optics ∧
    (gateTrimQ c s q).tb = s.tb ∧ (gateTrimQ c s q).vern = s.vern ∧ (gateTrimQ c s q).refs = s.refs ∧
    (gateTrimQ c s q).ptp = s.ptp ∧ (gateTrimQ c s q).cal = s.cal ∧ (gateTrimQ c s q).fwd = s.fwd ∧
    (gateTrimQ c s q).pair = s.pair ∧ (gateTrimQ c s q).trust = s.trust ∧ (gateTrimQ c s q).upd = s.upd ∧
    (gateTrimQ c s q).wire = s.wire ∧ (gateTrimQ c s q).now = s.now ∧ (gateTrimQ c s q).started = s.started ∧
    (gateTrimQ c s q).draws = s.draws ∧ (gateTrimQ c s q).pending = s.pending := by
  unfold gateTrimQ; (try dsimp only); (repeat' split) <;> simp

@[simp] theorem gateTrim_frame (c : Nat) (s : State) :
    (gateTrim c s).factory = s.factory ∧ (gateTrim c s).pins = s.pins ∧ (gateTrim c s).life = s.life ∧
    (gateTrim c s).power = s.power ∧ (gateTrim c s).dict = s.dict ∧ (gateTrim c s).commits = s.commits ∧
    (gateTrim c s).snaps = s.snaps ∧ (gateTrim c s).gleno = s.gleno ∧ (gateTrim c s).optics = s.optics ∧
    (gateTrim c s).tb = s.tb ∧ (gateTrim c s).vern = s.vern ∧ (gateTrim c s).refs = s.refs ∧
    (gateTrim c s).ptp = s.ptp ∧ (gateTrim c s).cal = s.cal ∧ (gateTrim c s).fwd = s.fwd ∧
    (gateTrim c s).pair = s.pair ∧ (gateTrim c s).trust = s.trust ∧ (gateTrim c s).upd = s.upd ∧
    (gateTrim c s).wire = s.wire ∧ (gateTrim c s).now = s.now ∧ (gateTrim c s).started = s.started ∧
    (gateTrim c s).draws = s.draws ∧ (gateTrim c s).pending = s.pending := by
  simp [gateTrim]

@[simp] theorem rephasePort_frame (c : Nat) (s : State) :
    (rephasePort c s).factory = s.factory ∧ (rephasePort c s).pins = s.pins ∧ (rephasePort c s).life = s.life ∧
    (rephasePort c s).power = s.power ∧ (rephasePort c s).dict = s.dict ∧ (rephasePort c s).commits = s.commits ∧
    (rephasePort c s).snaps = s.snaps ∧ (rephasePort c s).gleno = s.gleno ∧ (rephasePort c s).optics = s.optics ∧
    (rephasePort c s).tb = s.tb ∧ (rephasePort c s).vern = s.vern ∧ (rephasePort c s).refs = s.refs ∧
    (rephasePort c s).ptp = s.ptp ∧ (rephasePort c s).cal = s.cal ∧ (rephasePort c s).fwd = s.fwd ∧
    (rephasePort c s).pair = s.pair ∧ (rephasePort c s).trust = s.trust ∧ (rephasePort c s).upd = s.upd ∧
    (rephasePort c s).wire = s.wire ∧ (rephasePort c s).now = s.now ∧ (rephasePort c s).draws = s.draws ∧
    (rephasePort c s).pending = s.pending := by
  simp [rephasePort]

@[simp] theorem rephase_frame (d : Domain) (s : State) :
    (rephase d s).factory = s.factory ∧ (rephase d s).pins = s.pins ∧ (rephase d s).life = s.life ∧
    (rephase d s).power = s.power ∧ (rephase d s).dict = s.dict ∧ (rephase d s).commits = s.commits ∧
    (rephase d s).snaps = s.snaps ∧ (rephase d s).gleno = s.gleno ∧ (rephase d s).optics = s.optics ∧
    (rephase d s).tb = s.tb ∧ (rephase d s).vern = s.vern ∧ (rephase d s).refs = s.refs ∧ (rephase d s).ptp = s.ptp ∧
    (rephase d s).cal = s.cal ∧ (rephase d s).fwd = s.fwd ∧ (rephase d s).pair = s.pair ∧
    (rephase d s).trust = s.trust ∧ (rephase d s).upd = s.upd ∧ (rephase d s).wire = s.wire ∧
    (rephase d s).now = s.now ∧ (rephase d s).draws = s.draws ∧ (rephase d s).pending = s.pending := by
  simp [rephase]

@[simp] theorem setTraceable_frame (d : Domain) (b : Bool) (s : State) :
    (setTraceable d b s).factory = s.factory ∧ (setTraceable d b s).pins = s.pins ∧
    (setTraceable d b s).life = s.life ∧ (setTraceable d b s).power = s.power ∧ (setTraceable d b s).regs = s.regs ∧
    (setTraceable d b s).dict = s.dict ∧ (setTraceable d b s).commits = s.commits ∧
    (setTraceable d b s).snaps = s.snaps ∧ (setTraceable d b s).gleno = s.gleno ∧ (setTraceable d b s).obs = s.obs ∧
    (setTraceable d b s).optics = s.optics ∧ (setTraceable d b s).vern = s.vern ∧
    (setTraceable d b s).refs = s.refs ∧ (setTraceable d b s).ptp = s.ptp ∧ (setTraceable d b s).cal = s.cal ∧
    (setTraceable d b s).fwd = s.fwd ∧ (setTraceable d b s).sw = s.sw ∧ (setTraceable d b s).egr = s.egr ∧
    (setTraceable d b s).pair = s.pair ∧ (setTraceable d b s).trust = s.trust ∧ (setTraceable d b s).upd = s.upd ∧
    (setTraceable d b s).wire = s.wire ∧ (setTraceable d b s).now = s.now ∧
    (setTraceable d b s).started = s.started ∧ (setTraceable d b s).draws = s.draws ∧
    (setTraceable d b s).pending = s.pending := by
  simp [setTraceable]

@[simp] theorem updPath_frame (n : Nat) (f : Path → Path) (s : State) :
    (updPath n f s).factory = s.factory ∧ (updPath n f s).pins = s.pins ∧ (updPath n f s).life = s.life ∧
    (updPath n f s).power = s.power ∧ (updPath n f s).regs = s.regs ∧ (updPath n f s).dict = s.dict ∧
    (updPath n f s).commits = s.commits ∧ (updPath n f s).snaps = s.snaps ∧ (updPath n f s).gleno = s.gleno ∧
    (updPath n f s).obs = s.obs ∧ (updPath n f s).optics = s.optics ∧ (updPath n f s).tb = s.tb ∧
    (updPath n f s).vern = s.vern ∧ (updPath n f s).ptp = s.ptp ∧ (updPath n f s).cal = s.cal ∧
    (updPath n f s).fwd = s.fwd ∧ (updPath n f s).sw = s.sw ∧ (updPath n f s).egr = s.egr ∧
    (updPath n f s).pair = s.pair ∧ (updPath n f s).trust = s.trust ∧ (updPath n f s).upd = s.upd ∧
    (updPath n f s).wire = s.wire ∧ (updPath n f s).now = s.now ∧ (updPath n f s).started = s.started ∧
    (updPath n f s).draws = s.draws ∧ (updPath n f s).pending = s.pending := by
  simp [updPath]

@[simp] theorem stepPath_frame (n k : Nat) (s : State) :
    (stepPath n k s).factory = s.factory ∧ (stepPath n k s).pins = s.pins ∧ (stepPath n k s).life = s.life ∧
    (stepPath n k s).power = s.power ∧ (stepPath n k s).dict = s.dict ∧ (stepPath n k s).commits = s.commits ∧
    (stepPath n k s).snaps = s.snaps ∧ (stepPath n k s).gleno = s.gleno ∧ (stepPath n k s).optics = s.optics ∧
    (stepPath n k s).ptp = s.ptp ∧ (stepPath n k s).cal = s.cal ∧ (stepPath n k s).fwd = s.fwd ∧
    (stepPath n k s).pair = s.pair ∧ (stepPath n k s).trust = s.trust ∧ (stepPath n k s).upd = s.upd ∧
    (stepPath n k s).wire = s.wire ∧ (stepPath n k s).now = s.now ∧ (stepPath n k s).draws = s.draws ∧
    (stepPath n k s).pending = s.pending := by
  simp [stepPath]

@[simp] theorem acquire_frame (n k : Nat) (s : State) :
    (acquire n k s).factory = s.factory ∧ (acquire n k s).life = s.life ∧ (acquire n k s).power = s.power ∧
    (acquire n k s).dict = s.dict ∧ (acquire n k s).commits = s.commits ∧ (acquire n k s).snaps = s.snaps ∧
    (acquire n k s).gleno = s.gleno ∧ (acquire n k s).optics = s.optics ∧ (acquire n k s).ptp = s.ptp ∧
    (acquire n k s).cal = s.cal ∧ (acquire n k s).fwd = s.fwd ∧ (acquire n k s).trust = s.trust ∧
    (acquire n k s).upd = s.upd ∧ (acquire n k s).wire = s.wire ∧ (acquire n k s).now = s.now ∧
    (acquire n k s).draws = s.draws ∧ (acquire n k s).pending = s.pending := by
  simp [acquire]

@[simp] theorem answer_frame (q : Req) (st : Status) (d : List Byte) (s : State) :
    (answer q st d s).factory = s.factory ∧ (answer q st d s).pins = s.pins ∧ (answer q st d s).life = s.life ∧
    (answer q st d s).power = s.power ∧ (answer q st d s).dict = s.dict ∧ (answer q st d s).commits = s.commits ∧
    (answer q st d s).snaps = s.snaps ∧ (answer q st d s).optics = s.optics ∧ (answer q st d s).tb = s.tb ∧
    (answer q st d s).vern = s.vern ∧ (answer q st d s).refs = s.refs ∧ (answer q st d s).ptp = s.ptp ∧
    (answer q st d s).cal = s.cal ∧ (answer q st d s).fwd = s.fwd ∧ (answer q st d s).sw = s.sw ∧
    (answer q st d s).egr = s.egr ∧ (answer q st d s).pair = s.pair ∧ (answer q st d s).trust = s.trust ∧
    (answer q st d s).upd = s.upd ∧ (answer q st d s).wire = s.wire ∧ (answer q st d s).now = s.now ∧
    (answer q st d s).started = s.started ∧ (answer q st d s).draws = s.draws ∧
    (answer q st d s).pending = s.pending := by
  simp [answer]

@[simp] theorem esmcEvents_frame (s : State) :
    (esmcEvents s).factory = s.factory ∧ (esmcEvents s).pins = s.pins ∧ (esmcEvents s).life = s.life ∧
    (esmcEvents s).power = s.power ∧ (esmcEvents s).dict = s.dict ∧ (esmcEvents s).commits = s.commits ∧
    (esmcEvents s).snaps = s.snaps ∧ (esmcEvents s).gleno = s.gleno ∧ (esmcEvents s).obs = s.obs ∧
    (esmcEvents s).optics = s.optics ∧ (esmcEvents s).tb = s.tb ∧ (esmcEvents s).vern = s.vern ∧
    (esmcEvents s).ptp = s.ptp ∧ (esmcEvents s).cal = s.cal ∧ (esmcEvents s).fwd = s.fwd ∧ (esmcEvents s).sw = s.sw ∧
    (esmcEvents s).egr = s.egr ∧ (esmcEvents s).pair = s.pair ∧ (esmcEvents s).trust = s.trust ∧
    (esmcEvents s).upd = s.upd ∧ (esmcEvents s).now = s.now ∧ (esmcEvents s).started = s.started ∧
    (esmcEvents s).draws = s.draws ∧ (esmcEvents s).pending = s.pending := by
  simp [esmcEvents]

@[simp] theorem pathFree_frame (n : Nat) (s : State) :
    (pathFree n s).factory = s.factory ∧ (pathFree n s).life = s.life ∧ (pathFree n s).power = s.power ∧
    (pathFree n s).dict = s.dict ∧ (pathFree n s).commits = s.commits ∧ (pathFree n s).snaps = s.snaps ∧
    (pathFree n s).gleno = s.gleno ∧ (pathFree n s).optics = s.optics ∧ (pathFree n s).vern = s.vern ∧
    (pathFree n s).ptp = s.ptp ∧ (pathFree n s).cal = s.cal ∧ (pathFree n s).fwd = s.fwd ∧ (pathFree n s).sw = s.sw ∧
    (pathFree n s).egr = s.egr ∧ (pathFree n s).pair = s.pair ∧ (pathFree n s).trust = s.trust ∧
    (pathFree n s).upd = s.upd ∧ (pathFree n s).wire = s.wire ∧ (pathFree n s).now = s.now ∧
    (pathFree n s).started = s.started ∧ (pathFree n s).draws = s.draws ∧ (pathFree n s).pending = s.pending := by
  simp [pathFree]

@[simp] theorem pathHoldover_frame (n : Nat) (err : Int) (s : State) :
    (pathHoldover n err s).factory = s.factory ∧ (pathHoldover n err s).pins = s.pins ∧
    (pathHoldover n err s).life = s.life ∧ (pathHoldover n err s).power = s.power ∧
    (pathHoldover n err s).dict = s.dict ∧ (pathHoldover n err s).commits = s.commits ∧
    (pathHoldover n err s).snaps = s.snaps ∧ (pathHoldover n err s).gleno = s.gleno ∧
    (pathHoldover n err s).optics = s.optics ∧ (pathHoldover n err s).tb = s.tb ∧
    (pathHoldover n err s).vern = s.vern ∧ (pathHoldover n err s).ptp = s.ptp ∧ (pathHoldover n err s).cal = s.cal ∧
    (pathHoldover n err s).fwd = s.fwd ∧ (pathHoldover n err s).sw = s.sw ∧ (pathHoldover n err s).egr = s.egr ∧
    (pathHoldover n err s).pair = s.pair ∧ (pathHoldover n err s).trust = s.trust ∧
    (pathHoldover n err s).upd = s.upd ∧ (pathHoldover n err s).wire = s.wire ∧ (pathHoldover n err s).now = s.now ∧
    (pathHoldover n err s).started = s.started ∧ (pathHoldover n err s).draws = s.draws ∧
    (pathHoldover n err s).pending = s.pending := by
  simp [pathHoldover]

@[simp] theorem cellWrap_frame (c : Nat) (s : State) :
    (cellWrap c s).factory = s.factory ∧ (cellWrap c s).pins = s.pins ∧ (cellWrap c s).life = s.life ∧
    (cellWrap c s).power = s.power ∧ (cellWrap c s).dict = s.dict ∧ (cellWrap c s).commits = s.commits ∧
    (cellWrap c s).snaps = s.snaps ∧ (cellWrap c s).gleno = s.gleno ∧ (cellWrap c s).optics = s.optics ∧
    (cellWrap c s).tb = s.tb ∧ (cellWrap c s).vern = s.vern ∧ (cellWrap c s).refs = s.refs ∧
    (cellWrap c s).ptp = s.ptp ∧ (cellWrap c s).cal = s.cal ∧ (cellWrap c s).fwd = s.fwd ∧ (cellWrap c s).sw = s.sw ∧
    (cellWrap c s).egr = s.egr ∧ (cellWrap c s).pair = s.pair ∧ (cellWrap c s).trust = s.trust ∧
    (cellWrap c s).upd = s.upd ∧ (cellWrap c s).wire = s.wire ∧ (cellWrap c s).now = s.now ∧
    (cellWrap c s).started = s.started ∧ (cellWrap c s).draws = s.draws ∧ (cellWrap c s).pending = s.pending := by
  simp [cellWrap]

@[simp] theorem progAdd_frame (n p : Nat) (s : State) :
    (progAdd n p s).factory = s.factory ∧ (progAdd n p s).pins = s.pins ∧ (progAdd n p s).life = s.life ∧
    (progAdd n p s).power = s.power ∧ (progAdd n p s).dict = s.dict ∧ (progAdd n p s).commits = s.commits ∧
    (progAdd n p s).snaps = s.snaps ∧ (progAdd n p s).gleno = s.gleno ∧ (progAdd n p s).optics = s.optics ∧
    (progAdd n p s).tb = s.tb ∧ (progAdd n p s).vern = s.vern ∧ (progAdd n p s).refs = s.refs ∧
    (progAdd n p s).ptp = s.ptp ∧ (progAdd n p s).cal = s.cal ∧ (progAdd n p s).fwd = s.fwd ∧
    (progAdd n p s).sw = s.sw ∧ (progAdd n p s).egr = s.egr ∧ (progAdd n p s).pair = s.pair ∧
    (progAdd n p s).trust = s.trust ∧ (progAdd n p s).upd = s.upd ∧ (progAdd n p s).wire = s.wire ∧
    (progAdd n p s).now = s.now ∧ (progAdd n p s).started = s.started ∧ (progAdd n p s).draws = s.draws ∧
    (progAdd n p s).pending = s.pending := by
  simp [progAdd]

@[simp] theorem tally_frame (src c q n : Nat) (s : State) :
    (tally src c q n s).factory = s.factory ∧ (tally src c q n s).pins = s.pins ∧ (tally src c q n s).life = s.life ∧
    (tally src c q n s).power = s.power ∧ (tally src c q n s).dict = s.dict ∧
    (tally src c q n s).commits = s.commits ∧ (tally src c q n s).snaps = s.snaps ∧
    (tally src c q n s).gleno = s.gleno ∧ (tally src c q n s).optics = s.optics ∧ (tally src c q n s).tb = s.tb ∧
    (tally src c q n s).vern = s.vern ∧ (tally src c q n s).refs = s.refs ∧ (tally src c q n s).ptp = s.ptp ∧
    (tally src c q n s).cal = s.cal ∧ (tally src c q n s).fwd = s.fwd ∧ (tally src c q n s).sw = s.sw ∧
    (tally src c q n s).egr = s.egr ∧ (tally src c q n s).pair = s.pair ∧ (tally src c q n s).trust = s.trust ∧
    (tally src c q n s).upd = s.upd ∧ (tally src c q n s).wire = s.wire ∧ (tally src c q n s).now = s.now ∧
    (tally src c q n s).started = s.started ∧ (tally src c q n s).draws = s.draws ∧
    (tally src c q n s).pending = s.pending := by
  simp [tally]

@[simp] theorem bufDrop_frame (r : Nat) (k : Copy) (s : State) :
    (bufDrop r k s).factory = s.factory ∧ (bufDrop r k s).pins = s.pins ∧ (bufDrop r k s).life = s.life ∧
    (bufDrop r k s).power = s.power ∧ (bufDrop r k s).dict = s.dict ∧ (bufDrop r k s).commits = s.commits ∧
    (bufDrop r k s).snaps = s.snaps ∧ (bufDrop r k s).gleno = s.gleno ∧ (bufDrop r k s).optics = s.optics ∧
    (bufDrop r k s).tb = s.tb ∧ (bufDrop r k s).vern = s.vern ∧ (bufDrop r k s).refs = s.refs ∧
    (bufDrop r k s).ptp = s.ptp ∧ (bufDrop r k s).cal = s.cal ∧ (bufDrop r k s).fwd = s.fwd ∧
    (bufDrop r k s).sw = s.sw ∧ (bufDrop r k s).egr = s.egr ∧ (bufDrop r k s).pair = s.pair ∧
    (bufDrop r k s).trust = s.trust ∧ (bufDrop r k s).upd = s.upd ∧ (bufDrop r k s).wire = s.wire ∧
    (bufDrop r k s).now = s.now ∧ (bufDrop r k s).started = s.started ∧ (bufDrop r k s).draws = s.draws ∧
    (bufDrop r k s).pending = s.pending := by
  unfold bufDrop; (try dsimp only); (repeat' split) <;> simp

@[simp] theorem markStored_frame (idx sub : Nat) (s : State) :
    (markStored idx sub s).factory = s.factory ∧ (markStored idx sub s).pins = s.pins ∧
    (markStored idx sub s).life = s.life ∧ (markStored idx sub s).power = s.power ∧
    (markStored idx sub s).regs = s.regs ∧ (markStored idx sub s).commits = s.commits ∧
    (markStored idx sub s).snaps = s.snaps ∧ (markStored idx sub s).gleno = s.gleno ∧
    (markStored idx sub s).obs = s.obs ∧ (markStored idx sub s).optics = s.optics ∧
    (markStored idx sub s).tb = s.tb ∧ (markStored idx sub s).vern = s.vern ∧ (markStored idx sub s).refs = s.refs ∧
    (markStored idx sub s).ptp = s.ptp ∧ (markStored idx sub s).cal = s.cal ∧ (markStored idx sub s).fwd = s.fwd ∧
    (markStored idx sub s).sw = s.sw ∧ (markStored idx sub s).egr = s.egr ∧ (markStored idx sub s).pair = s.pair ∧
    (markStored idx sub s).trust = s.trust ∧ (markStored idx sub s).upd = s.upd ∧
    (markStored idx sub s).wire = s.wire ∧ (markStored idx sub s).now = s.now ∧
    (markStored idx sub s).started = s.started ∧ (markStored idx sub s).draws = s.draws ∧
    (markStored idx sub s).pending = s.pending := by
  unfold markStored; (try dsimp only); (repeat' split) <;> simp

@[simp] theorem putObj_frame (k : ObjKey) (v : List Byte) (s : State) :
    (putObj k v s).factory = s.factory ∧ (putObj k v s).pins = s.pins ∧ (putObj k v s).life = s.life ∧
    (putObj k v s).power = s.power ∧ (putObj k v s).regs = s.regs ∧ (putObj k v s).commits = s.commits ∧
    (putObj k v s).snaps = s.snaps ∧ (putObj k v s).gleno = s.gleno ∧ (putObj k v s).obs = s.obs ∧
    (putObj k v s).optics = s.optics ∧ (putObj k v s).tb = s.tb ∧ (putObj k v s).vern = s.vern ∧
    (putObj k v s).refs = s.refs ∧ (putObj k v s).ptp = s.ptp ∧ (putObj k v s).cal = s.cal ∧
    (putObj k v s).fwd = s.fwd ∧ (putObj k v s).sw = s.sw ∧ (putObj k v s).egr = s.egr ∧
    (putObj k v s).pair = s.pair ∧ (putObj k v s).trust = s.trust ∧ (putObj k v s).upd = s.upd ∧
    (putObj k v s).wire = s.wire ∧ (putObj k v s).now = s.now ∧ (putObj k v s).started = s.started ∧
    (putObj k v s).draws = s.draws ∧ (putObj k v s).pending = s.pending := by
  simp [putObj]

@[simp] theorem raise_frame (a : Alarm) (inst : Nat) (s : State) :
    (raise a inst s).factory = s.factory ∧ (raise a inst s).life = s.life ∧ (raise a inst s).power = s.power ∧
    (raise a inst s).dict = s.dict ∧ (raise a inst s).commits = s.commits ∧ (raise a inst s).snaps = s.snaps ∧
    (raise a inst s).gleno = s.gleno ∧ (raise a inst s).optics = s.optics ∧ (raise a inst s).tb = s.tb ∧
    (raise a inst s).vern = s.vern ∧ (raise a inst s).refs = s.refs ∧ (raise a inst s).ptp = s.ptp ∧
    (raise a inst s).cal = s.cal ∧ (raise a inst s).fwd = s.fwd ∧ (raise a inst s).sw = s.sw ∧
    (raise a inst s).egr = s.egr ∧ (raise a inst s).pair = s.pair ∧ (raise a inst s).trust = s.trust ∧
    (raise a inst s).wire = s.wire ∧ (raise a inst s).now = s.now ∧ (raise a inst s).started = s.started ∧
    (raise a inst s).draws = s.draws ∧ (raise a inst s).pending = s.pending := by
  simp [raise]

@[simp] theorem putAll_frame (l : List Staged) (s : State) :
    (putAll l s).factory = s.factory ∧ (putAll l s).pins = s.pins ∧ (putAll l s).life = s.life ∧
    (putAll l s).power = s.power ∧ (putAll l s).regs = s.regs ∧ (putAll l s).commits = s.commits ∧
    (putAll l s).snaps = s.snaps ∧ (putAll l s).gleno = s.gleno ∧ (putAll l s).obs = s.obs ∧
    (putAll l s).optics = s.optics ∧ (putAll l s).tb = s.tb ∧ (putAll l s).vern = s.vern ∧
    (putAll l s).refs = s.refs ∧ (putAll l s).ptp = s.ptp ∧ (putAll l s).cal = s.cal ∧ (putAll l s).fwd = s.fwd ∧
    (putAll l s).sw = s.sw ∧ (putAll l s).egr = s.egr ∧ (putAll l s).pair = s.pair ∧ (putAll l s).trust = s.trust ∧
    (putAll l s).upd = s.upd ∧ (putAll l s).wire = s.wire ∧ (putAll l s).now = s.now ∧
    (putAll l s).started = s.started ∧ (putAll l s).draws = s.draws ∧ (putAll l s).pending = s.pending := by
  simp [putAll]

@[simp] theorem settlePort_frame (c i : Nat) (s : State) :
    (settlePort c i s).factory = s.factory ∧ (settlePort c i s).life = s.life ∧ (settlePort c i s).power = s.power ∧
    (settlePort c i s).dict = s.dict ∧ (settlePort c i s).commits = s.commits ∧ (settlePort c i s).snaps = s.snaps ∧
    (settlePort c i s).gleno = s.gleno ∧ (settlePort c i s).optics = s.optics ∧ (settlePort c i s).tb = s.tb ∧
    (settlePort c i s).vern = s.vern ∧ (settlePort c i s).refs = s.refs ∧ (settlePort c i s).cal = s.cal ∧
    (settlePort c i s).fwd = s.fwd ∧ (settlePort c i s).sw = s.sw ∧ (settlePort c i s).egr = s.egr ∧
    (settlePort c i s).pair = s.pair ∧ (settlePort c i s).trust = s.trust ∧ (settlePort c i s).wire = s.wire ∧
    (settlePort c i s).now = s.now ∧ (settlePort c i s).started = s.started ∧ (settlePort c i s).draws = s.draws ∧
    (settlePort c i s).pending = s.pending := by
  simp [settlePort]

@[simp] theorem noteKey_frame (i : Nat) (s : State) :
    (noteKey i s).factory = s.factory ∧ (noteKey i s).pins = s.pins ∧ (noteKey i s).life = s.life ∧
    (noteKey i s).power = s.power ∧ (noteKey i s).regs = s.regs ∧ (noteKey i s).dict = s.dict ∧
    (noteKey i s).commits = s.commits ∧ (noteKey i s).snaps = s.snaps ∧ (noteKey i s).gleno = s.gleno ∧
    (noteKey i s).obs = s.obs ∧ (noteKey i s).optics = s.optics ∧ (noteKey i s).tb = s.tb ∧
    (noteKey i s).vern = s.vern ∧ (noteKey i s).refs = s.refs ∧ (noteKey i s).cal = s.cal ∧
    (noteKey i s).fwd = s.fwd ∧ (noteKey i s).sw = s.sw ∧ (noteKey i s).egr = s.egr ∧ (noteKey i s).pair = s.pair ∧
    (noteKey i s).trust = s.trust ∧ (noteKey i s).upd = s.upd ∧ (noteKey i s).wire = s.wire ∧
    (noteKey i s).now = s.now ∧ (noteKey i s).started = s.started ∧ (noteKey i s).draws = s.draws ∧
    (noteKey i s).pending = s.pending := by
  unfold noteKey; (try dsimp only); (repeat' split) <;> simp

@[simp] theorem sendPtp_frame (k : EmitKind) (c i ty : Nat) (coarse : Bool) (f : List Int) (s : State) :
    (sendPtp k c i ty coarse f s).factory = s.factory ∧ (sendPtp k c i ty coarse f s).pins = s.pins ∧
    (sendPtp k c i ty coarse f s).life = s.life ∧ (sendPtp k c i ty coarse f s).power = s.power ∧
    (sendPtp k c i ty coarse f s).regs = s.regs ∧ (sendPtp k c i ty coarse f s).dict = s.dict ∧
    (sendPtp k c i ty coarse f s).commits = s.commits ∧ (sendPtp k c i ty coarse f s).snaps = s.snaps ∧
    (sendPtp k c i ty coarse f s).gleno = s.gleno ∧ (sendPtp k c i ty coarse f s).obs = s.obs ∧
    (sendPtp k c i ty coarse f s).optics = s.optics ∧ (sendPtp k c i ty coarse f s).tb = s.tb ∧
    (sendPtp k c i ty coarse f s).vern = s.vern ∧ (sendPtp k c i ty coarse f s).refs = s.refs ∧
    (sendPtp k c i ty coarse f s).cal = s.cal ∧ (sendPtp k c i ty coarse f s).fwd = s.fwd ∧
    (sendPtp k c i ty coarse f s).sw = s.sw ∧ (sendPtp k c i ty coarse f s).egr = s.egr ∧
    (sendPtp k c i ty coarse f s).pair = s.pair ∧ (sendPtp k c i ty coarse f s).trust = s.trust ∧
    (sendPtp k c i ty coarse f s).upd = s.upd ∧ (sendPtp k c i ty coarse f s).now = s.now ∧
    (sendPtp k c i ty coarse f s).started = s.started ∧ (sendPtp k c i ty coarse f s).draws = s.draws ∧
    (sendPtp k c i ty coarse f s).pending = s.pending := by
  simp [sendPtp]

@[simp] theorem enablePort_frame (c i : Nat) (s : State) :
    (enablePort c i s).factory = s.factory ∧ (enablePort c i s).life = s.life ∧ (enablePort c i s).power = s.power ∧
    (enablePort c i s).dict = s.dict ∧ (enablePort c i s).commits = s.commits ∧ (enablePort c i s).snaps = s.snaps ∧
    (enablePort c i s).gleno = s.gleno ∧ (enablePort c i s).optics = s.optics ∧ (enablePort c i s).tb = s.tb ∧
    (enablePort c i s).vern = s.vern ∧ (enablePort c i s).refs = s.refs ∧ (enablePort c i s).cal = s.cal ∧
    (enablePort c i s).fwd = s.fwd ∧ (enablePort c i s).sw = s.sw ∧ (enablePort c i s).egr = s.egr ∧
    (enablePort c i s).pair = s.pair ∧ (enablePort c i s).trust = s.trust ∧ (enablePort c i s).now = s.now ∧
    (enablePort c i s).started = s.started ∧ (enablePort c i s).draws = s.draws ∧
    (enablePort c i s).pending = s.pending := by
  simp [enablePort]

@[simp] theorem comparePort_frame (c i : Nat) (lapsed : Bool) (s : State) :
    (comparePort c i lapsed s).factory = s.factory ∧ (comparePort c i lapsed s).pins = s.pins ∧
    (comparePort c i lapsed s).life = s.life ∧ (comparePort c i lapsed s).power = s.power ∧
    (comparePort c i lapsed s).regs = s.regs ∧ (comparePort c i lapsed s).dict = s.dict ∧
    (comparePort c i lapsed s).commits = s.commits ∧ (comparePort c i lapsed s).snaps = s.snaps ∧
    (comparePort c i lapsed s).gleno = s.gleno ∧ (comparePort c i lapsed s).obs = s.obs ∧
    (comparePort c i lapsed s).optics = s.optics ∧ (comparePort c i lapsed s).tb = s.tb ∧
    (comparePort c i lapsed s).vern = s.vern ∧ (comparePort c i lapsed s).refs = s.refs ∧
    (comparePort c i lapsed s).cal = s.cal ∧ (comparePort c i lapsed s).fwd = s.fwd ∧
    (comparePort c i lapsed s).sw = s.sw ∧ (comparePort c i lapsed s).egr = s.egr ∧
    (comparePort c i lapsed s).pair = s.pair ∧ (comparePort c i lapsed s).trust = s.trust ∧
    (comparePort c i lapsed s).upd = s.upd ∧ (comparePort c i lapsed s).wire = s.wire ∧
    (comparePort c i lapsed s).now = s.now ∧ (comparePort c i lapsed s).started = s.started ∧
    (comparePort c i lapsed s).draws = s.draws ∧ (comparePort c i lapsed s).pending = s.pending := by
  unfold comparePort; (try dsimp only); (repeat' split) <;> simp

@[simp] theorem selectPort_frame (c i : Nat) (s : State) :
    (selectPort c i s).factory = s.factory ∧ (selectPort c i s).pins = s.pins ∧ (selectPort c i s).life = s.life ∧
    (selectPort c i s).power = s.power ∧ (selectPort c i s).regs = s.regs ∧ (selectPort c i s).dict = s.dict ∧
    (selectPort c i s).commits = s.commits ∧ (selectPort c i s).snaps = s.snaps ∧
    (selectPort c i s).gleno = s.gleno ∧ (selectPort c i s).obs = s.obs ∧ (selectPort c i s).optics = s.optics ∧
    (selectPort c i s).tb = s.tb ∧ (selectPort c i s).vern = s.vern ∧ (selectPort c i s).refs = s.refs ∧
    (selectPort c i s).cal = s.cal ∧ (selectPort c i s).fwd = s.fwd ∧ (selectPort c i s).sw = s.sw ∧
    (selectPort c i s).egr = s.egr ∧ (selectPort c i s).pair = s.pair ∧ (selectPort c i s).trust = s.trust ∧
    (selectPort c i s).upd = s.upd ∧ (selectPort c i s).wire = s.wire ∧ (selectPort c i s).now = s.now ∧
    (selectPort c i s).started = s.started ∧ (selectPort c i s).draws = s.draws ∧
    (selectPort c i s).pending = s.pending := by
  unfold selectPort; (try dsimp only); (repeat' split) <;> simp

@[simp] theorem selectPorts_frame (s : State) :
    (selectPorts s).factory = s.factory ∧ (selectPorts s).pins = s.pins ∧ (selectPorts s).life = s.life ∧
    (selectPorts s).power = s.power ∧ (selectPorts s).regs = s.regs ∧ (selectPorts s).dict = s.dict ∧
    (selectPorts s).commits = s.commits ∧ (selectPorts s).snaps = s.snaps ∧ (selectPorts s).gleno = s.gleno ∧
    (selectPorts s).obs = s.obs ∧ (selectPorts s).optics = s.optics ∧ (selectPorts s).tb = s.tb ∧
    (selectPorts s).vern = s.vern ∧ (selectPorts s).refs = s.refs ∧ (selectPorts s).cal = s.cal ∧
    (selectPorts s).fwd = s.fwd ∧ (selectPorts s).sw = s.sw ∧ (selectPorts s).egr = s.egr ∧
    (selectPorts s).pair = s.pair ∧ (selectPorts s).trust = s.trust ∧ (selectPorts s).upd = s.upd ∧
    (selectPorts s).wire = s.wire ∧ (selectPorts s).now = s.now ∧ (selectPorts s).started = s.started ∧
    (selectPorts s).draws = s.draws ∧ (selectPorts s).pending = s.pending := by
  simp [selectPorts]

@[simp] theorem checked_frame (s : State) :
    (checked s).factory = s.factory ∧ (checked s).pins = s.pins ∧ (checked s).life = s.life ∧
    (checked s).power = s.power ∧ (checked s).dict = s.dict ∧ (checked s).commits = s.commits ∧
    (checked s).snaps = s.snaps ∧ (checked s).gleno = s.gleno ∧ (checked s).optics = s.optics ∧
    (checked s).tb = s.tb ∧ (checked s).vern = s.vern ∧ (checked s).refs = s.refs ∧ (checked s).ptp = s.ptp ∧
    (checked s).cal = s.cal ∧ (checked s).fwd = s.fwd ∧ (checked s).sw = s.sw ∧ (checked s).egr = s.egr ∧
    (checked s).pair = s.pair ∧ (checked s).upd = s.upd ∧ (checked s).wire = s.wire ∧ (checked s).now = s.now ∧
    (checked s).started = s.started ∧ (checked s).draws = s.draws ∧ (checked s).pending = s.pending := by
  simp [checked]

@[simp] theorem closeSession_frame (n : Nat) (s : State) :
    (closeSession n s).factory = s.factory ∧ (closeSession n s).pins = s.pins ∧ (closeSession n s).life = s.life ∧
    (closeSession n s).dict = s.dict ∧ (closeSession n s).commits = s.commits ∧
    (closeSession n s).optics = s.optics ∧ (closeSession n s).tb = s.tb ∧ (closeSession n s).vern = s.vern ∧
    (closeSession n s).refs = s.refs ∧ (closeSession n s).ptp = s.ptp ∧ (closeSession n s).cal = s.cal ∧
    (closeSession n s).fwd = s.fwd ∧ (closeSession n s).sw = s.sw ∧ (closeSession n s).egr = s.egr ∧
    (closeSession n s).trust = s.trust ∧ (closeSession n s).wire = s.wire ∧ (closeSession n s).now = s.now ∧
    (closeSession n s).started = s.started ∧ (closeSession n s).draws = s.draws ∧
    (closeSession n s).pending = s.pending := by
  simp [closeSession]

@[simp] theorem closeWhere_frame (f : Session → Bool) (s : State) :
    (closeWhere f s).factory = s.factory ∧ (closeWhere f s).pins = s.pins ∧ (closeWhere f s).life = s.life ∧
    (closeWhere f s).dict = s.dict ∧ (closeWhere f s).commits = s.commits ∧ (closeWhere f s).optics = s.optics ∧
    (closeWhere f s).tb = s.tb ∧ (closeWhere f s).vern = s.vern ∧ (closeWhere f s).refs = s.refs ∧
    (closeWhere f s).ptp = s.ptp ∧ (closeWhere f s).cal = s.cal ∧ (closeWhere f s).fwd = s.fwd ∧
    (closeWhere f s).sw = s.sw ∧ (closeWhere f s).egr = s.egr ∧ (closeWhere f s).trust = s.trust ∧
    (closeWhere f s).wire = s.wire ∧ (closeWhere f s).now = s.now ∧ (closeWhere f s).started = s.started ∧
    (closeWhere f s).draws = s.draws ∧ (closeWhere f s).pending = s.pending := by
  simp [closeWhere]

@[simp] theorem detFollow_frame (c : Nat) (s : State) :
    (detFollow c s).factory = s.factory ∧ (detFollow c s).pins = s.pins ∧ (detFollow c s).life = s.life ∧
    (detFollow c s).power = s.power ∧ (detFollow c s).regs = s.regs ∧ (detFollow c s).dict = s.dict ∧
    (detFollow c s).commits = s.commits ∧ (detFollow c s).snaps = s.snaps ∧ (detFollow c s).gleno = s.gleno ∧
    (detFollow c s).obs = s.obs ∧ (detFollow c s).optics = s.optics ∧ (detFollow c s).tb = s.tb ∧
    (detFollow c s).refs = s.refs ∧ (detFollow c s).ptp = s.ptp ∧ (detFollow c s).fwd = s.fwd ∧
    (detFollow c s).sw = s.sw ∧ (detFollow c s).egr = s.egr ∧ (detFollow c s).pair = s.pair ∧
    (detFollow c s).trust = s.trust ∧ (detFollow c s).upd = s.upd ∧ (detFollow c s).wire = s.wire ∧
    (detFollow c s).now = s.now ∧ (detFollow c s).started = s.started ∧ (detFollow c s).draws = s.draws ∧
    (detFollow c s).pending = s.pending := by
  simp [detFollow]

@[simp] theorem chanTo_frame (c st : Nat) (s : State) :
    (chanTo c st s).factory = s.factory ∧ (chanTo c st s).life = s.life ∧ (chanTo c st s).dict = s.dict ∧
    (chanTo c st s).commits = s.commits ∧ (chanTo c st s).snaps = s.snaps ∧ (chanTo c st s).gleno = s.gleno ∧
    (chanTo c st s).tb = s.tb ∧ (chanTo c st s).refs = s.refs ∧ (chanTo c st s).ptp = s.ptp ∧
    (chanTo c st s).fwd = s.fwd ∧ (chanTo c st s).sw = s.sw ∧ (chanTo c st s).egr = s.egr ∧
    (chanTo c st s).pair = s.pair ∧ (chanTo c st s).trust = s.trust ∧ (chanTo c st s).wire = s.wire ∧
    (chanTo c st s).now = s.now ∧ (chanTo c st s).started = s.started ∧ (chanTo c st s).draws = s.draws ∧
    (chanTo c st s).pending = s.pending := by
  simp [chanTo]

@[simp] theorem freezeAsym_frame (c : Nat) (s : State) :
    (freezeAsym c s).factory = s.factory ∧ (freezeAsym c s).pins = s.pins ∧ (freezeAsym c s).life = s.life ∧
    (freezeAsym c s).power = s.power ∧ (freezeAsym c s).regs = s.regs ∧ (freezeAsym c s).dict = s.dict ∧
    (freezeAsym c s).commits = s.commits ∧ (freezeAsym c s).snaps = s.snaps ∧ (freezeAsym c s).gleno = s.gleno ∧
    (freezeAsym c s).obs = s.obs ∧ (freezeAsym c s).optics = s.optics ∧ (freezeAsym c s).tb = s.tb ∧
    (freezeAsym c s).vern = s.vern ∧ (freezeAsym c s).refs = s.refs ∧ (freezeAsym c s).cal = s.cal ∧
    (freezeAsym c s).fwd = s.fwd ∧ (freezeAsym c s).sw = s.sw ∧ (freezeAsym c s).egr = s.egr ∧
    (freezeAsym c s).pair = s.pair ∧ (freezeAsym c s).trust = s.trust ∧ (freezeAsym c s).upd = s.upd ∧
    (freezeAsym c s).wire = s.wire ∧ (freezeAsym c s).now = s.now ∧ (freezeAsym c s).started = s.started ∧
    (freezeAsym c s).draws = s.draws ∧ (freezeAsym c s).pending = s.pending := by
  simp [freezeAsym]

@[simp] theorem makeDue_frame (kind inst : Nat) (s : State) :
    (makeDue kind inst s).factory = s.factory ∧ (makeDue kind inst s).pins = s.pins ∧
    (makeDue kind inst s).life = s.life ∧ (makeDue kind inst s).power = s.power ∧
    (makeDue kind inst s).regs = s.regs ∧ (makeDue kind inst s).dict = s.dict ∧
    (makeDue kind inst s).commits = s.commits ∧ (makeDue kind inst s).snaps = s.snaps ∧
    (makeDue kind inst s).gleno = s.gleno ∧ (makeDue kind inst s).obs = s.obs ∧
    (makeDue kind inst s).optics = s.optics ∧ (makeDue kind inst s).tb = s.tb ∧ (makeDue kind inst s).vern = s.vern ∧
    (makeDue kind inst s).refs = s.refs ∧ (makeDue kind inst s).ptp = s.ptp ∧ (makeDue kind inst s).fwd = s.fwd ∧
    (makeDue kind inst s).sw = s.sw ∧ (makeDue kind inst s).egr = s.egr ∧ (makeDue kind inst s).pair = s.pair ∧
    (makeDue kind inst s).trust = s.trust ∧ (makeDue kind inst s).upd = s.upd ∧ (makeDue kind inst s).wire = s.wire ∧
    (makeDue kind inst s).now = s.now ∧ (makeDue kind inst s).started = s.started ∧
    (makeDue kind inst s).draws = s.draws ∧ (makeDue kind inst s).pending = s.pending := by
  simp [makeDue]

@[simp] theorem overrunAt_frame (c : Nat) (s : State) :
    (overrunAt c s).factory = s.factory ∧ (overrunAt c s).pins = s.pins ∧ (overrunAt c s).life = s.life ∧
    (overrunAt c s).power = s.power ∧ (overrunAt c s).dict = s.dict ∧ (overrunAt c s).commits = s.commits ∧
    (overrunAt c s).snaps = s.snaps ∧ (overrunAt c s).gleno = s.gleno ∧ (overrunAt c s).optics = s.optics ∧
    (overrunAt c s).tb = s.tb ∧ (overrunAt c s).vern = s.vern ∧ (overrunAt c s).refs = s.refs ∧
    (overrunAt c s).ptp = s.ptp ∧ (overrunAt c s).cal = s.cal ∧ (overrunAt c s).fwd = s.fwd ∧
    (overrunAt c s).sw = s.sw ∧ (overrunAt c s).pair = s.pair ∧ (overrunAt c s).trust = s.trust ∧
    (overrunAt c s).upd = s.upd ∧ (overrunAt c s).wire = s.wire ∧ (overrunAt c s).now = s.now ∧
    (overrunAt c s).started = s.started ∧ (overrunAt c s).draws = s.draws ∧ (overrunAt c s).pending = s.pending := by
  unfold overrunAt; (try dsimp only); (repeat' split) <;> simp

@[simp] theorem discardRun_frame (reason : Nat) (r : CalRun) (s : State) :
    (discardRun reason r s).factory = s.factory ∧ (discardRun reason r s).pins = s.pins ∧
    (discardRun reason r s).life = s.life ∧ (discardRun reason r s).dict = s.dict ∧
    (discardRun reason r s).commits = s.commits ∧ (discardRun reason r s).snaps = s.snaps ∧
    (discardRun reason r s).gleno = s.gleno ∧ (discardRun reason r s).optics = s.optics ∧
    (discardRun reason r s).tb = s.tb ∧ (discardRun reason r s).refs = s.refs ∧ (discardRun reason r s).ptp = s.ptp ∧
    (discardRun reason r s).fwd = s.fwd ∧ (discardRun reason r s).sw = s.sw ∧ (discardRun reason r s).egr = s.egr ∧
    (discardRun reason r s).pair = s.pair ∧ (discardRun reason r s).trust = s.trust ∧
    (discardRun reason r s).upd = s.upd ∧ (discardRun reason r s).wire = s.wire ∧
    (discardRun reason r s).now = s.now ∧ (discardRun reason r s).started = s.started ∧
    (discardRun reason r s).draws = s.draws ∧ (discardRun reason r s).pending = s.pending := by
  simp [discardRun]

@[simp] theorem discardRuns_frame (reason : Nat) (f : CalRun → Bool) (s : State) :
    (discardRuns reason f s).factory = s.factory ∧ (discardRuns reason f s).pins = s.pins ∧
    (discardRuns reason f s).life = s.life ∧ (discardRuns reason f s).dict = s.dict ∧
    (discardRuns reason f s).commits = s.commits ∧ (discardRuns reason f s).snaps = s.snaps ∧
    (discardRuns reason f s).gleno = s.gleno ∧ (discardRuns reason f s).optics = s.optics ∧
    (discardRuns reason f s).tb = s.tb ∧ (discardRuns reason f s).refs = s.refs ∧
    (discardRuns reason f s).ptp = s.ptp ∧ (discardRuns reason f s).fwd = s.fwd ∧
    (discardRuns reason f s).sw = s.sw ∧ (discardRuns reason f s).egr = s.egr ∧
    (discardRuns reason f s).pair = s.pair ∧ (discardRuns reason f s).trust = s.trust ∧
    (discardRuns reason f s).upd = s.upd ∧ (discardRuns reason f s).wire = s.wire ∧
    (discardRuns reason f s).now = s.now ∧ (discardRuns reason f s).started = s.started ∧
    (discardRuns reason f s).draws = s.draws ∧ (discardRuns reason f s).pending = s.pending := by
  simp [discardRuns]

@[simp] theorem portsDown_frame (c : Nat) (s : State) :
    (portsDown c s).factory = s.factory ∧ (portsDown c s).life = s.life ∧ (portsDown c s).dict = s.dict ∧
    (portsDown c s).commits = s.commits ∧ (portsDown c s).snaps = s.snaps ∧ (portsDown c s).gleno = s.gleno ∧
    (portsDown c s).optics = s.optics ∧ (portsDown c s).tb = s.tb ∧ (portsDown c s).refs = s.refs ∧
    (portsDown c s).fwd = s.fwd ∧ (portsDown c s).sw = s.sw ∧ (portsDown c s).egr = s.egr ∧
    (portsDown c s).pair = s.pair ∧ (portsDown c s).trust = s.trust ∧ (portsDown c s).now = s.now ∧
    (portsDown c s).started = s.started ∧ (portsDown c s).draws = s.draws ∧ (portsDown c s).pending = s.pending := by
  simp [portsDown]

@[simp] theorem relaneAsym_frame (c : Nat) (s : State) :
    (relaneAsym c s).factory = s.factory ∧ (relaneAsym c s).pins = s.pins ∧ (relaneAsym c s).life = s.life ∧
    (relaneAsym c s).power = s.power ∧ (relaneAsym c s).regs = s.regs ∧ (relaneAsym c s).dict = s.dict ∧
    (relaneAsym c s).commits = s.commits ∧ (relaneAsym c s).snaps = s.snaps ∧ (relaneAsym c s).gleno = s.gleno ∧
    (relaneAsym c s).obs = s.obs ∧ (relaneAsym c s).optics = s.optics ∧ (relaneAsym c s).tb = s.tb ∧
    (relaneAsym c s).vern = s.vern ∧ (relaneAsym c s).refs = s.refs ∧ (relaneAsym c s).ptp = s.ptp ∧
    (relaneAsym c s).fwd = s.fwd ∧ (relaneAsym c s).sw = s.sw ∧ (relaneAsym c s).egr = s.egr ∧
    (relaneAsym c s).pair = s.pair ∧ (relaneAsym c s).trust = s.trust ∧ (relaneAsym c s).upd = s.upd ∧
    (relaneAsym c s).wire = s.wire ∧ (relaneAsym c s).now = s.now ∧ (relaneAsym c s).started = s.started ∧
    (relaneAsym c s).draws = s.draws ∧ (relaneAsym c s).pending = s.pending := by
  simp [relaneAsym]

@[simp] theorem settleChan_frame (c : Nat) (s0 s1 : State) :
    (settleChan c s0 s1).factory = s1.factory ∧ (settleChan c s0 s1).life = s1.life ∧
    (settleChan c s0 s1).dict = s1.dict ∧ (settleChan c s0 s1).commits = s1.commits ∧
    (settleChan c s0 s1).snaps = s1.snaps ∧ (settleChan c s0 s1).gleno = s1.gleno ∧
    (settleChan c s0 s1).optics = s1.optics ∧ (settleChan c s0 s1).tb = s1.tb ∧ (settleChan c s0 s1).refs = s1.refs ∧
    (settleChan c s0 s1).fwd = s1.fwd ∧ (settleChan c s0 s1).pair = s1.pair ∧ (settleChan c s0 s1).trust = s1.trust ∧
    (settleChan c s0 s1).now = s1.now ∧ (settleChan c s0 s1).started = s1.started ∧
    (settleChan c s0 s1).draws = s1.draws ∧ (settleChan c s0 s1).pending = s1.pending := by
  simp [settleChan]

@[simp] theorem loopSettle_frame (c : Nat) (s : State) :
    (loopSettle c s).factory = s.factory ∧ (loopSettle c s).life = s.life ∧ (loopSettle c s).dict = s.dict ∧
    (loopSettle c s).commits = s.commits ∧ (loopSettle c s).snaps = s.snaps ∧ (loopSettle c s).gleno = s.gleno ∧
    (loopSettle c s).tb = s.tb ∧ (loopSettle c s).refs = s.refs ∧ (loopSettle c s).fwd = s.fwd ∧
    (loopSettle c s).pair = s.pair ∧ (loopSettle c s).trust = s.trust ∧ (loopSettle c s).now = s.now ∧
    (loopSettle c s).started = s.started ∧ (loopSettle c s).draws = s.draws ∧
    (loopSettle c s).pending = s.pending := by
  simp [loopSettle]

@[simp] theorem ovfSettle_frame (s : State) :
    (ovfSettle s).factory = s.factory ∧ (ovfSettle s).pins = s.pins ∧ (ovfSettle s).life = s.life ∧
    (ovfSettle s).regs = s.regs ∧ (ovfSettle s).dict = s.dict ∧ (ovfSettle s).commits = s.commits ∧
    (ovfSettle s).snaps = s.snaps ∧ (ovfSettle s).gleno = s.gleno ∧ (ovfSettle s).obs = s.obs ∧
    (ovfSettle s).optics = s.optics ∧ (ovfSettle s).tb = s.tb ∧ (ovfSettle s).vern = s.vern ∧
    (ovfSettle s).refs = s.refs ∧ (ovfSettle s).ptp = s.ptp ∧ (ovfSettle s).cal = s.cal ∧ (ovfSettle s).fwd = s.fwd ∧
    (ovfSettle s).egr = s.egr ∧ (ovfSettle s).pair = s.pair ∧ (ovfSettle s).trust = s.trust ∧
    (ovfSettle s).upd = s.upd ∧ (ovfSettle s).wire = s.wire ∧ (ovfSettle s).now = s.now ∧
    (ovfSettle s).started = s.started ∧ (ovfSettle s).draws = s.draws ∧ (ovfSettle s).pending = s.pending := by
  simp [ovfSettle]

@[simp] theorem judgeDual_frame (s : State) :
    (judgeDual s).factory = s.factory ∧ (judgeDual s).life = s.life ∧ (judgeDual s).power = s.power ∧
    (judgeDual s).dict = s.dict ∧ (judgeDual s).commits = s.commits ∧ (judgeDual s).snaps = s.snaps ∧
    (judgeDual s).gleno = s.gleno ∧ (judgeDual s).optics = s.optics ∧ (judgeDual s).tb = s.tb ∧
    (judgeDual s).vern = s.vern ∧ (judgeDual s).refs = s.refs ∧ (judgeDual s).ptp = s.ptp ∧
    (judgeDual s).cal = s.cal ∧ (judgeDual s).fwd = s.fwd ∧ (judgeDual s).sw = s.sw ∧ (judgeDual s).egr = s.egr ∧
    (judgeDual s).pair = s.pair ∧ (judgeDual s).trust = s.trust ∧ (judgeDual s).wire = s.wire ∧
    (judgeDual s).now = s.now ∧ (judgeDual s).started = s.started ∧ (judgeDual s).draws = s.draws ∧
    (judgeDual s).pending = s.pending := by
  simp [judgeDual]

@[simp] theorem setRole_frame (r : PairRole) (epoch : Option (BitVec 32)) (s : State) :
    (setRole r epoch s).factory = s.factory ∧ (setRole r epoch s).pins = s.pins ∧ (setRole r epoch s).life = s.life ∧
    (setRole r epoch s).power = s.power ∧ (setRole r epoch s).dict = s.dict ∧
    (setRole r epoch s).commits = s.commits ∧ (setRole r epoch s).snaps = s.snaps ∧
    (setRole r epoch s).gleno = s.gleno ∧ (setRole r epoch s).obs = s.obs ∧ (setRole r epoch s).optics = s.optics ∧
    (setRole r epoch s).tb = s.tb ∧ (setRole r epoch s).vern = s.vern ∧ (setRole r epoch s).refs = s.refs ∧
    (setRole r epoch s).ptp = s.ptp ∧ (setRole r epoch s).cal = s.cal ∧ (setRole r epoch s).fwd = s.fwd ∧
    (setRole r epoch s).sw = s.sw ∧ (setRole r epoch s).egr = s.egr ∧ (setRole r epoch s).trust = s.trust ∧
    (setRole r epoch s).upd = s.upd ∧ (setRole r epoch s).wire = s.wire ∧ (setRole r epoch s).now = s.now ∧
    (setRole r epoch s).started = s.started ∧ (setRole r epoch s).draws = s.draws ∧
    (setRole r epoch s).pending = s.pending := by
  simp [setRole]

@[simp] theorem updLink_frame (j : Nat) (f : ShroudLink → ShroudLink) (s : State) :
    (updLink j f s).factory = s.factory ∧ (updLink j f s).pins = s.pins ∧ (updLink j f s).life = s.life ∧
    (updLink j f s).power = s.power ∧ (updLink j f s).regs = s.regs ∧ (updLink j f s).dict = s.dict ∧
    (updLink j f s).commits = s.commits ∧ (updLink j f s).snaps = s.snaps ∧ (updLink j f s).gleno = s.gleno ∧
    (updLink j f s).obs = s.obs ∧ (updLink j f s).optics = s.optics ∧ (updLink j f s).tb = s.tb ∧
    (updLink j f s).vern = s.vern ∧ (updLink j f s).refs = s.refs ∧ (updLink j f s).ptp = s.ptp ∧
    (updLink j f s).cal = s.cal ∧ (updLink j f s).fwd = s.fwd ∧ (updLink j f s).sw = s.sw ∧
    (updLink j f s).egr = s.egr ∧ (updLink j f s).trust = s.trust ∧ (updLink j f s).upd = s.upd ∧
    (updLink j f s).wire = s.wire ∧ (updLink j f s).now = s.now ∧ (updLink j f s).started = s.started ∧
    (updLink j f s).draws = s.draws ∧ (updLink j f s).pending = s.pending := by
  simp [updLink]

@[simp] theorem setDiverged_frame (s : State) :
    (setDiverged s).factory = s.factory ∧ (setDiverged s).life = s.life ∧ (setDiverged s).power = s.power ∧
    (setDiverged s).dict = s.dict ∧ (setDiverged s).snaps = s.snaps ∧ (setDiverged s).gleno = s.gleno ∧
    (setDiverged s).optics = s.optics ∧ (setDiverged s).tb = s.tb ∧ (setDiverged s).vern = s.vern ∧
    (setDiverged s).refs = s.refs ∧ (setDiverged s).ptp = s.ptp ∧ (setDiverged s).cal = s.cal ∧
    (setDiverged s).fwd = s.fwd ∧ (setDiverged s).sw = s.sw ∧ (setDiverged s).egr = s.egr ∧
    (setDiverged s).pair = s.pair ∧ (setDiverged s).trust = s.trust ∧ (setDiverged s).wire = s.wire ∧
    (setDiverged s).now = s.now ∧ (setDiverged s).started = s.started ∧ (setDiverged s).draws = s.draws ∧
    (setDiverged s).pending = s.pending := by
  simp [setDiverged]

@[simp] theorem bankGrant_frame (t : Nat) (s : State) :
    (bankGrant t s).factory = s.factory ∧ (bankGrant t s).life = s.life ∧ (bankGrant t s).dict = s.dict ∧
    (bankGrant t s).commits = s.commits ∧ (bankGrant t s).snaps = s.snaps ∧ (bankGrant t s).gleno = s.gleno ∧
    (bankGrant t s).tb = s.tb ∧ (bankGrant t s).vern = s.vern ∧ (bankGrant t s).refs = s.refs ∧
    (bankGrant t s).ptp = s.ptp ∧ (bankGrant t s).cal = s.cal ∧ (bankGrant t s).fwd = s.fwd ∧
    (bankGrant t s).sw = s.sw ∧ (bankGrant t s).egr = s.egr ∧ (bankGrant t s).pair = s.pair ∧
    (bankGrant t s).trust = s.trust ∧ (bankGrant t s).upd = s.upd ∧ (bankGrant t s).wire = s.wire ∧
    (bankGrant t s).now = s.now ∧ (bankGrant t s).started = s.started ∧ (bankGrant t s).draws = s.draws ∧
    (bankGrant t s).pending = s.pending := by
  simp [bankGrant]

@[simp] theorem preempt_frame (c : Nat) (s : State) :
    (preempt c s).factory = s.factory ∧ (preempt c s).pins = s.pins ∧ (preempt c s).life = s.life ∧
    (preempt c s).dict = s.dict ∧ (preempt c s).commits = s.commits ∧ (preempt c s).snaps = s.snaps ∧
    (preempt c s).gleno = s.gleno ∧ (preempt c s).optics = s.optics ∧ (preempt c s).tb = s.tb ∧
    (preempt c s).refs = s.refs ∧ (preempt c s).ptp = s.ptp ∧ (preempt c s).fwd = s.fwd ∧ (preempt c s).sw = s.sw ∧
    (preempt c s).egr = s.egr ∧ (preempt c s).pair = s.pair ∧ (preempt c s).trust = s.trust ∧
    (preempt c s).upd = s.upd ∧ (preempt c s).wire = s.wire ∧ (preempt c s).now = s.now ∧
    (preempt c s).started = s.started ∧ (preempt c s).draws = s.draws ∧ (preempt c s).pending = s.pending := by
  simp [preempt]

@[simp] theorem countGrant_frame (s : State) :
    (countGrant s).factory = s.factory ∧ (countGrant s).pins = s.pins ∧ (countGrant s).life = s.life ∧
    (countGrant s).power = s.power ∧ (countGrant s).dict = s.dict ∧ (countGrant s).commits = s.commits ∧
    (countGrant s).snaps = s.snaps ∧ (countGrant s).gleno = s.gleno ∧ (countGrant s).optics = s.optics ∧
    (countGrant s).tb = s.tb ∧ (countGrant s).vern = s.vern ∧ (countGrant s).refs = s.refs ∧
    (countGrant s).ptp = s.ptp ∧ (countGrant s).cal = s.cal ∧ (countGrant s).fwd = s.fwd ∧ (countGrant s).sw = s.sw ∧
    (countGrant s).egr = s.egr ∧ (countGrant s).pair = s.pair ∧ (countGrant s).trust = s.trust ∧
    (countGrant s).upd = s.upd ∧ (countGrant s).wire = s.wire ∧ (countGrant s).now = s.now ∧
    (countGrant s).started = s.started ∧ (countGrant s).draws = s.draws ∧ (countGrant s).pending = s.pending := by
  simp [countGrant]

@[simp] theorem startRun_frame (kind inst : Nat) (s : State) :
    (startRun kind inst s).factory = s.factory ∧ (startRun kind inst s).pins = s.pins ∧
    (startRun kind inst s).life = s.life ∧ (startRun kind inst s).dict = s.dict ∧
    (startRun kind inst s).commits = s.commits ∧ (startRun kind inst s).snaps = s.snaps ∧
    (startRun kind inst s).gleno = s.gleno ∧ (startRun kind inst s).optics = s.optics ∧
    (startRun kind inst s).tb = s.tb ∧ (startRun kind inst s).refs = s.refs ∧ (startRun kind inst s).ptp = s.ptp ∧
    (startRun kind inst s).fwd = s.fwd ∧ (startRun kind inst s).sw = s.sw ∧ (startRun kind inst s).egr = s.egr ∧
    (startRun kind inst s).pair = s.pair ∧ (startRun kind inst s).trust = s.trust ∧
    (startRun kind inst s).upd = s.upd ∧ (startRun kind inst s).wire = s.wire ∧ (startRun kind inst s).now = s.now ∧
    (startRun kind inst s).started = s.started ∧ (startRun kind inst s).draws = s.draws ∧
    (startRun kind inst s).pending = s.pending := by
  simp [startRun]

@[simp] theorem unfurlGranted_frame (c : Nat) (s : State) :
    (unfurlGranted c s).factory = s.factory ∧ (unfurlGranted c s).pins = s.pins ∧ (unfurlGranted c s).life = s.life ∧
    (unfurlGranted c s).regs = s.regs ∧ (unfurlGranted c s).dict = s.dict ∧ (unfurlGranted c s).commits = s.commits ∧
    (unfurlGranted c s).snaps = s.snaps ∧ (unfurlGranted c s).gleno = s.gleno ∧ (unfurlGranted c s).obs = s.obs ∧
    (unfurlGranted c s).tb = s.tb ∧ (unfurlGranted c s).vern = s.vern ∧ (unfurlGranted c s).refs = s.refs ∧
    (unfurlGranted c s).ptp = s.ptp ∧ (unfurlGranted c s).cal = s.cal ∧ (unfurlGranted c s).fwd = s.fwd ∧
    (unfurlGranted c s).sw = s.sw ∧ (unfurlGranted c s).egr = s.egr ∧ (unfurlGranted c s).pair = s.pair ∧
    (unfurlGranted c s).trust = s.trust ∧ (unfurlGranted c s).upd = s.upd ∧ (unfurlGranted c s).wire = s.wire ∧
    (unfurlGranted c s).now = s.now ∧ (unfurlGranted c s).started = s.started ∧ (unfurlGranted c s).draws = s.draws ∧
    (unfurlGranted c s).pending = s.pending := by
  simp [unfurlGranted]

@[simp] theorem applyGrant_frame (w : Waiting) (s : State) :
    (applyGrant w s).factory = s.factory ∧ (applyGrant w s).dict = s.dict ∧ (applyGrant w s).commits = s.commits ∧
    (applyGrant w s).snaps = s.snaps ∧ (applyGrant w s).gleno = s.gleno ∧ (applyGrant w s).tb = s.tb ∧
    (applyGrant w s).refs = s.refs ∧ (applyGrant w s).ptp = s.ptp ∧ (applyGrant w s).fwd = s.fwd ∧
    (applyGrant w s).sw = s.sw ∧ (applyGrant w s).egr = s.egr ∧ (applyGrant w s).pair = s.pair ∧
    (applyGrant w s).trust = s.trust ∧ (applyGrant w s).upd = s.upd ∧ (applyGrant w s).wire = s.wire ∧
    (applyGrant w s).now = s.now ∧ (applyGrant w s).started = s.started ∧ (applyGrant w s).draws = s.draws ∧
    (applyGrant w s).pending = s.pending := by
  unfold applyGrant; (try dsimp only); (repeat' split) <;> simp

@[simp] theorem coherent_frame (s : State) :
    (coherent s).factory = s.factory ∧ (coherent s).life = s.life ∧ (coherent s).power = s.power ∧
    (coherent s).dict = s.dict ∧ (coherent s).snaps = s.snaps ∧ (coherent s).gleno = s.gleno ∧
    (coherent s).optics = s.optics ∧ (coherent s).tb = s.tb ∧ (coherent s).vern = s.vern ∧
    (coherent s).refs = s.refs ∧ (coherent s).ptp = s.ptp ∧ (coherent s).cal = s.cal ∧ (coherent s).fwd = s.fwd ∧
    (coherent s).sw = s.sw ∧ (coherent s).egr = s.egr ∧ (coherent s).pair = s.pair ∧ (coherent s).trust = s.trust ∧
    (coherent s).upd = s.upd ∧ (coherent s).wire = s.wire ∧ (coherent s).now = s.now ∧
    (coherent s).started = s.started ∧ (coherent s).draws = s.draws ∧ (coherent s).pending = s.pending := by
  simp [coherent]

@[simp] theorem discardOf_frame (reason kind inst : Nat) (s : State) :
    (discardOf reason kind inst s).factory = s.factory ∧ (discardOf reason kind inst s).pins = s.pins ∧
    (discardOf reason kind inst s).life = s.life ∧ (discardOf reason kind inst s).dict = s.dict ∧
    (discardOf reason kind inst s).commits = s.commits ∧ (discardOf reason kind inst s).snaps = s.snaps ∧
    (discardOf reason kind inst s).gleno = s.gleno ∧ (discardOf reason kind inst s).optics = s.optics ∧
    (discardOf reason kind inst s).tb = s.tb ∧ (discardOf reason kind inst s).refs = s.refs ∧
    (discardOf reason kind inst s).ptp = s.ptp ∧ (discardOf reason kind inst s).fwd = s.fwd ∧
    (discardOf reason kind inst s).sw = s.sw ∧ (discardOf reason kind inst s).egr = s.egr ∧
    (discardOf reason kind inst s).pair = s.pair ∧ (discardOf reason kind inst s).trust = s.trust ∧
    (discardOf reason kind inst s).upd = s.upd ∧ (discardOf reason kind inst s).wire = s.wire ∧
    (discardOf reason kind inst s).now = s.now ∧ (discardOf reason kind inst s).started = s.started ∧
    (discardOf reason kind inst s).draws = s.draws ∧ (discardOf reason kind inst s).pending = s.pending := by
  simp [discardOf]

@[simp] theorem bridge_frame (n : Nat) (s : State) :
    (bridge n s).factory = s.factory ∧ (bridge n s).pins = s.pins ∧ (bridge n s).life = s.life ∧
    (bridge n s).power = s.power ∧ (bridge n s).regs = s.regs ∧ (bridge n s).dict = s.dict ∧
    (bridge n s).commits = s.commits ∧ (bridge n s).snaps = s.snaps ∧ (bridge n s).gleno = s.gleno ∧
    (bridge n s).obs = s.obs ∧ (bridge n s).optics = s.optics ∧ (bridge n s).tb = s.tb ∧ (bridge n s).vern = s.vern ∧
    (bridge n s).ptp = s.ptp ∧ (bridge n s).cal = s.cal ∧ (bridge n s).fwd = s.fwd ∧ (bridge n s).sw = s.sw ∧
    (bridge n s).egr = s.egr ∧ (bridge n s).pair = s.pair ∧ (bridge n s).trust = s.trust ∧ (bridge n s).upd = s.upd ∧
    (bridge n s).wire = s.wire ∧ (bridge n s).now = s.now ∧ (bridge n s).started = s.started ∧
    (bridge n s).draws = s.draws ∧ (bridge n s).pending = s.pending := by
  simp [bridge]

@[simp] theorem pathOut_frame (n : Nat) (err : Int) (s : State) :
    (pathOut n err s).factory = s.factory ∧ (pathOut n err s).life = s.life ∧ (pathOut n err s).power = s.power ∧
    (pathOut n err s).dict = s.dict ∧ (pathOut n err s).commits = s.commits ∧ (pathOut n err s).snaps = s.snaps ∧
    (pathOut n err s).gleno = s.gleno ∧ (pathOut n err s).optics = s.optics ∧ (pathOut n err s).vern = s.vern ∧
    (pathOut n err s).ptp = s.ptp ∧ (pathOut n err s).cal = s.cal ∧ (pathOut n err s).fwd = s.fwd ∧
    (pathOut n err s).sw = s.sw ∧ (pathOut n err s).egr = s.egr ∧ (pathOut n err s).pair = s.pair ∧
    (pathOut n err s).trust = s.trust ∧ (pathOut n err s).upd = s.upd ∧ (pathOut n err s).wire = s.wire ∧
    (pathOut n err s).now = s.now ∧ (pathOut n err s).started = s.started ∧ (pathOut n err s).draws = s.draws ∧
    (pathOut n err s).pending = s.pending := by
  simp [pathOut]

@[simp] theorem timeSwitch_frame (n k : Nat) (s : State) :
    (timeSwitch n k s).factory = s.factory ∧ (timeSwitch n k s).pins = s.pins ∧ (timeSwitch n k s).life = s.life ∧
    (timeSwitch n k s).power = s.power ∧ (timeSwitch n k s).dict = s.dict ∧ (timeSwitch n k s).commits = s.commits ∧
    (timeSwitch n k s).snaps = s.snaps ∧ (timeSwitch n k s).gleno = s.gleno ∧ (timeSwitch n k s).optics = s.optics ∧
    (timeSwitch n k s).ptp = s.ptp ∧ (timeSwitch n k s).cal = s.cal ∧ (timeSwitch n k s).fwd = s.fwd ∧
    (timeSwitch n k s).trust = s.trust ∧ (timeSwitch n k s).upd = s.upd ∧ (timeSwitch n k s).wire = s.wire ∧
    (timeSwitch n k s).now = s.now ∧ (timeSwitch n k s).draws = s.draws ∧ (timeSwitch n k s).pending = s.pending := by
  simp [timeSwitch]

@[simp] theorem startSwitch_frame (n k : Nat) (s : State) :
    (startSwitch n k s).factory = s.factory ∧ (startSwitch n k s).pins = s.pins ∧ (startSwitch n k s).life = s.life ∧
    (startSwitch n k s).power = s.power ∧ (startSwitch n k s).dict = s.dict ∧
    (startSwitch n k s).commits = s.commits ∧ (startSwitch n k s).snaps = s.snaps ∧
    (startSwitch n k s).gleno = s.gleno ∧ (startSwitch n k s).optics = s.optics ∧ (startSwitch n k s).ptp = s.ptp ∧
    (startSwitch n k s).cal = s.cal ∧ (startSwitch n k s).fwd = s.fwd ∧ (startSwitch n k s).trust = s.trust ∧
    (startSwitch n k s).upd = s.upd ∧ (startSwitch n k s).wire = s.wire ∧ (startSwitch n k s).now = s.now ∧
    (startSwitch n k s).draws = s.draws ∧ (startSwitch n k s).pending = s.pending := by
  simp [startSwitch]

@[simp] theorem evalAcquiring_frame (n k0 : Nat) (s : State) :
    (evalAcquiring n k0 s).factory = s.factory ∧ (evalAcquiring n k0 s).life = s.life ∧
    (evalAcquiring n k0 s).power = s.power ∧ (evalAcquiring n k0 s).dict = s.dict ∧
    (evalAcquiring n k0 s).commits = s.commits ∧ (evalAcquiring n k0 s).snaps = s.snaps ∧
    (evalAcquiring n k0 s).gleno = s.gleno ∧ (evalAcquiring n k0 s).optics = s.optics ∧
    (evalAcquiring n k0 s).ptp = s.ptp ∧ (evalAcquiring n k0 s).cal = s.cal ∧ (evalAcquiring n k0 s).fwd = s.fwd ∧
    (evalAcquiring n k0 s).trust = s.trust ∧ (evalAcquiring n k0 s).upd = s.upd ∧
    (evalAcquiring n k0 s).wire = s.wire ∧ (evalAcquiring n k0 s).now = s.now ∧
    (evalAcquiring n k0 s).draws = s.draws ∧ (evalAcquiring n k0 s).pending = s.pending := by
  unfold evalAcquiring; (try dsimp only); (repeat' split) <;> simp

@[simp] theorem unbridge_frame (n : Nat) (s : State) :
    (unbridge n s).factory = s.factory ∧ (unbridge n s).pins = s.pins ∧ (unbridge n s).life = s.life ∧
    (unbridge n s).power = s.power ∧ (unbridge n s).regs = s.regs ∧ (unbridge n s).dict = s.dict ∧
    (unbridge n s).commits = s.commits ∧ (unbridge n s).snaps = s.snaps ∧ (unbridge n s).gleno = s.gleno ∧
    (unbridge n s).obs = s.obs ∧ (unbridge n s).optics = s.optics ∧ (unbridge n s).tb = s.tb ∧
    (unbridge n s).vern = s.vern ∧ (unbridge n s).ptp = s.ptp ∧ (unbridge n s).cal = s.cal ∧
    (unbridge n s).fwd = s.fwd ∧ (unbridge n s).sw = s.sw ∧ (unbridge n s).egr = s.egr ∧
    (unbridge n s).pair = s.pair ∧ (unbridge n s).trust = s.trust ∧ (unbridge n s).upd = s.upd ∧
    (unbridge n s).wire = s.wire ∧ (unbridge n s).now = s.now ∧ (unbridge n s).started = s.started ∧
    (unbridge n s).draws = s.draws ∧ (unbridge n s).pending = s.pending := by
  unfold unbridge; (try dsimp only); (repeat' split) <;> simp

@[simp] theorem evalLocked_frame (n k0 : Nat) (s : State) :
    (evalLocked n k0 s).factory = s.factory ∧ (evalLocked n k0 s).life = s.life ∧
    (evalLocked n k0 s).power = s.power ∧ (evalLocked n k0 s).dict = s.dict ∧
    (evalLocked n k0 s).commits = s.commits ∧ (evalLocked n k0 s).snaps = s.snaps ∧
    (evalLocked n k0 s).gleno = s.gleno ∧ (evalLocked n k0 s).optics = s.optics ∧ (evalLocked n k0 s).ptp = s.ptp ∧
    (evalLocked n k0 s).cal = s.cal ∧ (evalLocked n k0 s).fwd = s.fwd ∧ (evalLocked n k0 s).trust = s.trust ∧
    (evalLocked n k0 s).upd = s.upd ∧ (evalLocked n k0 s).wire = s.wire ∧ (evalLocked n k0 s).now = s.now ∧
    (evalLocked n k0 s).draws = s.draws ∧ (evalLocked n k0 s).pending = s.pending := by
  unfold evalLocked; (try dsimp only); (repeat' split) <;> simp

@[simp] theorem evalPath_frame (n : Nat) (s : State) :
    (evalPath n s).factory = s.factory ∧ (evalPath n s).life = s.life ∧ (evalPath n s).power = s.power ∧
    (evalPath n s).dict = s.dict ∧ (evalPath n s).commits = s.commits ∧ (evalPath n s).snaps = s.snaps ∧
    (evalPath n s).gleno = s.gleno ∧ (evalPath n s).optics = s.optics ∧ (evalPath n s).ptp = s.ptp ∧
    (evalPath n s).cal = s.cal ∧ (evalPath n s).fwd = s.fwd ∧ (evalPath n s).trust = s.trust ∧
    (evalPath n s).upd = s.upd ∧ (evalPath n s).wire = s.wire ∧ (evalPath n s).now = s.now ∧
    (evalPath n s).draws = s.draws ∧ (evalPath n s).pending = s.pending := by
  unfold evalPath; (try dsimp only); (repeat' split) <;> simp

@[simp] theorem leaveMate_frame (s : State) (n : Nat) :
    (leaveMate s n).factory = s.factory ∧ (leaveMate s n).life = s.life ∧ (leaveMate s n).power = s.power ∧
    (leaveMate s n).dict = s.dict ∧ (leaveMate s n).commits = s.commits ∧ (leaveMate s n).snaps = s.snaps ∧
    (leaveMate s n).gleno = s.gleno ∧ (leaveMate s n).optics = s.optics ∧ (leaveMate s n).ptp = s.ptp ∧
    (leaveMate s n).cal = s.cal ∧ (leaveMate s n).fwd = s.fwd ∧ (leaveMate s n).trust = s.trust ∧
    (leaveMate s n).upd = s.upd ∧ (leaveMate s n).wire = s.wire ∧ (leaveMate s n).now = s.now ∧
    (leaveMate s n).draws = s.draws ∧ (leaveMate s n).pending = s.pending := by
  simp [leaveMate]

@[simp] theorem seedFrom_frame (b : List Byte) (s : State) :
    (seedFrom b s).factory = s.factory ∧ (seedFrom b s).pins = s.pins ∧ (seedFrom b s).life = s.life ∧
    (seedFrom b s).power = s.power ∧ (seedFrom b s).regs = s.regs ∧ (seedFrom b s).dict = s.dict ∧
    (seedFrom b s).commits = s.commits ∧ (seedFrom b s).snaps = s.snaps ∧ (seedFrom b s).gleno = s.gleno ∧
    (seedFrom b s).obs = s.obs ∧ (seedFrom b s).optics = s.optics ∧ (seedFrom b s).vern = s.vern ∧
    (seedFrom b s).ptp = s.ptp ∧ (seedFrom b s).cal = s.cal ∧ (seedFrom b s).fwd = s.fwd ∧ (seedFrom b s).sw = s.sw ∧
    (seedFrom b s).egr = s.egr ∧ (seedFrom b s).trust = s.trust ∧ (seedFrom b s).upd = s.upd ∧
    (seedFrom b s).wire = s.wire ∧ (seedFrom b s).now = s.now ∧ (seedFrom b s).started = s.started ∧
    (seedFrom b s).draws = s.draws ∧ (seedFrom b s).pending = s.pending := by
  simp [seedFrom]

@[simp] theorem beginStart_frame (cause : BitVec 8) (since : Nat) (s : State) :
    (beginStart cause since s).factory = s.factory ∧ (beginStart cause since s).power = s.power ∧
    (beginStart cause since s).dict = s.dict ∧ (beginStart cause since s).commits = s.commits ∧
    (beginStart cause since s).snaps = s.snaps ∧ (beginStart cause since s).gleno = s.gleno ∧
    (beginStart cause since s).optics = s.optics ∧ (beginStart cause since s).tb = s.tb ∧
    (beginStart cause since s).vern = s.vern ∧ (beginStart cause since s).refs = s.refs ∧
    (beginStart cause since s).ptp = s.ptp ∧ (beginStart cause since s).cal = s.cal ∧
    (beginStart cause since s).fwd = s.fwd ∧ (beginStart cause since s).sw = s.sw ∧
    (beginStart cause since s).egr = s.egr ∧ (beginStart cause since s).pair = s.pair ∧
    (beginStart cause since s).upd = s.upd ∧ (beginStart cause since s).wire = s.wire ∧
    (beginStart cause since s).now = s.now ∧ (beginStart cause since s).draws = s.draws ∧
    (beginStart cause since s).pending = s.pending := by
  simp [beginStart]

@[simp] theorem shutFromStep3_frame (s : State) :
    (shutFromStep3 s).factory = s.factory ∧ (shutFromStep3 s).power = s.power ∧ (shutFromStep3 s).dict = s.dict ∧
    (shutFromStep3 s).commits = s.commits ∧ (shutFromStep3 s).snaps = s.snaps ∧ (shutFromStep3 s).gleno = s.gleno ∧
    (shutFromStep3 s).optics = s.optics ∧ (shutFromStep3 s).tb = s.tb ∧ (shutFromStep3 s).vern = s.vern ∧
    (shutFromStep3 s).refs = s.refs ∧ (shutFromStep3 s).cal = s.cal ∧ (shutFromStep3 s).fwd = s.fwd ∧
    (shutFromStep3 s).sw = s.sw ∧ (shutFromStep3 s).egr = s.egr ∧ (shutFromStep3 s).pair = s.pair ∧
    (shutFromStep3 s).trust = s.trust ∧ (shutFromStep3 s).now = s.now ∧ (shutFromStep3 s).started = s.started ∧
    (shutFromStep3 s).draws = s.draws ∧ (shutFromStep3 s).pending = s.pending := by
  simp [shutFromStep3]

@[simp] theorem beginStop_frame (s : State) :
    (beginStop s).factory = s.factory ∧ (beginStop s).power = s.power ∧ (beginStop s).dict = s.dict ∧
    (beginStop s).commits = s.commits ∧ (beginStop s).snaps = s.snaps ∧ (beginStop s).gleno = s.gleno ∧
    (beginStop s).optics = s.optics ∧ (beginStop s).tb = s.tb ∧ (beginStop s).vern = s.vern ∧
    (beginStop s).refs = s.refs ∧ (beginStop s).cal = s.cal ∧ (beginStop s).fwd = s.fwd ∧ (beginStop s).sw = s.sw ∧
    (beginStop s).egr = s.egr ∧ (beginStop s).pair = s.pair ∧ (beginStop s).trust = s.trust ∧
    (beginStop s).now = s.now ∧ (beginStop s).started = s.started ∧ (beginStop s).draws = s.draws ∧
    (beginStop s).pending = s.pending := by
  simp [beginStop]

@[simp] theorem setField_frame (idx sub : Nat) (v : List Byte) (s : State) :
    (setField idx sub v s).factory = s.factory ∧ (setField idx sub v s).pins = s.pins ∧
    (setField idx sub v s).life = s.life ∧ (setField idx sub v s).power = s.power ∧
    (setField idx sub v s).regs = s.regs ∧ (setField idx sub v s).commits = s.commits ∧
    (setField idx sub v s).snaps = s.snaps ∧ (setField idx sub v s).obs = s.obs ∧
    (setField idx sub v s).optics = s.optics ∧ (setField idx sub v s).tb = s.tb ∧
    (setField idx sub v s).vern = s.vern ∧ (setField idx sub v s).refs = s.refs ∧
    (setField idx sub v s).ptp = s.ptp ∧ (setField idx sub v s).cal = s.cal ∧ (setField idx sub v s).fwd = s.fwd ∧
    (setField idx sub v s).sw = s.sw ∧ (setField idx sub v s).egr = s.egr ∧ (setField idx sub v s).pair = s.pair ∧
    (setField idx sub v s).trust = s.trust ∧ (setField idx sub v s).upd = s.upd ∧
    (setField idx sub v s).wire = s.wire ∧ (setField idx sub v s).now = s.now ∧
    (setField idx sub v s).started = s.started ∧ (setField idx sub v s).draws = s.draws ∧
    (setField idx sub v s).pending = s.pending := by
  simp [setField]

@[simp] theorem settlePorts_frame (cs : List Nat) (s : State) :
    (settlePorts cs s).factory = s.factory ∧ (settlePorts cs s).life = s.life ∧ (settlePorts cs s).power = s.power ∧
    (settlePorts cs s).dict = s.dict ∧ (settlePorts cs s).commits = s.commits ∧ (settlePorts cs s).snaps = s.snaps ∧
    (settlePorts cs s).gleno = s.gleno ∧ (settlePorts cs s).optics = s.optics ∧ (settlePorts cs s).tb = s.tb ∧
    (settlePorts cs s).vern = s.vern ∧ (settlePorts cs s).refs = s.refs ∧ (settlePorts cs s).cal = s.cal ∧
    (settlePorts cs s).fwd = s.fwd ∧ (settlePorts cs s).sw = s.sw ∧ (settlePorts cs s).egr = s.egr ∧
    (settlePorts cs s).pair = s.pair ∧ (settlePorts cs s).trust = s.trust ∧ (settlePorts cs s).wire = s.wire ∧
    (settlePorts cs s).now = s.now ∧ (settlePorts cs s).started = s.started ∧ (settlePorts cs s).draws = s.draws ∧
    (settlePorts cs s).pending = s.pending := by
  simp [settlePorts]

@[simp] theorem countRefusal_frame (s : State) :
    (countRefusal s).factory = s.factory ∧ (countRefusal s).pins = s.pins ∧ (countRefusal s).life = s.life ∧
    (countRefusal s).power = s.power ∧ (countRefusal s).dict = s.dict ∧ (countRefusal s).commits = s.commits ∧
    (countRefusal s).snaps = s.snaps ∧ (countRefusal s).gleno = s.gleno ∧ (countRefusal s).optics = s.optics ∧
    (countRefusal s).tb = s.tb ∧ (countRefusal s).vern = s.vern ∧ (countRefusal s).refs = s.refs ∧
    (countRefusal s).ptp = s.ptp ∧ (countRefusal s).cal = s.cal ∧ (countRefusal s).fwd = s.fwd ∧
    (countRefusal s).sw = s.sw ∧ (countRefusal s).egr = s.egr ∧ (countRefusal s).pair = s.pair ∧
    (countRefusal s).trust = s.trust ∧ (countRefusal s).upd = s.upd ∧ (countRefusal s).wire = s.wire ∧
    (countRefusal s).now = s.now ∧ (countRefusal s).started = s.started ∧ (countRefusal s).draws = s.draws ∧
    (countRefusal s).pending = s.pending := by
  simp [countRefusal]

@[simp] theorem bookTile_frame (t : Nat) (s : State) :
    (bookTile t s).factory = s.factory ∧ (bookTile t s).pins = s.pins ∧ (bookTile t s).life = s.life ∧
    (bookTile t s).regs = s.regs ∧ (bookTile t s).dict = s.dict ∧ (bookTile t s).commits = s.commits ∧
    (bookTile t s).snaps = s.snaps ∧ (bookTile t s).gleno = s.gleno ∧ (bookTile t s).obs = s.obs ∧
    (bookTile t s).optics = s.optics ∧ (bookTile t s).tb = s.tb ∧ (bookTile t s).vern = s.vern ∧
    (bookTile t s).refs = s.refs ∧ (bookTile t s).ptp = s.ptp ∧ (bookTile t s).cal = s.cal ∧
    (bookTile t s).fwd = s.fwd ∧ (bookTile t s).sw = s.sw ∧ (bookTile t s).egr = s.egr ∧
    (bookTile t s).pair = s.pair ∧ (bookTile t s).trust = s.trust ∧ (bookTile t s).upd = s.upd ∧
    (bookTile t s).wire = s.wire ∧ (bookTile t s).now = s.now ∧ (bookTile t s).started = s.started ∧
    (bookTile t s).draws = s.draws ∧ (bookTile t s).pending = s.pending := by
  simp [bookTile]

@[simp] theorem countN_frame (idx sub n : Nat) (s : State) :
    (countN idx sub n s).factory = s.factory ∧ (countN idx sub n s).pins = s.pins ∧
    (countN idx sub n s).life = s.life ∧ (countN idx sub n s).power = s.power ∧ (countN idx sub n s).dict = s.dict ∧
    (countN idx sub n s).commits = s.commits ∧ (countN idx sub n s).snaps = s.snaps ∧
    (countN idx sub n s).gleno = s.gleno ∧ (countN idx sub n s).optics = s.optics ∧ (countN idx sub n s).tb = s.tb ∧
    (countN idx sub n s).vern = s.vern ∧ (countN idx sub n s).refs = s.refs ∧ (countN idx sub n s).ptp = s.ptp ∧
    (countN idx sub n s).cal = s.cal ∧ (countN idx sub n s).fwd = s.fwd ∧ (countN idx sub n s).sw = s.sw ∧
    (countN idx sub n s).egr = s.egr ∧ (countN idx sub n s).pair = s.pair ∧ (countN idx sub n s).trust = s.trust ∧
    (countN idx sub n s).upd = s.upd ∧ (countN idx sub n s).wire = s.wire ∧ (countN idx sub n s).now = s.now ∧
    (countN idx sub n s).started = s.started ∧ (countN idx sub n s).draws = s.draws ∧
    (countN idx sub n s).pending = s.pending := by
  simp [countN]

@[simp] theorem fabPut_frame (k : Copy) (s : State) :
    (fabPut k s).factory = s.factory ∧ (fabPut k s).pins = s.pins ∧ (fabPut k s).life = s.life ∧
    (fabPut k s).power = s.power ∧ (fabPut k s).dict = s.dict ∧ (fabPut k s).commits = s.commits ∧
    (fabPut k s).snaps = s.snaps ∧ (fabPut k s).gleno = s.gleno ∧ (fabPut k s).optics = s.optics ∧
    (fabPut k s).tb = s.tb ∧ (fabPut k s).vern = s.vern ∧ (fabPut k s).refs = s.refs ∧ (fabPut k s).ptp = s.ptp ∧
    (fabPut k s).cal = s.cal ∧ (fabPut k s).fwd = s.fwd ∧ (fabPut k s).egr = s.egr ∧ (fabPut k s).pair = s.pair ∧
    (fabPut k s).trust = s.trust ∧ (fabPut k s).upd = s.upd ∧ (fabPut k s).wire = s.wire ∧ (fabPut k s).now = s.now ∧
    (fabPut k s).started = s.started ∧ (fabPut k s).draws = s.draws ∧ (fabPut k s).pending = s.pending := by
  simp [fabPut]

@[simp] theorem fwdDrop_frame (r : Nat) (s : State) :
    (fwdDrop r s).factory = s.factory ∧ (fwdDrop r s).pins = s.pins ∧ (fwdDrop r s).life = s.life ∧
    (fwdDrop r s).power = s.power ∧ (fwdDrop r s).dict = s.dict ∧ (fwdDrop r s).commits = s.commits ∧
    (fwdDrop r s).snaps = s.snaps ∧ (fwdDrop r s).gleno = s.gleno ∧ (fwdDrop r s).optics = s.optics ∧
    (fwdDrop r s).tb = s.tb ∧ (fwdDrop r s).vern = s.vern ∧ (fwdDrop r s).refs = s.refs ∧ (fwdDrop r s).ptp = s.ptp ∧
    (fwdDrop r s).cal = s.cal ∧ (fwdDrop r s).fwd = s.fwd ∧ (fwdDrop r s).sw = s.sw ∧ (fwdDrop r s).egr = s.egr ∧
    (fwdDrop r s).pair = s.pair ∧ (fwdDrop r s).trust = s.trust ∧ (fwdDrop r s).upd = s.upd ∧
    (fwdDrop r s).wire = s.wire ∧ (fwdDrop r s).now = s.now ∧ (fwdDrop r s).started = s.started ∧
    (fwdDrop r s).draws = s.draws ∧ (fwdDrop r s).pending = s.pending := by
  simp [fwdDrop]

@[simp] theorem endHolds_frame (s : State) :
    (endHolds s).factory = s.factory ∧ (endHolds s).pins = s.pins ∧ (endHolds s).life = s.life ∧
    (endHolds s).power = s.power ∧ (endHolds s).regs = s.regs ∧ (endHolds s).dict = s.dict ∧
    (endHolds s).commits = s.commits ∧ (endHolds s).snaps = s.snaps ∧ (endHolds s).gleno = s.gleno ∧
    (endHolds s).obs = s.obs ∧ (endHolds s).optics = s.optics ∧ (endHolds s).tb = s.tb ∧ (endHolds s).vern = s.vern ∧
    (endHolds s).refs = s.refs ∧ (endHolds s).cal = s.cal ∧ (endHolds s).fwd = s.fwd ∧ (endHolds s).sw = s.sw ∧
    (endHolds s).egr = s.egr ∧ (endHolds s).pair = s.pair ∧ (endHolds s).trust = s.trust ∧ (endHolds s).upd = s.upd ∧
    (endHolds s).wire = s.wire ∧ (endHolds s).now = s.now ∧ (endHolds s).started = s.started ∧
    (endHolds s).draws = s.draws ∧ (endHolds s).pending = s.pending := by
  simp [endHolds]

@[simp] theorem endSampling_frame (reason : Nat) (s : State) :
    (endSampling reason s).factory = s.factory ∧ (endSampling reason s).pins = s.pins ∧
    (endSampling reason s).life = s.life ∧ (endSampling reason s).regs = s.regs ∧
    (endSampling reason s).dict = s.dict ∧ (endSampling reason s).commits = s.commits ∧
    (endSampling reason s).snaps = s.snaps ∧ (endSampling reason s).gleno = s.gleno ∧
    (endSampling reason s).optics = s.optics ∧ (endSampling reason s).tb = s.tb ∧
    (endSampling reason s).vern = s.vern ∧ (endSampling reason s).refs = s.refs ∧
    (endSampling reason s).ptp = s.ptp ∧ (endSampling reason s).cal = s.cal ∧ (endSampling reason s).fwd = s.fwd ∧
    (endSampling reason s).sw = s.sw ∧ (endSampling reason s).egr = s.egr ∧ (endSampling reason s).pair = s.pair ∧
    (endSampling reason s).trust = s.trust ∧ (endSampling reason s).upd = s.upd ∧
    (endSampling reason s).wire = s.wire ∧ (endSampling reason s).now = s.now ∧
    (endSampling reason s).started = s.started ∧ (endSampling reason s).draws = s.draws ∧
    (endSampling reason s).pending = s.pending := by
  simp [endSampling]

@[simp] theorem endBackground_frame (reason : Nat) (s : State) :
    (endBackground reason s).factory = s.factory ∧ (endBackground reason s).life = s.life ∧
    (endBackground reason s).commits = s.commits ∧ (endBackground reason s).snaps = s.snaps ∧
    (endBackground reason s).tb = s.tb ∧ (endBackground reason s).refs = s.refs ∧
    (endBackground reason s).fwd = s.fwd ∧ (endBackground reason s).pair = s.pair ∧
    (endBackground reason s).trust = s.trust ∧ (endBackground reason s).now = s.now ∧
    (endBackground reason s).started = s.started ∧ (endBackground reason s).draws = s.draws ∧
    (endBackground reason s).pending = s.pending := by
  simp [endBackground]

@[simp] theorem enterReduced_frame (c : Nat) (s : State) :
    (enterReduced c s).factory = s.factory ∧ (enterReduced c s).pins = s.pins ∧ (enterReduced c s).life = s.life ∧
    (enterReduced c s).power = s.power ∧ (enterReduced c s).dict = s.dict ∧ (enterReduced c s).commits = s.commits ∧
    (enterReduced c s).snaps = s.snaps ∧ (enterReduced c s).gleno = s.gleno ∧ (enterReduced c s).optics = s.optics ∧
    (enterReduced c s).tb = s.tb ∧ (enterReduced c s).vern = s.vern ∧ (enterReduced c s).refs = s.refs ∧
    (enterReduced c s).ptp = s.ptp ∧ (enterReduced c s).cal = s.cal ∧ (enterReduced c s).fwd = s.fwd ∧
    (enterReduced c s).sw = s.sw ∧ (enterReduced c s).egr = s.egr ∧ (enterReduced c s).pair = s.pair ∧
    (enterReduced c s).trust = s.trust ∧ (enterReduced c s).upd = s.upd ∧ (enterReduced c s).wire = s.wire ∧
    (enterReduced c s).now = s.now ∧ (enterReduced c s).started = s.started ∧ (enterReduced c s).draws = s.draws ∧
    (enterReduced c s).pending = s.pending := by
  simp [enterReduced]

@[simp] theorem euResult_frame (u : Nat) (iv : Int) (fl : BitVec 8) (ready : Option Int) (s : State) :
    (euResult u iv fl ready s).factory = s.factory ∧ (euResult u iv fl ready s).pins = s.pins ∧
    (euResult u iv fl ready s).life = s.life ∧ (euResult u iv fl ready s).power = s.power ∧
    (euResult u iv fl ready s).dict = s.dict ∧ (euResult u iv fl ready s).commits = s.commits ∧
    (euResult u iv fl ready s).snaps = s.snaps ∧ (euResult u iv fl ready s).gleno = s.gleno ∧
    (euResult u iv fl ready s).optics = s.optics ∧ (euResult u iv fl ready s).tb = s.tb ∧
    (euResult u iv fl ready s).refs = s.refs ∧ (euResult u iv fl ready s).ptp = s.ptp ∧
    (euResult u iv fl ready s).cal = s.cal ∧ (euResult u iv fl ready s).fwd = s.fwd ∧
    (euResult u iv fl ready s).sw = s.sw ∧ (euResult u iv fl ready s).egr = s.egr ∧
    (euResult u iv fl ready s).pair = s.pair ∧ (euResult u iv fl ready s).trust = s.trust ∧
    (euResult u iv fl ready s).upd = s.upd ∧ (euResult u iv fl ready s).wire = s.wire ∧
    (euResult u iv fl ready s).now = s.now ∧ (euResult u iv fl ready s).started = s.started ∧
    (euResult u iv fl ready s).draws = s.draws ∧ (euResult u iv fl ready s).pending = s.pending := by
  simp [euResult]

@[simp] theorem grant_frame (w : Waiting) (s : State) :
    (grant w s).factory = s.factory ∧ (grant w s).dict = s.dict ∧ (grant w s).commits = s.commits ∧
    (grant w s).snaps = s.snaps ∧ (grant w s).gleno = s.gleno ∧ (grant w s).tb = s.tb ∧ (grant w s).refs = s.refs ∧
    (grant w s).fwd = s.fwd ∧ (grant w s).pair = s.pair ∧ (grant w s).trust = s.trust ∧ (grant w s).now = s.now ∧
    (grant w s).started = s.started ∧ (grant w s).draws = s.draws ∧ (grant w s).pending = s.pending := by
  unfold grant; (try dsimp only); (repeat' split) <;> simp

@[simp] theorem preempt3_frame (c : Nat) (s : State) :
    (preempt3 c s).factory = s.factory ∧ (preempt3 c s).pins = s.pins ∧ (preempt3 c s).life = s.life ∧
    (preempt3 c s).dict = s.dict ∧ (preempt3 c s).commits = s.commits ∧ (preempt3 c s).snaps = s.snaps ∧
    (preempt3 c s).gleno = s.gleno ∧ (preempt3 c s).optics = s.optics ∧ (preempt3 c s).tb = s.tb ∧
    (preempt3 c s).refs = s.refs ∧ (preempt3 c s).ptp = s.ptp ∧ (preempt3 c s).fwd = s.fwd ∧
    (preempt3 c s).sw = s.sw ∧ (preempt3 c s).egr = s.egr ∧ (preempt3 c s).pair = s.pair ∧
    (preempt3 c s).trust = s.trust ∧ (preempt3 c s).upd = s.upd ∧ (preempt3 c s).wire = s.wire ∧
    (preempt3 c s).now = s.now ∧ (preempt3 c s).started = s.started ∧ (preempt3 c s).draws = s.draws ∧
    (preempt3 c s).pending = s.pending := by
  simp [preempt3]

@[simp] theorem voids_frame (n : Nat) (s : State) :
    (voids n s).factory = s.factory ∧ (voids n s).pins = s.pins ∧ (voids n s).life = s.life ∧
    (voids n s).power = s.power ∧ (voids n s).dict = s.dict ∧ (voids n s).commits = s.commits ∧
    (voids n s).snaps = s.snaps ∧ (voids n s).gleno = s.gleno ∧ (voids n s).optics = s.optics ∧
    (voids n s).tb = s.tb ∧ (voids n s).vern = s.vern ∧ (voids n s).refs = s.refs ∧ (voids n s).ptp = s.ptp ∧
    (voids n s).cal = s.cal ∧ (voids n s).fwd = s.fwd ∧ (voids n s).sw = s.sw ∧ (voids n s).egr = s.egr ∧
    (voids n s).pair = s.pair ∧ (voids n s).trust = s.trust ∧ (voids n s).upd = s.upd ∧ (voids n s).wire = s.wire ∧
    (voids n s).now = s.now ∧ (voids n s).started = s.started ∧ (voids n s).draws = s.draws ∧
    (voids n s).pending = s.pending := by
  simp [voids]

@[simp] theorem ovfLevel_frame (s : State) :
    (ovfLevel s).factory = s.factory ∧ (ovfLevel s).pins = s.pins ∧ (ovfLevel s).life = s.life ∧
    (ovfLevel s).regs = s.regs ∧ (ovfLevel s).dict = s.dict ∧ (ovfLevel s).commits = s.commits ∧
    (ovfLevel s).snaps = s.snaps ∧ (ovfLevel s).gleno = s.gleno ∧ (ovfLevel s).obs = s.obs ∧
    (ovfLevel s).optics = s.optics ∧ (ovfLevel s).tb = s.tb ∧ (ovfLevel s).vern = s.vern ∧
    (ovfLevel s).refs = s.refs ∧ (ovfLevel s).ptp = s.ptp ∧ (ovfLevel s).cal = s.cal ∧ (ovfLevel s).fwd = s.fwd ∧
    (ovfLevel s).egr = s.egr ∧ (ovfLevel s).pair = s.pair ∧ (ovfLevel s).trust = s.trust ∧ (ovfLevel s).upd = s.upd ∧
    (ovfLevel s).wire = s.wire ∧ (ovfLevel s).now = s.now ∧ (ovfLevel s).started = s.started ∧
    (ovfLevel s).draws = s.draws ∧ (ovfLevel s).pending = s.pending := by
  simp [ovfLevel]

@[simp] theorem sparPower_frame (p : SparPower) (s : State) (e : Nat) :
    (sparPower p s e).factory = s.factory ∧ (sparPower p s e).pins = s.pins ∧ (sparPower p s e).regs = s.regs ∧
    (sparPower p s e).dict = s.dict ∧ (sparPower p s e).commits = s.commits ∧ (sparPower p s e).snaps = s.snaps ∧
    (sparPower p s e).gleno = s.gleno ∧ (sparPower p s e).obs = s.obs ∧ (sparPower p s e).optics = s.optics ∧
    (sparPower p s e).tb = s.tb ∧ (sparPower p s e).vern = s.vern ∧ (sparPower p s e).refs = s.refs ∧
    (sparPower p s e).ptp = s.ptp ∧ (sparPower p s e).cal = s.cal ∧ (sparPower p s e).fwd = s.fwd ∧
    (sparPower p s e).sw = s.sw ∧ (sparPower p s e).egr = s.egr ∧ (sparPower p s e).pair = s.pair ∧
    (sparPower p s e).trust = s.trust ∧ (sparPower p s e).upd = s.upd ∧ (sparPower p s e).wire = s.wire ∧
    (sparPower p s e).now = s.now ∧ (sparPower p s e).started = s.started ∧ (sparPower p s e).draws = s.draws ∧
    (sparPower p s e).pending = s.pending := by
  unfold sparPower; (try dsimp only); (repeat' split) <;> simp

end Sys2Proof.Machine
end

