-- ==== Sys2Proof/Laws/Ops.lean ====
section
/-!
SUPPORT. What the shared operations do: counters, alarms, ledger entries, requests and their answers.
-/
namespace Sys2Proof.Machine

/-! ## Counters -/

theorem get_ovf_counts (a b : Nat) (x y : BitVec 32) (t : Tab (BitVec 32)) (h : a ≠ b) :
    Tab.get 0 a (Tab.put 0 b y (Tab.put 0 a x t)) = x := by
  rw [Tab.get_put_ne h]; simp

/-- Counting n events raises word w of the object by n. -/
theorem get_countW (idx sub w n : Nat) (s : State) (h : cellKey idx sub w ≠ cellKey 0x7015 4 0) :
    Tab.get 0 (cellKey idx sub w) (countW idx sub w n s).obs.counts =
      BitVec.ofNat 32 ((Tab.get 0 (cellKey idx sub w) s.obs.counts).toNat + n) := by
  unfold countW
  dsimp only
  split
  · simp
  · simp only [Tab.get_put_ne h]; simp

/-- The first cells of two objects differ as their keys do. -/
theorem cellKey_ne {a b i j : Nat} (h : key a b ≠ key i j) : cellKey a b 0 ≠ cellKey i j 0 := by
  intro e
  apply h
  have e' : key a b * 256 + 0 = key i j * 256 + 0 := e
  exact Nat.eq_of_mul_eq_mul_right (by decide : 0 < 256) (by simpa using e')

/-- Counting one event raises a one-word object by one, modulo 2^32. -/
theorem countOf_count (idx sub : Nat) (s : State) (h : key idx sub ≠ key 0x7015 4) :
    countOf idx sub (count idx sub s) = countOf idx sub s + 1 := by
  have h' := cellKey_ne h
  unfold countOf count
  rw [get_countW _ _ _ _ _ h']
  apply BitVec.eq_of_toNat_eq
  simp

/-- Counting leaves every other object as it was. -/
theorem countOf_count_ne (i j a b : Nat) (s : State) (h : key a b ≠ key i j) (h' : key a b ≠ key 0x7015 4) :
    countOf a b (count i j s) = countOf a b s := by
  have h1 := cellKey_ne h
  have h2 := cellKey_ne h'
  unfold countOf count countW
  dsimp only
  split
  · simp only [Tab.get_put_ne h1]
  · simp only [Tab.get_put_ne h2, Tab.get_put_ne h1]

@[simp] theorem count_alarms (i j : Nat) (s : State) : (count i j s).obs.alarms = s.obs.alarms := by
  unfold count countW; dsimp only; split <;> rfl

@[simp] theorem setRc_get (a : Nat) (m : Word) (s : State) :
    Tab.get 0 a (setRc a m s).regs.rc = Tab.get 0 a s.regs.rc ||| m := by simp [setRc]

@[simp] theorem setRc_words (a : Nat) (m : Word) (s : State) : (setRc a m s).regs.words = s.regs.words := rfl

/-! ## Events and alarms -/

@[simp] theorem pushEvent_alarms (e : Event) (s : State) : (pushEvent e s).obs.alarms = s.obs.alarms := by
  unfold pushEvent; dsimp only; split <;> simp

@[simp] theorem logEvent_alarms (k : EventKind) (i c : Nat) (s : State) : (logEvent k i c s).obs.alarms = s.obs.alarms := by
  unfold logEvent; dsimp only; (repeat' split) <;> simp

@[simp] theorem logInfo_alarms (k : EventKind) (i : Nat) (s : State) : (logInfo k i s).obs.alarms = s.obs.alarms := by
  simp [logInfo]

@[simp] theorem count_counts_of_logEvent (k : EventKind) (i c : Nat) (s : State) (a b : Nat) (h : key a b ≠ key 0x7015 1)
    (h' : key a b ≠ key 0x7015 4) : countOf a b (logEvent k i c s) = countOf a b s := by
  unfold logEvent; dsimp only
  (repeat' split) <;> first
    | exact countOf_count_ne _ _ _ _ _ h h'
    | rfl
    | (unfold pushEvent; dsimp only; split
       · exact countOf_count_ne 0x7015 1 a b _ h h'
       · rfl)

/-- The alarm contacts follow the alarms and change none. -/
theorem contacts_obs (s : State) : (contacts s).obs = s.obs := rfl

/-- A raised alarm stands. -/
theorem standing_raise (a : Alarm) (i : Nat) (s : State) : standing a i (raise a i s) = true := by
  unfold raise
  split
  · rename_i h
    simp only [standing, List.any_eq_true, List.any_map, Function.comp] at *
    obtain ⟨x, hx, h⟩ := h
    exact ⟨x, hx, by simp [h]⟩
  · simp [standing]

/-- Raising an alarm ends no other. -/
theorem standing_raise_of (a b : Alarm) (i j : Nat) (s : State) (h : standing b j s = true) :
    standing b j (raise a i s) = true := by
  unfold raise
  split
  · simp only [standing, List.any_eq_true, List.any_map, Function.comp] at *
    obtain ⟨x, hx, h⟩ := h
    refine ⟨x, hx, ?_⟩
    split <;> simpa using h
  · simp only [standing, contacts_obs, logEvent_alarms, List.any_append]
    simp only [standing] at h
    simp [h]

/-- An ended alarm does not stand. -/
theorem standing_endAlarm (a : Alarm) (i : Nat) (s : State) : standing a i (endAlarm a i s) = false := by
  unfold endAlarm
  split
  · simp only [standing, contacts_obs, logEvent_alarms, List.any_filter, List.any_eq_false]
    intro x _
    cases (x.alarm == a && x.inst == i) <;> simp
  · simp_all

/-- Raising an alarm counts nothing but lost events. -/
theorem countOf_raise (a : Alarm) (i x y : Nat) (s : State) (h : key x y ≠ key 0x7015 1) (h' : key x y ≠ key 0x7015 4) :
    countOf x y (raise a i s) = countOf x y s := by
  unfold raise
  split
  · rfl
  · dsimp only
    simp only [countOf, contacts_obs]
    exact count_counts_of_logEvent _ _ _ _ x y h h'

theorem countOf_endAlarm (a : Alarm) (i x y : Nat) (s : State) (h : key x y ≠ key 0x7015 1) (h' : key x y ≠ key 0x7015 4) :
    countOf x y (endAlarm a i s) = countOf x y s := by
  unfold endAlarm
  split
  · dsimp only
    simp only [countOf, contacts_obs]
    exact count_counts_of_logEvent _ _ _ _ x y h h'
  · rfl

/-! ## The ledger -/

/-- A booked entry has the units it was booked with. -/
@[simp] theorem unitsOf_setEntry (c i st u : Nat) (s : State) : unitsOf c i (setEntry c i st u s) = u := by
  simp [unitsOf, setEntry]

/-- Booking an entry leaves every other entry as it was. -/
theorem unitsOf_setEntry_ne (c i d j st u : Nat) (s : State) (h : d * 65536 + j ≠ c * 65536 + i) :
    unitsOf d j (setEntry c i st u s) = unitsOf d j s := by
  simp [unitsOf, setEntry, Tab.get_put_ne h]

/-! ## Requests -/

@[simp] theorem updSession_answers (n : Nat) (f : Session → Session) (s : State) :
    (updSession n f s).gleno.answers = s.gleno.answers := by unfold updSession; split <;> rfl

@[simp] theorem updSession_state (n : Nat) (f : Session → Session) (s : State) :
    (updSession n f s).gleno.state = s.gleno.state := by unfold updSession; split <;> rfl

/-- An answer joins those that wait. -/
@[simp] theorem answer_answers (q : Req) (st : Status) (d : List Byte) (s : State) :
    (answer q st d s).gleno.answers = s.gleno.answers ++ [⟨q.sess, q.id, st, d⟩] := by
  unfold answer; dsimp only; split <;> simp

/-- An answer other than 0x0402 touches nothing but the Gleno part. -/
theorem answer_obs (q : Req) (st : Status) (d : List Byte) (s : State) (h : st ≠ 0x0402#16) :
    (answer q st d s).obs = s.obs ∧ (answer q st d s).regs = s.regs := by
  unfold answer; dsimp only; rw [if_neg h]; simp

/-- A completion joins the completions that wait where its request is pending. -/
theorem complete_completions (q : Req) (st : Status) (d : List Byte) (s : State) (h : isPending q s = true) :
    (complete q st d s).gleno.completions = s.gleno.completions ++ [⟨q.sess, q.id, st, d⟩] := by
  unfold complete updSession; simp only [h]; (repeat' split) <;> simp_all [putSession]

/-- A request that is admitted is answered with what its body gives. -/
theorem roleRequest_admitted {need : Role} {q : Req} {s : State} (body : Session → State → Res) (h : admits q need s = true) :
    ∃ e, session q.sess s = some e ∧
      roleRequest need q body s = answer q (body e s).code (body e s).data (body e s).st := by
  unfold admits at h
  unfold roleRequest request
  simp only [Bool.and_eq_true, Bool.not_eq_true'] at h
  obtain ⟨⟨ha, hb⟩, hc⟩ := h
  cases he : session q.sess s with
  | none => simp [he] at hc
  | some e =>
    simp only [he, Bool.and_eq_true, Option.isNone_iff_eq_none] at hc
    exact ⟨e, rfl, by simp [ha, hb, hc.1, hc.2]⟩

/-- A request of a role below the one it needs is answered 0x0201. -/
theorem roleRequest_role {need : Role} {q : Req} {s : State} {e : Session} (body : Session → State → Res)
    (ha : accepting s = true) (hb : answers0701 s = false) (he : session q.sess s = some e) (hk : heldAnswer q e s = none)
    (hr : roleMeets e.role need = false) : roleRequest need q body s = answer q 0x0201#16 [] s := by
  simp [roleRequest, request, ha, hb, he, hk, hr, Res.of]

/-- A request changes nothing that neither its body nor an answer changes: any property of states that the body
and an answer keep, and that the counters keep, holds of the state it leaves. -/
theorem roleRequest_keeps (P : State → State → Prop) (need : Role) (q : Req) (body : Session → State → Res) (s : State)
    (hc : ∀ n, P s (count 0x120A n s)) (hg : ∀ g, P s { s with gleno := g })
    (ha : ∀ st d (u : State), P s u → P s (answer q st d u)) (hb : ∀ e, P s (body e s).st) (h0 : P s s) :
    P s (roleRequest need q body s) := by
  unfold roleRequest request
  split
  · exact hc 3
  · split
    · exact hc 5
    · split
      · exact hg _
      · split
        · exact ha _ _ _ h0
        · dsimp only
          split
          · exact ha _ _ _ (hb _)
          · exact ha _ _ _ h0

/-- An admitted request with a later act: it is answered with its status, and acts where that is the one it goes on with. -/
theorem requestThen_admitted {need : Role} {q : Req} {s : State} (go : Status) (check : State → Status) (act : State → State)
    (h : admits q need s = true) :
    requestThen need q go check act s =
      if check s = go then act (answer q (check s) [] s) else answer q (check s) [] s := by
  obtain ⟨e, _, he⟩ := roleRequest_admitted (fun _ s => Res.of s (check s)) h
  unfold requestThen
  simp only [he, h, true_and]
  rfl

/-! ## Frames -/

theorem OnlyIn.refl (ps : List Part) (s : State) : OnlyIn ps s s := fun p _ => by cases p <;> rfl

theorem OnlyIn.trans {ps : List Part} {s t u : State} (h : OnlyIn ps s t) (k : OnlyIn ps t u) : OnlyIn ps s u := by
  intro p hp
  have h1 := h p hp
  have h2 := k p hp
  cases p <;> exact Eq.trans h2 h1

theorem OnlyIn.mono {ps qs : List Part} {s t : State} (h : OnlyIn ps s t) (k : ps ⊆ qs) : OnlyIn qs s t :=
  fun p hp => h p (fun hq => hp (k hq))

/-- The next-free-value counter of the pair's sealed frames touches the pair part alone. -/
@[simp] theorem nextSeq_frame (s : State) : OnlyIn [.pair] s (nextSeq s).2 := fun p hp => by
  cases p <;> first | rfl | exact absurd (by simp) hp

/-- Furling channels one at a time touches power, registers, counters and optics alone. -/
@[simp] theorem furlUntil_frame (n k : Nat) (s : State) : OnlyIn [.power, .optics] s (furlUntil n k s) := by
  induction n generalizing s with
  | zero => exact OnlyIn.refl _ s
  | succ n ih =>
    unfold furlUntil
    split
    · exact OnlyIn.refl _ s
    · split
      · exact OnlyIn.refl _ s
      · refine OnlyIn.trans ?_ (ih _)
        intro p hp
        cases p <;> first | exact absurd (by decide) hp | simp [Part.same, forceFurl]

end Sys2Proof.Machine
end

