-- ==== Sys2Proof/WellFormed.lean ====
section
/-!
DEFINITION. Well-formed commands: session numbers, sequence numbers, times and lengths within what the Gleno frames and the
time values can carry (R13, R190, R195, R206, R209, R427).
-/
namespace Sys2Proof

/-- The session of a request is one the module assigns (R195). -/
def reqWf (q : Req) : Bool := decide (1 ≤ q.sess) && decide (q.sess ≤ 32767)

/-- A direction carries fewer than 2^32 records (R212). -/
def sealWf (x : Seal) : Bool := decide (x.seq < 4294967296)

/-- Nanoseconds of a time value (R144). -/
def timeWf (t : Time96) : Bool := decide (t.ns.toNat ≤ 999999999)

/-- A byte string of at most n bytes. -/
def bytesWf (n : Nat) (l : List Byte) : Bool := decide (l.length ≤ n)

/-- A frame without its FCS (R427). -/
def frameWf (f : List Byte) : Bool := decide (14 ≤ f.length) && decide (f.length ≤ 10236)

/-- A record of a slot frame (R190, R195): its content fits the body. -/
def recWf (r : GRec) : Bool := sealWf r.auth && bytesWf 540 r.content

/-- The base of a block of the register space (R109). -/
def baseWf (b : Nat) : Bool := decide (b < 1048576)

/-- A well-formed command. -/
def Instr.wf (i : Instr) : Bool :=
  match i with
  | .inletApplied _ _ => true
  | .startPermitted _ => true
  | .inletRemoved => true
  | .regulatorsValid _ _ _ _ _ => true
  | .addressLatched => true
  | .strapFault => true
  | .strapChange _ => true
  | .laserEnFall => true
  | .laserEnQualified => true
  | .stagingInstant => true
  | .resetNAsserted => true
  | .resetNRelease _ => true
  | .resetEnd _ => true
  | .level4Entry _ _ => true
  | .level4Exit _ _ => true
  | .supplyReset _ _ => true
  | .overVoltageAlarm _ => true
  | .overVoltageStop _ => true
  | .reversedFlow => true
  | .dieWarning _ => true
  | .dieWarningEnd => true
  | .thermalStop => true
  | .thermalRecovery _ _ _ _ => true
  | .cellTest _ => true
  | .ledgerEvaluation _ _ _ => true
  | .reefLevelFall => true
  | .reefRequest _ => true
  | .reefGrant => true
  | .requestRetry _ => true
  | .bankRefusedAlarm _ => true
  | .underDeclaredDraw _ => true
  | .underDeclaredClear _ => true
  | .tileLightSleep _ => true
  | .tileLightWake _ => true
  | .tileDeepSleep _ => true
  | .tileDeepWake _ => true
  | .sliceSleep _ => true
  | .sliceWake _ => true
  | .nymyxStarted _ => true
  | .startDeadlineMissed _ => true
  | .ovenWarm => true
  | .stage7Reached => true
  | .restartWarm q => reqWf q
  | .restartCold q _ => reqWf q
  | .nymyxFatalFault => true
  | .warmStartComplete _ => true
  | .warmStartTimeout => true
  | .stopOrderly q => reqWf q
  | .stopNoHandover q => reqWf q
  | .shutdownFlushTimeout => true
  | .shutdownComplete => true
  | .laserRelease q _ => reqWf q
  | .sparEngineFailure _ => true
  | .roleMigrationResumed _ => true
  | .registerWrite q _ => reqWf q
  | .maskedWrite q _ _ => reqWf q
  | .postedWrite q _ => reqWf q
  | .postedWriteLanded base => baseWf base
  | .postedWriteDropped base => baseWf base
  | .rcFieldRead q => reqWf q
  | .wideReadLatch q => reqWf q
  | .wideUpperWrite q _ => reqWf q
  | .wideLowWrite q _ => reqWf q
  | .guardUnlock q => reqWf q
  | .guardLock q => reqWf q
  | .guardWrongKey q _ => reqWf q
  | .guardTimeout base => baseWf base
  | .windowWrite q _ => reqWf q
  | .windowRead q => reqWf q
  | .regBlockRead q => reqWf q
  | .regBlockWrite q _ => reqWf q
  | .objectRead q _ _ => reqWf q
  | .objectWrite q _ _ v => reqWf q && bytesWf 516 v
  | .rwsStage q _ _ _ => reqWf q
  | .initiateReadTransfer q _ _ => reqWf q
  | .initiateWriteTransfer q _ _ _ => reqWf q
  | .segment q _ _ d _ => reqWf q && bytesWf 512 d
  | .abortTransfer q => reqWf q
  | .transferTimeout _ => true
  | .closeSession q => reqWf q
  | .commit q _ => reqWf q
  | .commitApply => true
  | .commitAbort q _ => reqWf q
  | .pairCommitRequest x _ _ _ => sealWf x
  | .pairCommitReply x _ _ _ _ _ _ => sealWf x
  | .pairCommitTimeout => true
  | .pairCommitOrder x t _ _ => sealWf x && timeWf t
  | .pairCommitCancel x _ => sealWf x
  | .pairCancelConfirm x _ => sealWf x
  | .pairScopeWrite q _ => reqWf q
  | .pairScopeConfirm x _ => sealWf x
  | .pairScopeTimeout => true
  | .snapRequest q _ => reqWf q
  | .snapRelease q _ => reqWf q
  | .snapSlotExpiry _ _ => true
  | .settingsClear q _ => reqWf q
  | .settingsSave => true
  | .krTrainingComplete _ _ => true
  | .krTrainingRetry _ => true
  | .krLinkDown _ => true
  | .glenoBothDown => true
  | .cycleStartReceived _ _ => true
  | .masterHoldoffExpiry => true
  | .cycleStartTransmit => true
  | .slotTransmit _ => true
  | .slotFrameReceived _ _ recs _ => recs.all recWf
  | .joinStart => true
  | .joinUnacknowledged => true
  | .presenceLost => true
  | .nodeLost _ => true
  | .requestCompletion => true
  | .completionTimeout q => reqWf q
  | .handshakeOpen _ _ _ _ _ => true
  | .handshakeProve _ _ chain _ _ _ _ => bytesWf 4096 chain
  | .handshakeAcceptReceived _ _ chain _ _ _ => bytesWf 4096 chain
  | .handshakeGrantReceived _ _ => true
  | .handshakeTimeout _ _ => true
  | .sessionIdleTimeout _ => true
  | .sessionLifetimeExpiry _ => true
  | .sessionClose q _ => reqWf q
  | .laserBankStarted _ _ bias power _ _ => decide (bias.length = 8) && decide (power.length = 8)
  | .submountTempAlarm _ _ => true
  | .beaconHeard _ _ _ _ => true
  | .listenTimeout _ => true
  | .answerHeard _ _ _ _ => true
  | .beaconTimeout _ => true
  | .backoffExpiry _ => true
  | .answerResolved _ => true
  | .answerTimeout _ => true
  | .bandRelease _ => true
  | .bandUnresolved _ => true
  | .laserFailure _ _ _ => true
  | .spareLocked _ _ _ => true
  | .plannedSwitchIn q _ _ => reqWf q
  | .laserForceOff q _ _ => reqWf q
  | .laserForceAutomatic _ _ => true
  | .rxLosEnter _ _ _ => true
  | .rxLosExit _ _ _ => true
  | .thresholdCrossed _ _ _ _ => true
  | .tapLimit _ => true
  | .clockRecovered _ => true
  | .trainingFrameReceived _ _ _ => true
  | .trainingComplete _ => true
  | .alignmentComplete _ _ _ => true
  | .checkComplete _ => true
  | .bringupStageTimeout _ => true
  | .bringupAlarm _ => true
  | .retrain q _ => reqWf q
  | .markerPeriod _ => true
  | .markerReceived _ _ _ => true
  | .markerLockLost _ _ => true
  | .furlDecision _ percent => decide (percent ≤ 100)
  | .unfurlRequest _ => true
  | .laneRejoin _ _ => true
  | .prbsCheckerLock _ _ => true
  | .frameReceived _ f _ _ => frameWf f
  | .timeSet w _ t => w.all reqWf && timeWf t
  | .timeAdj w _ _ => w.all reqWf
  | .rateAdjWrite w _ _ => w.all reqWf
  | .traceableWrite w _ _ => w.all reqWf
  | .capture => true
  | .outResync q => reqWf q
  | .mdllRelock q _ => reqWf q
  | .mdllLockReached _ => true
  | .mdllAcquireTimeout _ => true
  | .mdllHoldComplete _ => true
  | .mdllLockLost _ _ => true
  | .frequencyClamp _ => true
  | .juryFault => true
  | .juryRecovered => true
  | .mastFault => true
  | .mastRecovered => true
  | .lockmonAlarm _ => true
  | .helperUnlock => true
  | .helperResume => true
  | .pulseInputEdge _ t => timeWf t
  | .euArm q _ => reqWf q
  | .eventEdge _ _ _ time => timeWf time
  | .euTimeoutExpiry _ => true
  | .euWindowEnd _ => true
  | .euResultPop _ => true
  | .euCalibrate q _ => reqWf q
  | .detTraceRequest q _ _ => reqWf q
  | .detTraceComplete => true
  | .selectionEvaluation _ _ => true
  | .switchComplete _ _ => true
  | .qualifyTimer _ _ => true
  | .slotHoldoffExpiry _ _ => true
  | .waitToRestoreExpiry _ _ => true
  | .pathLocked _ => true
  | .acquisitionTimeout _ => true
  | .pathLockLoss _ => true
  | .holdoverBoundUpdate _ _ _ _ _ => true
  | .holdoverReady => true
  | .ovenSteer q _ => reqWf q
  | .steerWatchdog => true
  | .esmcPduReceived _ _ _ => true
  | .esmcQlTimeout _ => true
  | .esmcInfoSend => true
  | .outputConfigEffect _ => true
  | .todMessage => true
  | .syncSend _ _ _ t1 _ => timeWf t1
  | .syncReceived _ _ _ _ ts t2 => timeWf ts && timeWf t2
  | .followUpReceived _ _ _ _ ts => timeWf ts
  | .delayReqSend _ _ _ t3 _ => timeWf t3
  | .delayReqReceived _ _ _ t4 => timeWf t4
  | .delayRespReceived _ _ _ _ ts => timeWf ts
  | .pdelayReqReceived _ _ _ t2 t3 _ => timeWf t2 && timeWf t3
  | .pdelayRespReceived _ _ _ _ ts t4 => timeWf ts && timeWf t4
  | .pdelayRespFollowUpReceived _ _ _ ts => timeWf ts
  | .announceSend _ _ => true
  | .announceReceived _ _ _ _ => true
  | .announceTimeout _ _ => true
  | .signalingReceived _ _ _ => true
  | .holdExpiry _ _ => true
  | .skewSend _ => true
  | .l1SyncSend _ => true
  | .txqStale _ => true
  | .txStampMissing _ _ _ => true
  | .txqFlush _ => true
  | .asymMeasure q _ => reqWf q
  | .asymSetDue _ => true
  | .calEvaluation _ _ => true
  | .calRunComplete _ _ _ => true
  | .calSlewTick => true
  | .calOverdue _ _ => true
  | .calRun q _ _ => reqWf q
  | .recordWrite _ => true
  | .rxAdaptTrial _ _ _ _ _ => true
  | .rxMarginAlarm _ _ _ => true
  | .ageingRefit _ _ _ => true
  | .laneInferred _ _ _ _ => true
  | .tableWrite q _ => reqWf q
  | .tableReadReq q _ => reqWf q
  | .meterReadReq q _ => reqWf q
  | .epochDrainComplete => true
  | .fabricDelivery _ _ => true
  | .fabricWaitExpiry _ _ => true
  | .onDieResidenceExpiry _ _ => true
  | .ovfStacksAwake => true
  | .ovfAgeingTick => true
  | .ovfReturn _ _ _ => true
  | .ovfIdleClose => true
  | .ovfStackFailure => true
  | .ovfRetestComplete _ => true
  | .ovfRetry q _ => reqWf q
  | .egressSelect _ _ _ => true
  | .shaperRefill => true
  | .shaperForgive q _ _ => reqWf q
  | .gateEntryChange _ => true
  | .gateListStart _ => true
  | .pairingTimeout => true
  | .pairingRetry => true
  | .pairSessionRenew => true
  | .shroudHelloSend => true
  | .shroudHelloReceived _ _ _ _ _ _ => true
  | .shroudHeartbeatSend => true
  | .shroudHeartbeatReceived _ x _ => sealWf x
  | .shroudHeartbeatLost => true
  | .glenoHeartbeatLost => true
  | .arbitrationAnswer _ _ => true
  | .arbitrationRetry => true
  | .arbTimeoutExpiry => true
  | .silenceHoldoffExpiry => true
  | .shroudTimeSyncSend _ => true
  | .shroudSyncReceived _ x _ _ _ _ _ _ => sealWf x
  | .shroudRequestReceived _ x _ _ => sealWf x
  | .shroudAnswerReceived _ x _ _ _ _ => sealWf x
  | .checkpointSend => true
  | .checkpointReceived x b => sealWf x && bytesWf 160 b
  | .replicaReceived _ body _ => bytesWf 10260 body
  | .streamResetTimeout _ => true
  | .roleSwap q _ => reqWf q
  | .handoverNoticeReceived x _ => sealWf x
  | .handoverConfirmed x => sealWf x
  | .handoverConfirmTimeout => true
  | .handoverSecondN => true
  | .pairResync q _ => reqWf q
  | .resyncImageReceived x _ _ _ _ _ => sealWf x
  | .witnessRegister q _ => reqWf q
  | .streamReadReq q _ => reqWf q
  | .tamperEvent _ => true
  | .tamperAck q _ => reqWf q
  | .zeroiseOperatorSecrets q => reqWf q
  | .zeroiseAll q => reqWf q
  | .ldevidGenerate q _ => reqWf q
  | .ldevidGenerated => true
  | .attestRequest q _ => reqWf q
  | .attestReportReady _ => true
  | .serviceOpen q _ => reqWf q
  | .serviceExpiry => true
  | .counterIncrement q _ => reqWf q
  | .entropyFault => true
  | .entropyRetest _ => true
  | .islandClockSet => true
  | .mkaPduReceived _ _ => true
  | .mkaHelloSend => true
  | .mkaPeerTimeout _ => true
  | .macsecCakWrite q _ _ => reqWf q
  | .macsecRekey q _ _ => reqWf q
  | .halyardKeyWrite q _ _ => reqWf q
  | .halyardKeyRollover => true
  | .updateDownloadInitiate q _ => reqWf q
  | .imageVerified _ => true
  | .updateArm q => reqWf q
  | .updateArmRestart q => reqWf q
  | .updateDisarm q => reqWf q
  | .updateConfirmAccept q => reqWf q
  | .updateReject q => reqWf q
  | .updateDiscard q _ => reqWf q
  | .flashCopyBlock => true
  | .reserveRefreshBlock => true
  | .autoConfirmExpiry => true
  | .bootRomRetry _ _ _ => true
  | .ctrSnapRequest q _ _ _ => reqWf q
  | .counterSweepStart _ => true
  | .counterSweepComplete => true
  | .ctrSnapRelease q _ => reqWf q
  | .statusSnapRequest q _ => reqWf q
  | .alarmAck q _ => reqWf q
  | .alarmHoldExpiry _ _ => true
  | .eventLogFlush => true
  | .sampleStart q => reqWf q
  | .sampleStop q => reqWf q
  | .sampleDurationExpiry => true
  | .instructionSample _ _ _ _ _ _ _ => true
  | .progSelect q _ _ => reqWf q
  | .inputBeatEdge _ _ _ => true
  | .mastBeatEdge => true
  | .outputPulseEdge _ _ => true
  | .slewingEnd => true
  | .sparClockStop _ => true

end Sys2Proof
end

