-- ==== Sys2Proof/Tests/Slice0.lean ====
section
/-!
SUPPORT. The model's own tests: for every statement with hypotheses a state and operands that meet them, clause by clause; ill-formed terms that
the check refuses; and the spec's worked examples.
-/
namespace Sys2Proof.Tests
open Sys2Proof Sys2Proof.Machine
set_option Elab.async false

/-! ## A running module -/

/-- A session of a role. -/
def tSess (r : Role) : Session := Session.fresh 0 r 1 30 Time96.zero 0
/-- A module in RUNNING at address 4 with sessions of three roles. -/
def base : State :=
  { State.reset with
    life := { Life.reset with
      state := .running, latched := true, address := 4, stage := 7, resetCause := 1, regulators := true, oven := .steady, laserQual := true
      nymyx := true
      spar := [⟨.boot, .running⟩, ⟨.gleno, .running⟩, ⟨.reef, .running⟩, ⟨.servo, .running⟩, ⟨.servo, .running⟩, ⟨.halyard, .running⟩,
        ⟨.halyard, .running⟩, ⟨.halyard, .running⟩, ⟨.cal, .running⟩, ⟨.pair, .running⟩, ⟨.tables, .running⟩, ⟨.tables, .running⟩,
        ⟨.channels, .running⟩, ⟨.obs, .running⟩, ⟨.spare, .off⟩, ⟨.spare, .off⟩] }
    power := { Power.reset with busMv := 48000, inlet10mA := 500, ledgerMv := 48000, entries := [(0, ⟨1, 60⟩)] }
    tb := { TimeBase.reset with running := true, mastOk := true, juryOk := true }
    gleno := { Gleno.reset with
      state := .joined, m0 := .trained, nextSess := 4
      sessions := [(1, tSess .custodian), (2, tSess .observer), (3, tSess .operator)] }
    pins := { Pins.reset with outHeld := false, lockmonZero := false } 
    upd := { Update.reset with runs := some .active } }
/-- A request of the custodian session. -/
def q : Req := ⟨1, 7⟩
/-- Channel c up at full width. -/
def chanUp (c : Nat) (s : State) : State :=
  updCod c (fun d => { d with stage := 6, train := 0xF, everUp := true, txLanes := 0xF, rxLanes := 0xF, maxLanes := 0xF, peerMax := 0xF, locked := 0xF, txAm := 5, rxAm := 6, peerRev := 1, peerFam := 0x3072 })
    (updOpt c (fun o => { o with bandState := .resolved, band := .lower, lanesLit := 0xF, los := 0 })
    (updTile (c / 8) (fun t => { t with sleep := .awake, slices := 2 })
    (updMdll (c / 8) (fun m => { m with st := .locked, source := .mdll })
    (updEng (c / 8) (fun e => { e with bank := .lit, lasers := e.lasers.map (fun l => { l with st := .lit }) }) s))))

/-! ## The well-formedness check refuses an ill-formed term of each kind -/

theorem test_wf_session : Instr.wf (.restartWarm ⟨0, 1⟩) = false ∧ Instr.wf (.restartWarm ⟨32768, 1⟩) = false ∧ Instr.wf (.restartWarm ⟨32767, 1⟩) = true := by decide
theorem test_wf_sequence : Instr.wf (.pairCommitCancel ⟨4294967296, true⟩ 1) = false ∧ Instr.wf (.pairCommitCancel ⟨4294967295, true⟩ 1) = true := by decide
theorem test_wf_time : Instr.wf (.eventEdge 0 true 0 ⟨0, 1000000000, 0⟩) = false ∧ Instr.wf (.eventEdge 0 true 0 ⟨0, 999999999, 0⟩) = true := by decide
theorem test_wf_base : Instr.wf (.guardTimeout 1048576) = false ∧ Instr.wf (.guardTimeout 1048575) = true := by decide
theorem test_wf_percent : Instr.wf (.furlDecision 0 101) = false ∧ Instr.wf (.furlDecision 0 100) = true := by decide
theorem test_wf_frame : Instr.wf (.frameReceived 0 (List.replicate 13 0) .clear ⟨0, 0, false, 0⟩) = false ∧ Instr.wf (.frameReceived 0 (List.replicate 14 0) .clear ⟨0, 0, false, 0⟩) = true := by decide
theorem test_wf_segment : Instr.wf (.segment q 0 false (List.replicate 513 0) 0) = false := by decide +kernel
theorem test_wf_record : Instr.wf (.slotFrameReceived ⟨0, true, 0x88B5, 1, 3, 4, 9⟩ 0 [⟨1, 4, 1, ⟨5, true⟩, List.replicate 541 0⟩] false) = false := by decide +kernel
theorem test_wf_lasers : Instr.wf (.laserBankStarted 0 0xFF [] [] true true) = false := by decide

/-! ## The queue -/

/-- The command in front runs on the rest of the queue (step). -/
theorem test_step_front : step { base with pending := [.entropyFault, .serviceExpiry] } = exec .entropyFault { base with pending := [.serviceExpiry] } := rfl
/-- An empty queue ticks the mast clock: 10 ns of a stopped time base leave everything but the clock (log entry 1). -/
theorem test_step_idle : step State.reset = .next { State.reset with now := 1 } := by rfl
/-- No row of the table has bits, so no word is a command, and the queue stays as it is. -/
theorem test_no_words : decodeTableWord 32 0 = none ∧ State.withFetchWord base 32 0 = base := ⟨by decide, rfl⟩

/-! ## Worked examples of the spec -/

/-- 00_scope.md, locating one channel: the registers of channel 77 begin at 0x0008_9A00, transmit lane 2 of the lower band is on
1282.26 nm, lane 2 of the upper band on 1304.58 nm. -/
theorem test_channel_77 : chanAddr 77 0 = 0x89A00 ∧ nominalWave .lower 2 = 1282260 ∧ nominalWave .upper 2 = 1304580 := by decide
/-- 02_current_ledger.md, full load at 40 V: the admissible total for traffic is 2,383. -/
theorem test_admissible_40V : admissible .traffic { base with power := { base.power with ledgerMv := 40000 } } = 2383 := by decide +kernel
/-- 04_registers.md, an asset tag: the block write queues four posted words, the tag four characters at a time. -/
def tagHost : State :=
  updBlock 0 (fun x => { x with open_ := some 1 }) (updSession 1 (fun e => { e with regAddr := 0x30, regCount := 4 }) base)
def tagBytes : List Byte := [0x4C, 0x44, 0x4E, 0x2D, 0x4E, 0x33, 0x2D, 0x53, 0x48, 0x31, 0x32, 0x2D, 0x4D, 0x30, 0x37, 0x00]
theorem test_asset_tag : ∃ t, exec (.regBlockWrite q tagBytes) tagHost = .next t ∧
    ((blockOf 0 t).posted.map (fun w => w.data)) = [0x2D4E444C, 0x532D334E, 0x2D323148, 0x0037304D] ∧ (blockOf 0 t).open_ = none ∧
    (session 1 t).map (fun e => e.regDone) = some 4 := ⟨_, rfl, by decide +kernel⟩
/-- 04_registers.md, an uptime of 4,500 s reads as the bytes 00 8D 38 0C 01 00 00 00. -/
theorem test_uptime : ∃ t, exec (.regBlockRead q) (updSession 1 (fun e => { e with regAddr := 0x24, regCount := 2 }) { base with now := 450000000000 }) = .next t ∧
    (session 1 t).map (fun e => e.transfer.map (fun x => x.data)) = some (some [0x00, 0x8D, 0x38, 0x0C, 0x01, 0x00, 0x00, 0x00]) := ⟨_, rfl, by decide +kernel⟩
/-- 05_object_dictionary.md, a pair commit and a conflict: a session that recorded generation 41 of set 11 commits after it became 42, is answered
0x0501, and its value stays staged. -/
def stale : State :=
  updSession 1 (fun e => { e with staged := [⟨key 0x4306 1, [1, 0], false⟩], recGen := [(11, 41)] }) { base with commits := { base.commits with generation := [(11, 42)] } }
theorem test_conflict : ∃ t, exec (.commit q 0x800) stale = .next t ∧ (t.gleno.answers.map (fun a => a.status)) = [0x0501] ∧
    (session 1 t).map (fun e => e.staged.length) = some 1 := ⟨_, rfl, by decide +kernel⟩
/-- 06_gleno.md, reading a snapshot: of 1,300 bytes the last segment carries 276, behind its number (R196). -/
theorem test_segments : ∃ t, exec (.segment q 2 true [] 0) (updSession 1 (fun e => { e with transfer := some ⟨key 0x110B 1, false, 1300, List.replicate 1300 0, 2⟩ }) base) = .next t ∧
    (t.gleno.answers.map (fun a => a.data.length)) = [280] ∧ (session 1 t).map (fun e => e.transfer.isNone) = some true := ⟨_, rfl, by decide +kernel⟩
/-- 10_vernier_measurement.md, two channel detectors and an unwrap: M from 16,380 to 3 raises U by 280 units to 2,621,560; from 6,029 to
6,021 the change is -320 units and adds no turn. -/
theorem test_unwrap : (Det.follow 120 0 { Det.reset with x := 655200, u := 2621280 }).u = 2621560 ∧ unwrap (240840 - 241160) = -320 := by decide +kernel
/-- 12_halyard_time_transfer.md, 10 km of fibre: with a = 0.115 ps/nm² and 1,312.0 nm the difference of lane 0 of the bands is 575.215 ps, 37,697 units,
and the mean of the two legs is 48,949.999 ns. -/
theorem test_skew : tauDiff 1150000 1312000 1273540 1295560 = 37697 := by decide +kernel
/-- 13_calibration_and_ageing.md, holdover after nine days locked: the bound is 53.5 ns after 1,000 s and 956.66 ns after 14,400 s, and at 14,933 s the path
is LOST. -/
def held (n : Nat) : State := { base with refs := { base.refs with freq := { base.refs.freq with st := .holdover, holdSec := n } } }
theorem test_bound_1000 : ∃ t, exec (.holdoverBoundUpdate 500 50000 2000 2000 1000000) (held 999) = .next t ∧ t.refs.freq.bound = 53500 := ⟨_, rfl, by decide +kernel⟩
theorem test_bound_4h : ∃ t, exec (.holdoverBoundUpdate 500 50000 2000 2000 14400000) (held 14399) = .next t ∧ t.refs.freq.bound = 956660 ∧ t.refs.freq.st = .holdover :=
  ⟨_, rfl, by decide +kernel⟩
theorem test_bound_lost : ∃ t, exec (.holdoverBoundUpdate 500 50000 2000 2000 14933000) (held 14932) = .next t ∧
    1000000 < t.refs.freq.bound ∧ t.refs.freq.st = .lost := ⟨_, rfl, by decide +kernel⟩
/-- 14_forwarding_and_policing.md, a burst through one meter: frame 9 finds 735 bytes in T1 and is yellow, frame 18 finds 158.75 bytes in T2 and is red;
after a gap of 2 µs the buckets hold 3,338.125 and 5,196.25 bytes. -/
def g9000 : MeterCfg := ⟨1, 2, 10000000, 20000000, 12500, 25000⟩
theorem test_meter_green : meterColour g9000 1480 0 { MeterSt.reset with t1 := 12500 * 1024, t2 := 25000 * 1024 } =
    (0, { MeterSt.reset with t1 := 11020 * 1024, t2 := 23520 * 1024 }) := by decide +kernel
theorem test_meter_refill : ((meterFill g9000 15 { MeterSt.reset with t1 := 11020 * 1024, t2 := 23520 * 1024 }).t1,
    (meterFill g9000 15 { MeterSt.reset with t1 := 11020 * 1024, t2 := 23520 * 1024 }).t2) = (11020 * 1024 + 9600, 23520 * 1024 + 19200) := by decide +kernel
theorem test_meter_yellow : (meterColour g9000 1480 0 { MeterSt.reset with t1 := 735 * 1024, t2 := 13310 * 1024 }).1 = 1 := by decide +kernel
theorem test_meter_red : (meterColour g9000 1480 0 { MeterSt.reset with t1 := 839040, t2 := 162560 }).1 = 2 := by decide +kernel
theorem test_meter_gap : ((meterFill g9000 4000 { MeterSt.reset with t1 := 858240, t2 := 200960 }).t1 , (meterFill g9000 4000 { MeterSt.reset with t1 := 858240, t2 := 200960 }).t2)
    = (3418240, 5320960) := by decide +kernel
/-- 15_fabric_and_buffers.md, sizing a tile: a yellow copy may fill 341 of 455 cells, 13,083 of 17,444 and 104,665 of 139,554, spills at 341, and the
tail returns below 227. -/
def profile1 : List Byte := (List.replicate 16 [0xC7, 0x01, 0, 0]).flatten ++ List.replicate 16 100 ++ [50, 75, 50] ++ List.replicate 13 0
def tile9 : State := { base with dict := { base.dict with vals := Tab.set (key 0x4202 2) profile1 (Tab.set (key 0x4201 76) [1] base.dict.vals) } }
def yellow : Copy := ⟨[], Edit.none, .hop 5, none, 3, 75, 3, 1, 0, 9216, 0, 0, none, false, [], 0⟩
theorem test_thresholds : threshold 455 yellow tile9 = 341 ∧ threshold 17444 yellow tile9 = 13083 ∧ threshold 139554 yellow tile9 = 104665 ∧
    spillPoint yellow tile9 = 341 ∧ returnPoint 75 3 tile9 = 227 ∧ yellow.cells = 39 := by decide +kernel
/-- 16_egress_scheduling.md, a gated port: the list starts at n = 100,000,001 cycles after its base, 10 µs after 1,900,000,000 s; queue 15 has a window of 2,000 ns, the other
queues one of 8,000 ns. -/
def gated : GateList := ⟨10000, 1899999000 * 1000000000 * 65536, 0, [(0x8000, 2000), (0x7FFF, 8000)]⟩
theorem test_gate_start : gateStart gated ((1900000000 * 1000000000 + 500) * 65536) = ((1900000000 * 1000000000 + 10000) * 65536, 100000001) := by decide +kernel
theorem test_gate_windows : maxWin 15 gated = some 2000 ∧ maxWin 0 gated = some 8000 := by decide +kernel
/-- 16_egress_scheduling.md, a rate change in debt: 512 ns at 10 Gb/s add 640 bytes, a pending change to 2 Gb/s takes effect at its refill, which adds 128; a bucket above the
new burst is clamped to it, and a forgiven one counts from 0. -/
theorem test_refill : (Bucket.refill { Bucket.reset with t := -9016 * 1024, rate := 10000000, burst := 16000, enabled := true }).t = -8376 * 1024 := by decide +kernel
theorem test_refill_change : (Bucket.refill { Bucket.reset with t := -5816 * 1024, rate := 10000000, burst := 16000, enabled := true, next := some (2000000, 4000) }).t =
    -5688 * 1024 := by decide +kernel
theorem test_refill_clamp : (Bucket.refill { Bucket.reset with t := 12000 * 1024, rate := 10000000, burst := 16000, enabled := true, next := some (2000000, 4000) }).t =
    4000 * 1024 := by decide +kernel
theorem test_refill_forgive : (Bucket.refill { Bucket.reset with t := -5816 * 1024, rate := 2000000, burst := 4000, enabled := true, forgive := true }).t = 128 * 1024 := by decide +kernel
/-- 18_trust.md, rolling a Halyard key: at 1,900,003,540 the traceable X accepts both keys and sends with the old one, at 1,900,003,600 it sends with the new one, at
1,900,007,260 it accepts the new one alone. -/
def rolling (t : Nat) : State :=
  { base with
    trust := { base.trust with halKeys := [(1, ⟨0x101, 1, 1, 1899000000, 1900007200, []⟩), (2, ⟨0x102, 1, 1, 1900003600, 0, []⟩)] }
    tb := { base.tb with a := { base.tb.a with counter := ⟨t * 65536000000000, 0⟩, traceable := true } } }
theorem test_key_before : (acceptKeys 0 (rolling 1900003539)).map (fun k => k.id) = [0x101] := by decide +kernel
theorem test_key_overlap : ((acceptKeys 0 (rolling 1900003540)).map (fun k => k.id)).length = 2 ∧ (sendKey 0 (rolling 1900003540)).map (fun k => k.id) = some 0x101 := by decide +kernel
theorem test_key_after : (sendKey 0 (rolling 1900003600)).map (fun k => k.id) = some 0x102 ∧ (acceptKeys 0 (rolling 1900007260)).map (fun k => k.id) = [0x102] := by decide +kernel
/-- 20_observability.md, the rate of a channel: 1,200,000,000,000 received bytes of channel 77 read as 0x6592_E000 and 0x0000_0117 in cells 618 and 619. -/
theorem test_cells : cellValue 618 (traffic 77 1 1200000000000 base) = 0x6592E000 ∧ cellValue 619 (traffic 77 1 1200000000000 base) = 0x00000117 := by decide +kernel
/-- R175: the CRC-32 of IEEE 802.3, by its published check value. -/
theorem test_crc32 : crc32 [0x31, 0x32, 0x33, 0x34, 0x35, 0x36, 0x37, 0x38, 0x39] = 0xCBF43926 := by decide +kernel

/-! ## Witnesses of the statements: each clause's hypotheses hold together somewhere -/

/-- A region of two blocks. -/
theorem blocks_of_two (l : List Byte) (h : l.length = 2097152) : 0 + 1 < blocksOf l := by
  unfold blocksOf blockSize; rw [h]; decide
theorem two_blocks : ∃ l : List Byte, 0 + 1 < blocksOf l := ⟨List.replicate 2097152 7, blocks_of_two _ List.length_replicate⟩

namespace A1
theorem test_meets_InletAndReset :
    (∃ (_mv : BitVec 16) (s : State), s.life.state = .unpowered) ∧
    (∃ (mv : BitVec 16) (s : State), s.life.state = .unpowered ∧ unitsOf cBase 0 s ≠ 0 ∧ 40000 ≤ mv.toNat ∧ s.pins.resetN = true) ∧
    (∃ (mv : BitVec 16) (s : State), s.life.state = .unpowered ∧ unitsOf cBase 0 s ≠ 0 ∧ 40000 ≤ mv.toNat ∧ s.pins.resetN = false) ∧
    (∃ (s : State), s.life.state ≠ .unpowered) ∧
    (∃ (s : State), canReset s = true) ∧
    (∃ (s : State), canReset s = false) ∧
    (∃ (_ns : Nat) (s : State), s.pins.resetN = false ∧ s.life.state = .reset ∧ s.life.hold = .none) ∧
    (∃ (ns : Nat) (s : State), s.pins.resetN = true ∧ 1000 ≤ ns ∧ ns < 10000 ∧ s.life.state = .running) ∧
    (∃ (ns : Nat) (s : State), s.pins.resetN = true ∧ 1000 ≤ ns ∧ ns < 10000 ∧ s.life.state = .running) ∧
    (∃ (mv : BitVec 16) (s : State), s.life.state = .reset ∧ s.pins.resetN = true ∧ ((s.life.hold = .supply ∧ 40000 ≤ mv.toNat) ∨ (s.life.hold = .overVoltage ∧ mv.toNat < 60000))) ∧
    (∃ (mv : BitVec 16) (s : State), s.life.state = .reset ∧ s.pins.resetN = true ∧ ((s.life.hold = .supply ∧ 40000 ≤ mv.toNat) ∨ (s.life.hold = .overVoltage ∧ mv.toNat < 60000))) ∧
    (∃ (mv : BitVec 16) (s : State), s.life.state = .reset ∧ s.life.hold = .supply ∧ mv.toNat < 40000) :=
  ⟨⟨48000, updLife (fun l => { l with state := .unpowered, oven := .cold }) { base with power := Power.reset }, by decide +kernel⟩,
   ⟨40000, updLife (fun l => { l with state := .unpowered }) base, by decide +kernel, by decide +kernel, by decide +kernel, by decide +kernel⟩,
   ⟨40000, { updLife (fun l => { l with state := .unpowered }) base with pins := { base.pins with resetN := false } }, by decide +kernel, by decide +kernel, by decide +kernel, by decide +kernel⟩,
   ⟨base, by decide +kernel⟩,
   ⟨base, by decide +kernel⟩,
   ⟨updLife (fun l => { l with state := .reset }) base, by decide +kernel⟩,
   ⟨20000, { updLife (fun l => { l with state := .reset, hold := .none, pendingCause := 3 }) base with pins := { base.pins with resetN := false } }, by decide +kernel, by decide +kernel, by decide +kernel⟩,
   ⟨1000, base, by decide +kernel, by decide +kernel, by decide +kernel, by decide +kernel⟩,
   ⟨9999, base, by decide +kernel, by decide +kernel, by decide +kernel, by decide +kernel⟩,
   ⟨40000, updLife (fun l => { l with state := .reset, hold := .supply, pendingCause := 2 }) base, by decide +kernel, by decide +kernel, by decide +kernel⟩,
   ⟨59999, updLife (fun l => { l with state := .reset, hold := .overVoltage, pendingCause := 4 }) base, by decide +kernel, by decide +kernel, by decide +kernel⟩,
   ⟨39999, updLife (fun l => { l with state := .reset, hold := .supply, pendingCause := 2 }) base, by decide +kernel, by decide +kernel, by decide +kernel⟩⟩
theorem test_meets_SupplyAndStraps :
    (∃ (_lowest : BitVec 16) (_below : BitVec 16) (s : State), s.life.state ≠ .unpowered) ∧
    (∃ (mv : BitVec 16) (s : State), s.life.state ≠ .unpowered ∧ 60000 < mv.toNat) ∧
    (∃ (mv : BitVec 16) (s : State), canReset s = true ∧ 64000 ≤ mv.toNat) ∧
    (∃ (s : State), s.life.state = .starting ∧ s.life.regulators = true ∧ s.life.latched = false ∧ 2 ≤ s.pins.straps.toNat) ∧
    (∃ (s : State), s.life.state = .starting ∧ s.life.regulators = true ∧ s.life.latched = false ∧ s.pins.straps.toNat < 2) ∧
    (∃ (s : State), s.life.state = .starting ∧ s.life.regulators = true ∧ s.life.latched = false) ∧
    (∃ (x : BitVec 5) (s : State), s.life.latched = true ∧ x ≠ s.pins.straps) :=
  ⟨⟨32000, 5, base, by decide +kernel⟩,
   ⟨60001, base, by decide +kernel, by decide +kernel⟩,
   ⟨64000, base, by decide +kernel, by decide +kernel⟩,
   ⟨updLife (fun l => { l with state := .starting, latched := false }) { base with pins := { base.pins with straps := 2 } }, by decide +kernel, by decide +kernel, by decide +kernel, by decide +kernel⟩,
   ⟨updLife (fun l => { l with state := .starting, latched := false }) { base with pins := { base.pins with straps := 1 } }, by decide +kernel, by decide +kernel, by decide +kernel, by decide +kernel⟩,
   ⟨updLife (fun l => { l with state := .starting, latched := false }) base, by decide +kernel, by decide +kernel, by decide +kernel⟩,
   ⟨3, base, by decide +kernel, by decide +kernel⟩⟩
theorem test_meets_ColdStartStages :
    (∃ (_pass : BitVec 16) (_vA : Fin 9) (_vR : Fin 9) (_vS : Fin 9) (s : State), s.life.state = .starting ∧ s.tb.running = false) ∧
    (∃ (_lost : List Nat) (s : State), s.life.state = .starting ∧ s.life.nymyx = false ∧ s.tb.running = true ∧ s.upd.runs.isSome = true ∧ s.trust.state ≠ 3) ∧
    (∃ (n : Fin 8) (s : State), s.life.state = .starting ∧ s.life.stage < n.val) ∧
    (∃ (s : State), s.life.oven = .warming) ∧
    (∃ (s : State), s.life.state = .starting ∧ s.life.oven = .steady ∧ s.tb.running = true) :=
  ⟨⟨0xFFFF, 0, 0, 0, { updLife (fun l => { l with state := .starting, nymyx := false }) base with tb := TimeBase.reset }, by decide +kernel, by decide +kernel⟩,
   ⟨[], updLife (fun l => { l with state := .starting, nymyx := false, stage := 2 }) base, by decide +kernel, by decide +kernel, by decide +kernel, by decide +kernel, by decide +kernel⟩,
   ⟨7, updLife (fun l => { l with state := .starting, stage := 6 }) base, by decide +kernel, by decide +kernel⟩,
   ⟨updLife (fun l => { l with oven := .warming }) base, by decide +kernel⟩,
   ⟨updLife (fun l => { l with state := .starting, stage := 6 }) base, by decide +kernel, by decide +kernel, by decide +kernel⟩⟩
theorem test_meets_LaserEnableAndStaging :
    (∃ (s : State), s.life.state ≠ .unpowered) ∧
    (∃ (q : Req) (s : State), admits q .operator s = true ∧ s.life.mode = 1) ∧
    (∃ (q : Req) (_v : Bool) (s : State), admits q .operator s = true ∧ s.life.mode ≠ 1) ∧
    (∃ (s : State), s.life.state = .running ∧ s.life.nymyx = true ∧ roleRuns .reef s = true ∧ s.life.laserQual = true ∧ s.life.mode = 0 ∧ s.life.staging = false) :=
  ⟨⟨base, by decide +kernel⟩,
   ⟨q, updLife (fun l => { l with mode := 1 }) base, by decide +kernel, by decide +kernel⟩,
   ⟨q, true, base, by decide +kernel, by decide +kernel⟩,
   ⟨base, by decide +kernel, by decide +kernel, by decide +kernel, by decide +kernel, by decide +kernel, by decide +kernel⟩⟩
theorem test_meets_TemperatureAndThermalStop :
    (∃ (s : State), s.life.state = .running) ∧
    (∃ (mv : BitVec 16) (s : State), s.life.state ≠ .unpowered ∧ mv.toNat < 2700) ∧
    (∃ (mv : BitVec 16) (s : State), s.life.state ≠ .unpowered ∧ 2700 ≤ mv.toNat ∧ s.power.cellStatus = 1) ∧
    (∃ (_die : BitVec 8) (s : State), reefRuns s = false) ∧
    (∃ (_die : BitVec 8) (s : State), reefRuns s = true ∧ s.power.level < 3) ∧
    (∃ (s : State), s.life.state = .running) ∧
    (∃ (_pass : BitVec 16) (_vA : Fin 9) (_vR : Fin 9) (_vS : Fin 9) (s : State), s.life.state = .thermalStop ∧ s.life.thermalStops = []) ∧
    (∃ (_pass : BitVec 16) (_vA : Fin 9) (_vR : Fin 9) (_vS : Fin 9) (s : State), s.life.state = .thermalStop ∧ s.life.thermalStops = [s.now, s.now, s.now]) :=
  ⟨⟨base, by decide +kernel⟩,
   ⟨2699, base, by decide +kernel, by decide +kernel⟩,
   ⟨2700, updPower (fun p => { p with cellStatus := 1 }) base, by decide +kernel, by decide +kernel, by decide +kernel⟩,
   ⟨3, updLife (fun l => { l with state := .restarting }) base, by decide +kernel⟩,
   ⟨3, base, by decide +kernel, by decide +kernel⟩,
   ⟨base, by decide +kernel⟩,
   ⟨0xFFFF, 0, 0, 0, updLife (fun l => { l with state := .thermalStop }) base, by decide +kernel, by decide +kernel⟩,
   ⟨0xFFFF, 0, 0, 0, updLife (fun l => { l with state := .thermalStop, thermalStops := [base.now, base.now, base.now] }) base, by decide +kernel, by decide +kernel⟩⟩
theorem test_meets_RestartsAndWarmStarts :
    (∃ (q : Req) (s : State), admits q .operator s = true ∧ s.life.state = .running) ∧
    (∃ (q : Req) (s : State), admits q .operator s = true ∧ s.life.state = .running) ∧
    (∃ (q : Req) (v : BitVec 8) (s : State), admits q .operator s = true ∧ v ≠ 1 ∧ v ≠ 2) ∧
    (∃ (s : State), s.life.state = .running ∧ s.upd.state ≠ 4) ∧
    (∃ (s : State), s.life.state = .running ∧ s.upd.state = 4 ∧ 3 ≤ s.upd.starts) ∧
    (∃ (v : Fin 9) (s : State), s.life.state = .restarting ∧ s.life.fromState = .running ∧ verifyImage (imageInForce s) v s = 0) ∧
    (∃ (v : Fin 9) (s : State), s.life.state = .restarting ∧ verifyImage (imageInForce s) v s ≠ 0) ∧
    (∃ (s : State), s.life.state = .restarting) :=
  ⟨⟨q, base, by decide +kernel, by decide +kernel⟩,
   ⟨q, base, by decide +kernel, by decide +kernel⟩,
   ⟨q, 3, base, by decide +kernel, by decide +kernel, by decide +kernel⟩,
   ⟨base, by decide +kernel, by decide +kernel⟩,
   ⟨updUpd (fun u => { u with state := 4, starts := 3 }) base, by decide +kernel, by decide +kernel, by decide +kernel⟩,
   ⟨0, updLife (fun l => { l with state := .restarting, fromState := .running, restartCause := 7 }) base, by decide +kernel, by decide +kernel, by decide +kernel⟩,
   ⟨5, updLife (fun l => { l with state := .restarting, fromState := .running, restartCause := 7 }) base, by decide +kernel, by decide +kernel⟩,
   ⟨updLife (fun l => { l with state := .restarting }) base, by decide +kernel⟩⟩
theorem test_meets_OrderlyStop :
    (∃ (q : Req) (s : State), admits q .operator s = true ∧ s.life.state = .running) ∧
    (∃ (q : Req) (s : State), admits q .operator s = true ∧ s.life.state = .running ∧ ownsOutputs s = false) ∧
    (∃ (q : Req) (s : State), admits q .operator s = true ∧ s.life.state = .running ∧ ownsOutputs s = true ∧ handoverOk s = false) ∧
    (∃ (q : Req) (s : State), admits q .operator s = true ∧ s.life.state = .stopped) ∧
    (∃ (s : State), s.life.state = .stopping ∧ s.life.shutStep = 5) ∧
    (∃ (s : State), s.life.state = .stopping ∧ s.life.shutStep = 6 ∧ queuesEmpty s = true) ∧
    (∃ (s : State), s.life.state = .stopping ∧ queuesEmpty s = false) :=
  ⟨⟨q, base, by decide +kernel, by decide +kernel⟩,
   ⟨q, base, by decide +kernel, by decide +kernel, by decide +kernel⟩,
   ⟨q, updPair (fun p => { p with role := .active }) { base with gleno := { base.gleno with pairSess := some 1 } }, by decide +kernel, by decide +kernel, by decide +kernel, by decide +kernel⟩,
   ⟨q, updLife (fun l => { l with state := .stopped }) base, by decide +kernel, by decide +kernel⟩,
   ⟨updLife (fun l => { l with state := .stopping, shutStep := 5 }) base, by decide +kernel, by decide +kernel⟩,
   ⟨updLife (fun l => { l with state := .stopping, shutStep := 6 }) base, by decide +kernel, by decide +kernel, by decide +kernel⟩,
   ⟨updLife (fun l => { l with state := .stopping, shutStep := 6 }) { base with sw := { base.sw with fab := [(0, [])] } }, by decide +kernel, by decide +kernel⟩⟩
theorem test_meets_SparEngines :
    (∃ (e : SparNo) (n : Nat) (l : List Nat) (s : State), s.life.spar[e.val]? = some ⟨.reef, .running⟩ ∧ s.life.nymyx = true ∧ s.life.state = .running ∧ freeEngines s = n :: l) ∧
    (∃ (e : SparNo) (n : Nat) (l : List Nat) (s : State), s.life.spar[e.val]? = some ⟨.servo, .running⟩ ∧ s.life.nymyx = true ∧ s.life.state = .running ∧ freeEngines s = n :: l ∧ s.power.level = 4) ∧
    (∃ (e : SparNo) (m : Migration) (s : State), s.life.migrating = [m] ∧ m.failedE = e.val ∧ m.granted = true ∧ m.target < s.life.spar.length) ∧
    (∃ (e : SparNo) (r : SparRole) (s : State), s.life.spar[e.val]? = some ⟨r, .running⟩ ∧ s.life.nymyx = true) :=
  ⟨⟨2, 14, [15], base, by decide +kernel, by decide +kernel, by decide +kernel, by decide +kernel⟩,
   ⟨3, 14, [15], updPower (fun p => { p with level := 4 }) base, by decide +kernel, by decide +kernel, by decide +kernel, by decide +kernel, by decide +kernel⟩,
   ⟨2, ⟨.reef, 2, 14, true⟩, updLife (fun l => { l with migrating := [⟨.reef, 2, 14, true⟩] }) base, by decide +kernel, by decide +kernel, by decide +kernel, by decide +kernel⟩,
   ⟨5, .halyard, base, by decide +kernel, by decide +kernel⟩⟩
end A1

namespace A2
theorem test_meets_LedgerRequests :
    (∃ (n : Tile) (s : State), (eng n s).bank = .waiting ∧ (eng n s).lower.bound = false ∧ (eng n s).upper.bound = false ∧ s.power.waiting = [] ∧ reefRuns s = true ∧ s.power.level = 0 ∧ fits .traffic (perVariant 18 24 s) s = true) ∧
    (∃ (n : Tile) (s : State), (eng n s).bank = .waiting ∧ s.power.waiting = [] ∧ reefRuns s = true ∧ s.power.level = 0 ∧ fits .traffic (perVariant 18 24 s) s = false) ∧
    (∃ (r : Nat) (m : Nat) (p : SparRole) (s : State), s.power.waiting = [⟨.background, .flashWrite 3, 4⟩, ⟨.repair, .sparMigration r, 3⟩] ∧ s.life.migrating = [⟨p, r, m, false⟩] ∧ reefRuns s = true ∧ s.power.level = 0 ∧ fits .repair 3 s = true) ∧
    (∃ (s : State), s.power.waiting = []) ∧
    (∃ (s : State), s.power.waiting = [⟨.background, .flashWrite 3, 4⟩] ∧ reefRuns s = true ∧ s.power.level = 0 ∧ fits .background 4 s = true) ∧
    (∃ (n : Tile) (x : Nat) (s : State), (eng n s).bank = .waiting ∧ (eng n s).refusedAt = some x ∧ x + 1000000000 ≤ s.now) :=
  ⟨⟨5, updEng 5 (fun e => { e with bank := .waiting, lower := Spare.reset, upper := Spare.reset }) (updPower (fun p => { p with waiting := [], level := 0 }) base), by decide +kernel, by decide +kernel, by decide +kernel, by decide +kernel, by decide +kernel, by decide +kernel, by decide +kernel⟩,
   ⟨5, updEng 5 (fun e => { e with bank := .waiting }) (updPower (fun p => { p with waiting := [], level := 0, entries := [(0, ⟨1, 4000⟩)] }) base), by decide +kernel, by decide +kernel, by decide +kernel, by decide +kernel, by decide +kernel⟩,
   ⟨3, 14, .servo, updLife (fun l => { l with migrating := [⟨.servo, 3, 14, false⟩] }) (updPower (fun p => { p with waiting := [⟨.background, .flashWrite 3, 4⟩, ⟨.repair, .sparMigration 3, 3⟩], level := 0 }) base), by decide +kernel, by decide +kernel, by decide +kernel, by decide +kernel, by decide +kernel⟩,
   ⟨updPower (fun p => { p with waiting := [] }) base, by decide +kernel⟩,
   ⟨updPower (fun p => { p with waiting := [⟨.background, .flashWrite 3, 4⟩], level := 0 }) base, by decide +kernel, by decide +kernel, by decide +kernel, by decide +kernel⟩,
   ⟨5, 0, updEng 5 (fun e => { e with bank := .waiting, refusedAt := some 0 }) { base with now := 1000000000 }, by decide +kernel, by decide +kernel, by decide +kernel⟩⟩
theorem test_meets_LedgerLevels :
    (∃ (mv : BitVec 16) (cur : BitVec 16) (low : BitVec 16) (s : State), reefRuns s = true ∧ s.power.level < 3 ∧ levelFloor (measured mv cur low s) ≤ s.power.level ∧ excess (measured mv cur low s) = true) ∧
    (∃ (mv : BitVec 16) (cur : BitVec 16) (low : BitVec 16) (s : State), reefRuns s = true ∧ s.power.level < 3 ∧ levelFloor (measured mv cur low s) ≤ s.power.level ∧ excess (measured mv cur low s) = true) ∧
    (∃ (mv : BitVec 16) (cur : BitVec 16) (low : BitVec 16) (s : State), reefRuns s = true ∧ s.power.level < 3 ∧ levelFloor (measured mv cur low s) ≤ s.power.level ∧ excess (measured mv cur low s) = false) ∧
    (∃ (_mv : BitVec 16) (_cur : BitVec 16) (s : State), s.power.level = 4) ∧
    (∃ (s : State), reefRuns s = true ∧ s.power.level ≤ 3 ∧ levelFloor s < s.power.level ∧ booked s + cfg 0x1300 0 s / 20 ≤ admissible .traffic s) ∧
    (∃ (s : State), reefRuns s = true ∧ s.power.level ≤ 3 ∧ levelFloor s < s.power.level ∧ booked s + cfg 0x1300 0 s / 20 ≤ admissible .traffic s) ∧
    (∃ (cur : BitVec 16) (s : State), reefRuns s = true ∧ s.power.level = 3 ∧ cfg 0x1300 0 s < cur.toNat ∧ s.power.underDecl = false) ∧
    (∃ (cur : BitVec 16) (s : State), cur.toNat ≤ cfg 0x1300 0 s) :=
  ⟨⟨48000, 500, 48000, updPower (fun p => { p with level := 0, entries := [(0, ⟨1, 4000⟩)] }) base, by decide +kernel, by decide +kernel, by decide +kernel, by decide +kernel⟩,
   ⟨48000, 500, 48000, updPower (fun p => { p with level := 2, entries := [(0, ⟨1, 4000⟩)] }) base, by decide +kernel, by decide +kernel, by decide +kernel, by decide +kernel⟩,
   ⟨48000, 500, 48000, updPower (fun p => { p with level := 0 }) base, by decide +kernel, by decide +kernel, by decide +kernel, by decide +kernel⟩,
   ⟨48000, 500, updPower (fun p => { p with level := 4 }) base, by decide +kernel⟩,
   ⟨updPower (fun p => { p with level := 1 }) base, by decide +kernel, by decide +kernel, by decide +kernel, by decide +kernel⟩,
   ⟨updPower (fun p => { p with level := 3 }) base, by decide +kernel, by decide +kernel, by decide +kernel, by decide +kernel⟩,
   ⟨4000, updPower (fun p => { p with level := 3, underDecl := false }) base, by decide +kernel, by decide +kernel, by decide +kernel, by decide +kernel⟩,
   ⟨500, updPower (fun p => { p with underDecl := true }) base, by decide +kernel⟩⟩
theorem test_meets_TileSleepAndLevelFour :
    (∃ (n : Tile) (s : State), (tile n s).sleep = .awake ∧ tileFrames n s = false) ∧
    (∃ (n : Tile) (s : State), (tile n s).sleep = .light) ∧
    (∃ (n : Tile) (s : State), (tile n s).sleep = .awake ∧ (engChans n).all (fun c => (cod c s).stage == 0) = true ∧ tileFrames n s = false) ∧
    (∃ (n : Tile) (s : State), (tile n s).sleep = .deep ∧ unitsOf cTile n s ≠ 0) ∧
    (∃ (n : Tile) (s : State), (tile n s).sleep = .awake ∧ 1 < (tile n s).slices ∧ (tile n s).slices ≤ 4) ∧
    (∃ (n : Tile) (s : State), (tile n s).sleep = .awake ∧ 1 < (tile n s).slices ∧ (tile n s).slices ≤ 4) ∧
    (∃ (n : Tile) (s : State), (tile n s).sleep = .awake ∧ (tile n s).slices < 4 ∧ unitsOf cSlice (4 * n.val + (tile n s).slices) s ≠ 0) ∧
    (∃ (_lowest : BitVec 16) (_below : BitVec 16) (s : State), s.life.state = .running ∧ s.power.level ≠ 4) ∧
    (∃ (mv : BitVec 16) (s : State), s.power.level = 4 ∧ 40000 < mv.toNat ∧ s.power.warnInForce * 100 + 500 < mv.toNat) ∧
    (∃ (mv : BitVec 16) (_x : Option (BitVec 16)) (_s : State), mv.toNat ≤ 40000) :=
  ⟨⟨2, updTile 2 (fun t => { t with sleep := .awake }) base, by decide +kernel, by decide +kernel⟩,
   ⟨2, updTile 2 (fun t => { t with sleep := .light }) base, by decide +kernel⟩,
   ⟨2, updCod 17 (fun d => { d with stage := 0 }) (updCod 20 (fun d => { d with stage := 0 }) (updTile 2 (fun t => { t with sleep := .awake, slices := 2 }) base)), by decide +kernel, by decide +kernel, by decide +kernel⟩,
   ⟨3, updTile 3 (fun t => { t with sleep := .deep }) (setEntry cTile 3 1 18 base), by decide +kernel, by decide +kernel⟩,
   ⟨2, updTile 2 (fun t => { t with sleep := .awake, slices := 2 }) base, by decide +kernel, by decide +kernel, by decide +kernel⟩,
   ⟨2, updTile 2 (fun t => { t with sleep := .awake, slices := 4 }) base, by decide +kernel, by decide +kernel, by decide +kernel⟩,
   ⟨2, updTile 2 (fun t => { t with sleep := .awake, slices := 3 }) (setEntry cSlice 11 1 4 base), by decide +kernel, by decide +kernel, by decide +kernel⟩,
   ⟨37900, 3, base, by decide +kernel, by decide +kernel⟩,
   ⟨40001, updPower (fun p => { p with level := 4, warnInForce := 380 }) base, by decide +kernel, by decide +kernel, by decide +kernel⟩,
   ⟨40000, none, updPower (fun p => { p with level := 4 }) base, by decide +kernel⟩⟩
end A2

namespace A3
theorem test_meets_Bands :
    (∃ (c : Chan) (s : State), (opt c s).bandState = .listen ∧ (opt c s).pin ≠ 2) ∧
    (∃ (c : Chan) (s : State), (opt c s).bandState = .listen ∧ (opt c s).pin ≠ 2) ∧
    (∃ (c : Chan) (_caps : BitVec 8) (_v : Fin 16) (s : State), (opt c s).bandState = .listen ∧ (opt c s).pin ≠ 1) ∧
    (∃ (c : Chan) (f : Fin 16) (_v : Fin 16) (_caps : BitVec 8) (s : State), (opt c s).bandState = .listen ∧ f ≠ 1 ∧ f ≠ 2) ∧
    (∃ (c : Chan) (_caps : BitVec 8) (_v : Fin 16) (s : State), (opt c s).bandState = .beacon ∧ looped c s = false) ∧
    (∃ (c : Chan) (s : State), (opt c s).bandState = .answer ∧ looped c s = false ∧ (cod c s).peerFam ≠ 2) ∧
    (∃ (c : Chan) (s : State), (opt c s).bandState = .beacon ∧ (opt c s).pin ≠ 1) ∧
    (∃ (c : Chan) (s : State), (opt c s).bandState = .beacon ∧ (opt c s).pin = 1) ∧
    (∃ (c : Chan) (s : State), (opt c s).bandState = .backoff) ∧
    (∃ (c : Chan) (s : State), (opt c s).bandState = .answer) ∧
    (∃ (c : Chan) (s : State), (opt c s).bandState = .resolved ∧ (opt c s).los = 0xF#4) ∧
    (∃ (c : Chan) (s : State), (opt c s).pin = 2 ∧ (opt c s).bandState = .listen) :=
  ⟨⟨9, updOpt 9 (fun o => { o with bandState := .listen, pin := 0 }) base, by decide +kernel, by decide +kernel⟩,
   ⟨3, updOpt 3 (fun o => { o with bandState := .listen, pin := 1 }) base, by decide +kernel, by decide +kernel⟩,
   ⟨9, 3, 1, updOpt 9 (fun o => { o with bandState := .listen, pin := 0 }) base, by decide +kernel, by decide +kernel⟩,
   ⟨9, 3, 1, 0, updOpt 9 (fun o => { o with bandState := .listen }) base, by decide +kernel, by decide +kernel, by decide +kernel⟩,
   ⟨9, 3, 1, updOpt 9 (fun o => { o with bandState := .beacon }) base, by decide +kernel, by decide +kernel⟩,
   ⟨9, updOpt 9 (fun o => { o with bandState := .answer }) base, by decide +kernel, by decide +kernel, by decide +kernel⟩,
   ⟨9, updOpt 9 (fun o => { o with bandState := .beacon, pin := 0 }) base, by decide +kernel, by decide +kernel⟩,
   ⟨9, updOpt 9 (fun o => { o with bandState := .beacon, pin := 1 }) base, by decide +kernel, by decide +kernel⟩,
   ⟨9, updOpt 9 (fun o => { o with bandState := .backoff }) base, by decide +kernel⟩,
   ⟨9, updOpt 9 (fun o => { o with bandState := .answer }) base, by decide +kernel⟩,
   ⟨3, updOpt 3 (fun o => { o with bandState := .resolved, los := 0xF }) base, by decide +kernel, by decide +kernel⟩,
   ⟨9, updOpt 9 (fun o => { o with bandState := .listen, pin := 2 }) base, by decide +kernel, by decide +kernel⟩⟩
theorem test_meets_Lasers :
    (∃ (n : Tile) (_r : BitVec 8) (_bias : List (BitVec 16)) (_power : List (BitVec 16)) (s : State), (eng n s).bank = .starting) ∧
    (∃ (n : Tile) (_r : BitVec 8) (_bias : List (BitVec 16)) (_power : List (BitVec 16)) (s : State), (eng n s).bank = .starting) ∧
    (∃ (n : Tile) (_r : BitVec 8) (_bias : List (BitVec 16)) (_power : List (BitVec 16)) (_lo : Bool) (_hi : Bool) (s : State), (eng n s).bank ≠ .starting) ∧
    (∃ (n : Tile) (j : Fin 8) (s : State), (laser n j s).on = true ∧ spareFree n j s = true ∧ (eng n s).lasers.length = 8) ∧
    (∃ (n : Tile) (j : Fin 8) (s : State), (laser n j s).on = true ∧ spareFree n j s = false ∧ (eng n s).lasers.length = 8) ∧
    (∃ (n : Tile) (j : Fin 8) (_w : BitVec 16) (s : State), (spareOf j (eng n s)).st = .tuning ∧ (spareOf j (eng n s)).target = j % 4 ∧ (spareOf j (eng n s)).planned = false) ∧
    (∃ (q : Req) (n : Tile) (j : Fin 8) (s : State), admits q .operator s = true ∧ canSwitch n j s = true) ∧
    (∃ (q : Req) (n : Tile) (j : Fin 8) (s : State), admits q .operator s = true ∧ canSwitch n j s = false) ∧
    (∃ (q : Req) (n : Tile) (j : Fin 8) (s : State), admits q .operator s = true ∧ gone (laser n j s) = false ∧ (eng n s).lasers.length = 8) ∧
    (∃ (q : Req) (n : Tile) (j : Fin 8) (s : State), admits q .operator s = true ∧ gone (laser n j s) = true) :=
  ⟨⟨2, 0xFF, [1], [2], updEng 2 (fun e => { e with bank := .starting }) base, by decide +kernel⟩,
   ⟨2, 0xF7, [1, 2, 3, 4, 5, 6, 7, 8], [1, 2, 3, 4, 5, 6, 7, 8], updEng 2 (fun e => { e with bank := .starting }) base, by decide +kernel⟩,
   ⟨9, 0xFF, [], [], true, false, base, by decide +kernel⟩,
   ⟨2, 1, updEng 2 (fun e => { e with bank := .lit, lasers := List.replicate 8 { Laser.reset with st := .lit } }) base, by decide +kernel, by decide +kernel, by decide +kernel⟩,
   ⟨2, 1, updEng 2 (fun e => { e with bank := .lit, lower := { e.lower with st := .failed }, lasers := List.replicate 8 { Laser.reset with st := .lit } }) base, by decide +kernel, by decide +kernel, by decide +kernel⟩,
   ⟨2, 5, 3, updEng 2 (fun e => { e with bank := .lit, upper := { e.upper with st := .tuning, target := 1 }, lasers := List.replicate 8 { Laser.reset with st := .lit } }) base, by decide +kernel, by decide +kernel, by decide +kernel⟩,
   ⟨q, 2, 1, updEng 2 (fun e => { e with bank := .lit, lasers := List.replicate 8 { Laser.reset with st := .lit } }) base, by decide +kernel, by decide +kernel⟩,
   ⟨q, 2, 1, updEng 2 (fun e => { e with bank := .dark, lasers := List.replicate 8 Laser.reset }) base, by decide +kernel, by decide +kernel⟩,
   ⟨q, 2, 1, updEng 2 (fun e => { e with bank := .lit, lasers := List.replicate 8 { Laser.reset with st := .lit } }) base, by decide +kernel, by decide +kernel, by decide +kernel⟩,
   ⟨q, 2, 1, updEng 2 (fun e => { e with lasers := List.replicate 8 { Laser.reset with st := .retired } }) base, by decide +kernel, by decide +kernel⟩⟩
theorem test_meets_OpticalMeasurements :
    (∃ (_n : Tile) (x : BitVec 16) (_s : State), 200 < (x.toInt - 6000).natAbs) ∧
    (∃ (_n : Tile) (x : BitVec 16) (_s : State), 50 < (x.toInt - 6000).natAbs ∧ (x.toInt - 6000).natAbs ≤ 200) ∧
    (∃ (_n : Tile) (x : BitVec 16) (_s : State), 50 < (x.toInt - 6000).natAbs ∧ (x.toInt - 6000).natAbs ≤ 200) ∧
    (∃ (c : Chan) (k : Lane) (_p : BitVec 16) (s : State), (opt c s).los.getLsbD k = false ∧ (cod c s).stage = 0 ∧ (cod c s).abrupt = false ∧ (asym c s).st = 0) ∧
    (∃ (c : Chan) (k : Lane) (_p : BitVec 16) (s : State), (opt c s).los.getLsbD k = false) ∧
    (∃ (c : Chan) (k : Lane) (w : Fin 3) (_p : BitVec 16) (s : State), (opt c s).los.getLsbD k = false ∧ w ≠ 1) ∧
    (∃ (c : Chan) (k : Lane) (w : Fin 3) (_p : BitVec 16) (s : State), (opt c s).los.getLsbD k = false ∧ w ≠ 1) ∧
    (∃ (c : Chan) (k : Lane) (_w : Fin 3) (_p : BitVec 16) (s : State), (opt c s).los.getLsbD k = true) ∧
    (∃ (c : Chan) (s : State), (opt c s).eqMode = 0) :=
  ⟨⟨2, 6201, base, by decide +kernel⟩,
   ⟨2, 6200, base, by decide +kernel, by decide +kernel⟩,
   ⟨2, 5949, base, by decide +kernel, by decide +kernel⟩,
   ⟨9, 1, 5, updOpt 9 (fun o => { o with los := 0 }) base, by decide +kernel, by decide +kernel, by decide +kernel, by decide +kernel⟩,
   ⟨3, 1, 5, updOpt 3 (fun o => { o with los := 0 }) base, by decide +kernel⟩,
   ⟨3, 1, 2, 5, updOpt 3 (fun o => { o with los := 0 }) base, by decide +kernel, by decide +kernel⟩,
   ⟨3, 1, 0, 5, updOpt 3 (fun o => { o with los := 0 }) base, by decide +kernel, by decide +kernel⟩,
   ⟨3, 1, 0, 5, updOpt 3 (fun o => { o with los := 0xF }) base, by decide +kernel⟩,
   ⟨3, base, by decide +kernel⟩⟩
end A3

namespace A4
def chanUp3 (s : State) : State := updCod 3 (fun d => { d with stage := 6, train := 0xF, everUp := true, txLanes := 0xF, rxLanes := 0xF, maxLanes := 0xF, peerMax := 0xF, locked := 0xF, txAm := 5, rxAm := 6, peerRev := 1, peerFam := 1 }) (updOpt 3 (fun o => { o with bandState := .resolved, band := .lower, lanesLit := 0xF, los := 0 }) (updTile 0 (fun t => { t with sleep := .awake, slices := 2 }) (updMdll 0 (fun m => { m with st := .locked, source := .mdll }) (updEng 0 (fun e => { e with bank := .lit, lasers := e.lasers.map (fun l => { l with st := .lit }) }) s))))
theorem test_meets_BringUp_1 :
    (∃ (c : Chan) (s : State), (cod c s).stage = 2 ∧ (tile (tileOf c) s).sleep = .awake ∧ s.life.state = .running) ∧
    (∃ (c : Chan) (s : State), (cod c s).stage = 2 ∧ (tile (tileOf c) s).sleep = .awake ∧ s.life.state = .running) ∧
    (∃ (c : Chan) (s : State), (tile (tileOf c) s).sleep = .deep) ∧
    (∃ (c : Chan) (k : Lane) (f : Train) (s : State), (cod c s).stage = 3 ∧ f.idOk = true ∧ f.laneId = k ∧ f.inverted = true ∧ f.preReq = 0 ∧ f.postReq = 0 ∧ (cod c s).peerFam = 1) ∧
    (∃ (c : Chan) (k : Lane) (f : Train) (s : State), (cod c s).stage = 3 ∧ f.idOk = true ∧ f.laneId = k ∧ f.inverted = true ∧ f.preReq = 0 ∧ f.postReq = 0 ∧ (cod c s).peerFam = 1) ∧
    (∃ (c : Chan) (s : State), (cod c s).stage = 3 ∧ (cod c s).brace = false ∧ (cod c s).force = false ∧ (cod c s).peerFam = 1 ∧ trainShort c s = false ∧ mapBad c s = false) ∧
    (∃ (c : Chan) (s : State), (cod c s).stage = 3 ∧ (cod c s).brace = false ∧ (cod c s).force = false ∧ (cod c s).peerFam = 1 ∧ trainShort c s = false ∧ mapBad c s = false) ∧
    (∃ (c : Chan) (s : State), (cod c s).stage = 3 ∧ trainShort c s = true) ∧
    (∃ (c : Chan) (_tx : BitVec 4) (_mx : BitVec 4) (s : State), (cod c s).stage = 4) ∧
    (∃ (c : Chan) (_tx : BitVec 4) (_mx : BitVec 4) (s : State), (cod c s).stage = 4) :=
  ⟨⟨3, updCod 3 (fun d => { d with stage := 2 }) (updTile 0 (fun t => { t with sleep := .awake }) base), by decide +kernel, by decide +kernel, by decide +kernel⟩,
   ⟨9, updCod 9 (fun d => { d with stage := 2 }) (updTile 1 (fun t => { t with sleep := .awake }) base), by decide +kernel, by decide +kernel, by decide +kernel⟩,
   ⟨9, base, by decide +kernel⟩,
   ⟨9, 1, ⟨1, true, 3, 0, 0, true⟩, updCod 9 (fun d => { d with stage := 3, peerFam := 1 }) base, by decide +kernel, by decide +kernel, by decide +kernel, by decide +kernel, by decide +kernel, by decide +kernel, by decide +kernel⟩,
   ⟨3, 1, ⟨1, true, 3, 0, 0, true⟩, updCod 3 (fun d => { d with stage := 3, peerFam := 1 }) base, by decide +kernel, by decide +kernel, by decide +kernel, by decide +kernel, by decide +kernel, by decide +kernel, by decide +kernel⟩,
   ⟨9, updOpt 9 (fun o => { o with los := 15 }) (updCod 9 (fun d => { d with stage := 3, peerFam := 1, peerCaps := 0x40, laneMap := 0xFFFF, brace := false, force := false }) base), by decide +kernel, by decide +kernel, by decide +kernel, by decide +kernel, by decide +kernel, by decide +kernel⟩,
   ⟨3, updOpt 3 (fun o => { o with los := 15 }) (updCod 3 (fun d => { d with stage := 3, peerFam := 1, peerCaps := 0x40, laneMap := 0xFFFF, brace := false, force := false }) base), by decide +kernel, by decide +kernel, by decide +kernel, by decide +kernel, by decide +kernel, by decide +kernel⟩,
   ⟨5, updOpt 5 (fun o => { o with los := 15 }) (updCod 5 (fun d => { d with stage := 3, peerFam := 1, peerCaps := 0, granted := true }) (engOff 0 base)), by decide +kernel, by decide +kernel⟩,
   ⟨9, 15, 15, updCod 9 (fun d => { d with stage := 4, train := 15 }) base, by decide +kernel⟩,
   ⟨3, 15, 15, updCod 3 (fun d => { d with stage := 4, train := 15 }) base, by decide +kernel⟩⟩
theorem test_meets_BringUp_2 :
    (∃ (c : Chan) (s : State), (cod c s).stage = 5) ∧
    (∃ (c : Chan) (s : State), (cod c s).stage = 5) ∧
    (∃ (c : Chan) (s : State), 2 ≤ (cod c s).stage ∧ (cod c s).stage ≤ 5) ∧
    (∃ (c : Chan) (s : State), 2 ≤ (cod c s).stage ∧ (cod c s).stage ≤ 5) ∧
    (∃ (c : Chan) (s : State), 2 ≤ (cod c s).stage ∧ (cod c s).stage ≤ 5 ∧ 2 ≤ (cod c s).fails) ∧
    (∃ (c : Chan) (s : State), 2 ≤ (cod c s).stage ∧ (cod c s).stage ≤ 5 ∧ 2 ≤ (cod c s).fails) ∧
    (∃ (c : Chan) (s : State), (cod c s).stage < 6 ∧ (opt c s).bandState = .resolved) ∧
    (∃ (q : Req) (c : Chan) (s : State), admits q .operator s = true ∧ (opt c s).bandState = .resolved ∧ (cod c s).stage = 6) ∧
    (∃ (q : Req) (s : State), admits q .operator s = true) :=
  ⟨⟨9, updCod 9 (fun d => { d with stage := 5, train := 15, txLanes := 15, rxLanes := 15 }) base, by decide +kernel⟩,
   ⟨3, updCod 3 (fun d => { d with stage := 5, train := 15 }) base, by decide +kernel⟩,
   ⟨9, updCod 9 (fun d => { d with stage := 2 }) base, by decide +kernel, by decide +kernel⟩,
   ⟨3, updCod 3 (fun d => { d with stage := 5 }) base, by decide +kernel, by decide +kernel⟩,
   ⟨9, updCod 9 (fun d => { d with stage := 2, fails := 2 }) base, by decide +kernel, by decide +kernel, by decide +kernel⟩,
   ⟨3, updCod 3 (fun d => { d with stage := 5, fails := 2 }) base, by decide +kernel, by decide +kernel, by decide +kernel⟩,
   ⟨9, updOpt 9 (fun o => { o with bandState := .resolved }) (updCod 9 (fun d => { d with stage := 5 }) base), by decide +kernel, by decide +kernel⟩,
   ⟨q, 3, updOpt 3 (fun o => { o with bandState := .resolved }) (updCod 3 (fun d => { d with stage := 6 }) base), by decide +kernel, by decide +kernel, by decide +kernel⟩,
   ⟨q, base, by decide +kernel⟩⟩
theorem test_meets_MarkersAndFurl_1 :
    (∃ (c : Chan) (s : State), (cod c s).stage = 6 ∧ (cod c s).wake = 0 ∧ (cod c s).announced = false ∧ (cod c s).rxAnn = false) ∧
    (∃ (c : Chan) (s : State), (cod c s).stage = 6 ∧ (cod c s).wake = 0 ∧ (cod c s).announced = false ∧ (cod c s).rxAnn = false) ∧
    (∃ (c : Chan) (s : State), (cod c s).stage = 6 ∧ (cod c s).announced = true ∧ (cod c s).atCount = (cod c s).txAm + 1 ∧ (cod c s).nextLanes = 3#4 ∧ (cod c s).txLanes = 0xF#4 ∧ (cod c s).peerFault = 0 ∧ (cod c s).rxAnn = false) ∧
    (∃ (c : Chan) (s : State), (cod c s).stage = 6 ∧ (cod c s).announced = true ∧ (cod c s).atCount = (cod c s).txAm + 1 ∧ (cod c s).nextLanes = 3#4 ∧ (cod c s).txLanes = 0xF#4 ∧ (cod c s).peerFault = 0 ∧ (cod c s).rxAnn = false) ∧
    (∃ (c : Chan) (k : Lane) (m : Marker) (s : State), (cod c s).stage = 4 ∧ (cod c s).peerFam = 2 ∧ (cod c s).locked = 0 ∧ (Tab.find k.val (cod c s).amSeen).isSome = true ∧ (cod c s).rxFault = 0 ∧ (cod c s).abrupt = false ∧ m.abrupt = false ∧ m.next = m.tx) ∧
    (∃ (c : Chan) (k : Lane) (m : Marker) (s : State), (cod c s).stage = 4 ∧ (cod c s).peerFam = 2 ∧ (cod c s).locked = 0 ∧ (Tab.find k.val (cod c s).amSeen).isSome = true ∧ (cod c s).rxFault = 0 ∧ (cod c s).abrupt = false ∧ m.abrupt = false ∧ m.next = m.tx) ∧
    (∃ (c : Chan) (k : Lane) (m : Marker) (s : State), (cod c s).stage = 4 ∧ (cod c s).locked = 0 ∧ Tab.find k.val (cod c s).amSeen = none ∧ (cod c s).rxFault = 0 ∧ (cod c s).abrupt = false ∧ m.abrupt = false ∧ m.next = m.tx) ∧
    (∃ (c : Chan) (_k : Lane) (_m : Marker) (s : State), (cod c s).stage < 4) :=
  ⟨⟨9, updCod 9 (fun d => { d with stage := 6 }) base, by decide +kernel, by decide +kernel, by decide +kernel, by decide +kernel⟩,
   ⟨3, updCod 3 (fun d => { d with stage := 6 }) base, by decide +kernel, by decide +kernel, by decide +kernel, by decide +kernel⟩,
   ⟨9, updCod 9 (fun d => { d with stage := 6, announced := true, atCount := 6, txAm := 5, nextLanes := 3, txLanes := 15 }) base, by decide +kernel, by decide +kernel, by decide +kernel, by decide +kernel, by decide +kernel, by decide +kernel, by decide +kernel⟩,
   ⟨3, updCod 3 (fun d => { d with stage := 6, announced := true, atCount := 6, txAm := 5, nextLanes := 3, txLanes := 15 }) base, by decide +kernel, by decide +kernel, by decide +kernel, by decide +kernel, by decide +kernel, by decide +kernel, by decide +kernel⟩,
   ⟨9, 2, ⟨1, 2, 3, 15, 15, 0, 15, 0, false, false, false, 0, false, 0⟩, updCod 9 (fun d => { d with stage := 4, peerFam := 2, locked := 0, amSeen := [(2, 7)] }) base, by decide +kernel, by decide +kernel, by decide +kernel, by decide +kernel, by decide +kernel, by decide +kernel, by decide +kernel, by decide +kernel⟩,
   ⟨3, 2, ⟨1, 2, 3, 1, 1, 0, 15, 0, false, false, false, 0, false, 0⟩, updCod 3 (fun d => { d with stage := 4, peerFam := 2, amSeen := [(2, 7)], locked := 0 }) base, by decide +kernel, by decide +kernel, by decide +kernel, by decide +kernel, by decide +kernel, by decide +kernel, by decide +kernel, by decide +kernel⟩,
   ⟨3, 2, ⟨1, 2, 3, 1, 1, 0, 15, 0, false, false, false, 0, false, 0⟩, updCod 3 (fun d => { d with stage := 4, locked := 0 }) base, by decide +kernel, by decide +kernel, by decide +kernel, by decide +kernel, by decide +kernel, by decide +kernel, by decide +kernel⟩,
   ⟨9, 2, ⟨1, 2, 3, 15, 15, 0, 15, 0, false, false, false, 0, false, 0⟩, updCod 9 (fun d => { d with stage := 3 }) base, by decide +kernel⟩⟩
theorem test_meets_MarkersAndFurl_2 :
    (∃ (c : Chan) (k : Lane) (s : State), (cod c s).locked.getLsbD k = true ∧ (cod c s).stage = 4 ∧ (cod c s).abrupt = false) ∧
    (∃ (c : Chan) (k : Lane) (s : State), (cod c s).locked.getLsbD k = true ∧ (cod c s).stage = 4 ∧ (cod c s).abrupt = false) ∧
    (∃ (c : Chan) (s : State), chanHeld c s = false ∧ mayFurl c s = true ∧ (cod c s).txLanes = 0xF#4 ∧ cfg 0x2102 (c + 1) s = 2 ∧ 0 < cfg 0x2103 (c + 1) s) ∧
    (∃ (c : Chan) (_p : Nat) (s : State), mayFurl c s = false) ∧
    (∃ (c : Chan) (s : State), (cod c s).stage = 6 ∧ s.life.state = .running ∧ s.power.level = 0 ∧ s.cal.runs = [] ∧ (cod c s).unfurlAsk = false ∧ unfurlNew c s ≠ 0) ∧
    (∃ (c : Chan) (k : Lane) (s : State), (cod c s).stage = 6 ∧ combLit (tileOf c) (laserOf (opt c s).band k) s = true ∧ s.cal.runs = []) ∧
    (∃ (c : Chan) (k : Lane) (s : State), (cod c s).stage = 7 ∧ cfg 0x2109 (c + 1) s = 2 ^ k.val) :=
  ⟨⟨9, 2, updCod 9 (fun d => { d with stage := 4, locked := 15 }) base, by decide +kernel, by decide +kernel, by decide +kernel⟩,
   ⟨3, 2, updCod 3 (fun d => { d with stage := 4, locked := 15 }) base, by decide +kernel, by decide +kernel, by decide +kernel⟩,
   ⟨3, updCod 3 (fun d => { d with peerCaps := 0x20, rxFault := 0, announced := false }) (chanUp3 { base with dict := { base.dict with vals := [(key 0x2101 4, [1]), (key 0x2102 4, [2])] } }), by decide +kernel, by decide +kernel, by decide +kernel, by decide +kernel, by decide +kernel⟩,
   ⟨9, 3, base, by decide +kernel⟩,
   ⟨3, updPower (fun p => { p with level := 0 }) (updCod 3 (fun d => { d with stage := 6, txLanes := 3, maxLanes := 15, peerMax := 15 }) { (chanUp3 base) with cal := Cal.reset }), by decide +kernel, by decide +kernel, by decide +kernel, by decide +kernel, by decide +kernel, by decide +kernel⟩,
   ⟨3, 2, { (chanUp3 base) with cal := Cal.reset }, by decide +kernel, by decide +kernel, by decide +kernel⟩,
   ⟨9, 2, updCod 9 (fun d => { d with stage := 7 }) { base with dict := { base.dict with vals := [(key 0x2109 10, [4])] } }, by decide +kernel, by decide +kernel⟩⟩
end A4

namespace A5
def own (s : State) : State := { s with dict := { s.dict with vals := [(key 0x3210 1, [1]), (key 0x3210 2, [1])] } }
theorem test_meets_DomainWrites :
    (∃ (q : Req) (d : Domain) (x : Time96) (s : State), admits q .operator s = true ∧ hostOwns d s = true ∧ x.ns.toNat ≤ 999999999) ∧
    (∃ (q : Req) (d : Domain) (x : Time96) (s : State), admits q .operator s = true ∧ hostOwns d s = true ∧ x.ns.toNat ≤ 999999999) ∧
    (∃ (q : Req) (d : Domain) (x : Time96) (s : State), admits q .operator s = true ∧ hostOwns d s = true ∧ 999999999 < x.ns.toNat) ∧
    (∃ (q : Req) (d : Domain) (_x : Time96) (s : State), admits q .operator s = true ∧ hostOwns d s = false) ∧
    (∃ (d : Domain) (_x : Time96) (s : State), hostOwns d s = true) ∧
    (∃ (q : Req) (d : Domain) (a : BitVec 64) (s : State), admits q .operator s = true ∧ hostOwns d s = true ∧ a ≠ 0 ∧ adjFits d a.toInt s = true) ∧
    (∃ (q : Req) (d : Domain) (s : State), admits q .operator s = true ∧ hostOwns d s = true ∧ adjFits d 0 s = true) ∧
    (∃ (q : Req) (d : Domain) (r : BitVec 32) (s : State), admits q .operator s = true ∧ hostOwns d s = true ∧ rateOk r.toInt = true) ∧
    (∃ (q : Req) (d : Domain) (_b : Bool) (s : State), admits q .operator s = true ∧ hostOwns d s = true) ∧
    (∃ (q : Req) (d : Domain) (_b : Bool) (s : State), admits q .operator s = true ∧ hostOwns d s = true) :=
  ⟨⟨q, .a, ⟨5, 999999999, 3⟩, own base, by decide +kernel, by decide +kernel, by decide +kernel⟩,
   ⟨q, .b, ⟨5, 6, 3⟩, own base, by decide +kernel, by decide +kernel, by decide +kernel⟩,
   ⟨q, .a, ⟨5, 1000000000, 3⟩, own base, by decide +kernel, by decide +kernel, by decide +kernel⟩,
   ⟨q, .a, ⟨5, 6, 3⟩, base, by decide +kernel, by decide +kernel⟩,
   ⟨.a, ⟨5, 6, 3⟩, own base, by decide +kernel⟩,
   ⟨q, .a, 77, own base, by decide +kernel, by decide +kernel, by decide +kernel, by decide +kernel⟩,
   ⟨q, .a, own base, by decide +kernel, by decide +kernel, by decide +kernel⟩,
   ⟨q, .a, 77, own base, by decide +kernel, by decide +kernel, by decide +kernel⟩,
   ⟨q, .a, true, own base, by decide +kernel, by decide +kernel⟩,
   ⟨q, .b, false, own base, by decide +kernel, by decide +kernel⟩⟩
theorem test_meets_CaptureAndMast :
    (∃ (q : Req) (s : State), admits q .operator s = true) ∧
    (∃ (s : State), s.tb.slewing = true ∧ outOffset s = 80) ∧
    (∃ (s : State), s.tb.slewing = false) ∧
    (∃ (s : State), s.tb.running = true ∧ s.tb.mastOk = true) ∧
    (∃ (s : State), s.tb.running = true ∧ s.tb.mastOk = false) ∧
    (∃ (s : State), s.tb.juryOk = true) ∧
    (∃ (s : State), s.tb.juryOk = false ∧ s.tb.running = true) ∧
    (∃ (mv : BitVec 16) (_s : State), mv.toNat < 600 ∨ 1900 < mv.toNat) ∧
    (∃ (mv : BitVec 16) (_s : State), mv.toNat < 600 ∨ 1900 < mv.toNat) ∧
    (∃ (mv : BitVec 16) (s : State), 600 ≤ mv.toNat ∧ mv.toNat ≤ 1900 ∧ mv.toNat < s.tb.lockLow) :=
  ⟨⟨q, base, by decide +kernel⟩,
   ⟨{ base with tb := { base.tb with slewing := true, p := (domOf (outDomain base) base).counter.lsb - 80 } }, by decide +kernel, by decide +kernel⟩,
   ⟨base, by decide +kernel⟩,
   ⟨base, by decide +kernel, by decide +kernel⟩,
   ⟨{ base with tb := { base.tb with mastOk := false } }, by decide +kernel, by decide +kernel⟩,
   ⟨base, by decide +kernel⟩,
   ⟨{ base with tb := { base.tb with juryOk := false } }, by decide +kernel, by decide +kernel⟩,
   ⟨599, base, by decide +kernel⟩,
   ⟨1901, base, by decide +kernel⟩,
   ⟨600, base, by decide +kernel, by decide +kernel, by decide +kernel⟩⟩
theorem test_meets_MdllStates :
    (∃ (m : Fin 26) (s : State), (mdll m s).st = .acquiring ∧ s.tb.mastOk = true) ∧
    (∃ (m : Fin 26) (s : State), (mdll m s).st = .acquiring ∧ s.tb.mastOk = true) ∧
    (∃ (m : Fin 26) (s : State), (mdll m s).st = .acquiring ∧ s.tb.mastOk = true ∧ (mdll m s).retries < 3) ∧
    (∃ (m : Fin 26) (s : State), (mdll m s).st = .acquiring ∧ s.tb.mastOk = true ∧ 3 ≤ (mdll m s).retries) ∧
    (∃ (m : Fin 26) (s : State), (mdll m s).st = .acquiring ∧ s.tb.mastOk = true ∧ 3 ≤ (mdll m s).retries) ∧
    (∃ (m : Fin 26) (s : State), (mdll m s).st = .acquiring ∧ s.tb.mastOk = true ∧ 3 ≤ (mdll m s).retries) ∧
    (∃ (s : State), (mdll 24 s).st = .hold) ∧
    (∃ (_x : BitVec 12) (s : State), (mdll 24 s).st = .locked) ∧
    (∃ (s : State), (mdll 24 s).st = .hold) ∧
    (∃ (q : Req) (s : State), admits q .operator s = true ∧ (mdll 24 s).st = .failed) ∧
    (∃ (q : Req) (m : BitVec 8) (s : State), admits q .operator s = true ∧ 25 < m.toNat) :=
  ⟨⟨3, updMdll 3 (fun m => { m with st := .acquiring }) base, by decide +kernel, by decide +kernel⟩,
   ⟨25, updMdll 25 (fun m => { m with st := .acquiring }) base, by decide +kernel, by decide +kernel⟩,
   ⟨24, updMdll 24 (fun m => { m with st := .acquiring, retries := 2 }) base, by decide +kernel, by decide +kernel, by decide +kernel⟩,
   ⟨24, updMdll 24 (fun m => { m with st := .acquiring, retries := 3 }) base, by decide +kernel, by decide +kernel, by decide +kernel⟩,
   ⟨0, updMdll 0 (fun m => { m with st := .acquiring, retries := 3 }) base, by decide +kernel, by decide +kernel, by decide +kernel⟩,
   ⟨25, updMdll 25 (fun m => { m with st := .acquiring, retries := 3 }) base, by decide +kernel, by decide +kernel, by decide +kernel⟩,
   ⟨updMdll 24 (fun m => { m with st := .hold }) base, by decide +kernel⟩,
   ⟨3, updMdll 24 (fun m => { m with st := .locked }) base, by decide +kernel⟩,
   ⟨updMdll 24 (fun m => { m with st := .hold }) base, by decide +kernel⟩,
   ⟨q, updMdll 24 (fun m => { m with st := .failed }) base, by decide +kernel, by decide +kernel⟩,
   ⟨q, 26, base, by decide +kernel, by decide +kernel⟩⟩
end A5

namespace A6
def hl (s : State) : State := { s with vern := { s.vern with helperLocked := true, trace := none } }
def pin (s : State) : State := updMdll 25 (fun m => { m with st := .locked }) (hl { s with dict := { s.dict with vals := [(key 0x3105 2, [2])] } })
def euS (m : Nat) (s : State) : State := updMdll 25 (fun m => { m with st := .locked }) { s with dict := { s.dict with vals := [(key 0x310B 2, [BitVec.ofNat 8 m, 0, 0, 0, 0, 0, 0, 0])] } }
theorem test_meets_DetectorSamples :
    (∃ (d : Fin 208) (_m : Fin 16384) (s : State), s.vern.helperLocked = true ∧ s.tb.mastOk = true ∧ pulseDet d s = false ∧ srcPresent d s = true ∧ (det d s).resume = true ∧ s.vern.trace = none) ∧
    (∃ (d : Fin 208) (_m : Fin 16384) (s : State), s.vern.helperLocked = true ∧ s.tb.mastOk = true ∧ pulseDet d s = false ∧ srcPresent d s = true ∧ (det d s).resume = true ∧ s.vern.trace = none) ∧
    (∃ (d : Fin 208) (_m : Fin 16384) (s : State), s.vern.helperLocked = true ∧ s.tb.mastOk = true ∧ pulseDet d s = false ∧ srcPresent d s = true) ∧
    (∃ (d : Fin 208) (_m : Fin 16384) (s : State), s.vern.helperLocked = true ∧ s.tb.mastOk = true ∧ pulseDet d s = false ∧ srcPresent d s = true) ∧
    (∃ (_d : Fin 208) (_m : Fin 16384) (_b : Bool) (s : State), s.vern.helperLocked = false) ∧
    (∃ (s : State), s.vern.helperLocked = true ∧ s.tb.mastOk = true) ∧
    (∃ (s : State), s.vern.helperLocked = true) ∧
    (∃ (s : State), s.vern.helperLocked = false ∧ s.tb.running = true ∧ s.tb.mastOk = true) :=
  ⟨⟨202, 3, updDet 202 (fun d => { d with resume := true }) (hl base), by decide +kernel, by decide +kernel, by decide +kernel, by decide +kernel, by decide +kernel, by decide +kernel⟩,
   ⟨3, 16383, updDet 3 (fun d => { d with resume := true }) (updCod 3 (fun d => { d with stage := 6, locked := 15 }) (hl base)), by decide +kernel, by decide +kernel, by decide +kernel, by decide +kernel, by decide +kernel, by decide +kernel⟩,
   ⟨202, 3, hl base, by decide +kernel, by decide +kernel, by decide +kernel, by decide +kernel⟩,
   ⟨3, 3, updCod 3 (fun d => { d with stage := 6, locked := 15 }) (hl base), by decide +kernel, by decide +kernel, by decide +kernel, by decide +kernel⟩,
   ⟨3, 5, true, { base with vern := { base.vern with helperLocked := false } }, by decide +kernel⟩,
   ⟨hl base, by decide +kernel, by decide +kernel⟩,
   ⟨hl base, by decide +kernel⟩,
   ⟨{ base with vern := { base.vern with helperLocked := false } }, by decide +kernel, by decide +kernel, by decide +kernel⟩⟩
theorem test_meets_PulsesAndTraces :
    (∃ (n : Fin 4) (_x : Time96) (s : State), cfg 0x3105 (n + 1) s = 2 ∧ s.vern.helperLocked = true ∧ s.tb.mastOk = true ∧ (mdll 25 s).st = .locked ∧ (det (192 + n) s).lastPulse = none ∧ s.vern.trace = none) ∧
    (∃ (n : Fin 4) (x : Time96) (l : Int) (s : State), cfg 0x3105 (n + 1) s = 2 ∧ s.vern.helperLocked = true ∧ s.tb.mastOk = true ∧ (mdll 25 s).st = .locked ∧ (det (192 + n) s).lastPulse = some l ∧ (det (192 + n) s).resume = false ∧ 65536000000 < ((lsbOf x : Int) - l - (lsbPerSec : Nat)).natAbs) ∧
    (∃ (q : Req) (d : BitVec 16) (n : BitVec 16) (s : State), admits q .operator s = true ∧ d.toNat ≤ 207 ∧ 1 ≤ n.toNat ∧ n.toNat ≤ 4096 ∧ s.vern.trace = none) ∧
    (∃ (q : Req) (d : BitVec 16) (n : BitVec 16) (r : Trace) (s : State), admits q .operator s = true ∧ d.toNat ≤ 207 ∧ 1 ≤ n.toNat ∧ n.toNat ≤ 4096 ∧ s.vern.trace = some r ∧ r.done = false) ∧
    (∃ (q : Req) (d : BitVec 16) (n : BitVec 16) (s : State), admits q .operator s = true ∧ (207 < d.toNat ∨ n.toNat = 0 ∨ 4096 < n.toNat)) ∧
    (∃ (q : Req) (d : BitVec 16) (n : BitVec 16) (s : State), admits q .operator s = true ∧ (207 < d.toNat ∨ n.toNat = 0 ∨ 4096 < n.toNat)) ∧
    (∃ (r : Trace) (s : State), s.vern.trace = some r ∧ r.want ≤ r.recs.length) :=
  ⟨⟨1, ⟨5, 6, 7⟩, pin base, by decide +kernel, by decide +kernel, by decide +kernel, by decide +kernel, by decide +kernel, by decide +kernel⟩,
   ⟨1, ⟨5, 6, 7⟩, 0, updDet 193 (fun d => { d with lastPulse := some 0, resume := false }) (pin base), by decide +kernel, by decide +kernel, by decide +kernel, by decide +kernel, by decide +kernel, by decide +kernel, by decide +kernel⟩,
   ⟨q, 207, 4096, hl base, by decide +kernel, by decide +kernel, by decide +kernel, by decide +kernel, by decide +kernel⟩,
   ⟨q, 207, 1, ⟨3, 5, [], false⟩, { base with vern := { base.vern with trace := some ⟨3, 5, [], false⟩ } }, by decide +kernel, by decide +kernel, by decide +kernel, by decide +kernel, by decide +kernel, by decide +kernel⟩,
   ⟨q, 208, 1, base, by decide +kernel, by decide +kernel⟩,
   ⟨q, 1, 4097, base, by decide +kernel, by decide +kernel⟩,
   ⟨⟨3, 0, [], false⟩, { base with vern := { base.vern with trace := some ⟨3, 0, [], false⟩ } }, by decide +kernel, by decide +kernel⟩⟩
theorem test_meets_EventUnits :
    (∃ (q : Req) (u : Fin 4) (s : State), admits q .operator s = true ∧ (eu u s).calRunning = false) ∧
    (∃ (q : Req) (u : Fin 4) (s : State), admits q .operator s = true ∧ (eu u s).calRunning = true) ∧
    (∃ (u : Fin 4) (_x : Int) (_y : Time96) (s : State), (mdll 25 s).st = .locked ∧ (eu u s).armed = true ∧ (eu u s).calRunning = false ∧ euMode u s = 1 ∧ (eu u s).start = none ∧ (eu u s).heldStop = none ∧ (eu u s).blindStart = none ∧ (eu u s).readyAt = none) ∧
    (∃ (u : Fin 4) (x : Int) (x0 : Int) (_y : Time96) (s : State), (mdll 25 s).st = .locked ∧ (eu u s).armed = true ∧ (eu u s).calRunning = false ∧ euMode u s = 1 ∧ (eu u s).start = some x0 ∧ x0 + 40000000 ≤ x ∧ (eu u s).blindStop = none ∧ (eu u s).queue = [] ∧ (eu u s).calValid = true ∧ (eu u s).epochSeen = (domOf (euDomain u s) s).epoch) ∧
    (∃ (u : Fin 4) (_x : Int) (_st : Bool) (_y : Time96) (s : State), (eu u s).armed = false) ∧
    (∃ (u : Fin 4) (x0 : Int) (s : State), (eu u s).armed = true ∧ euMode u s = 1 ∧ (eu u s).start = some x0 ∧ (eu u s).queue.length < 64) ∧
    (∃ (u : Fin 4) (x0 : Int) (s : State), (eu u s).armed = true ∧ euMode u s = 2 ∧ (eu u s).start = some x0 ∧ (eu u s).stops = [] ∧ (eu u s).queue = []) :=
  ⟨⟨q, 1, base, by decide +kernel, by decide +kernel⟩,
   ⟨q, 1, updEu 1 (fun e => { e with calRunning := true }) base, by decide +kernel, by decide +kernel⟩,
   ⟨1, 5000, ⟨1, 2, 3⟩, updEu 1 (fun e => { e with armed := true }) (euS 1 base), by decide +kernel, by decide +kernel, by decide +kernel, by decide +kernel, by decide +kernel, by decide +kernel, by decide +kernel, by decide +kernel⟩,
   ⟨1, 40005000, 5000, ⟨1, 2, 3⟩, updEu 1 (fun e => { e with armed := true, start := some 5000, calValid := true, epochSeen := (domOf (euDomain 1 base) base).epoch }) (euS 1 base), by decide +kernel, by decide +kernel, by decide +kernel, by decide +kernel, by decide +kernel, by decide +kernel, by decide +kernel, by decide +kernel, by decide +kernel, by decide +kernel⟩,
   ⟨1, 7, true, ⟨1, 2, 3⟩, updEu 1 (fun e => { e with armed := false }) base, by decide +kernel⟩,
   ⟨1, 5000, updEu 1 (fun e => { e with armed := true, start := some 5000 }) (euS 1 base), by decide +kernel, by decide +kernel, by decide +kernel, by decide +kernel⟩,
   ⟨1, 5000, updEu 1 (fun e => { e with armed := true, start := some 5000 }) (euS 2 base), by decide +kernel, by decide +kernel, by decide +kernel, by decide +kernel, by decide +kernel⟩⟩
end A6

namespace A7
def set (k : Nat) (v : List Byte) (s : State) : State := { s with dict := { s.dict with vals := Tab.set k v s.dict.vals } }
def rf (f : Refs → Refs) (s : State) : State := { s with refs := f s.refs }
def es (s : State) : State := set (key 0x3201 7) [3] (set (key 0x320A 4) [1] (updCod 3 (fun d => { d with stage := 6 }) { s with dict := Dict.reset }))
def outOn (f : Output → Output) (s : State) : State := updOut 1 (fun o => f { o with mode := 1 }) (set (key 0x3223 2) [0] (set (key 0x3222 2) [0] (set (key 0x3221 2) [0] { s with vern := { s.vern with helperLocked := false }, pins := { s.pins with outHeld := false } })))
def outTod (s : State) : State := updOut 0 (fun o => { o with mode := 1 }) (set (key 0x3223 1) [0] (set (key 0x3222 1) [0] (set (key 0x3221 1) [0] { s with pins := { s.pins with outHeld := false } })))
theorem test_meets_SlotSelection :
    (∃ (_drift : Int) (s : State), servoRuns s = true) ∧
    (∃ (_drift : Int) (s : State), servoRuns s = false) ∧
    (∃ (_drift : Int) (s : State), servoRuns s = true ∧ s.refs.slots = [(0, { Slot.reset with freq := ⟨.qualified, 0⟩ })] ∧ s.refs.freq = Path.reset ∧ s.refs.timeA = Path.reset ∧ s.refs.timeB = Path.reset ∧ (det 192 s).valid = true ∧ (det 192 s).freqValid = false ∧ s.pair.role = .unpaired ∧ cfg 0x3216 1 s = 255 ∧ cfgB 0x3217 1 s = false) ∧
    (∃ (_x : Int) (_y : Int) (k : Nat) (s : State), s.refs.freq.switching = some k ∧ s.refs.freq.bridging = false ∧ s.refs.freq.fromHold = false) ∧
    (∃ (k : Fin 16) (b : Bool) (s : State), (qualif k b s).st = .qualifying ∧ servoRuns s = true) ∧
    (∃ (k : Fin 16) (b : Bool) (s : State), (qualif k b s).st = .qualifying ∧ servoRuns s = true) ∧
    (∃ (k : Fin 16) (b : Bool) (s : State), (qualif k b s).st = .holdOff ∧ servoRuns s = true) ∧
    (∃ (k : Fin 16) (b : Bool) (s : State), (qualif k b s).st = .waitRestore ∧ servoRuns s = true) :=
  ⟨⟨7, base, by decide +kernel⟩,
   ⟨7, updLife (fun l => { l with state := .restarting }) base, by decide +kernel⟩,
   ⟨7, updDet 192 (fun d => { d with valid := true, freqValid := false }) (rf (fun r => { r with slots := [(0, { Slot.reset with freq := ⟨.qualified, 0⟩ })], freq := Path.reset, timeA := Path.reset, timeB := Path.reset }) (set (key 0x3216 1) [255] (set (key 0x3217 1) [0] { base with pair := { base.pair with role := .unpaired } }))), by decide +kernel, by decide +kernel, by decide +kernel, by decide +kernel, by decide +kernel, by decide +kernel, by decide +kernel, by decide +kernel, by decide +kernel, by decide +kernel⟩,
   ⟨5, 6, 3, rf (fun r => { r with freq := { Path.reset with st := .locked, slot := some 2, switching := some 3 } }) base, by decide +kernel, by decide +kernel, by decide +kernel⟩,
   ⟨7, false, updSlot 7 (fun x => { x with freq := ⟨.qualifying, 1⟩ }) base, by decide +kernel, by decide +kernel⟩,
   ⟨7, true, updSlot 7 (fun x => { x with time := ⟨.qualifying, 1⟩ }) base, by decide +kernel, by decide +kernel⟩,
   ⟨7, true, updSlot 7 (fun x => { x with time := ⟨.holdOff, 2⟩ }) base, by decide +kernel, by decide +kernel⟩,
   ⟨7, true, updSlot 7 (fun x => { x with time := ⟨.waitRestore, 2⟩ }) base, by decide +kernel, by decide +kernel⟩⟩
theorem test_meets_PathStates_1 :
    (∃ (n : Fin 3) (s : State), (path n s).st = .acquiring ∧ (path n s).switching = none ∧ servoRuns s = true) ∧
    (∃ (n : Fin 3) (s : State), (path n s).st = .acquiring ∧ (path n s).switching = none ∧ servoRuns s = true) ∧
    (∃ (n : Fin 3) (s : State), (path n s).st = .acquiring ∧ (path n s).switching = none ∧ servoRuns s = true) ∧
    (∃ (s : State), s.refs.timeA.st = .acquiring ∧ s.refs.timeA.switching = none ∧ servoRuns s = true ∧ s.pair.role = .unpaired) ∧
    (∃ (n : Fin 3) (s : State), (path n s).st = .acquiring ∧ (path n s).slot = none ∧ servoRuns s = true ∧ readyFor n s = true) ∧
    (∃ (n : Fin 3) (s : State), (path n s).st = .acquiring ∧ (path n s).slot = none ∧ servoRuns s = true ∧ readyFor n s = true) ∧
    (∃ (n : Fin 3) (s : State), (path n s).st = .acquiring ∧ (path n s).slot = none ∧ servoRuns s = true ∧ readyFor n s = false) :=
  ⟨⟨0, rf (fun r => { r with freq := { Path.reset with st := .acquiring, slot := some 0 } }) base, by decide +kernel, by decide +kernel, by decide +kernel⟩,
   ⟨1, rf (fun r => { r with timeA := { Path.reset with st := .acquiring, slot := some 0 } }) base, by decide +kernel, by decide +kernel, by decide +kernel⟩,
   ⟨2, rf (fun r => { r with timeB := { Path.reset with st := .acquiring, slot := some 0 } }) base, by decide +kernel, by decide +kernel, by decide +kernel⟩,
   ⟨rf (fun r => { r with timeA := { Path.reset with st := .acquiring, slot := some 0 } }) { base with pair := { base.pair with role := .unpaired } }, by decide +kernel, by decide +kernel, by decide +kernel, by decide +kernel⟩,
   ⟨0, rf (fun r => { r with ready := true, freq := { Path.reset with st := .acquiring } }) base, by decide +kernel, by decide +kernel, by decide +kernel, by decide +kernel⟩,
   ⟨1, rf (fun r => { r with ready := true, timeA := { Path.reset with st := .acquiring } }) base, by decide +kernel, by decide +kernel, by decide +kernel, by decide +kernel⟩,
   ⟨0, rf (fun r => { r with ready := false, freq := { Path.reset with st := .acquiring } }) base, by decide +kernel, by decide +kernel, by decide +kernel, by decide +kernel⟩⟩
theorem test_meets_PathStates_2 :
    (∃ (n : Fin 3) (s : State), (path n s).st = .acquiring ∧ (path n s).slot = none ∧ servoRuns s = true ∧ readyFor n s = false) ∧
    (∃ (n : Fin 3) (s : State), (path n s).st = .locked ∧ servoRuns s = true) ∧
    (∃ (n : Fin 3) (s : State), (path n s).st = .locked ∧ servoRuns s = true) ∧
    (∃ (b0 : Nat) (uy : Nat) (ud : Nat) (uk : Nat) (sumT : Nat) (s : State), servoRuns s = true ∧ s.refs.freq.st = .holdover ∧ s.refs.timeA.st = .free ∧ s.refs.timeB.st = .free ∧ b0 + uy * (s.refs.freq.holdSec + 1) / 1000 + ud * (s.refs.freq.holdSec + 1) * (s.refs.freq.holdSec + 1) / 2000000 + uk * sumT / 1000000 ≤ cfg 0x3218 0 s * 1000) ∧
    (∃ (b0 : Nat) (s : State), servoRuns s = true ∧ s.refs.freq.st = .holdover ∧ s.refs.timeA.st = .free ∧ s.refs.timeB.st = .free ∧ cfg 0x3218 0 s * 1000 < b0) ∧
    (∃ (s : State), s.refs.freq.st = .locked) ∧
    (∃ (s : State), cfg 0x3211 0 s = 1 ∧ s.life.state = .running ∧ s.refs.ready = false) :=
  ⟨⟨1, rf (fun r => { r with ready := false, freq := Path.reset, timeA := { Path.reset with st := .acquiring } }) base, by decide +kernel, by decide +kernel, by decide +kernel, by decide +kernel⟩,
   ⟨0, rf (fun r => { r with freq := { Path.reset with st := .locked, slot := some 0 } }) base, by decide +kernel, by decide +kernel⟩,
   ⟨1, rf (fun r => { r with timeA := { Path.reset with st := .locked, slot := some 0 } }) base, by decide +kernel, by decide +kernel⟩,
   ⟨1, 2, 3, 4, 5, rf (fun r => { r with freq := { Path.reset with st := .holdover, holdSec := 10 }, timeA := Path.reset, timeB := Path.reset }) base, by decide +kernel, by decide +kernel, by decide +kernel, by decide +kernel, by decide +kernel⟩,
   ⟨1500001, set (key 0x3218 0) [0xDC, 5, 0, 0] (rf (fun r => { r with freq := { Path.reset with st := .holdover, holdSec := 10 }, timeA := Path.reset, timeB := Path.reset }) base), by decide +kernel, by decide +kernel, by decide +kernel, by decide +kernel, by decide +kernel⟩,
   ⟨rf (fun r => { r with freq := { Path.reset with st := .locked, slot := some 0 } }) base, by decide +kernel⟩,
   ⟨set (key 0x3211 0) [1] (rf (fun r => { r with ready := false }) base), by decide +kernel, by decide +kernel, by decide +kernel⟩⟩
theorem test_meets_EsmcAndOutputs :
    (∃ (c : Chan) (k : Nat) (s : State), esmcOn c s = true ∧ (cod c s).stage = 6 ∧ slotsOf c s = [k]) ∧
    (∃ (c : Chan) (k : Nat) (s : State), esmcOn c s = true ∧ (cod c s).stage = 6 ∧ slotsOf c s = [k]) ∧
    (∃ (c : Chan) (k : Nat) (s : State), esmcOn c s = true ∧ slotsOf c s = [k]) ∧
    (∃ (c : Chan) (s : State), esmcOn c s = false) ∧
    (∃ (s : State), servoRuns s = true) ∧
    (∃ (n : Fin 4) (s : State), (outp n s).waiting = true ∧ (mdll 25 s).st = .locked ∧ s.tb.configured = true) ∧
    (∃ (n : Fin 4) (s : State), (outp n s).waiting = false) ∧
    (∃ (n : Fin 4) (_x : Int) (s : State), squelched n s = false ∧ (outp n s).mode = 1 ∧ (outp n s).lastEdge = none ∧ s.vern.helperLocked = false ∧ cfg 0x3222 (n + 1) s = 0) ∧
    (∃ (n : Fin 4) (_x : Int) (l : Int) (s : State), squelched n s = false ∧ (outp n s).mode = 1 ∧ (outp n s).lastEdge = some l ∧ s.tb.p - l < (outPeriod (outp n s) * 32768 : Nat)) ∧
    (∃ (n : Fin 4) (_x : Int) (s : State), squelched n s = true) :=
  ⟨⟨3, 6, es base, by decide +kernel, by decide +kernel, by decide +kernel⟩,
   ⟨3, 6, es base, by decide +kernel, by decide +kernel, by decide +kernel⟩,
   ⟨3, 6, es base, by decide +kernel, by decide +kernel⟩,
   ⟨3, set (key 0x320A 4) [0] base, by decide +kernel⟩,
   ⟨base, by decide +kernel⟩,
   ⟨1, { updMdll 25 (fun m => { m with st := .locked }) (updOut 1 (fun o => { o with waiting := true }) base) with tb := { base.tb with mdlls := [(25, { Mdll.reset with st := .locked })], configured := true } }, by decide +kernel, by decide +kernel, by decide +kernel⟩,
   ⟨2, base, by decide +kernel⟩,
   ⟨1, 5, outOn (fun o => { o with lastEdge := none }) base, by decide +kernel, by decide +kernel, by decide +kernel, by decide +kernel, by decide +kernel⟩,
   ⟨1, 5, 65536, (fun s => { s with tb := { s.tb with p := 65536 * 3 } }) (outOn (fun o => { o with lastEdge := some 65536 }) base), by decide +kernel, by decide +kernel, by decide +kernel, by decide +kernel⟩,
   ⟨2, 4, base, by decide +kernel⟩⟩
end A7

namespace A8
def set (k : Nat) (v : List Byte) (s : State) : State := { s with dict := { s.dict with vals := Tab.set k v s.dict.vals } }
def h : PtpHdr := ⟨5, 6, 7, false, 3, false, 9, none⟩
def hm (_c : Nat) (e : Nat) : PtpHdr := ⟨5, 6, 7, false, BitVec.ofNat 4 e, false, 9, none⟩
def na (s : State) : State := set (key 0x330D 1) [0] (set (key 0x330D 2) [0] s)
def dm (v : Byte) (s : State) : State := set (key 0x3307 0) [v] (na s)
def pd (s : State) : State := updDet 3 (fun d => { d with valid := true }) (updMdll 0 (fun m => { m with source := .mdll, st := .locked }) (dm 2 { s with vern := { s.vern with helperLocked := true } }))
def ann : Announce := ⟨5, 6, 7, 8, 9, 10, 11, none⟩
def outTod (s : State) : State := updOut 0 (fun o => { o with mode := 1 }) (set (key 0x3223 1) [0] (set (key 0x3222 1) [0] (set (key 0x3221 1) [0] { s with pins := { s.pins with outHeld := false } })))
theorem test_meets_PtpSends :
    (∃ (c : Chan) (i : PtpInst) (_id : BitVec 16) (_x : Time96) (_b : Bool) (s : State), (port c (instNo i) s).st = .master ∧ cfgB 0x3306 (instNo i + 1) s = true) ∧
    (∃ (c : Chan) (i : PtpInst) (_id : BitVec 16) (_x : Time96) (_b : Bool) (s : State), (port c (instNo i) s).st = .master ∧ cfgB 0x3306 (instNo i + 1) s = true) ∧
    (∃ (c : Chan) (i : PtpInst) (_id : BitVec 16) (_x : Time96) (s : State), (port c (instNo i) s).st = .master ∧ cfgB 0x3306 (instNo i + 1) s = false ∧ (tsu (tileOf c) s).queue.length < 32) ∧
    (∃ (c : Chan) (i : PtpInst) (_id : BitVec 16) (_x : Time96) (_b : Bool) (s : State), (port c (instNo i) s).st ≠ .master) ∧
    (∃ (c : Chan) (i : PtpInst) (s : State), (port c (instNo i) s).st = .master) ∧
    (∃ (c : Chan) (i : PtpInst) (_id : BitVec 16) (_x : Time96) (s : State), peerDelay (instNo i) s = false ∧ measures (port c (instNo i) s) = true ∧ (port c (instNo i) s).ex.t2.isSome = true ∧ (port c (instNo i) s).reqs = []) ∧
    (∃ (c : Chan) (s : State), portTakes (port c 0 s) = true) ∧
    (∃ (c : Chan) (s : State), portTakes (port c 0 s) = true ∧ s.refs.freq.slot = none) :=
  ⟨⟨3, .halyard, 5, ⟨5, 6, 7⟩, false, updPort 3 0 (fun p => { p with st := .master }) (set (key 0x3306 1) [1] base), by decide +kernel, by decide +kernel⟩,
   ⟨9, .telecom, 5, ⟨5, 6, 7⟩, true, updPort 9 1 (fun p => { p with st := .master }) (set (key 0x3306 2) [1] base), by decide +kernel, by decide +kernel⟩,
   ⟨3, .halyard, 5, ⟨5, 6, 7⟩, updPort 3 0 (fun p => { p with st := .master }) (set (key 0x3306 1) [0] base), by decide +kernel, by decide +kernel, by decide +kernel⟩,
   ⟨3, .telecom, 5, ⟨5, 6, 7⟩, false, base, by decide +kernel⟩,
   ⟨3, .halyard, updPort 3 0 (fun p => { p with st := .master }) base, by decide +kernel⟩,
   ⟨3, .halyard, 5, ⟨5, 6, 7⟩, updPort 3 0 (fun p => { p with st := .uncalibrated, ex := { Exchange.none with t2 := some 5 } }) (dm 1 base), by decide +kernel, by decide +kernel, by decide +kernel, by decide +kernel⟩,
   ⟨3, updPort 3 0 (fun p => { p with st := .slave }) base, by decide +kernel⟩,
   ⟨3, updPort 3 0 (fun p => { p with st := .slave }) { base with refs := { base.refs with freq := Path.reset } }, by decide +kernel, by decide +kernel⟩⟩
theorem test_meets_PtpExchange :
    (∃ (c : Chan) (i : PtpInst) (h : PtpHdr) (_x : Time96) (_y : Time96) (s : State), (port c (instNo i) s).st = .uncalibrated ∧ refuseMsg c (instNo i) 0 h s = 0 ∧ (port c (instNo i) s).ex = Exchange.none ∧ (port c (instNo i) s).reqs = [] ∧ peerDelay (instNo i) s = false) ∧
    (∃ (c : Chan) (i : PtpInst) (h : PtpHdr) (_two : Bool) (_x : Time96) (_y : Time96) (s : State), (port c (instNo i) s).st = .slave ∧ h.unicast = true) ∧
    (∃ (c : Chan) (i : PtpInst) (h : PtpHdr) (n : BitVec 16) (_x : Time96) (s : State), (port c (instNo i) s).st = .uncalibrated ∧ refuseMsg c (instNo i) 8 h s = 0 ∧ (port c (instNo i) s).ex.t2.isSome = true ∧ (port c (instNo i) s).ex.t1 = none ∧ (port c (instNo i) s).ex.syncSeq = n ∧ (port c (instNo i) s).reqs = [] ∧ peerDelay (instNo i) s = false) ∧
    (∃ (c : Chan) (i : PtpInst) (h : PtpHdr) (_x : Time96) (s : State), (port c (instNo i) s).st = .master ∧ refuseMsg c (instNo i) 1 h s = 0) ∧
    (∃ (c : Chan) (i : PtpInst) (h : PtpHdr) (n : BitVec 16) (_x : Time96) (e : Exchange) (s : State), (port c (instNo i) s).st = .uncalibrated ∧ refuseMsg c (instNo i) 9 h s = 0 ∧ (port c (instNo i) s).reqs = [e] ∧ e.reqSeq = n ∧ e.t4 = none ∧ e.t3 = none) ∧
    (∃ (c : Chan) (i : PtpInst) (h : PtpHdr) (n : BitVec 16) (_x : Time96) (e : Exchange) (s : State), (port c (instNo i) s).st = .uncalibrated ∧ refuseMsg c (instNo i) 9 h s = 0 ∧ (port c (instNo i) s).reqs = [e] ∧ e.reqSeq = n ∧ e.t4 = none ∧ e.t3.isSome = true ∧ e.t1.isSome = true ∧ e.bad = false ∧ h.coarse = false ∧ allSame e.own = true ∧ allSame (h.epoch :: e.peer) = true ∧ e.lanes = lanesNow c s ∧ e.reqAt = s.now ∧ (port c (instNo i) s).mpdN = 0) :=
  ⟨⟨3, .halyard, h, ⟨5, 6, 7⟩, ⟨5, 8, 7⟩, updPort 3 0 (fun p => { p with st := .uncalibrated }) (dm 1 base), by decide +kernel, by decide +kernel, by decide +kernel, by decide +kernel, by decide +kernel⟩,
   ⟨3, .telecom, { h with unicast := true }, false, ⟨5, 6, 7⟩, ⟨5, 6, 7⟩, updPort 3 1 (fun p => { p with st := .slave }) base, by decide +kernel, by decide +kernel⟩,
   ⟨3, .halyard, h, 4, ⟨5, 6, 7⟩, updPort 3 0 (fun p => { p with st := .uncalibrated, ex := { Exchange.none with t2 := some 5, syncSeq := 4 } }) (dm 1 base), by decide +kernel, by decide +kernel, by decide +kernel, by decide +kernel, by decide +kernel, by decide +kernel, by decide +kernel⟩,
   ⟨3, .telecom, h, ⟨5, 6, 7⟩, updPort 3 1 (fun p => { p with st := .master }) (na base), by decide +kernel, by decide +kernel⟩,
   ⟨3, .halyard, h, 4, ⟨5, 6, 7⟩, { Exchange.none with reqSeq := 4 }, updPort 3 0 (fun p => { p with st := .uncalibrated, reqs := [{ Exchange.none with reqSeq := 4 }] }) (na base), by decide +kernel, by decide +kernel, by decide +kernel, by decide +kernel, by decide +kernel, by decide +kernel⟩,
   ⟨3, .halyard, h, 4, ⟨5, 6, 7⟩, { Exchange.none with t1 := some 1000, t2 := some 2000, t3 := some 3000, reqSeq := 4, own := [1, 1], peer := [3], lanes := lanesNow 3 base, reqAt := base.now }, updPort 3 0 (fun p => { p with st := .uncalibrated, mpdN := 0, reqs := [{ Exchange.none with t1 := some 1000, t2 := some 2000, t3 := some 3000, reqSeq := 4, own := [1, 1], peer := [3], lanes := lanesNow 3 base, reqAt := base.now }] }) (na base), by decide +kernel, by decide +kernel, by decide +kernel, by decide +kernel, by decide +kernel, by decide +kernel, by decide +kernel, by decide +kernel, by decide +kernel, by decide +kernel, by decide +kernel, by decide +kernel, by decide +kernel, by decide +kernel⟩⟩
theorem test_meets_PeerDelay :
    (∃ (c : Chan) (h : PtpHdr) (_id : BitVec 16) (_x : Time96) (_y : Time96) (_b : Bool) (s : State), (port c 0 s).st = .slave ∧ refuseMsg c 0 2 h s = 0 ∧ peerDelay 0 s = true ∧ cfgB 0x3306 1 s = true) ∧
    (∃ (c : Chan) (h : PtpHdr) (n : BitVec 16) (_x : Time96) (_y : Time96) (e : Exchange) (z : Int) (s : State), (port c 0 s).st = .slave ∧ refuseMsg c 0 3 h s = 0 ∧ peerDelay 0 s = true ∧ (port c 0 s).pd = e ∧ e.reqSeq = n ∧ e.t1 = some z ∧ e.bad = false ∧ h.coarse = false ∧ rxCoarse c s = false ∧ e.own = [BitVec.ofNat 4 (domOf (instDom 0 s) s).epoch.toNat] ∧ e.lanes = lanesNow c s ∧ (port c 0 s).mpdN = 0) ∧
    (∃ (c : Chan) (h : PtpHdr) (n : BitVec 16) (_x : Time96) (e : Exchange) (z : Int) (w : Int) (v : Int) (s : State), (port c 0 s).st = .slave ∧ refuseMsg c 0 10 h s = 0 ∧ (port c 0 s).pd = e ∧ e.reqSeq = n ∧ e.t1 = some z ∧ e.t2 = some w ∧ e.t4 = some v ∧ e.bad = false ∧ allSame e.own = true ∧ e.peer = [h.epoch] ∧ e.lanes = lanesNow c s ∧ (port c 0 s).mpdN = 0) :=
  ⟨⟨3, h, 4, ⟨5, 6, 7⟩, ⟨5, 6, 8⟩, false, updPort 3 0 (fun p => { p with st := .slave }) (set (key 0x3306 1) [1] (dm 2 base)), by decide +kernel, by decide +kernel, by decide +kernel, by decide +kernel⟩,
   ⟨3, h, 4, ⟨5, 6, 7⟩, ⟨5, 6, 8⟩, { Exchange.none with reqSeq := 4, t1 := some 7, own := [BitVec.ofNat 4 (domOf (instDom 0 base) base).epoch.toNat], lanes := lanesNow 3 (pd base) }, 7, updPort 3 0 (fun p => { p with st := .slave, mpdN := 0, pd := { Exchange.none with reqSeq := 4, t1 := some 7, own := [BitVec.ofNat 4 (domOf (instDom 0 base) base).epoch.toNat], lanes := lanesNow 3 (pd base) } }) (pd base), by decide +kernel, by decide +kernel, by decide +kernel, by decide +kernel, by decide +kernel, by decide +kernel, by decide +kernel, by decide +kernel, by decide +kernel, by decide +kernel, by decide +kernel, by decide +kernel⟩,
   ⟨3, h, 4, ⟨5, 6, 7⟩, { Exchange.none with reqSeq := 4, t1 := some 7, t2 := some 8, t4 := some 20, own := [1], peer := [3], lanes := lanesNow 3 (pd base) }, 7, 8, 20, updPort 3 0 (fun p => { p with st := .slave, mpdN := 0, pd := { Exchange.none with reqSeq := 4, t1 := some 7, t2 := some 8, t4 := some 20, own := [1], peer := [3], lanes := lanesNow 3 (pd base) } }) (pd base), by decide +kernel, by decide +kernel, by decide +kernel, by decide +kernel, by decide +kernel, by decide +kernel, by decide +kernel, by decide +kernel, by decide +kernel, by decide +kernel, by decide +kernel, by decide +kernel⟩⟩
theorem test_meets_AnnounceAndSignaling :
    (∃ (c : Chan) (i : PtpInst) (h : PtpHdr) (a : Announce) (s : State), (port c (instNo i) s).st = .listening ∧ refuseMsg c (instNo i) 11 h s = 0 ∧ a.hello = none) ∧
    (∃ (c : Chan) (i : PtpInst) (h : PtpHdr) (a : Announce) (s : State), (port c (instNo i) s).st = .listening ∧ refuseMsg c (instNo i) 11 h s = 0 ∧ a.hello = none) ∧
    (∃ (c : Chan) (i : PtpInst) (s : State), (port c (instNo i) s).st = .slave) ∧
    (∃ (c : Chan) (h : PtpHdr) (_f : BitVec 16) (s : State), (port c 0 s).st = .slave ∧ refuseMsg c 0 12 h s = 0) ∧
    (∃ (c : Chan) (h : PtpHdr) (_ms : Nat) (s : State), (port c 0 s).st = .slave ∧ refuseMsg c 0 12 h s = 0) ∧
    (∃ (c : Chan) (h : PtpHdr) (ms : Nat) (s : State), (port c 0 s).st = .slave ∧ refuseMsg c 0 12 h s = 0 ∧ 0 < ms ∧ ms ≤ 10000 ∧ s.power.level = 4) :=
  ⟨⟨3, .halyard, h, ann, updPort 3 0 (fun p => { p with st := .listening }) (na base), by decide +kernel, by decide +kernel, by decide +kernel⟩,
   ⟨9, .telecom, h, ann, updPort 9 1 (fun p => { p with st := .listening }) (na base), by decide +kernel, by decide +kernel, by decide +kernel⟩,
   ⟨3, .halyard, updPort 3 0 (fun p => { p with st := .slave, annRun := 4, annOk := true, ann := some ann }) base, by decide +kernel⟩,
   ⟨3, h, 5, updPort 3 0 (fun p => { p with st := .slave }) (na base), by decide +kernel, by decide +kernel⟩,
   ⟨3, h, 5, updPort 3 0 (fun p => { p with st := .slave }) (na base), by decide +kernel, by decide +kernel⟩,
   ⟨3, h, 10000, updPower (fun p => { p with level := 4 }) (updPort 3 0 (fun p => { p with st := .slave }) (na base)), by decide +kernel, by decide +kernel, by decide +kernel, by decide +kernel, by decide +kernel⟩⟩
theorem test_meets_StampQueuesAndTod :
    (∃ (n : Tile) (s : State), (tsu n s).queue ≠ []) ∧
    (∃ (c : Chan) (i : PtpInst) (id : BitVec 16) (s : State), hasStamp (tileOf c) id s = false ∧ (port c (instNo i) s).reqs = [] ∧ (port c (instNo i) s).pd = Exchange.none) ∧
    (∃ (c : Chan) (_i : PtpInst) (id : BitVec 16) (s : State), hasStamp (tileOf c) id s = true) ∧
    (∃ (s : State), todIdle s = false) ∧
    (∃ (s : State), todIdle s = true) :=
  ⟨⟨2, updTsu 2 (fun u => { u with queue := [⟨1, 17, 0, Time96.zero⟩] }) base, by decide +kernel⟩,
   ⟨17, .halyard, 4, base, by decide +kernel, by decide +kernel, by decide +kernel⟩,
   ⟨17, .halyard, 1, updTsu 2 (fun u => { u with queue := [⟨1, 17, 0, Time96.zero⟩] }) base, by decide +kernel⟩,
   ⟨outTod base, by decide +kernel⟩,
   ⟨base, by decide +kernel⟩⟩
end A8

namespace A9
def cl (f : Cal → Cal) (s : State) : State := updMdll 25 (fun m => { m with st := .locked }) { s with cal := f Cal.reset, refs := Refs.reset, power := { s.power with level := 0 }, vern := { s.vern with helperLocked := true, eus := [] } }
def nolanes (s : State) : State := { s with optics := Optics.reset }
theorem test_meets_CalibrationRuns :
    (∃ (u : Fin 4) (s : State), calActive s = true ∧ s.life.state = .running ∧ s.power.level = 0 ∧ s.cal.runs = [] ∧ s.cal.lastOk = [] ∧ dueRuns s = [(1, u.val)] ∧ calEnabled 1 s = true ∧ calFails 1 u s = 0 ∧ fits .background 3 s = true) ∧
    (∃ (u : Fin 4) (s : State), calActive s = true ∧ s.life.state = .running ∧ s.power.level = 0 ∧ s.cal.runs = [] ∧ s.cal.lastOk = [] ∧ dueRuns s = [(1, u.val)] ∧ calEnabled 1 s = true ∧ calFails 1 u s = 7 ∧ s.cal.deferred = []) ∧
    (∃ (_p : Fin 10) (_w : List (Fin 4)) (s : State), calActive s = false) ∧
    (∃ (c : Chan) (s : State), (cod c s).stage = 6 ∧ shroudLink c s = none ∧ s.cal.due = [] ∧ s.cal.dueSince = []) ∧
    (∃ (q : Req) (c : Chan) (s : State), admits q .operator s = true ∧ s.life.state = .running ∧ fullWidth c s = false) ∧
    (∃ (q : Req) (c : Chan) (s : State), admits q .operator s = true ∧ s.life.state = .running ∧ fullWidth c s = true ∧ shroudLink c s = none ∧ txCoarse c s = false ∧ s.vern.helperLocked = true ∧ s.tb.mastOk = true ∧ (mdll 25 s).st = .locked ∧ looped c s = false ∧ s.power.level = 0 ∧ s.cal.due = []) ∧
    (∃ (q : Req) (u : Fin 4) (s : State), admits q .operator s = true ∧ s.life.state = .running ∧ (unit u s).armed = false ∧ (unit u s).calRunning = false ∧ calEnabled 1 s = true ∧ calFails 1 u s = 0 ∧ calBusy 1 s = false ∧ calActive s = true ∧ s.power.level = 0 ∧ fits .background 3 s = true) ∧
    (∃ (q : Req) (u : Fin 4) (s : State), admits q .operator s = true ∧ (unit u s).armed = true) ∧
    (∃ (q : Req) (u : Fin 4) (s : State), admits q .operator s = true ∧ s.life.state = .running ∧ calEnabled 1 s = true ∧ s.cal.runs = [] ∧ calFails 1 u s = 0 ∧ calActive s = true ∧ s.power.level = 0 ∧ fits .background 3 s = true) ∧
    (∃ (q : Req) (_n : BitVec 16) (s : State), admits q .operator s = true) ∧
    (∃ (k : Nat) (n : Nat) (s : State), (Tab.find (calKey k n) s.cal.dueSince).isSome = true ∧ standing .calOverdue (calKey k n) s = false) :=
  ⟨⟨2, cl (fun c => { c with due := [⟨1, 2, 1000⟩] }) (nolanes base), by decide +kernel, by decide +kernel, by decide +kernel, by decide +kernel, by decide +kernel, by decide +kernel, by decide +kernel, by decide +kernel, by decide +kernel⟩,
   ⟨2, updEu 2 (fun e => { e with armed := true }) (cl (fun c => { c with due := [⟨1, 2, 1000⟩] }) (nolanes base)), by decide +kernel, by decide +kernel, by decide +kernel, by decide +kernel, by decide +kernel, by decide +kernel, by decide +kernel, by decide +kernel, by decide +kernel⟩,
   ⟨3, [1], updLife (fun l => { l with state := .restarting }) base, by decide +kernel⟩,
   ⟨3, updCod 3 (fun d => { d with stage := 6 }) (cl id base), by decide +kernel, by decide +kernel, by decide +kernel, by decide +kernel⟩,
   ⟨q, 9, base, by decide +kernel, by decide +kernel, by decide +kernel⟩,
   ⟨q, 3, updMdll 0 (fun m => { m with source := .mdll, st := .locked }) (updCod 3 (fun d => { d with stage := 6, txLanes := 15, rxLanes := 15, rxFault := 0 }) (cl id base)), by decide +kernel, by decide +kernel, by decide +kernel, by decide +kernel, by decide +kernel, by decide +kernel, by decide +kernel, by decide +kernel, by decide +kernel, by decide +kernel, by decide +kernel⟩,
   ⟨q, 2, cl id base, by decide +kernel, by decide +kernel, by decide +kernel, by decide +kernel, by decide +kernel, by decide +kernel, by decide +kernel, by decide +kernel, by decide +kernel, by decide +kernel⟩,
   ⟨q, 2, updEu 2 (fun e => { e with armed := true }) base, by decide +kernel, by decide +kernel⟩,
   ⟨q, 2, cl id base, by decide +kernel, by decide +kernel, by decide +kernel, by decide +kernel, by decide +kernel, by decide +kernel, by decide +kernel, by decide +kernel⟩,
   ⟨q, 2, base, by decide +kernel⟩,
   ⟨1, 2, { base with cal := { base.cal with dueSince := [(calKey 1 2, 5)] } }, by decide +kernel, by decide +kernel⟩⟩
theorem test_meets_CalibrationOutcomes :
    (∃ (u : Fin 4) (w : Nat) (s : State), calRuns 1 u s = true ∧ w ≤ 6000) ∧
    (∃ (k : Nat) (n : Nat) (r : CalRun) (s : State), s.cal.runs = [r] ∧ r.kind = k ∧ r.inst = n) ∧
    (∃ (k : Nat) (n : Nat) (r : CalRun) (s : State), s.cal.runs = [r] ∧ r.kind = k ∧ r.inst = n) ∧
    (∃ (k : Nat) (n : Nat) (_r : CalRes) (s : State), calRuns k n s = false) ∧
    (∃ (k : Nat) (x : Slew) (s : State), calActive s = true ∧ s.cal.slews = [(k, x)]) ∧
    (∃ (k : Nat) (x : Slew) (s : State), calActive s = true ∧ s.cal.slews = [(k, x)]) ∧
    (∃ (w : RecWait) (s : State), s.cal.waiting = [w] ∧ w.urgent = true ∧ w.kind = 1 ∧ w.req = none ∧ s.cal.records = [] ∧ recWritable s = true ∧ flashOk s = true) ∧
    (∃ (w : RecWait) (s : State), s.cal.waiting = [w] ∧ w.urgent = true ∧ recWritable s = true ∧ flashOk s = true) ∧
    (∃ (_fails : Fin 3) (s : State), s.upd.state = 4 ∧ recFormat s < oldestFormat s) :=
  ⟨⟨2, 6000, { base with cal := { base.cal with runs := [⟨1, 2, Time96.zero, 5⟩] } }, by decide +kernel, by decide +kernel⟩,
   ⟨3, 13, ⟨3, 13, Time96.zero, 5⟩, { base with cal := { base.cal with runs := [⟨3, 13, Time96.zero, 5⟩] } }, by decide +kernel, by decide +kernel, by decide +kernel⟩,
   ⟨1, 3, ⟨1, 3, Time96.zero, 5⟩, { base with cal := { base.cal with runs := [⟨1, 3, Time96.zero, 5⟩] } }, by decide +kernel, by decide +kernel, by decide +kernel⟩,
   ⟨1, 2, .short, base, by decide +kernel⟩,
   ⟨3, ⟨5000000000, 9000000000⟩, { base with cal := { base.cal with slews := [(3, ⟨5000000000, 9000000000⟩)] } }, by decide +kernel, by decide +kernel⟩,
   ⟨3, ⟨9, 8⟩, { base with cal := { base.cal with slews := [(3, ⟨9, 8⟩)] } }, by decide +kernel, by decide +kernel⟩,
   ⟨⟨1, 2, true, none⟩, updPower (fun p => { p with level := 0 }) { base with cal := { Cal.reset with waiting := [⟨1, 2, true, none⟩] } }, by decide +kernel, by decide +kernel, by decide +kernel, by decide +kernel, by decide +kernel, by decide +kernel, by decide +kernel⟩,
   ⟨⟨1, 2, true, none⟩, updPower (fun p => { p with level := 0 }) { base with cal := { base.cal with waiting := [⟨1, 2, true, none⟩] } }, by decide +kernel, by decide +kernel, by decide +kernel, by decide +kernel⟩,
   ⟨0, updUpd (fun u => { u with state := 4, active := factoryImage.set 23 3, reserve := factoryImage.set 22 1 }) base, by decide +kernel, by decide +kernel⟩⟩
theorem test_meets_ReceiversAndAgeing :
    (∃ (c : Chan) (k : Lane) (s : State), calEnabled 5 s = true ∧ (cod c s).stage = 6 ∧ (cod c s).locked.getLsbD k = true ∧ s.power.level = 0 ∧ s.life.state = .running ∧ (laneCal (4 * c + k) s).ctle < 15) ∧
    (∃ (_c : Chan) (_k : Lane) (m : BitVec 16) (s : State), m.toInt < (cfg 0x3406 0 s : Nat)) ∧
    (∃ (_c : Chan) (_k : Lane) (m : BitVec 16) (s : State), (cfg 0x3406 0 s : Nat) ≤ m.toInt) ∧
    (∃ (code : Nat) (_n : Nat) (f : AgeFit) (s : State), calActive s = true ∧ f.resid ≤ 3 * f.noise ∧ code ≠ 2 ∧ code ≠ 6) ∧
    (∃ (_code : Nat) (_n : Nat) (f : AgeFit) (s : State), calActive s = true ∧ 3 * f.noise < f.resid) :=
  ⟨⟨3, 2, updPower (fun p => { p with level := 0 }) (updCod 3 (fun d => { d with stage := 6, locked := 15 }) base), by decide +kernel, by decide +kernel, by decide +kernel, by decide +kernel, by decide +kernel, by decide +kernel⟩,
   ⟨3, 2, 0xFFF0, base, by decide +kernel⟩,
   ⟨3, 2, 2000, base, by decide +kernel⟩,
   ⟨3, 2, ⟨0, [1, 2, 3, 4, 5, 6, 7, 8], 30, 10, 100, false, 20, 800⟩, base, by decide +kernel, by decide +kernel, by decide +kernel, by decide +kernel⟩,
   ⟨2, 2, ⟨0, [1, 2, 3, 4, 5, 6, 7, 8], 31, 10, 100, false, 20, 800⟩, base, by decide +kernel, by decide +kernel⟩⟩
end A9

namespace A10
def set (k : Nat) (v : List Byte) (s : State) : State := { s with dict := { s.dict with vals := Tab.set k v s.dict.vals } }
def fr : List Byte := [0, 1, 2, 3, 4, 5, 0, 6, 7, 8, 9, 10, 0x88, 0xB5] ++ List.replicate 46 0
def arr : Arrival := ⟨3, 49088, false, 77⟩
def lit (c : Nat) (s : State) : State := updCod c (fun d => { d with stage := 6 }) s
def xc (s : State) : State := set (key 0x4007 4) [1] (set (key 0x4009 4) [5, 0, 0, 0] (lit 3 { s with power := { s.power with level := 0 }, sw := { s.sw with fab := [] }, fwd := { s.fwd with tables := { s.fwd.tables with nh := [(5, ⟨.live, 0, BitVec.ofNat 256 (2 ^ 255 + 17 * 2 ^ 247)⟩)] } }, trust := { s.trust with cas := [] } }))
def opBytes : List Byte := [1, 1, 0, 0, 5, 0, 0, 0, 16, 0, 0, 0, 0, 0, 0, 0]
def lab : List Byte := List.replicate 15 0 ++ [0x80]
theorem test_meets_FramesAndTables_1 :
    (∃ (c : Chan) (f : List Byte) (_x : RxSec) (_a : Arrival) (s : State), (cod c s).stage ≠ 6 ∨ macAccepts c f s = false) ∧
    (∃ (c : Chan) (f : List Byte) (_x : RxSec) (_a : Arrival) (s : State), (cod c s).stage ≠ 6 ∨ macAccepts c f s = false) ∧
    (∃ (c : Chan) (f : List Byte) (_x : RxSec) (_a : Arrival) (s : State), (cod c s).stage = 6 ∧ macAccepts c f s = true ∧ shroudLink c s = none ∧ isControl c f s = false ∧ s.power.level = 4) ∧
    (∃ (c : Chan) (f : List Byte) (_x : RxSec) (_a : Arrival) (j : Nat) (s : State), (cod c s).stage = 6 ∧ macAccepts c f s = true ∧ shroudLink c s = some j) ∧
    (∃ (c : Chan) (f : List Byte) (a : Arrival) (n : Nat) (s : State), (cod c s).stage = 6 ∧ macAccepts c f s = true ∧ shroudLink c s = none ∧ isControl c f s = false ∧ s.power.level ≠ 4 ∧ macPolicy c s = 0 ∧ cfg 0x4007 (c + 1) s = 1 ∧ cfg 0x4009 (c + 1) s = n ∧ n ≠ 0xFFFFFFFF ∧ s.fwd.tables.classif = [] ∧ (parseOn c f s).bad = false ∧ ¬ (0x0180C2000000 ≤ (parseOn c f s).dmac ∧ (parseOn c f s).dmac ≤ 0x0180C200000F) ∧ a.waiting + (f.length + 4) ≤ 49152 ∧ xcStream c s = none ∧ nhUsable n s = true ∧ cfg 0x4102 (c + 1) s = 0xFFFFFFFF ∧ bit (remarkOf c (qosIn c (parseOn c f s) s % 16) (min (qosIn c (parseOn c f s) s / 16 % 4) 2) s) 15 = false ∧ inMirrors c 0 s = [] ∧ fabQ (tileOf c) (tileOf (field (row n s.fwd.tables.nh).bits 254 247)) s = [] ∧ f.length ≤ 20000) ∧
    (∃ (q : Req) (d : List Byte) (data : List Byte) (i : Nat) (s : State), admits q .operator s = true ∧ d.length ≤ 188 ∧ setScheduled 8 s = false ∧ readOps 1 d = some [⟨1, 1, i, data⟩] ∧ data.length = 16 ∧ i < 2097152 ∧ field (BitVec.ofNat 128 (keepAbove 28 (leNat data))) 126 124 ≤ 4 ∧ targetOk (field (BitVec.ofNat 128 (keepAbove 28 (leNat data))) 103 102) (labelRefs (BitVec.ofNat 128 (keepAbove 28 (leNat data)))) = true ∧ refsLive (labelRefs (BitVec.ofNat 128 (keepAbove 28 (leNat data)))) s.fwd.tables = true) ∧
    (∃ (q : Req) (d : List Byte) (o : TxnOp) (s : State), admits q .operator s = true ∧ d.length ≤ 188 ∧ setScheduled 8 s = false ∧ readOps 1 d = some [o] ∧ tableWriteTakes o s = false) :=
  ⟨⟨9, fr, .clear, arr, base, by decide +kernel⟩,
   ⟨3, fr.take 59, .clear, arr, lit 3 base, by decide +kernel⟩,
   ⟨3, fr, .clear, arr, lit 3 (updPower (fun p => { p with level := 4 }) base), by decide +kernel, by decide +kernel, by decide +kernel, by decide +kernel, by decide +kernel⟩,
   ⟨3, fr, .clear, arr, 0, set (key 0x4401 1) [3] (lit 3 base), by decide +kernel, by decide +kernel, by decide +kernel⟩,
   ⟨3, fr, arr, 5, xc base, by decide +kernel, by decide +kernel, by decide +kernel, by decide +kernel, by decide +kernel, by decide +kernel, by decide +kernel, by decide +kernel, by decide +kernel, by decide +kernel, by decide +kernel, by decide +kernel, by decide +kernel, by decide +kernel, by decide +kernel, by decide +kernel, by decide +kernel, by decide +kernel, by decide +kernel, by decide +kernel⟩,
   ⟨q, opBytes ++ lab, lab, 5, { base with commits := { base.commits with scheduled := [] } }, by decide +kernel, by decide +kernel, by decide +kernel, by decide +kernel, by decide +kernel, by decide +kernel, by decide +kernel, by decide +kernel, by decide +kernel⟩,
   ⟨q, [1, 2, 0, 0, 5, 0, 0, 0, 0, 0, 0, 0, 0, 0, 0, 0], ⟨1, 2, 5, []⟩, { base with commits := { base.commits with scheduled := [] } }, by decide +kernel, by decide +kernel, by decide +kernel, by decide +kernel, by decide +kernel⟩⟩
theorem test_meets_FramesAndTables_2 :
    (∃ (q : Req) (d : List Byte) (s : State), admits q .operator s = true ∧ d.length ≤ 188 ∧ setScheduled 8 s = true) ∧
    (∃ (q : Req) (i : BitVec 32) (s : State), admits q .operator s = true ∧ i.toNat < 2097152) ∧
    (∃ (q : Req) (i : BitVec 32) (s : State), admits q .operator s = true ∧ i.toNat < 2097152) ∧
    (∃ (q : Req) (d : List Byte) (s : State), admits q .operator s = true ∧ d.length ≠ 24) ∧
    (∃ (q : Req) (n : BitVec 32) (s : State), admits q .operator s = true ∧ n.toNat ≤ 262143) ∧
    (∃ (q : Req) (n : BitVec 32) (s : State), admits q .operator s = true ∧ 262143 < n.toNat) :=
  ⟨⟨q, [], { base with commits := { base.commits with scheduled := [⟨3, 256, [8], none, false, [⟨key 0x4000 0, [], false⟩], Time96.zero, false, 0, false, none, false⟩] } }, by decide +kernel, by decide +kernel, by decide +kernel⟩,
   ⟨q, 2097151, base, by decide +kernel, by decide +kernel⟩,
   ⟨q, 5, { base with fwd := { base.fwd with tables := { base.fwd.tables with label := [(5, 2 ^ 127)] } } }, by decide +kernel, by decide +kernel⟩,
   ⟨q, [1], base, by decide +kernel, by decide +kernel⟩,
   ⟨q, 262143, base, by decide +kernel, by decide +kernel⟩,
   ⟨q, 262144, base, by decide +kernel, by decide +kernel⟩⟩
end A10

namespace A11
def set (k : Nat) (v : List Byte) (s : State) : State := { s with dict := { s.dict with vals := Tab.set k v s.dict.vals } }
def cp : Copy := ⟨List.replicate 60 0, Edit.none, .hop 5, none, 3, 17, 2, 0, 0, 64, 5, 5, none, false, [], 0⟩
def lit (c : Nat) (s : State) : State := updCod c (fun d => { d with stage := 6 }) s
def noGate (s : State) : State := { s with egr := { s.egr with gates := [] } }
def sw (f : Switch → Switch) (s : State) : State := { s with sw := f Switch.reset }
def prof (s : State) : State := set (key 0x4203 18) [0] s
theorem test_meets_FabricAndBuffers :
    (∃ (et : Tile) (_room : Bool) (h : Bool) (it : Nat) (k : Copy) (rest : List Copy) (s : State), nextIngress et s = some (it, h) ∧ fabQ it et s = k :: rest ∧ k.mc = none ∧ k.isMirror = false ∧ (cod k.out s).stage = 6 ∧ tailQ k.out k.cls s = [] ∧ spillPct k.out k.cls s = 0 ∧ dieTest k s = 0 ∧ (∀ c : Nat, (gate c s).oper = none)) ∧
    (∃ (et : Tile) (_room : Bool) (h : Bool) (it : Nat) (k : Copy) (rest : List Copy) (s : State), nextIngress et s = some (it, h) ∧ fabQ it et s = k :: rest ∧ k.mc = none ∧ k.isMirror = false ∧ (cod k.out s).stage = 6 ∧ tailQ k.out k.cls s = [] ∧ spillPct k.out k.cls s = 0 ∧ dieTest k s = 1 ∧ (∀ c : Nat, (gate c s).oper = none)) ∧
    (∃ (et : Tile) (_room : Bool) (s : State), nextIngress et s = none) ∧
    (∃ (it : Tile) (et : Tile) (k : Copy) (rest : List Copy) (s : State), fabQ it et s = k :: rest ∧ k.entry + 200 ≤ s.now) ∧
    (∃ (it : Tile) (et : Tile) (k : Copy) (rest : List Copy) (s : State), fabQ it et s = k :: rest ∧ s.now < k.entry + 200) ∧
    (∃ (c : Chan) (q : Fin 16) (k : Copy) (rest : List Copy) (s : State), dieQ c q s = k :: rest ∧ k.origin + 19700 ≤ s.now ∧ (rest.head?.all fun k2 => decide (s.now < k2.origin + 19700)) = true ∧ (gate c s).oper = none) ∧
    (∃ (c : Chan) (q : Fin 16) (k : Copy) (rest : List Copy) (s : State), dieQ c q s = k :: rest ∧ s.now < k.origin + 19700 ∧ (gate c s).oper = none) :=
  ⟨⟨2, true, false, 0, cp, [cp], lit 17 (noGate (sw (fun w => { w with fab := [(0 * 24 + 2, [cp, cp])] }) (set (key 0x4202 1) (List.replicate 3 0 ++ List.replicate 61 1 ++ List.replicate 16 0) base))), by decide +kernel, by decide +kernel, by decide +kernel, by decide +kernel, by decide +kernel, by decide +kernel, by decide +kernel, by decide +kernel, by intro _; rfl⟩,
   ⟨2, true, false, 0, cp, [], lit 17 (noGate (sw (fun w => { w with fab := [(0 * 24 + 2, [cp])] }) (set (key 0x4202 1) (List.replicate 80 0) base))), by decide +kernel, by decide +kernel, by decide +kernel, by decide +kernel, by decide +kernel, by decide +kernel, by decide +kernel, by decide +kernel, by intro _; rfl⟩,
   ⟨2, true, sw id base, by decide +kernel⟩,
   ⟨0, 2, cp, [cp], { (sw (fun w => { w with fab := [(0 * 24 + 2, [cp, cp])] }) base) with now := 205 }, by decide +kernel, by decide +kernel⟩,
   ⟨0, 2, cp, [cp], { (sw (fun w => { w with fab := [(0 * 24 + 2, [cp, cp])] }) base) with now := 204 }, by decide +kernel, by decide +kernel⟩,
   ⟨17, 2, cp, [{ cp with origin := 6 }], { (noGate (sw (fun w => { w with queues := [(16 * 17 + 2, [cp, { cp with origin := 6 }])] }) base)) with now := 19705 }, by decide +kernel, by decide +kernel, by decide +kernel, by decide +kernel⟩,
   ⟨17, 2, cp, [], { (noGate (sw (fun w => { w with queues := [(16 * 17 + 2, [cp])] }) base)) with now := 19704 }, by decide +kernel, by decide +kernel, by decide +kernel⟩⟩
theorem test_meets_OverflowStore_1 :
    (∃ (s : State), s.sw.ovf.st = .opening ∧ unitsOf cOvf 0 s ≠ 0 ∧ s.power.level < 2 ∧ cfgB 0x4204 0 s = true) ∧
    (∃ (s : State), s.sw.ovf.st ≠ .opening) ∧
    (∃ (n : Nat) (k : Copy) (s : State), s.sw.ovf.st = .open_ ∧ s.sw.ovf.tails = [(n, [k])] ∧ binOld k s = true) ∧
    (∃ (s : State), s.sw.ovf.st ≠ .draining ∧ (∀ x ∈ s.sw.ovf.tails, ∀ k ∈ x.2, binOld k s = false)) ∧
    (∃ (c : Chan) (q : Fin 16) (k : Copy) (rest : List Copy) (s : State), returns c q s = true ∧ tailQ c q s = k :: rest ∧ s.sw.ovf.st = .open_ ∧ (gate c s).oper = none) ∧
    (∃ (c : Chan) (q : Fin 16) (k : Copy) (rest : List Copy) (s : State), returns c q s = true ∧ tailQ c q s = k :: rest ∧ s.sw.ovf.st = .open_ ∧ (gate c s).oper = none) ∧
    (∃ (c : Chan) (q : Fin 16) (_bad : Bool) (s : State), returns c q s = false) ∧
    (∃ (s : State), s.sw.ovf.st = .open_ ∧ s.sw.ovf.tails = [] ∧ s.sw.ovf.emptyAt + 100000000 ≤ s.now) :=
  ⟨⟨set (key 0x4204 0) [1] (sw (fun w => { w with ovf := { w.ovf with st := .opening } }) (setEntry cOvf 0 1 100 (updPower (fun p => { p with level := 1 }) base))), by decide +kernel, by decide +kernel, by decide +kernel, by decide +kernel⟩,
   ⟨base, by decide +kernel⟩,
   ⟨274, cp, { (sw (fun w => { w with ovf := { w.ovf with st := .open_, tails := [(274, [cp])] } }) base) with now := 100000000000 }, by decide +kernel, by decide +kernel, by decide +kernel⟩,
   ⟨sw (fun w => { w with ovf := { w.ovf with st := .open_ } }) base, by decide +kernel, by decide +kernel⟩,
   ⟨17, 2, cp, [cp], noGate (sw (fun w => { w with ovf := { w.ovf with st := .open_, tails := [(274, [cp, cp])] } }) base), by decide +kernel, by decide +kernel, by decide +kernel, by decide +kernel⟩,
   ⟨17, 2, cp, [cp], noGate (sw (fun w => { w with ovf := { w.ovf with st := .open_, tails := [(274, [cp, cp])] } }) base), by decide +kernel, by decide +kernel, by decide +kernel, by decide +kernel⟩,
   ⟨17, 3, true, base, by decide +kernel⟩,
   ⟨{ (sw (fun w => { w with ovf := { w.ovf with st := .open_ } }) (setEntry cOvf 0 1 100 base)) with now := 100000000 }, by decide +kernel, by decide +kernel, by decide +kernel⟩⟩
theorem test_meets_OverflowStore_2 :
    (∃ (s : State), s.sw.ovf.tails ≠ []) ∧
    (∃ (s : State), s.sw.ovf.st ≠ .closed ∧ s.sw.ovf.st ≠ .failed) ∧
    (∃ (s : State), s.sw.ovf.st = .closed) ∧
    (∃ (p : BitVec 4) (s : State), s.sw.ovf.st = .failed ∧ s.sw.ovf.retest = true ∧ 3 ≤ laneCount p) ∧
    (∃ (p : BitVec 4) (s : State), s.sw.ovf.st = .failed ∧ s.sw.ovf.retest = true ∧ laneCount p < 3) ∧
    (∃ (q : Req) (s : State), admits q .operator s = true ∧ s.sw.ovf.st = .failed) ∧
    (∃ (q : Req) (s : State), admits q .operator s = true) :=
  ⟨⟨sw (fun w => { w with ovf := { w.ovf with st := .open_, tails := [(274, [cp])] } }) base, by decide +kernel⟩,
   ⟨sw (fun w => { w with ovf := { w.ovf with st := .open_, tails := [(274, [cp])] } }) base, by decide +kernel, by decide +kernel⟩,
   ⟨sw id base, by decide +kernel⟩,
   ⟨7, sw (fun w => { w with ovf := { w.ovf with st := .failed, retest := true } }) base, by decide +kernel, by decide +kernel, by decide +kernel⟩,
   ⟨3, sw (fun w => { w with ovf := { w.ovf with st := .failed, retest := true } }) base, by decide +kernel, by decide +kernel, by decide +kernel⟩,
   ⟨q, sw (fun w => { w with ovf := { w.ovf with st := .failed } }) base, by decide +kernel, by decide +kernel⟩,
   ⟨q, base, by decide +kernel⟩⟩
end A11

namespace A12
def set (k : Nat) (v : List Byte) (s : State) : State := { s with dict := { s.dict with vals := Tab.set k v s.dict.vals } }
def cp : Copy := ⟨[0, 1, 2, 3, 4, 5, 0, 6, 7, 8, 9, 10, 0x88, 0xB5] ++ List.replicate 46 0, Edit.none, .shroud, none, 3, 17, 15, 0, 0, 64, 5, 5, none, false, [], 0⟩
def lit (c : Nat) (s : State) : State := updCod c (fun d => { d with stage := 6 }) s
def gl : GateList := ⟨1000, 0, 0, [(0xFFFF, 400), (1, 600)]⟩
theorem test_meets_EgressAndGates :
    (∃ (c : Chan) (off : Nat) (_st : Int) (k : Copy) (rest : List Copy) (f : List Byte) (s : State), (gate c s).oper = none ∧ dieQ c 15 s = k :: rest ∧ eligible c 15 ((domOf (gateDom c s) s).counter.lsb + off) (outLen k s) s = true ∧ (bucket c 15 s).passes = true ∧ rewrite k s = (0, f) ∧ macPolicy c s = 0 ∧ transitAt f s = none ∧ (∀ n : Nat, n < 16 → mirrorFlag n 2 s = false)) ∧
    (∃ (c : Chan) (_off : Nat) (_st : Int) (s : State), (gate c s).oper = none ∧ (∀ q : Nat, q < 16 → dieQ c q s = [] ∨ s.power.level = 4 ∨ (cod c s).stage ≠ 6)) ∧
    (∃ (n : Nat) (b : Bucket) (s : State), (s.egr.buckets.map (fun x => x.1)).Nodup ∧ Tab.get Bucket.reset n s.egr.buckets = b ∧ b.enabled = true ∧ b.forgive = false ∧ b.next = none ∧ b.enNext = none) ∧
    (∃ (n : Nat) (b : Bucket) (s : State), (s.egr.buckets.map (fun x => x.1)).Nodup ∧ Tab.get Bucket.reset n s.egr.buckets = b ∧ b.enabled = true ∧ b.forgive = false ∧ b.next = none ∧ b.enNext = none) ∧
    (∃ (n : Nat) (b : Bucket) (s : State), (s.egr.buckets.map (fun x => x.1)).Nodup ∧ Tab.get Bucket.reset n s.egr.buckets = b ∧ b.enabled = false ∧ b.enNext = none ∧ b.forgive = true) ∧
    (∃ (q : Req) (_c : Chan) (n : Fin 12) (v : BitVec 32) (s : State), admits q .operator s = true ∧ v.getLsbD n = true) ∧
    (∃ (q : Req) (_v : BitVec 32) (s : State), admits q .operator s = true) ∧
    (∃ (c : Chan) (l : GateList) (s : State), (gate c s).oper = some l ∧ cfgB 0x4303 (c + 1) s = true) ∧
    (∃ (c : Chan) (s : State), (gate c s).oper = none) ∧
    (∃ (c : Chan) (p : GatePend) (rest : List GatePend) (s : State), (gate c s).pend = p :: rest ∧ p.timed = true ∧ p.list.start ≤ (domOf (gateDom c s) s).counter.lsb ∧ cfgB 0x4303 (c + 1) s = true ∧ (∀ q : Nat, dieQ c q s = [])) ∧
    (∃ (c : Chan) (p : GatePend) (rest : List GatePend) (s : State), (gate c s).pend = p :: rest ∧ (domOf (gateDom c s) s).counter.lsb < p.list.start) :=
  ⟨⟨17, 5, 7, cp, [cp], cp.raw, lit 17 { base with power := { base.power with level := 0 }, egr := Egress.reset, sw := { Switch.reset with queues := [(16 * 17 + 15, [cp, cp])] } }, by decide +kernel, by decide +kernel, by decide +kernel, by decide +kernel, by decide +kernel, by decide +kernel, by decide +kernel, by decide +kernel⟩,
   ⟨17, 5, 7, { base with egr := Egress.reset, sw := Switch.reset }, by decide +kernel, by decide +kernel⟩,
   ⟨192, { Bucket.reset with t := 5, rate := 6, burst := 7, enabled := true }, { base with egr := { Egress.reset with buckets := [(192, { Bucket.reset with t := 5, rate := 6, burst := 7, enabled := true })] } }, by decide +kernel, by decide +kernel, by decide +kernel, by decide +kernel, by decide +kernel, by decide +kernel⟩,
   ⟨192, { Bucket.reset with t := -5, rate := 6, rem := 400, burst := 7000, enabled := true }, { base with egr := { Egress.reset with buckets := [(192, { Bucket.reset with t := -5, rem := 400, rate := 6, burst := 7000, enabled := true })] } }, by decide +kernel, by decide +kernel, by decide +kernel, by decide +kernel, by decide +kernel, by decide +kernel⟩,
   ⟨192, { Bucket.reset with t := -5, forgive := true }, { base with egr := { Egress.reset with buckets := [(192, { Bucket.reset with t := -5, forgive := true })] } }, by decide +kernel, by decide +kernel, by decide +kernel, by decide +kernel, by decide +kernel⟩,
   ⟨q, 3, 11, 0x800, base, by decide +kernel, by decide +kernel⟩,
   ⟨q, 3, base, by decide +kernel⟩,
   ⟨3, gl, set (key 0x4303 4) [1] { base with egr := { base.egr with gates := [(3, { Gate.reset with oper := some gl })] } }, by decide +kernel, by decide +kernel⟩,
   ⟨9, base, by decide +kernel⟩,
   ⟨3, ⟨gl, true, false⟩, [], set (key 0x4303 4) [1] { base with sw := Switch.reset, egr := { base.egr with gates := [(3, { Gate.reset with pend := [⟨gl, true, false⟩] })] } }, by decide +kernel, by decide +kernel, by decide +kernel, by decide +kernel, by intro _; rfl⟩,
   ⟨3, ⟨{ gl with start := 10 ^ 30 }, true, false⟩, [], set (key 0x4303 4) [1] { base with sw := Switch.reset, egr := { base.egr with gates := [(3, { Gate.reset with pend := [⟨{ gl with start := 10 ^ 30 }, true, false⟩] })] } }, by decide +kernel, by decide +kernel⟩⟩
end A12

namespace A13
def gl (f : Gleno → Gleno) (s : State) : State := { s with gleno := f s.gleno }
def hd (k : Nat) (src : Nat) : GHead := ⟨0, true, 0x88B5, 1, BitVec.ofNat 8 k, BitVec.ofNat 8 src, 9⟩
def cb : CycleBody := ⟨200, 32, 1, 0xFF, 0⟩
def lis (s : State) : State := gl (fun g => { g with state := .listen, master := none, m0 := .trained }) s
def ss (f : Session → Session) (s : State) : State := updSession 1 f s
theorem test_meets_GlenoCycle_1 :
    (∃ (p : Fin 2) (_alone : Bool) (s : State), gport p s = .training ∧ s.life.state ≠ .strapFault) ∧
    (∃ (p : Fin 2) (_alone : Bool) (s : State), gport p s = .training ∧ s.life.state ≠ .strapFault) ∧
    (∃ (p : Fin 2) (_alone : Bool) (s : State), gport p s ≠ .training) ∧
    (∃ (p : Fin 2) (s : State), gport p s ≠ .trained ∧ s.life.regulators = true ∧ s.life.state ≠ .strapFault) ∧
    (∃ (p : Fin 2) (s : State), gport p s ≠ .trained ∧ s.life.regulators = true ∧ s.life.state ≠ .strapFault) ∧
    (∃ (p : Fin 2) (s : State), gport p s = .trained) ∧
    (∃ (s : State), portTrained s = false ∧ s.life.nymyx = true ∧ standing .bothPortsDown noInst s = false) ∧
    (∃ (s : State), portTrained s = true) ∧
    (∃ (h : GHead) (_b : CycleBody) (s : State), readsFrame h s = false) :=
  ⟨⟨0, true, gl (fun g => { g with m0 := .training, state := .off }) base, by decide +kernel, by decide +kernel⟩,
   ⟨1, false, gl (fun g => { g with m1 := .training }) base, by decide +kernel, by decide +kernel⟩,
   ⟨0, true, base, by decide +kernel⟩,
   ⟨0, gl (fun g => { g with m0 := .training }) base, by decide +kernel, by decide +kernel, by decide +kernel⟩,
   ⟨1, gl (fun g => { g with m1 := .down, m0 := .down }) base, by decide +kernel, by decide +kernel, by decide +kernel⟩,
   ⟨0, base, by decide +kernel⟩,
   ⟨gl (fun g => { g with m0 := .training, m1 := .down }) base, by decide +kernel, by decide +kernel, by decide +kernel⟩,
   ⟨base, by decide +kernel⟩,
   ⟨hd 1 0, cb, gl (fun g => { g with state := .silent }) base, by decide +kernel⟩⟩
theorem test_meets_GlenoCycle_2 :
    (∃ (h : GHead) (b : CycleBody) (s : State), readsFrame h s = true ∧ h.kind = 1 ∧ h.source.toNat ≤ 31 ∧ (cycleValid b = false ∨ follows h.source.toNat s = false)) ∧
    (∃ (h : GHead) (b : CycleBody) (s : State), readsFrame h s = true ∧ h.kind = 1 ∧ h.source.toNat ≤ 31 ∧ (cycleValid b = false ∨ follows h.source.toNat s = false)) ∧
    (∃ (h : GHead) (b : CycleBody) (s : State), readsFrame h s = true ∧ h.kind = 1 ∧ h.source.toNat ≤ 31 ∧ cycleValid b = true ∧ s.gleno.state = .listen ∧ s.gleno.master = none ∧ address s < b.slots.toNat) ∧
    (∃ (h : GHead) (b : CycleBody) (s : State), readsFrame h s = true ∧ h.kind = 1 ∧ h.source.toNat ≤ 31 ∧ cycleValid b = true ∧ s.gleno.state = .listen ∧ s.gleno.master = none ∧ address s < b.slots.toNat) ∧
    (∃ (h : GHead) (b : CycleBody) (s : State), readsFrame h s = true ∧ h.kind = 1 ∧ h.source.toNat ≤ 31 ∧ cycleValid b = true ∧ s.gleno.state = .listen ∧ s.gleno.master = none ∧ b.slots.toNat ≤ address s) ∧
    (∃ (s : State), s.gleno.state = .listen ∧ s.gleno.master = none ∧ paired s = false ∧ cfgB 0x4400 0 s = false ∧ s.life.state = .running) ∧
    (∃ (s : State), s.gleno.state = .master ∨ s.gleno.state = .noSlot ∨ s.gleno.state = .off) ∧
    (∃ (s : State), s.gleno.state = .master) ∧
    (∃ (s : State), s.gleno.state = .master) :=
  ⟨⟨hd 1 0, { cb with slots := 33 }, lis base, by decide +kernel, by decide +kernel, by decide +kernel, by decide +kernel⟩,
   ⟨hd 1 31, cb, gl (fun g => { g with master := some 1 }) base, by decide +kernel, by decide +kernel, by decide +kernel, by decide +kernel⟩,
   ⟨hd 1 0, cb, lis base, by decide +kernel, by decide +kernel, by decide +kernel, by decide +kernel, by decide +kernel, by decide +kernel, by decide +kernel⟩,
   ⟨hd 1 31, { cb with slots := 6 }, lis base, by decide +kernel, by decide +kernel, by decide +kernel, by decide +kernel, by decide +kernel, by decide +kernel, by decide +kernel⟩,
   ⟨hd 1 0, { cb with slots := 4 }, lis base, by decide +kernel, by decide +kernel, by decide +kernel, by decide +kernel, by decide +kernel, by decide +kernel, by decide +kernel⟩,
   ⟨{ (lis base) with gleno := { (lis base).gleno with pairSess := none }, dict := { base.dict with vals := [(key 0x4400 0, [0])] } }, by decide +kernel, by decide +kernel, by decide +kernel, by decide +kernel, by decide +kernel⟩,
   ⟨gl (fun g => { g with state := .noSlot }) base, by decide +kernel⟩,
   ⟨gl (fun g => { g with state := .master, followed := true, cycle := 77 }) base, by decide +kernel⟩,
   ⟨gl (fun g => { g with state := .master, followed := false }) base, by decide +kernel⟩⟩
theorem test_meets_GlenoCycle_3 :
    (∃ (s : State), s.gleno.state ≠ .master) ∧
    (∃ (s : State), s.gleno.state = .joining ∧ s.gleno.join = false ∧ 4 ≤ s.gleno.heard) ∧
    (∃ (s : State), s.gleno.state ≠ .joining ∨ s.gleno.heard < 4) ∧
    (∃ (s : State), s.gleno.state = .joining ∧ s.gleno.join = true ∧ 64 ≤ s.gleno.joinCycles ∧ standing .joinUnacked noInst s = false) ∧
    (∃ (s : State), s.gleno.joinCycles < 64) ∧
    (∃ (s : State), s.gleno.state = .joined ∧ 3 ≤ s.gleno.absentRun) ∧
    (∃ (s : State), s.gleno.absentRun < 3) ∧
    (∃ (a : Fin 32) (s : State), s.gleno.master.isSome = true ∧ s.gleno.lost.getLsbD a = false ∧ a.val ≠ address s ∧ unheard a s.gleno = true ∧ a.val ≠ mateAddress s) ∧
    (∃ (a : Fin 32) (s : State), unheard a s.gleno = false) :=
  ⟨⟨base, by decide +kernel⟩,
   ⟨gl (fun g => { g with state := .joining, heard := 4, join := false }) base, by decide +kernel, by decide +kernel, by decide +kernel⟩,
   ⟨gl (fun g => { g with state := .joining, heard := 3, join := false }) base, by decide +kernel⟩,
   ⟨gl (fun g => { g with state := .joining, join := true, joinCycles := 64 }) base, by decide +kernel, by decide +kernel, by decide +kernel, by decide +kernel⟩,
   ⟨gl (fun g => { g with state := .joining, join := true, joinCycles := 63 }) base, by decide +kernel⟩,
   ⟨gl (fun g => { g with state := .joined, absentRun := 3 }) base, by decide +kernel, by decide +kernel⟩,
   ⟨gl (fun g => { g with absentRun := 2 }) base, by decide +kernel⟩,
   ⟨20, gl (fun g => { g with master := some 0, lost := 3, heardNow := 0, heardPrev := 0, heardPrev2 := 0 }) base, by decide +kernel, by decide +kernel, by decide +kernel, by decide +kernel, by decide +kernel⟩,
   ⟨20, gl (fun g => { g with heardNow := 1 <<< 20 }) base, by decide +kernel⟩⟩
theorem test_meets_GlenoSessions_1 :
    (∃ (a : Answer) (p : Nat) (s : State), sends s = true ∧ markedPorts s = [p] ∧ s.gleno.answers = [a] ∧ recSize a ≤ 554 ∧ s.gleno.late = false ∧ (∀ x ∈ s.gleno.sessions, x.2.txSeq + 1 < 4294967296)) ∧
    (∃ (a : Answer) (p : Nat) (s : State), sends s = true ∧ markedPorts s = [p] ∧ s.gleno.answers = [a] ∧ recSize a ≤ 554 ∧ s.gleno.late = false ∧ (∀ x ∈ s.gleno.sessions, x.2.txSeq + 1 < 4294967296)) ∧
    (∃ (s : State), sends s = true ∧ markedPorts s ≠ []) ∧
    (∃ (_b : Bool) (s : State), sends s = false) ∧
    (∃ (a : Answer) (l : List Answer) (p : Nat) (s : State), s.gleno.completions = a :: l ∧ accepting s = true ∧ markedPorts s = [p] ∧ (∀ x ∈ s.gleno.sessions, x.2.txSeq + 1 < 4294967296)) ∧
    (∃ (s : State), s.gleno.completions = []) ∧
    (∃ (q : Req) (s : State), isPending q s = true) ∧
    (∃ (q : Req) (s : State), isPending q s = false) ∧
    (∃ (h : GHead) (_hb : BitVec 16) (s : State), readsFrame h s = true ∧ h.kind = 2 ∧ h.source.toNat ≤ 31 ∧ h.source.toNat ≠ address s ∧ h.source.toNat ≠ mateAddress s) :=
  ⟨⟨⟨1, 5, 0, List.replicate 520 7⟩, 0, gl (fun g => { g with mark0 := true, mark1 := false, m0 := .trained, answers := [⟨1, 5, 0, List.replicate 520 7⟩], completions := [] }) base, by decide +kernel, by decide +kernel, by decide +kernel, by decide +kernel, by decide +kernel, by decide +kernel⟩,
   ⟨⟨1, 5, 0, []⟩, 1, gl (fun g => { g with mark1 := true, mark0 := false, m1 := .trained, answers := [⟨1, 5, 0, []⟩] }) base, by decide +kernel, by decide +kernel, by decide +kernel, by decide +kernel, by decide +kernel, by decide +kernel⟩,
   ⟨gl (fun g => { g with mark0 := true, m0 := .trained, answers := [⟨1, 5, 0, [7]⟩] }) base, by decide +kernel, by decide +kernel⟩,
   ⟨true, gl (fun g => { g with state := .listen }) base, by decide +kernel⟩,
   ⟨⟨1, 5, 0, []⟩, [⟨1, 6, 0, []⟩], 0, gl (fun g => { g with mark0 := true, mark1 := false, m0 := .trained, completions := [⟨1, 5, 0, []⟩, ⟨1, 6, 0, []⟩] }) base, by decide +kernel, by decide +kernel, by decide +kernel, by decide +kernel⟩,
   ⟨gl (fun g => { g with completions := [] }) base, by decide +kernel⟩,
   ⟨q, ss (fun e => { e with pendingIds := [7] }) base, by decide +kernel⟩,
   ⟨q, base, by decide +kernel⟩,
   ⟨hd 2 20, 0x1234, base, by decide +kernel, by decide +kernel, by decide +kernel, by decide +kernel, by decide +kernel⟩⟩
theorem test_meets_GlenoSessions_2 :
    (∃ (h : GHead) (_hb : BitVec 16) (_rs : List GRec) (_beyond : Bool) (s : State), readsFrame h s = true ∧ h.kind = 2 ∧ h.source.toNat ≤ 31 ∧ h.source.toNat = address s ∧ s.gleno.state ≠ .master ∧ s.gleno.state ≠ .noSlot) ∧
    (∃ (h : GHead) (_hb : BitVec 16) (n : BitVec 16) (x : Seal) (e : Session) (_id : BitVec 16) (hi : Nat) (m : BitVec 64) (s : State), readsFrame h s = true ∧ h.kind = 2 ∧ h.source.toNat ≤ 31 ∧ h.source.toNat ≠ address s ∧ h.source.toNat ≠ mateAddress s ∧ accepting s = true ∧ answers0701 s = false ∧ session n.toNat s = some e ∧ e.peer = h.source.toNat ∧ e.transfer = none ∧ e.kept = [] ∧ x.ok = true ∧ seqAccept x.seq e.seqHigh e.seqMask = some (hi, m) ∧ x.seq < 4294967295) ∧
    (∃ (h : GHead) (_hb : BitVec 16) (n : BitVec 16) (x : Seal) (e : Session) (_c : List Byte) (s : State), readsFrame h s = true ∧ h.kind = 2 ∧ h.source.toNat ≤ 31 ∧ h.source.toNat ≠ address s ∧ h.source.toNat ≠ mateAddress s ∧ accepting s = true ∧ session n.toNat s = some e ∧ e.peer = h.source.toNat ∧ s.gleno.heardNow.getLsbD h.source.toNat = false ∧ x.ok = true ∧ seqAccept x.seq e.seqHigh e.seqMask = none) ∧
    (∃ (src : Fin 32) (_id : BitVec 16) (lo : BitVec 8) (hi : BitVec 8) (role : Fin 4) (v : Nat) (s : State), accepting s = true ∧ src.val < 2 ∧ openFault (roleOfCode role) s = 0 ∧ common lo.toNat hi.toNat s = some v) ∧
    (∃ (src : Fin 32) (_id : BitVec 16) (lo : BitVec 8) (hi : BitVec 8) (role : Fin 4) (v : Nat) (s : State), accepting s = true ∧ src.val < 2 ∧ openFault (roleOfCode role) s ≠ 0 ∧ common lo.toNat hi.toNat s = some v) ∧
    (∃ (_src : Fin 32) (_id : BitVec 16) (_lo : BitVec 8) (_hi : BitVec 8) (_role : Fin 4) (s : State), accepting s = false) ∧
    (∃ (src : Fin 32) (id : BitVec 16) (_chain : List Byte) (_sig : Bool) (_dev : Bool) (_leaf : Bool) (_i : PairInfo) (h : Handshake) (s : State), accepting s = true ∧ shake src id s = some h ∧ h.pair = false ∧ s.life.state ≠ .restarting ∧ bootMigrates s = false ∧ s.trust.state = 0 ∧ s.gleno.sessions = []) ∧
    (∃ (src : Fin 32) (id : BitVec 16) (_chain : List Byte) (_sig : Bool) (_dev : Bool) (_leaf : Bool) (_i : PairInfo) (h : Handshake) (s : State), accepting s = true ∧ shake src id s = some h ∧ h.pair = false ∧ s.life.state ≠ .restarting ∧ bootMigrates s = false ∧ s.trust.state = 0 ∧ s.gleno.sessions = []) ∧
    (∃ (src : Fin 32) (id : BitVec 16) (_chain : List Byte) (_sig : Bool) (_dev : Bool) (_leaf : Bool) (_i : PairInfo) (s : State), accepting s = true ∧ shake src id s = none) :=
  ⟨⟨hd 2 base.life.address.toNat, 3, [], false, base, by decide +kernel, by decide +kernel, by decide +kernel, by decide +kernel, by decide +kernel, by decide +kernel⟩,
   ⟨hd 2 0, 3, 1, ⟨4294967294, true⟩, tSess .custodian, 9, 4294967294, 0, base, by decide +kernel, by decide +kernel, by decide +kernel, by decide +kernel, by decide +kernel, by decide +kernel, by decide +kernel, by decide +kernel, by decide +kernel, by decide +kernel, by decide +kernel, by decide +kernel, by decide +kernel, by decide +kernel⟩,
   ⟨hd 2 0, 3, 1, ⟨40, true⟩, { tSess .custodian with seqHigh := some 40 }, [1], ss (fun e => { e with seqHigh := some 40 }) base, by decide +kernel, by decide +kernel, by decide +kernel, by decide +kernel, by decide +kernel, by decide +kernel, by decide +kernel, by decide +kernel, by decide +kernel, by decide +kernel, by decide +kernel⟩,
   ⟨1, 5, 1, 1, 3, 1, gl (fun g => { g with sessions := [], handshakes := [] }) base, by decide +kernel, by decide +kernel, by decide +kernel, by decide +kernel⟩,
   ⟨1, 5, 1, 1, 3, 1, gl (fun g => { g with sessions := [], handshakes := [] }) { base with trust := { base.trust with state := 3 } }, by decide +kernel, by decide +kernel, by decide +kernel, by decide +kernel⟩,
   ⟨1, 5, 1, 1, 3, gl (fun g => { g with state := .listen }) base, by decide +kernel⟩,
   ⟨1, 5, [3], true, true, true, ⟨0, 0, 0, 0, false, 0⟩, ⟨5, 1, .custodian, 1, 4, false⟩, gl (fun g => { g with sessions := [], handshakes := [⟨5, 1, .custodian, 1, 4, false⟩] }) { base with trust := { base.trust with state := 0 } }, by decide +kernel, by decide +kernel, by decide +kernel, by decide +kernel, by decide +kernel, by decide +kernel, by decide +kernel⟩,
   ⟨1, 5, [3], false, true, true, ⟨0, 0, 0, 0, false, 0⟩, ⟨5, 1, .custodian, 1, 4, false⟩, gl (fun g => { g with sessions := [], handshakes := [⟨5, 1, .custodian, 1, 4, false⟩] }) { base with trust := { base.trust with state := 0 } }, by decide +kernel, by decide +kernel, by decide +kernel, by decide +kernel, by decide +kernel, by decide +kernel, by decide +kernel⟩,
   ⟨1, 5, [3], false, true, true, ⟨0, 0, 0, 0, false, 0⟩, base, by decide +kernel, by decide +kernel⟩⟩
theorem test_meets_GlenoSessions_3 :
    (∃ (v : BitVec 8) (_n : BitVec 16) (_chain : List Byte) (h : Handshake) (s : State), accepting s = true ∧ s.gleno.handshakes.find? (fun h => h.pair && !sideB s) = some h ∧ glenoMin s ≤ v.toNat ∧ v.toNat ≤ glenoMax s) ∧
    (∃ (_v : BitVec 8) (_n : BitVec 16) (_chain : List Byte) (_dev : Bool) (_leaf : Bool) (h : Handshake) (s : State), accepting s = true ∧ s.gleno.handshakes.find? (fun h => h.pair && !sideB s) = some h) ∧
    (∃ (_i : PairInfo) (h : Handshake) (s : State), accepting s = true ∧ s.gleno.handshakes.find? (fun h => h.pair && !sideB s && h.session != 0) = some h) ∧
    (∃ (_i : PairInfo) (h : Handshake) (s : State), accepting s = true ∧ s.gleno.handshakes.find? (fun h => h.pair && !sideB s && h.session != 0) = some h) ∧
    (∃ (src : Fin 32) (id : BitVec 16) (h : Handshake) (s : State), shake src id s = some h) ∧
    (∃ (n : BitVec 16) (e : Session) (s : State), session n.toNat s = some e ∧ e.lastAt + e.idle * 100000000 ≤ s.now) ∧
    (∃ (n : BitVec 16) (e : Session) (s : State), session n.toNat s = some e ∧ s.now < e.lastAt + e.idle * 100000000) ∧
    (∃ (n : BitVec 16) (e : Session) (s : State), session n.toNat s = some e ∧ e.openedAt + 8640000000000 ≤ s.now) ∧
    (∃ (n : BitVec 16) (e : Session) (s : State), session n.toNat s = some e ∧ s.now < e.openedAt + 8640000000000) :=
  ⟨⟨1, 9, [3], ⟨5, 5, .custodian, 0, 0, true⟩, gl (fun g => { g with handshakes := [⟨5, 5, .custodian, 0, 0, true⟩] }) base, by decide +kernel, by decide +kernel, by decide +kernel, by decide +kernel⟩,
   ⟨1, 9, [3], true, true, ⟨5, 5, .custodian, 0, 0, true⟩, gl (fun g => { g with handshakes := [⟨5, 5, .custodian, 0, 0, true⟩] }) base, by decide +kernel, by decide +kernel⟩,
   ⟨⟨0, 0, 0, 0, false, 0⟩, ⟨5, 5, .custodian, 1, 9, true⟩, gl (fun g => { g with pairSess := none, handshakes := [⟨5, 5, .custodian, 1, 9, true⟩] }) { base with pair := Pair.reset }, by decide +kernel, by decide +kernel⟩,
   ⟨⟨0, 0, 0, 0, false, 0⟩, ⟨5, 5, .custodian, 1, 9, true⟩, gl (fun g => { g with handshakes := [⟨5, 5, .custodian, 1, 9, true⟩] }) base, by decide +kernel, by decide +kernel⟩,
   ⟨1, 5, ⟨5, 1, .custodian, 1, 4, false⟩, gl (fun g => { g with handshakes := [⟨5, 1, .custodian, 1, 4, false⟩] }) base, by decide +kernel⟩,
   ⟨1, tSess .custodian, { base with now := 3000000000 }, by decide +kernel, by decide +kernel⟩,
   ⟨1, tSess .custodian, { base with now := 2999999999 }, by decide +kernel, by decide +kernel⟩,
   ⟨1, tSess .custodian, { base with now := 8640000000000 }, by decide +kernel, by decide +kernel⟩,
   ⟨1, tSess .custodian, { base with now := 8639999999999 }, by decide +kernel, by decide +kernel⟩⟩
end A13

namespace A14
def ss (f : Session → Session) (s : State) : State := updSession 1 f s
def ra (a : Nat) (s : State) : State := updSession 1 (fun e => { e with regAddr := BitVec.ofNat 32 a }) s
def rs (a : Nat) : Session := { tSess .custodian with regAddr := BitVec.ofNat 32 a }
def own (s : State) : State := { s with dict := { s.dict with vals := [(key 0x3210 1, [1]), (key 0x3210 2, [1])] } }
def grp (s : State) : State := { s with dict := { s.dict with members := [(0, 1 <<< 17)] } }
theorem test_meets_RegisterAccess_1 :
    (∃ (q : Req) (_v : Word) (e : Session) (s : State), admits q .operator s = true ∧ session q.sess s = some e ∧ e.regAddr = 0xB0010 ∧ guardAllows 0xB0000 q.sess s = true) ∧
    (∃ (q : Req) (_v : Word) (e : Session) (s : State), admits q .operator s = true ∧ session q.sess s = some e ∧ e.regAddr = 0xB0010 ∧ guardAllows 0xB0000 q.sess s = true) ∧
    (∃ (q : Req) (_v : Word) (e : Session) (s : State), admits q .operator s = true ∧ session q.sess s = some e ∧ e.regAddr = 0xB0010 ∧ guardAllows 0xB0000 q.sess s = false) ∧
    (∃ (q : Req) (_v : Word) (e : Session) (s : State), admits q .operator s = true ∧ session q.sess s = some e ∧ e.regAddr = 0x70000) ∧
    (∃ (q : Req) (_m : BitVec 16) (_p : BitVec 16) (e : Session) (s : State), admits q .operator s = true ∧ session q.sess s = some e ∧ e.regAddr = 0x20) ∧
    (∃ (q : Req) (_v : Word) (c : Chan) (e : Session) (s : State), admits q .operator s = true ∧ session q.sess s = some e ∧ e.regAddr = BitVec.ofNat 32 (0x80010 + c * 0x200) ∧ (blockOf (0x80000 + c * 0x200) s).posted.length < 4) ∧
    (∃ (q : Req) (_v : Word) (c : Chan) (e : Session) (s : State), admits q .operator s = true ∧ session q.sess s = some e ∧ e.regAddr = BitVec.ofNat 32 (0x80010 + c * 0x200) ∧ (blockOf (0x80000 + c * 0x200) s).posted.length < 4) ∧
    (∃ (q : Req) (_v : Word) (c : Chan) (e : Session) (s : State), admits q .operator s = true ∧ session q.sess s = some e ∧ e.regAddr = BitVec.ofNat 32 (0x80010 + c * 0x200) ∧ 4 ≤ (blockOf (0x80000 + c * 0x200) s).posted.length) ∧
    (∃ (w : Word) (rest : List Posted) (s : State), (blockOf 0 s).posted = ⟨0x30, w⟩ :: rest) ∧
    (∃ (base : Nat) (s : State), (blockOf base s).posted = []) ∧
    (∃ (base : Nat) (w : Posted) (rest : List Posted) (s : State), (blockOf base s).posted = w :: rest) :=
  ⟨⟨q, 3, rs 0xB0010, updBlock 0xB0000 (fun x => { x with open_ := some 1 }) (ra 0xB0010 base), by decide +kernel, by decide +kernel, by decide +kernel, by decide +kernel⟩,
   ⟨q, 3, { rs 0xB0010 with regInc := true }, updBlock 0xB0000 (fun x => { x with open_ := some 1 }) (ss (fun e => { e with regInc := true }) (ra 0xB0010 base)), by decide +kernel, by decide +kernel, by decide +kernel, by decide +kernel⟩,
   ⟨q, 3, rs 0xB0010, ra 0xB0010 base, by decide +kernel, by decide +kernel, by decide +kernel, by decide +kernel⟩,
   ⟨q, 3, rs 0x70000, ra 0x70000 base, by decide +kernel, by decide +kernel, by decide +kernel⟩,
   ⟨q, 0xFF0F, 0x5A5A, rs 0x20, ra 0x20 base, by decide +kernel, by decide +kernel, by decide +kernel⟩,
   ⟨q, 3, 191, rs (0x80010 + 191 * 0x200), ra (0x80010 + 191 * 0x200) base, by decide +kernel, by decide +kernel, by decide +kernel, by decide +kernel⟩,
   ⟨q, 3, 0, rs 0x80010, updBlock 0x80000 (fun x => { x with posted := [⟨0, 0⟩, ⟨0, 0⟩, ⟨0, 0⟩] }) (ra 0x80010 base), by decide +kernel, by decide +kernel, by decide +kernel, by decide +kernel⟩,
   ⟨q, 3, 0, rs 0x80010, updBlock 0x80000 (fun x => { x with posted := [⟨0, 0⟩, ⟨0, 0⟩, ⟨0, 0⟩, ⟨0, 0⟩] }) (ra 0x80010 base), by decide +kernel, by decide +kernel, by decide +kernel, by decide +kernel⟩,
   ⟨0x61626364, [⟨0x34, 5⟩], updBlock 0 (fun x => { x with posted := [⟨0x30, 0x61626364⟩, ⟨0x34, 5⟩] }) base, by decide +kernel⟩,
   ⟨0xB0000, base, by decide +kernel⟩,
   ⟨0x80200, ⟨0x80210, 5⟩, [], updBlock 0x80200 (fun x => { x with posted := [⟨0x80210, 5⟩] }) base, by decide +kernel⟩⟩
theorem test_meets_RegisterAccess_2 :
    (∃ (base : Nat) (s : State), (blockOf base s).posted = []) ∧
    (∃ (q : Req) (k : Tile) (e : Session) (s : State), admits q .observer s = true ∧ session q.sess s = some e ∧ e.regAddr = BitVec.ofNat 32 (tsuAddr k 0x18)) ∧
    (∃ (q : Req) (e : Session) (s : State), admits q .observer s = true ∧ session q.sess s = some e ∧ e.regAddr = 0x24) ∧
    (∃ (q : Req) (e : Session) (s : State), admits q .observer s = true ∧ session q.sess s = some e ∧ e.regAddr = 0x28) ∧
    (∃ (q : Req) (_v : Word) (e : Session) (s : State), admits q .operator s = true ∧ session q.sess s = some e ∧ e.regAddr = 0x20084) ∧
    (∃ (q : Req) (v : Word) (e : Session) (s : State), admits q .operator s = true ∧ session q.sess s = some e ∧ e.regAddr = 0x20080 ∧ guardAllows 0x20000 q.sess s = true ∧ hostOwns .a s = true ∧ (v.toNat + (Tab.get 0 0x20084 e.writeSh).toNat * 2 ^ 32) / 2 ^ 16 % 2 ^ 32 ≤ 999999999) ∧
    (∃ (q : Req) (_v : Word) (e : Session) (s : State), admits q .operator s = true ∧ session q.sess s = some e ∧ e.regAddr = 0x20080 ∧ (guardAllows 0x20000 q.sess s = false ∨ hostOwns .a s = false)) ∧
    (∃ (q : Req) (_v : Word) (e : Session) (s : State), admits q .operator s = true ∧ session q.sess s = some e ∧ e.regAddr = 0x20080 ∧ (guardAllows 0x20000 q.sess s = false ∨ hostOwns .a s = false)) ∧
    (∃ (q : Req) (e : Session) (s : State), admits q .operator s = true ∧ session q.sess s = some e ∧ e.regAddr = 0xB0008 ∧ (blockOf 0xB0000 s).locked = false ∧ sticky 0xB0000 s = false) ∧
    (∃ (q : Req) (e : Session) (s : State), admits q .operator s = true ∧ session q.sess s = some e ∧ e.regAddr = 0xB0008 ∧ (blockOf 0xB0000 s).locked = true) ∧
    (∃ (q : Req) (e : Session) (s : State), admits q .operator s = true ∧ session q.sess s = some e ∧ e.regAddr = 0xB0008) :=
  ⟨⟨0x80200, base, by decide +kernel⟩,
   ⟨q, 23, rs (0x50000 + 23 * 0x800 + 0x18), ra (0x50000 + 23 * 0x800 + 0x18) { base with regs := { base.regs with rc := [(0x50000 + 23 * 0x800 + 0x18, 7)] } }, by decide +kernel, by decide +kernel, by decide +kernel⟩,
   ⟨q, rs 0x24, ra 0x24 base, by decide +kernel, by decide +kernel, by decide +kernel⟩,
   ⟨q, { rs 0x28 with readSh := [(0x28, 9)] }, ss (fun e => { e with readSh := [(0x28, 9)] }) (ra 0x28 base), by decide +kernel, by decide +kernel, by decide +kernel⟩,
   ⟨q, 5, rs 0x20084, ra 0x20084 base, by decide +kernel, by decide +kernel, by decide +kernel⟩,
   ⟨q, 5, { rs 0x20080 with writeSh := [(0x20084, 6), (0x20088, 7)] }, own (updBlock 0x20000 (fun x => { x with open_ := some 1 }) (ss (fun e => { e with writeSh := [(0x20084, 6), (0x20088, 7)] }) (ra 0x20080 base))), by decide +kernel, by decide +kernel, by decide +kernel, by decide +kernel, by decide +kernel, by decide +kernel⟩,
   ⟨q, 5, rs 0x20080, ra 0x20080 base, by decide +kernel, by decide +kernel, by decide +kernel, by decide +kernel⟩,
   ⟨q, 5, rs 0x20080, updBlock 0x20000 (fun x => { x with open_ := some 1 }) (ra 0x20080 base), by decide +kernel, by decide +kernel, by decide +kernel, by decide +kernel⟩,
   ⟨q, rs 0xB0008, ra 0xB0008 base, by decide +kernel, by decide +kernel, by decide +kernel, by decide +kernel, by decide +kernel⟩,
   ⟨q, rs 0xB0008, updBlock 0xB0000 (fun x => { x with locked := true }) (ra 0xB0008 base), by decide +kernel, by decide +kernel, by decide +kernel, by decide +kernel⟩,
   ⟨q, rs 0xB0008, ra 0xB0008 base, by decide +kernel, by decide +kernel, by decide +kernel⟩⟩
theorem test_meets_RegisterAccess_3 :
    (∃ (q : Req) (v : Word) (e : Session) (s : State), admits q .operator s = true ∧ session q.sess s = some e ∧ e.regAddr = 0xB0008 ∧ v ≠ 0xC1E7 ∧ v ≠ 0x5A1C) ∧
    (∃ (q : Req) (v : Word) (e : Session) (s : State), admits q .operator s = true ∧ session q.sess s = some e ∧ e.regAddr = 0xB0008 ∧ v ≠ 0xC1E7 ∧ v ≠ 0x5A1C) ∧
    (∃ (q : Req) (_v : Word) (c : Chan) (e : Session) (s : State), admits q .operator s = true ∧ session q.sess s = some e ∧ e.regAddr = 0xF0010 ∧ (List.range 192).filter (fun k => (Tab.get 0 0 s.dict.members).getLsbD k) = [c.val] ∧ (blockOf (0x80000 + c * 0x200) s).posted.length < 4) ∧
    (∃ (q : Req) (_v : Word) (e : Session) (s : State), admits q .operator s = true ∧ session q.sess s = some e ∧ e.regAddr = 0xF0010 ∧ (List.range 192).filter (fun k => (Tab.get 0 0 s.dict.members).getLsbD k) = []) ∧
    (∃ (q : Req) (c : Chan) (e : Session) (s : State), admits q .observer s = true ∧ session q.sess s = some e ∧ e.regAddr = 0xF0018 ∧ (List.range 192).filter (fun k => (Tab.get 0 0 s.dict.members).getLsbD k) = [c.val]) ∧
    (∃ (q : Req) (e : Session) (s : State), admits q .observer s = true ∧ session q.sess s = some e ∧ e.regAddr = 0xF0018 ∧ (List.range 192).filter (fun k => (Tab.get 0 0 s.dict.members).getLsbD k) = []) ∧
    (∃ (q : Req) (e : Session) (s : State), admits q .observer s = true ∧ session q.sess s = some e ∧ e.regAddr = 0x20 ∧ e.regCount = 1 ∧ e.transfer = none) ∧
    (∃ (q : Req) (d : List Byte) (e : Session) (s : State), admits q .operator s = true ∧ session q.sess s = some e ∧ d.length ≠ 4 * e.regCount.toNat) ∧
    (∃ (q : Req) (_m : BitVec 16) (_p : BitVec 16) (e : Session) (s : State), admits q .operator s = true ∧ session q.sess s = some e ∧ e.regAddr = 0x20 ∧ e.regCount = 1) :=
  ⟨⟨q, 0xC1E8, rs 0xB0008, ra 0xB0008 base, by decide +kernel, by decide +kernel, by decide +kernel, by decide +kernel, by decide +kernel⟩,
   ⟨q, 0xC1E8, rs 0xB0008, updBlock 0xB0000 (fun x => { x with wrongRun := 3, open_ := some 1 }) (ra 0xB0008 base), by decide +kernel, by decide +kernel, by decide +kernel, by decide +kernel, by decide +kernel⟩,
   ⟨q, 5, 17, rs 0xF0010, grp (ra 0xF0010 base), by decide +kernel, by decide +kernel, by decide +kernel, by decide +kernel, by decide +kernel⟩,
   ⟨q, 5, rs 0xF0010, ra 0xF0010 base, by decide +kernel, by decide +kernel, by decide +kernel, by decide +kernel⟩,
   ⟨q, 17, rs 0xF0018, grp (ra 0xF0018 base), by decide +kernel, by decide +kernel, by decide +kernel, by decide +kernel⟩,
   ⟨q, rs 0xF0018, ra 0xF0018 base, by decide +kernel, by decide +kernel, by decide +kernel, by decide +kernel⟩,
   ⟨q, rs 0x20, ra 0x20 base, by decide +kernel, by decide +kernel, by decide +kernel, by decide +kernel, by decide +kernel⟩,
   ⟨q, [1, 2, 3], rs 0x20, ra 0x20 base, by decide +kernel, by decide +kernel, by decide +kernel⟩,
   ⟨q, 0xFF, 0x5A5A, rs 0x20, ra 0x20 base, by decide +kernel, by decide +kernel, by decide +kernel, by decide +kernel⟩⟩
end A14

namespace A15
def ss (f : Session → Session) (s : State) : State := updSession 1 f s
def dk (k : Nat) (v : List Byte) (s : State) : State := { s with dict := { s.dict with vals := Tab.set k v s.dict.vals } }
def rt : Transfer := ⟨key 0x700B 0, false, 1024, List.replicate 1024 5, 1⟩
def wt : Transfer := ⟨key 0x700B 0, true, 600, List.replicate 512 5, 1⟩
def tr (x : Transfer) (s : State) : State := ss (fun e => { e with transfer := some x }) s
def te (x : Transfer) : Session := { tSess .custodian with transfer := some x }
theorem test_meets_DictionaryRequests_1 :
    (∃ (q : Req) (s : State), admits q .observer s = true) ∧
    (∃ (q : Req) (i : BitVec 16) (_sub : BitVec 8) (s : State), admits q .observer s = true ∧ objRow i.toNat = none) ∧
    (∃ (q : Req) (i : BitVec 16) (_sub : BitVec 8) (s : State), admits q .observer s = true ∧ objRow i.toNat = none) ∧
    (∃ (q : Req) (s : State), admits q .observer s = true) ∧
    (∃ (q : Req) (s : State), admits q .observer s = true) ∧
    (∃ (q : Req) (n : Nat) (s : State), admits q .operator s = true ∧ n ≤ 200) ∧
    (∃ (q : Req) (n : Nat) (s : State), admits q .operator s = true ∧ 200 < n ∧ n < 65536) ∧
    (∃ (q : Req) (n : Nat) (s : State), admits q .operator s = true ∧ 200 < n ∧ n < 65536) ∧
    (∃ (q : Req) (v : List Byte) (s : State), admits q .operator s = true ∧ v.length ≠ 2) :=
  ⟨⟨⟨2, 9⟩, base, by decide +kernel⟩,
   ⟨⟨2, 9⟩, 0x8000, 0, base, by decide +kernel, by decide +kernel⟩,
   ⟨⟨2, 9⟩, 0xFFFF, 255, base, by decide +kernel, by decide +kernel⟩,
   ⟨⟨2, 9⟩, base, by decide +kernel⟩,
   ⟨⟨2, 9⟩, base, by decide +kernel⟩,
   ⟨⟨3, 9⟩, 200, base, by decide +kernel, by decide +kernel⟩,
   ⟨⟨3, 9⟩, 201, base, by decide +kernel, by decide +kernel, by decide +kernel⟩,
   ⟨⟨3, 9⟩, 65535, base, by decide +kernel, by decide +kernel, by decide +kernel⟩,
   ⟨⟨3, 9⟩, [1], base, by decide +kernel, by decide +kernel⟩⟩
theorem test_meets_DictionaryRequests_2 :
    (∃ (q : Req) (_v : List Byte) (e : Session) (s : State), admits q .observer s = true ∧ session q.sess s = some e ∧ e.role = .observer) ∧
    (∃ (q : Req) (e : Session) (s : State), admits q .observer s = true ∧ session q.sess s = some e ∧ e.transfer = none ∧ cfgBytes 0x700B 0 s ≠ []) ∧
    (∃ (q : Req) (e : Session) (s : State), admits q .observer s = true ∧ session q.sess s = some e ∧ e.transfer.isSome = true) ∧
    (∃ (q : Req) (n : BitVec 32) (e : Session) (s : State), admits q .operator s = true ∧ session q.sess s = some e ∧ e.transfer = none ∧ n.toNat ≤ 4096) ∧
    (∃ (q : Req) (n : BitVec 32) (s : State), admits q .operator s = true ∧ 4096 < n.toNat) ∧
    (∃ (q : Req) (n : BitVec 32) (_d : List Byte) (_crc : BitVec 32) (e : Session) (x : Transfer) (s : State), admits q .observer s = true ∧ session q.sess s = some e ∧ e.transfer = some x ∧ x.write = false ∧ x.nextSeg = n.toNat ∧ x.key = key 0x700B 0 ∧ 512 * (n.toNat + 1) < x.total) ∧
    (∃ (q : Req) (n : BitVec 32) (_d : List Byte) (_crc : BitVec 32) (e : Session) (x : Transfer) (s : State), admits q .observer s = true ∧ session q.sess s = some e ∧ e.transfer = some x ∧ x.write = false ∧ x.nextSeg = n.toNat ∧ x.key = key 0x700B 0 ∧ x.total ≤ 512 * (n.toNat + 1)) ∧
    (∃ (q : Req) (n : BitVec 32) (d : List Byte) (_crc : BitVec 32) (e : Session) (x : Transfer) (s : State), admits q .observer s = true ∧ session q.sess s = some e ∧ e.transfer = some x ∧ x.write = true ∧ x.nextSeg = n.toNat ∧ x.key = key 0x700B 0 ∧ d.length ≤ 512 ∧ x.data.length + d.length ≤ x.total) ∧
    (∃ (q : Req) (n : BitVec 32) (_last : Bool) (_d : List Byte) (_crc : BitVec 32) (e : Session) (x : Transfer) (s : State), admits q .observer s = true ∧ session q.sess s = some e ∧ e.transfer = some x ∧ x.nextSeg ≠ n.toNat ∧ x.key = key 0x700B 0) :=
  ⟨⟨⟨2, 9⟩, [1, 0], tSess .observer, base, by decide +kernel, by decide +kernel, by decide +kernel⟩,
   ⟨⟨1, 9⟩, tSess .custodian, dk (key 0x700B 0) [1, 2, 3, 4] base, by decide +kernel, by decide +kernel, by decide +kernel, by decide +kernel⟩,
   ⟨⟨1, 9⟩, te rt, tr rt base, by decide +kernel, by decide +kernel, by decide +kernel⟩,
   ⟨⟨1, 9⟩, 4096, tSess .custodian, base, by decide +kernel, by decide +kernel, by decide +kernel, by decide +kernel⟩,
   ⟨⟨1, 9⟩, 4097, base, by decide +kernel, by decide +kernel⟩,
   ⟨⟨1, 9⟩, 0, [], 0, te { rt with nextSeg := 0 }, { rt with nextSeg := 0 }, tr { rt with nextSeg := 0 } base, by decide +kernel, by decide +kernel, by decide +kernel, by decide +kernel, by decide +kernel, by decide +kernel, by decide +kernel⟩,
   ⟨⟨1, 9⟩, 1, [], 0, te rt, rt, tr rt base, by decide +kernel, by decide +kernel, by decide +kernel, by decide +kernel, by decide +kernel, by decide +kernel, by decide +kernel⟩,
   ⟨⟨1, 9⟩, 1, List.replicate 88 9, 0, te wt, wt, tr wt base, by decide +kernel, by decide +kernel, by decide +kernel, by decide +kernel, by decide +kernel, by decide +kernel, by decide +kernel, by decide +kernel⟩,
   ⟨⟨1, 9⟩, 2, false, [], 0, te wt, wt, tr wt base, by decide +kernel, by decide +kernel, by decide +kernel, by decide +kernel, by decide +kernel⟩⟩
theorem test_meets_DictionaryRequests_3 :
    (∃ (q : Req) (e : Session) (x : Transfer) (s : State), admits q .observer s = true ∧ session q.sess s = some e ∧ e.transfer = some x ∧ x.key = key 0x700B 0) ∧
    (∃ (q : Req) (e : Session) (s : State), admits q .observer s = true ∧ session q.sess s = some e ∧ e.transfer = none) ∧
    (∃ (n : BitVec 16) (e : Session) (x : Transfer) (s : State), session n.toNat s = some e ∧ e.transfer = some x ∧ x.key = key 0x700B 0) ∧
    (∃ (q : Req) (n : BitVec 16) (s : State), admits q .custodian s = true ∧ (session n.toNat s).isSome = true) ∧
    (∃ (q : Req) (n : BitVec 16) (s : State), admits q .custodian s = true ∧ (session n.toNat s).isSome = true) ∧
    (∃ (q : Req) (n : BitVec 16) (s : State), admits q .custodian s = true ∧ session n.toNat s = none) ∧
    (∃ (q : Req) (s : State), admits q .observer s = true) :=
  ⟨⟨⟨1, 9⟩, te wt, wt, tr wt base, by decide +kernel, by decide +kernel, by decide +kernel, by decide +kernel⟩,
   ⟨⟨1, 9⟩, tSess .custodian, base, by decide +kernel, by decide +kernel, by decide +kernel⟩,
   ⟨1, te wt, wt, tr wt base, by decide +kernel, by decide +kernel, by decide +kernel⟩,
   ⟨⟨1, 9⟩, 3, { base with snaps := [(2, ⟨3, Time96.zero, 1, [0], 4, []⟩), (3, ⟨1, Time96.zero, 1, [0], 4, []⟩)] }, by decide +kernel, by decide +kernel⟩,
   ⟨⟨1, 9⟩, 1, base, by decide +kernel, by decide +kernel⟩,
   ⟨⟨1, 9⟩, 4, base, by decide +kernel, by decide +kernel⟩,
   ⟨⟨2, 9⟩, base, by decide +kernel⟩⟩
theorem test_meets_StagingAndSnapshots_1 :
    (∃ (q : Req) (_c : Chan) (_b : Bool) (e : Session) (s : State), admits q .custodian s = true ∧ session q.sess s = some e ∧ e.staged = []) ∧
    (∃ (q : Req) (_c : Chan) (_b : Bool) (e : Session) (s : State), admits q .custodian s = true ∧ session q.sess s = some e ∧ e.staged = []) ∧
    (∃ (q : Req) (v : List Byte) (s : State), admits q .custodian s = true ∧ v.length ≠ 1) ∧
    (∃ (q : Req) (v : BitVec 32) (s : State), admits q .operator s = true ∧ -1000000000 ≤ v.toInt ∧ v.toInt ≤ 1000000000 ∧ cfg 0x3211 0 s = 1 ∧ postFull 0x40000 s = false) ∧
    (∃ (q : Req) (v : BitVec 32) (s : State), admits q .operator s = true ∧ -1000000000 ≤ v.toInt ∧ v.toInt ≤ 1000000000 ∧ cfg 0x3211 0 s ≠ 1) ∧
    (∃ (q : Req) (v : BitVec 32) (s : State), admits q .operator s = true ∧ 1000000000 < v.toInt) ∧
    (∃ (q : Req) (s : State), admits q .custodian s = true) ∧
    (∃ (q : Req) (v : BitVec 8) (s : State), admits q .custodian s = true ∧ v ≠ 0x5A ∧ v ≠ 0) ∧
    (∃ (s : State), s.dict.pendSave ≠ [] ∧ s.life.nymyx = true ∧ s.life.state ≠ .restarting ∧ flashOk s = true) ∧
    (∃ (s : State), s.dict.pendSave ≠ [] ∧ s.life.nymyx = true ∧ s.life.state ≠ .restarting ∧ flashOk s = false) :=
  ⟨⟨q, 191, true, tSess .custodian, base, by decide +kernel, by decide +kernel, by decide +kernel⟩,
   ⟨q, 0, false, tSess .custodian, base, by decide +kernel, by decide +kernel, by decide +kernel⟩,
   ⟨q, [], base, by decide +kernel, by decide +kernel⟩,
   ⟨q, 1000000000, dk (key 0x3211 0) [1] base, by decide +kernel, by decide +kernel, by decide +kernel, by decide +kernel, by decide +kernel⟩,
   ⟨q, -1000000000, base, by decide +kernel, by decide +kernel, by decide +kernel, by decide +kernel⟩,
   ⟨q, 1000000001, base, by decide +kernel, by decide +kernel⟩,
   ⟨q, base, by decide +kernel⟩,
   ⟨q, 0x5B, base, by decide +kernel, by decide +kernel, by decide +kernel⟩,
   ⟨updPower (fun p => { p with level := 0 }) { base with dict := { base.dict with pendSave := [key 0x130A 0] } }, by decide +kernel, by decide +kernel, by decide +kernel, by decide +kernel⟩,
   ⟨updPower (fun p => { p with level := 2 }) { base with dict := { base.dict with pendSave := [key 0x130A 0] } }, by decide +kernel, by decide +kernel, by decide +kernel, by decide +kernel⟩⟩
theorem test_meets_StagingAndSnapshots_2 :
    (∃ (s : State), s.dict.pendSave = []) ∧
    (∃ (q : Req) (_m : BitVec 32) (k : Nat) (s : State), admits q .operator s = true ∧ freeSnap s = some k) ∧
    (∃ (q : Req) (_m : BitVec 32) (k : Nat) (s : State), admits q .operator s = true ∧ freeSnap s = some k) ∧
    (∃ (q : Req) (_m : BitVec 32) (s : State), admits q .operator s = true ∧ freeSnap s = none) ∧
    (∃ (q : Req) (k : BitVec 8) (s : State), admits q .operator s = true ∧ 1 ≤ k.toNat ∧ k.toNat ≤ 4) ∧
    (∃ (q : Req) (k : BitVec 8) (s : State), admits q .operator s = true ∧ 1 ≤ k.toNat ∧ k.toNat ≤ 4) ∧
    (∃ (q : Req) (k : BitVec 8) (s : State), admits q .operator s = true ∧ (k.toNat = 0 ∨ 4 < k.toNat)) ∧
    (∃ (q : Req) (s : State), admits q .operator s = true) ∧
    (∃ (q : Req) (v : List Byte) (s : State), admits q .operator s = true ∧ (v.length % 4 ≠ 0 ∨ v = [] ∨ 256 < v.length)) ∧
    (∃ (q : Req) (v : List Byte) (s : State), admits q .operator s = true ∧ (v.length % 4 ≠ 0 ∨ v = [] ∨ 256 < v.length)) :=
  ⟨⟨base, by decide +kernel⟩,
   ⟨q, 4, 1, { base with snaps := [] }, by decide +kernel, by decide +kernel⟩,
   ⟨q, 4, 3, { base with snaps := [(1, ⟨3, Time96.zero, 1, [0], 4, []⟩), (2, ⟨3, Time96.zero, 1, [0], 4, []⟩)] }, by decide +kernel, by decide +kernel⟩,
   ⟨q, 4, { base with snaps := [1, 2, 3, 4].map (fun k => (k, ⟨3, Time96.zero, 1, [0], 4, []⟩)) }, by decide +kernel, by decide +kernel⟩,
   ⟨q, 4, base, by decide +kernel, by decide +kernel, by decide +kernel⟩,
   ⟨q, 2, base, by decide +kernel, by decide +kernel, by decide +kernel⟩,
   ⟨q, 5, base, by decide +kernel, by decide +kernel⟩,
   ⟨q, base, by decide +kernel⟩,
   ⟨q, [1, 2], base, by decide +kernel, by decide +kernel⟩,
   ⟨q, List.replicate 260 0, base, by decide +kernel, by decide +kernel⟩⟩
end A15

namespace A16
def ss (f : Session → Session) (s : State) : State := updSession 1 f s
def mtd (s : State) : State := { s with gleno := { s.gleno with pairSess := some 1 }, pair := { s.pair with glenoHb := true, mateFlags := 0, mateStopped := false } }
def dk (k : Nat) (v : List Byte) (s : State) : State := { s with dict := { s.dict with vals := Tab.set k v s.dict.vals } }
def x : Seal := ⟨50, true⟩
def st2 : Staged := ⟨key 0x2104 9, [16], false⟩
def sg (e : Session) : Session := { e with staged := [st2], recGen := [(2, 1)] }
def g0 (s : State) : State := { s with commits := { s.commits with generation := [], scheduled := [] }, pair := { s.pair with mateFlags := 0, resync := false }, gleno := { s.gleno with pairSess := none } }
def cm : Commit := ⟨1, 4, [2], none, false, [st2], Time96.zero, false, 0, false, none, false⟩
def cmv (s : State) : State := { s with commits := { s.commits with scheduled := [cm] } }
def px : PairExchange := ⟨⟨1, 7⟩, { cm with pair := true }⟩
def pe (s : State) : State := (fun s => { s with life := { s.life with address := 5 }, commits := { s.commits with exchange := some px, pairState := 0 } }) (ss (fun e => { e with pendingIds := [7] }) (mtd s))
def mc : Commit := { cm with sess := 0, pair := true, pairNo := 9, at_ := some (10 ^ 22) }
def opb : List Byte := [1, 0, 0, 0, 1, 0, 0, 0, 48, 0, 0, 0, 0, 0, 0, 0] ++ [1, 1, 0, 0, 5, 0, 0, 0, 16, 0, 0, 0, 0, 0, 0, 0] ++ List.replicate 15 0 ++ [0x80]
def rsx (s : State) : State := { (mtd s) with dict := { s.dict with vals := [(key 0x1107 0, [0, 1, 0, 0])] }, fwd := Fwd.reset, pair := { s.pair with resync := true, role := .standby, glenoHb := true } }
theorem test_meets_Commits_1 :
    (∃ (q : Req) (m : BitVec 32) (e : Session) (s : State), admits q .operator s = true ∧ session q.sess s = some e ∧ namedSets m e = []) ∧
    (∃ (q : Req) (m : BitVec 32) (e : Session) (c : Commit) (s : State), admits q .operator s = true ∧ session q.sess s = some e ∧ c = commitOf q m (namedSets m e) e s ∧ namedSets m e ≠ [] ∧ setsBusy c.sets s = false ∧ resyncing s = false ∧ migratingRole .tables s = false ∧ gensHold c.sets c.values e s = true ∧ setsFault c.values s = none ∧ drawOf c.values s = 0 ∧ lsbOf e.commitAt = 0 ∧ c.pair = false) ∧
    (∃ (q : Req) (m : BitVec 32) (e : Session) (s : State), admits q .operator s = true ∧ session q.sess s = some e ∧ namedSets m e ≠ [] ∧ setsBusy (namedSets m e) s = true) ∧
    (∃ (q : Req) (m : BitVec 32) (e : Session) (s : State), admits q .operator s = true ∧ session q.sess s = some e ∧ namedSets m e ≠ [] ∧ setsBusy (namedSets m e) s = false ∧ resyncing s = false ∧ migratingRole .tables s = false ∧ gensHold (namedSets m e) (valuesOf (namedSets m e) e.staged) e s = false) ∧
    (∃ (c : Commit) (n : Chan) (v : List Byte) (e : Session) (s : State), s.commits.scheduled = [c] ∧ due c s = true ∧ c.sets = [2] ∧ c.values = [⟨key 0x2104 (n + 1), v, false⟩] ∧ c.pair = false ∧ inScope 2 s = false ∧ session c.sess s = some e) ∧
    (∃ (s : State), (∀ c ∈ s.commits.scheduled, due c s = false)) ∧
    (∃ (q : Req) (m : BitVec 32) (e : Session) (s : State), admits q .operator s = true ∧ session q.sess s = some e ∧ (∀ c ∈ s.commits.scheduled, abortHits q.sess m c = false) ∧ s.commits.exchange = none) ∧
    (∃ (q : Req) (m : BitVec 32) (e : Session) (c : Commit) (s : State), admits q .operator s = true ∧ session q.sess s = some e ∧ s.commits.scheduled = [c] ∧ abortHits q.sess m c = true ∧ c.pair = false ∧ s.commits.exchange = none) ∧
    (∃ (x : Seal) (e : PairExchange) (_number : BitVec 32) (s : State), Verifies x s ∧ s.commits.exchange = some e ∧ isPending e.req s = true ∧ e.commit.given = false ∧ sideB s = true ∧ s.commits.pairState = 0) ∧
    (∃ (x : Seal) (st : Status) (_idx : BitVec 16) (_sub : BitVec 8) (_reason : BitVec 8) (_op : BitVec 32) (_number : BitVec 32) (e : PairExchange) (s : State), Verifies x s ∧ s.commits.exchange = some e ∧ isPending e.req s = true ∧ st ≠ 0) :=
  ⟨⟨q, 0xFFF, tSess .custodian, base, by decide +kernel, by decide +kernel, by decide +kernel⟩,
   ⟨q, 4, sg (tSess .custodian), commitOf q 4 [2] (sg (tSess .custodian)) (ss sg (g0 base)), ss sg (g0 base), by decide +kernel, by decide +kernel, by decide +kernel, by decide +kernel, by decide +kernel, by decide +kernel, by decide +kernel, by decide +kernel, by decide +kernel, by decide +kernel, by decide +kernel, by decide +kernel⟩,
   ⟨q, 4, sg (tSess .custodian), cmv (ss sg base), by decide +kernel, by decide +kernel, by decide +kernel, by decide +kernel⟩,
   ⟨q, 4, sg (tSess .custodian), (fun s => { s with commits := { s.commits with generation := [(2, 6)] } }) (ss sg (g0 base)), by decide +kernel, by decide +kernel, by decide +kernel, by decide +kernel, by decide +kernel, by decide +kernel, by decide +kernel⟩,
   ⟨cm, 8, [16], tSess .custodian, (fun s => { s with dict := { s.dict with vals := [(key 0x1107 0, [0, 0, 0, 0])] } }) (cmv base), by decide +kernel, by decide +kernel, by decide +kernel, by decide +kernel, by decide +kernel, by decide +kernel, by decide +kernel⟩,
   ⟨{ base with commits := { base.commits with scheduled := [{ cm with at_ := some (10 ^ 30) }] } }, by decide +kernel⟩,
   ⟨q, 4, tSess .custodian, { base with commits := { base.commits with scheduled := [{ cm with sess := 3 }] } }, by decide +kernel, by decide +kernel, by decide +kernel, by decide +kernel⟩,
   ⟨q, 4, tSess .custodian, cm, cmv base, by decide +kernel, by decide +kernel, by decide +kernel, by decide +kernel, by decide +kernel, by decide +kernel⟩,
   ⟨x, px, 4, pe base, ⟨by decide +kernel, by decide +kernel, by decide +kernel⟩, by decide +kernel, by decide +kernel, by decide +kernel, by decide +kernel, by decide +kernel⟩,
   ⟨x, 0x0501, 3, 1, 0, 0, 4, px, pe base, ⟨by decide +kernel, by decide +kernel, by decide +kernel⟩, by decide +kernel, by decide +kernel, by decide +kernel⟩⟩
theorem test_meets_Commits_2 :
    (∃ (e : PairExchange) (s : State), s.commits.exchange = some e ∧ isPending e.req s = true) ∧
    (∃ (s : State), s.commits.exchange = none) ∧
    (∃ (x : Seal) (_m : BitVec 32) (g : List (Nat × BitVec 32)) (v : List (Nat × List Byte)) (s : State), Verifies x s ∧ s.life.state ≠ .restarting ∧ mateFault g (v.map (fun y => ⟨y.1, y.2, false⟩)) s = none) ∧
    (∃ (_x : Seal) (_m : BitVec 32) (_g : List (Nat × BitVec 32)) (_v : List (Nat × List Byte)) (s : State), s.life.state = .restarting) ∧
    (∃ (x : Seal) (a : Time96) (_number : BitVec 32) (_given : Bool) (c : Commit) (s : State), Verifies x s ∧ s.commits.mateCommit = some c ∧ domA s ≤ lsbOf a ∧ session c.sess s = none) ∧
    (∃ (x : Seal) (a : Time96) (_number : BitVec 32) (_given : Bool) (c : Commit) (s : State), Verifies x s ∧ s.commits.mateCommit = some c ∧ lsbOf a < domA s) ∧
    (∃ (x : Seal) (_number : BitVec 32) (s : State), Verifies x s ∧ s.commits.scheduled = []) ∧
    (∃ (x : Seal) (c : Commit) (s : State), Verifies x s ∧ s.commits.scheduled = [c] ∧ c.pair = true ∧ c.sess = 0 ∧ domA s + lsbPerMs ≤ c.at_.getD 0) ∧
    (∃ (x : Seal) (c : Commit) (q : Req) (s : State), Verifies x s ∧ s.commits.scheduled = [c] ∧ c.cancel = true ∧ c.abortReq = some q ∧ isPending q s = true ∧ domA s < c.at_.getD 0) ∧
    (∃ (x : Seal) (_number : BitVec 32) (s : State), Verifies x s ∧ s.commits.scheduled = []) :=
  ⟨⟨px, pe base, by decide +kernel, by decide +kernel⟩,
   ⟨base, by decide +kernel⟩,
   ⟨x, 4, [(2, 0)], [(key 0x2104 9, [16])], mtd { (g0 base) with commits := Commits.reset }, ⟨by decide +kernel, by decide +kernel, by decide +kernel⟩, by decide +kernel, by decide +kernel⟩,
   ⟨x, 4, [], [], updLife (fun l => { l with state := .restarting }) (mtd base), by decide +kernel⟩,
   ⟨x, ⟨10000, 0, 0⟩, 9, true, { cm with sess := 0, pair := true }, { (mtd base) with commits := { base.commits with mateCommit := some { cm with sess := 0, pair := true } } }, ⟨by decide +kernel, by decide +kernel, by decide +kernel⟩, by decide +kernel, by decide +kernel, by decide +kernel⟩,
   ⟨x, ⟨0, 0, 0⟩, 9, true, { cm with sess := 0, pair := true }, { (mtd base) with commits := { base.commits with mateCommit := some { cm with sess := 0, pair := true } }, tb := { base.tb with a := { base.tb.a with counter := ⟨65536, 0⟩ } } }, ⟨by decide +kernel, by decide +kernel, by decide +kernel⟩, by decide +kernel, by decide +kernel⟩,
   ⟨x, 9, { (mtd base) with commits := { base.commits with scheduled := [], mateCommit := some cm } }, ⟨by decide +kernel, by decide +kernel, by decide +kernel⟩, by decide +kernel⟩,
   ⟨x, mc, { (mtd base) with commits := { base.commits with scheduled := [mc] } }, ⟨by decide +kernel, by decide +kernel, by decide +kernel⟩, by decide +kernel, by decide +kernel, by decide +kernel, by decide +kernel⟩,
   ⟨x, { mc with sess := 1, cancel := true, abortReq := some ⟨1, 7⟩ }, ⟨1, 7⟩, ss (fun e => { e with pendingIds := [7] }) { (mtd base) with commits := { base.commits with scheduled := [{ mc with sess := 1, cancel := true, abortReq := some ⟨1, 7⟩ }] } }, ⟨by decide +kernel, by decide +kernel, by decide +kernel⟩, by decide +kernel, by decide +kernel, by decide +kernel, by decide +kernel, by decide +kernel⟩,
   ⟨x, 9, { (mtd base) with commits := { base.commits with scheduled := [] } }, ⟨by decide +kernel, by decide +kernel, by decide +kernel⟩, by decide +kernel⟩⟩
theorem test_meets_Commits_3 :
    (∃ (q : Req) (v : BitVec 32) (e : Session) (s : State), admits q .custodian s = true ∧ session q.sess s = some e ∧ matePresent s = false ∧ writeFault false e 0x1107 0 (leBytes 4 v.toNat) s = 0) ∧
    (∃ (q : Req) (v : BitVec 32) (e : Session) (s : State), admits q .custodian s = true ∧ session q.sess s = some e ∧ matePresent s = true ∧ s.commits.scopeEx = none ∧ mateAway s = false ∧ writeFault false e 0x1107 0 (leBytes 4 v.toNat) s = 0) ∧
    (∃ (x : Seal) (_v : BitVec 32) (w : ScopeExchange) (s : State), Verifies x s ∧ s.commits.scopeEx = some w ∧ isPending w.req s = true) ∧
    (∃ (x : Seal) (_v : BitVec 32) (s : State), Verifies x s ∧ s.commits.scopeEx = none) ∧
    (∃ (w : ScopeExchange) (s : State), s.commits.scopeEx = some w ∧ isPending w.req s = true) ∧
    (∃ (s : State), s.commits.scopeEx = none) ∧
    (∃ (x : Seal) (b : List Byte) (n : Tables) (_number : BitVec 32) (s : State), Verifies x s ∧ s.pair.resync = true ∧ s.pair.role = .standby ∧ cfg 0x1107 0 s = 0x100 ∧ imageTables [8] (extRefs s) [b] [] [] s.fwd.tables = some n ∧ imageFrees s.fwd.tables n = false ∧ s.fwd.tables.meters = [] ∧ s.fwd.tables.streams = []) ∧
    (∃ (_x : Seal) (_v : List (Nat × List Byte)) (_a : List (List Byte)) (_b : List (List Byte)) (_c : List (List Byte)) (_number : BitVec 32) (s : State), s.pair.resync = false) :=
  ⟨⟨q, 0x3FFE, tSess .custodian, { base with gleno := { base.gleno with pairSess := none } }, by decide +kernel, by decide +kernel, by decide +kernel, by decide +kernel⟩,
   ⟨q, 4, tSess .custodian, { (mtd base) with commits := { base.commits with scopeEx := none } }, by decide +kernel, by decide +kernel, by decide +kernel, by decide +kernel, by decide +kernel, by decide +kernel⟩,
   ⟨x, 4, ⟨⟨1, 7⟩, 0x104⟩, ss (fun e => { e with pendingIds := [7] }) { (mtd base) with commits := { base.commits with scopeEx := some ⟨⟨1, 7⟩, 0x104⟩ } }, ⟨by decide +kernel, by decide +kernel, by decide +kernel⟩, by decide +kernel, by decide +kernel⟩,
   ⟨x, 4, { (mtd base) with commits := { base.commits with scopeEx := none } }, ⟨by decide +kernel, by decide +kernel, by decide +kernel⟩, by decide +kernel⟩,
   ⟨⟨⟨1, 7⟩, 0x104⟩, ss (fun e => { e with pendingIds := [7] }) { (mtd base) with commits := { base.commits with scopeEx := some ⟨⟨1, 7⟩, 0x104⟩ } }, by decide +kernel, by decide +kernel⟩,
   ⟨{ base with commits := { base.commits with scopeEx := none } }, by decide +kernel⟩,
   ⟨x, opb, (imageTables [8] (extRefs (rsx base)) [opb] [] [] (rsx base).fwd.tables).getD Tables.reset, 12, rsx base, ⟨by decide +kernel, by decide +kernel, by decide +kernel⟩, by decide +kernel, by decide +kernel, by decide +kernel, by decide +kernel, by decide +kernel, by decide +kernel, by decide +kernel⟩,
   ⟨x, [], [], [], [], 4, { base with pair := { base.pair with resync := false } }, by decide +kernel⟩⟩
end A16

namespace A17
def dk (k : Nat) (v : List Byte) (s : State) : State := { s with dict := { s.dict with vals := Tab.set k v s.dict.vals } }
def pr (f : Pair → Pair) (s : State) : State := { s with pair := f s.pair, gleno := { s.gleno with pairSess := some 1 } }
def unp (s : State) : State := { s with gleno := { s.gleno with pairSess := none } }
def lk (s : State) : State := updLife (fun l => { l with address := 4 }) (updCod 3 (fun d => { d with stage := 6 }) (dk (key 0x4401 1) [3] (dk (key 0x4401 2) [255] (pr (fun p => { p with link0 := ⟨true, false, 1, true⟩, link1 := ShroudLink.reset, mateSerial := 99 }) s))))
def x : Seal := ⟨50, true⟩
def bt : Beat := ⟨1, 0, 7, 8, 9, 4, 6, 1, 2⟩
def arr : Arrival := ⟨3, 0, false, 77⟩
def rep : List Byte := [5, 0, 0, 0, 0, 0, 0, 0, 5, 0, 0, 0, 0, 0, 0, 0, 0, 0, 0, 0] ++ List.replicate 60 0
def nhS (s : State) : State := { (updPower (fun p => { p with level := 0 }) (lk s)) with sw := Switch.reset, fwd := { s.fwd with tables := { s.fwd.tables with streams := [], nh := [(5, ⟨.live, 0, BitVec.ofNat 256 (2 ^ 255 + 17 * 2 ^ 247)⟩)] } } }
def ho : Handover := ⟨none, false, true, 1, true⟩
def hok (s : State) : State := pr (fun p => { p with role := .active, shroudHb := true, mateRole := 1, mateFlags := 0, mateCkpt := 6, sent := [(6, s.now)], handover := none }) s
def lost (s : State) : State := pr (fun p => { p with shroudHb := false, glenoHb := false, role := .standby, inhibit := false, arbitrating := true, refused := false, holdoff := false, witness := some 2 }) s
theorem test_meets_PairLiveness_1 :
    (∃ (s : State), paired s = false ∧ 4 ≤ s.life.stage ∧ cfgB 0x4400 0 s = true) ∧
    (∃ (s : State), paired s = true) ∧
    (∃ (s : State), paired s = false ∧ cfgB 0x4400 0 s = true ∧ accepting s = true ∧ sideB s = false) ∧
    (∃ (s : State), sideB s = true) ∧
    (∃ (s : State), paired s = true ∧ sideB s = false ∧ accepting s = true) ∧
    (∃ (s : State), paired s = false) ∧
    (∃ (s : State), linkLit 0 s = true ∧ linkLit 1 s = false) ∧
    (∃ (j : Fin 2) (lnk : Fin 256) (vmax : Fin 256) (vmin : Fin 256) (s : State), linkLit j s = true ∧ paired s = true ∧ lnk.val = j.val ∧ vmin.val ≤ vmax.val ∧ vmin.val ≤ shroudMax s ∧ shroudMin s ≤ vmax.val ∧ shroudMin s ≤ shroudMax s ∧ 0 < min (shroudMax s) vmax.val) ∧
    (∃ (j : Fin 2) (lnk : Fin 256) (vmax : Fin 256) (vmin : Fin 256) (s : State), linkLit j s = true ∧ paired s = true ∧ lnk.val = j.val ∧ vmin.val ≤ vmax.val ∧ vmin.val ≤ shroudMax s ∧ shroudMin s ≤ vmax.val ∧ shroudMin s ≤ shroudMax s ∧ 0 < min (shroudMax s) vmax.val) ∧
    (∃ (j : Fin 2) (serial : BitVec 64) (_addr : BitVec 8) (lnk : Fin 256) (_vmax : Fin 256) (_vmin : Fin 256) (s : State), linkLit j s = true ∧ paired s = true ∧ (serial ≠ s.pair.mateSerial ∨ lnk.val ≠ j.val)) ∧
    (∃ (j : Fin 2) (serial : BitVec 64) (_addr : BitVec 8) (lnk : Fin 256) (_vmax : Fin 256) (_vmin : Fin 256) (s : State), linkLit j s = true ∧ paired s = true ∧ (serial ≠ s.pair.mateSerial ∨ lnk.val ≠ j.val)) :=
  ⟨⟨unp base, by decide +kernel, by decide +kernel, by decide +kernel⟩,
   ⟨pr id base, by decide +kernel⟩,
   ⟨updLife (fun l => { l with address := 4 }) (unp base), by decide +kernel, by decide +kernel, by decide +kernel, by decide +kernel⟩,
   ⟨updLife (fun l => { l with address := 5 }) base, by decide +kernel⟩,
   ⟨updLife (fun l => { l with address := 4 }) (pr id base), by decide +kernel, by decide +kernel, by decide +kernel⟩,
   ⟨unp base, by decide +kernel⟩,
   ⟨lk base, by decide +kernel, by decide +kernel⟩,
   ⟨0, 0, 1, 1, pr (fun p => { p with link0 := ShroudLink.reset }) (lk base), by decide +kernel, by decide +kernel, by decide +kernel, by decide +kernel, by decide +kernel, by decide +kernel, by decide +kernel, by decide +kernel⟩,
   ⟨0, 0, 255, 1, lk base, by decide +kernel, by decide +kernel, by decide +kernel, by decide +kernel, by decide +kernel, by decide +kernel, by decide +kernel, by decide +kernel⟩,
   ⟨0, 5, 5, 0, 1, 1, lk base, by decide +kernel, by decide +kernel, by decide +kernel⟩,
   ⟨0, 99, 5, 1, 1, 1, lk base, by decide +kernel, by decide +kernel, by decide +kernel⟩⟩
theorem test_meets_PairLiveness_2 :
    (∃ (s : State), linkTalks 0 s = true ∧ linkTalks 1 s = false ∧ paired s = true) ∧
    (∃ (s : State), linkTalks 0 s = false ∧ linkTalks 1 s = false) ∧
    (∃ (j : Fin 2) (x : Seal) (h : Beat) (s : State), linkTalks j s = true ∧ Verifies x s ∧ s.pair.role = .active ∧ h.role.val = 1) ∧
    (∃ (j : Fin 2) (x : Seal) (_h : Beat) (s : State), linkTalks j s = true ∧ paired s = true ∧ x.ok = false) ∧
    (∃ (j : Fin 2) (_x : Seal) (_h : Beat) (s : State), linkTalks j s = false) ∧
    (∃ (s : State), s.pair.shroudHb = true ∧ s.pair.glenoHb = true ∧ s.pair.mateRole = 1) ∧
    (∃ (s : State), s.pair.shroudHb = false) ∧
    (∃ (s : State), s.pair.glenoHb = true ∧ s.pair.shroudHb = true ∧ s.pair.mateRole = 1) ∧
    (∃ (s : State), s.pair.glenoHb = true ∧ s.pair.shroudHb = false ∧ paired s = true ∧ s.pair.role = .standby ∧ s.pair.mateStopped = false ∧ s.pair.handover = none ∧ portTrained s = true ∧ s.pair.witness.isSome = true) ∧
    (∃ (s : State), s.pair.glenoHb = false) ∧
    (∃ (_epoch : BitVec 32) (s : State), s.pair.arbitrating = true ∧ mateLost s = true ∧ s.pair.role = .standby ∧ s.pair.inhibit = false) :=
  ⟨⟨lk base, by decide +kernel, by decide +kernel, by decide +kernel⟩,
   ⟨pr (fun p => { p with link0 := ShroudLink.reset }) base, by decide +kernel, by decide +kernel⟩,
   ⟨0, x, bt, pr (fun p => { p with role := .active }) (lk base), by decide +kernel, ⟨by decide +kernel, by decide +kernel, by decide +kernel⟩, by decide +kernel, by decide +kernel⟩,
   ⟨0, ⟨50, false⟩, bt, lk base, by decide +kernel, by decide +kernel, by decide +kernel⟩,
   ⟨1, x, bt, lk base, by decide +kernel⟩,
   ⟨pr (fun p => { p with shroudHb := true, glenoHb := true, mateRole := 1 }) base, by decide +kernel, by decide +kernel, by decide +kernel⟩,
   ⟨pr (fun p => { p with shroudHb := false }) base, by decide +kernel⟩,
   ⟨pr (fun p => { p with shroudHb := true, glenoHb := true, mateRole := 1 }) base, by decide +kernel, by decide +kernel, by decide +kernel⟩,
   ⟨pr (fun p => { p with shroudHb := false, glenoHb := true, role := .standby, mateStopped := false, handover := none, witness := some 2 }) base, by decide +kernel, by decide +kernel, by decide +kernel, by decide +kernel, by decide +kernel, by decide +kernel, by decide +kernel, by decide +kernel⟩,
   ⟨pr (fun p => { p with glenoHb := false }) base, by decide +kernel⟩,
   ⟨5, lost base, by decide +kernel, by decide +kernel, by decide +kernel, by decide +kernel⟩⟩
theorem test_meets_PairLiveness_3 :
    (∃ (_epoch : BitVec 32) (s : State), s.pair.arbitrating = true ∧ mateLost s = true ∧ s.pair.role = .standby ∧ s.pair.inhibit = false) ∧
    (∃ (_epoch : BitVec 32) (s : State), s.pair.arbitrating = true ∧ mateLost s = true ∧ s.pair.role = .standby) ∧
    (∃ (_g : Bool) (_epoch : BitVec 32) (s : State), s.pair.arbitrating = false) ∧
    (∃ (s : State), s.pair.refused = true ∧ mateLost s = true ∧ s.pair.role = .standby ∧ s.pair.witness.isSome = true ∧ portTrained s = true) ∧
    (∃ (s : State), s.pair.refused = false) ∧
    (∃ (s : State), mateLost s = true ∧ s.pair.role = .standby ∧ s.pair.holdoff = false ∧ s.pair.refused = false) ∧
    (∃ (s : State), mateLost s = false) ∧
    (∃ (s : State), s.pair.holdoff = true ∧ mateLost s = true ∧ s.pair.role = .standby ∧ s.pair.inhibit = false) ∧
    (∃ (s : State), s.pair.holdoff = true ∧ mateLost s = true ∧ s.pair.role = .standby ∧ s.pair.inhibit = true) ∧
    (∃ (s : State), s.pair.holdoff = false) :=
  ⟨⟨5, lk (lost base), by decide +kernel, by decide +kernel, by decide +kernel, by decide +kernel⟩,
   ⟨5, lost base, by decide +kernel, by decide +kernel, by decide +kernel⟩,
   ⟨true, 5, pr (fun p => { p with arbitrating := false }) base, by decide +kernel⟩,
   ⟨pr (fun p => { p with arbitrating := false, refused := true }) (lost base), by decide +kernel, by decide +kernel, by decide +kernel, by decide +kernel, by decide +kernel⟩,
   ⟨pr (fun p => { p with refused := false }) base, by decide +kernel⟩,
   ⟨lost base, by decide +kernel, by decide +kernel, by decide +kernel, by decide +kernel⟩,
   ⟨pr (fun p => { p with shroudHb := true }) base, by decide +kernel⟩,
   ⟨pr (fun p => { p with holdoff := true }) (lost base), by decide +kernel, by decide +kernel, by decide +kernel, by decide +kernel⟩,
   ⟨pr (fun p => { p with holdoff := true, inhibit := true }) (lost base), by decide +kernel, by decide +kernel, by decide +kernel, by decide +kernel⟩,
   ⟨pr (fun p => { p with holdoff := false }) base, by decide +kernel⟩⟩
theorem test_meets_PairExchanges_1 :
    (∃ (_t1 : Int) (j : Nat) (s : State), mateLink s = some j ∧ s.pair.role = .active) ∧
    (∃ (_t1 : Int) (s : State), s.pair.role ≠ .active) ∧
    (∃ (j : Fin 2) (x : Seal) (_ex : BitVec 16) (_fl : BitVec 8) (_t1 : Int) (_dba : Int) (_t2 : Int) (_t3 : Int) (s : State), linkUp j s = true ∧ Verifies x s ∧ s.pair.role = .standby ∧ (tsu (tileOf ((linkChan j s).getD 0)) s).queue.length < 32) ∧
    (∃ (j : Fin 2) (x : Seal) (_ex : BitVec 16) (_t4 : Int) (s : State), linkUp j s = true ∧ Verifies x s ∧ s.pair.role = .active) ∧
    (∃ (j : Fin 2) (_x : Seal) (_ex : BitVec 16) (_t4 : Int) (s : State), linkUp j s = false) ∧
    (∃ (j : Fin 2) (x : Seal) (e : ShroudEx) (_t4 : Int) (s : State), linkUp j s = true ∧ Verifies x s ∧ s.pair.role = .standby ∧ s.pair.exch = some e ∧ e.link = j.val ∧ e.bad = false ∧ e.epochA = s.tb.a.epoch ∧ e.epochB = s.tb.b.epoch ∧ s.now ≤ e.at_ + 6250000 ∧ onJury (tileOf ((linkChan j s).getD 0)) s = false ∧ s.pair.offs = []) ∧
    (∃ (j : Fin 2) (x : Seal) (_ex : BitVec 16) (_fl : BitVec 8) (_t4 : Int) (e : ShroudEx) (s : State), linkUp j s = true ∧ Verifies x s ∧ s.pair.exch = some e) ∧
    (∃ (s : State), s.pair.role = .active ∧ s.life.state ≠ .restarting ∧ migratingRole .pair s = false) ∧
    (∃ (s : State), s.pair.role = .active ∧ s.life.state ≠ .restarting ∧ migratingRole .pair s = false) ∧
    (∃ (s : State), s.pair.role ≠ .active) ∧
    (∃ (x : Seal) (b : List Byte) (s : State), Verifies x s ∧ s.pair.role = .standby ∧ b.length = 160) :=
  ⟨⟨77, 0, pr (fun p => { p with role := .active }) (lk base), by decide +kernel, by decide +kernel⟩,
   ⟨77, pr (fun p => { p with role := .standby }) base, by decide +kernel⟩,
   ⟨0, x, 5, 6, 7, 8, 9, 10, pr (fun p => { p with role := .standby }) (lk base), by decide +kernel, ⟨by decide +kernel, by decide +kernel, by decide +kernel⟩, by decide +kernel, by decide +kernel⟩,
   ⟨0, x, 5, 6, pr (fun p => { p with role := .active }) (lk base), by decide +kernel, ⟨by decide +kernel, by decide +kernel, by decide +kernel⟩, by decide +kernel⟩,
   ⟨1, x, 5, 6, lk base, by decide +kernel⟩,
   ⟨0, x, ⟨0, 5, 1000, 2000, 3000, 4, 5, base.tb.a.epoch, base.tb.b.epoch, false, base.now⟩, 4000, updMdll 0 (fun m => { m with st := .locked, source := .mdll }) (pr (fun p => { p with role := .standby, offs := [], exch := some ⟨0, 5, 1000, 2000, 3000, 4, 5, base.tb.a.epoch, base.tb.b.epoch, false, base.now⟩ }) (lk base)), by decide +kernel, ⟨by decide +kernel, by decide +kernel, by decide +kernel⟩, by decide +kernel, by decide +kernel, by decide +kernel, by decide +kernel, by decide +kernel, by decide +kernel, by decide +kernel, by decide +kernel, by decide +kernel⟩,
   ⟨0, x, 5, 6, 4000, ⟨0, 5, 1000, 2000, 3000, 4, 5, base.tb.a.epoch, base.tb.b.epoch, false, base.now⟩, pr (fun p => { p with role := .standby, offs := [], exch := some ⟨0, 5, 1000, 2000, 3000, 4, 5, base.tb.a.epoch, base.tb.b.epoch, false, base.now⟩ }) (lk base), by decide +kernel, ⟨by decide +kernel, by decide +kernel, by decide +kernel⟩, by decide +kernel⟩,
   ⟨pr (fun p => { p with role := .active }) (lk base), by decide +kernel, by decide +kernel, by decide +kernel⟩,
   ⟨pr (fun p => { p with role := .active }) base, by decide +kernel, by decide +kernel, by decide +kernel⟩,
   ⟨pr (fun p => { p with role := .standby }) base, by decide +kernel⟩,
   ⟨x, List.replicate 160 1, pr (fun p => { p with role := .standby }) base, ⟨by decide +kernel, by decide +kernel, by decide +kernel⟩, by decide +kernel, by decide +kernel⟩⟩
theorem test_meets_PairExchanges_2 :
    (∃ (x : Seal) (b : List Byte) (s : State), Verifies x s ∧ s.pair.role = .standby ∧ b.length = 160) ∧
    (∃ (x : Seal) (_b : List Byte) (s : State), Verifies x s ∧ s.pair.role = .active) ∧
    (∃ (j : Fin 2) (c : Nat) (b : List Byte) (_a : Arrival) (s : State), linkChan j s = some c ∧ linkUp j s = true ∧ 20 ≤ b.length ∧ s.power.level = 4) ∧
    (∃ (j : Fin 2) (c : Nat) (b : List Byte) (a : Arrival) (s : State), linkChan j s = some c ∧ linkUp j s = true ∧ 20 ≤ b.length ∧ s.power.level ≠ 4 ∧ a.overload = false ∧ streamCfg (ckNat b 0 2) s = 0 ∧ nhUsable (ckNat b 8 4) s = true ∧ fabQ (tileOf c) (tileOf (field (row (ckNat b 8 4) s.fwd.tables.nh).bits 254 247)) s = [] ∧ b.length ≤ 20000) ∧
    (∃ (n : BitVec 16) (s : State), field (streamCfg n.toNat s) 127 125 = 6 ∧ (stream n.toNat s).takeAny = false) ∧
    (∃ (n : BitVec 16) (s : State), (stream n.toNat s).takeAny = true) ∧
    (∃ (q : Req) (_n : BitVec 16) (s : State), admits q .operator s = true) ∧
    (∃ (q : Req) (s : State), admits q .operator s = true ∧ handoverOk s = true ∧ s.pair.handover = none) ∧
    (∃ (q : Req) (s : State), admits q .operator s = true ∧ handoverOk s = false) ∧
    (∃ (x : Seal) (_n : Nat) (s : State), Verifies x s ∧ s.pair.role = .standby ∧ s.pair.inhibit = false) ∧
    (∃ (x : Seal) (h : Handover) (s : State), Verifies x s ∧ s.pair.handover = some h) :=
  ⟨⟨x, List.replicate 160 0, pr (fun p => { p with role := .standby }) base, ⟨by decide +kernel, by decide +kernel, by decide +kernel⟩, by decide +kernel, by decide +kernel⟩,
   ⟨x, List.replicate 108 0, pr (fun p => { p with role := .active }) base, ⟨by decide +kernel, by decide +kernel, by decide +kernel⟩, by decide +kernel⟩,
   ⟨0, 3, rep, arr, updPower (fun p => { p with level := 4 }) (lk base), by decide +kernel, by decide +kernel, by decide +kernel, by decide +kernel⟩,
   ⟨0, 3, rep, arr, nhS base, by decide +kernel, by decide +kernel, by decide +kernel, by decide +kernel, by decide +kernel, by decide +kernel, by decide +kernel, by decide +kernel, by decide +kernel⟩,
   ⟨5, updStream 5 (fun x => { x with takeAny := false }) { base with fwd := { base.fwd with tables := { base.fwd.tables with streams := [(5, BitVec.ofNat 128 (6 * 2 ^ 125))] } } }, by decide +kernel, by decide +kernel⟩,
   ⟨5, base, by decide +kernel⟩,
   ⟨q, 65535, base, by decide +kernel⟩,
   ⟨q, hok base, by decide +kernel, by decide +kernel, by decide +kernel⟩,
   ⟨q, pr (fun p => { p with role := .standby }) base, by decide +kernel, by decide +kernel⟩,
   ⟨x, 5, pr (fun p => { p with role := .standby, inhibit := false }) base, ⟨by decide +kernel, by decide +kernel, by decide +kernel⟩, by decide +kernel, by decide +kernel⟩,
   ⟨x, ho, pr (fun p => { p with handover := some ho }) base, ⟨by decide +kernel, by decide +kernel, by decide +kernel⟩, by decide +kernel⟩⟩
theorem test_meets_PairExchanges_3 :
    (∃ (h : Handover) (q : Req) (s : State), s.pair.handover = some h ∧ h.confirmed = false ∧ h.req = some q ∧ h.stop = false ∧ isPending q s = true) ∧
    (∃ (s : State), s.pair.handover = none) ∧
    (∃ (h : Handover) (s : State), s.pair.handover = some h ∧ h.confirmed = true ∧ ((h.second * lsbPerSec : Nat) : Int) ≤ s.tb.p ∧ h.incoming = true ∧ s.pair.role = .standby) ∧
    (∃ (h : Handover) (s : State), s.pair.handover = some h ∧ h.confirmed = true ∧ ((h.second * lsbPerSec : Nat) : Int) ≤ s.tb.p ∧ h.incoming = false ∧ h.req = none) ∧
    (∃ (h : Handover) (s : State), s.pair.handover = some h ∧ s.tb.p < ((h.second * lsbPerSec : Nat) : Int)) ∧
    (∃ (q : Req) (s : State), admits q .operator s = true ∧ s.pair.role = .standby ∧ paired s = true ∧ s.pair.resync = false ∧ s.pair.mateNumber = s.commits.pairNumber ∧ diverged s = false) ∧
    (∃ (q : Req) (s : State), admits q .operator s = true ∧ s.pair.role = .standby ∧ paired s = true ∧ s.pair.resync = false ∧ diverged s = true ∧ shroudUp s = true) ∧
    (∃ (q : Req) (s : State), admits q .operator s = true ∧ s.pair.role ≠ .standby) ∧
    (∃ (q : Req) (s : State), admits q .operator s = true) ∧
    (∃ (q : Req) (s : State), admits q .operator s = true) :=
  ⟨⟨{ ho with confirmed := false, req := some ⟨1, 7⟩ }, ⟨1, 7⟩, updSession 1 (fun e => { e with pendingIds := [7] }) (pr (fun p => { p with handover := some { ho with confirmed := false, req := some ⟨1, 7⟩ } }) base), by decide +kernel, by decide +kernel, by decide +kernel, by decide +kernel, by decide +kernel⟩,
   ⟨pr (fun p => { p with handover := none }) base, by decide +kernel⟩,
   ⟨ho, (fun s => { s with tb := { s.tb with p := 65536000000000 } }) (pr (fun p => { p with handover := some ho, role := .standby }) base), by decide +kernel, by decide +kernel, by decide +kernel, by decide +kernel, by decide +kernel⟩,
   ⟨{ ho with incoming := false }, (fun s => { s with tb := { s.tb with p := 65536000000000 } }) (pr (fun p => { p with handover := some { ho with incoming := false }, role := .active }) base), by decide +kernel, by decide +kernel, by decide +kernel, by decide +kernel, by decide +kernel⟩,
   ⟨ho, (fun s => { s with tb := { s.tb with p := 65535999999999 } }) (pr (fun p => { p with handover := some ho, role := .standby }) base), by decide +kernel, by decide +kernel⟩,
   ⟨q, pr (fun p => { p with role := .standby, resync := false, mateNumber := base.commits.pairNumber }) { base with commits := { base.commits with pairState := 1, scopeChanged := false } }, by decide +kernel, by decide +kernel, by decide +kernel, by decide +kernel, by decide +kernel, by decide +kernel⟩,
   ⟨q, pr (fun p => { p with role := .standby, resync := false }) (lk { base with commits := { base.commits with pairState := 2 } }), by decide +kernel, by decide +kernel, by decide +kernel, by decide +kernel, by decide +kernel, by decide +kernel⟩,
   ⟨q, pr (fun p => { p with role := .active }) base, by decide +kernel, by decide +kernel⟩,
   ⟨q, base, by decide +kernel⟩,
   ⟨q, base, by decide +kernel⟩⟩
end A17

namespace A18
def ss (f : Session → Session) (s : State) : State := updSession 1 f s
def dk (k : Nat) (v : List Byte) (s : State) : State := { s with dict := { s.dict with vals := Tab.set k v s.dict.vals } }
def tr (f : Trust → Trust) (s : State) : State := { s with trust := f s.trust }
def mkOn (s : State) : State := chanUp 3 (dk (key 0x6015 4) [2] (updCa 3 (fun x => { x with cak := [1], ckn := [2] }) s))
def pduA : MkaPdu := ⟨true, true, true, 0, 0x99, some (2, 77), none, false⟩
def pduB : MkaPdu := ⟨true, true, true, 255, 0x99, none, none, false⟩
def kv : List Byte := [5, 0, 0, 0] ++ List.replicate 52 1
theorem test_meets_IslandCommands_1 :
    (∃ (k : Fin 6) (s : State), cfg 0x6011 (k + 1) s = 0 ∧ s.life.nymyx = true) ∧
    (∃ (k : Fin 6) (s : State), cfg 0x6011 (k + 1) s = 0 ∧ s.life.nymyx = true) ∧
    (∃ (k : Fin 6) (s : State), cfg 0x6011 (k + 1) s = 0 ∧ s.life.nymyx = true) ∧
    (∃ (k : Fin 6) (s : State), cfg 0x6011 (k + 1) s = 1 ∧ s.life.nymyx = true) ∧
    (∃ (k : Fin 6) (s : State), cfg 0x6011 (k + 1) s = 2 ∧ s.life.nymyx = true) ∧
    (∃ (q : Req) (s : State), admits q .custodian s = true) ∧
    (∃ (q : Req) (s : State), admits q .custodian s = true) ∧
    (∃ (q : Req) (s : State), admits q .custodian s = true) ∧
    (∃ (q : Req) (s : State), admits q .operator s = true ∧ admits q .custodian s = false) ∧
    (∃ (q : Req) (s : State), admits q .custodian s = true) ∧
    (∃ (q : Req) (s : State), admits q .custodian s = true ∧ s.trust.entropy = false ∧ bootMigrates s = false ∧ s.trust.genReq = none) ∧
    (∃ (q : Req) (s : State), admits q .custodian s = true ∧ s.trust.entropy = true) :=
  ⟨⟨3, dk (key 0x6011 4) [0] base, by decide +kernel, by decide +kernel⟩,
   ⟨0, dk (key 0x6011 1) [0] base, by decide +kernel, by decide +kernel⟩,
   ⟨5, dk (key 0x6011 6) [0] base, by decide +kernel, by decide +kernel⟩,
   ⟨3, dk (key 0x6011 4) [1] base, by decide +kernel, by decide +kernel⟩,
   ⟨3, dk (key 0x6011 4) [2] base, by decide +kernel, by decide +kernel⟩,
   ⟨q, tr (fun t => { t with lock := true, classes := 5 }) base, by decide +kernel⟩,
   ⟨q, base, by decide +kernel⟩,
   ⟨q, base, by decide +kernel⟩,
   ⟨⟨3, 7⟩, base, by decide +kernel, by decide +kernel⟩,
   ⟨q, base, by decide +kernel⟩,
   ⟨q, tr (fun t => { t with genReq := none, entropy := false }) base, by decide +kernel, by decide +kernel, by decide +kernel, by decide +kernel⟩,
   ⟨q, tr (fun t => { t with entropy := true }) base, by decide +kernel, by decide +kernel⟩⟩
theorem test_meets_IslandCommands_2 :
    (∃ (q : Req) (s : State), s.trust.genReq = some q ∧ isPending q s = true) ∧
    (∃ (s : State), s.trust.genReq = none) ∧
    (∃ (q : Req) (v : List Byte) (e : Session) (s : State), admits q .custodian s = true ∧ session q.sess s = some e ∧ v.length = 36 ∧ v.getD 32 0 = 0 ∧ bootMigrates s = false ∧ e.attestReq = none ∧ s.trust.entropy = false) ∧
    (∃ (q : Req) (v : List Byte) (s : State), admits q .custodian s = true ∧ v.length ≠ 36) ∧
    (∃ (n : Nat) (e : Session) (q : Req) (s : State), session n s = some e ∧ e.attestReq = some q ∧ q.sess = n ∧ q.id ∈ e.pendingIds) ∧
    (∃ (n : Nat) (s : State), session n s = none) ∧
    (∃ (q : Req) (m : BitVec 16) (s : State), admits q .custodian s = true ∧ 0 < m.toNat ∧ m.toNat ≤ 1440 ∧ s.trust.lock = false) ∧
    (∃ (q : Req) (m : BitVec 16) (s : State), admits q .custodian s = true ∧ 0 < m.toNat ∧ m.toNat ≤ 1440 ∧ s.trust.lock = false) ∧
    (∃ (q : Req) (m : BitVec 16) (s : State), admits q .custodian s = true ∧ 1440 < m.toNat) ∧
    (∃ (x : Nat) (s : State), s.trust.service = some x ∧ x ≤ s.now) ∧
    (∃ (x : Nat) (s : State), s.trust.service = some x ∧ s.now < x) ∧
    (∃ (q : Req) (n : BitVec 8) (s : State), admits q .custodian s = true ∧ 5 ≤ n.toNat ∧ n.toNat ≤ 7 ∧ s.trust.counters.length = 8 ∧ s.trust.counters.getD n.toNat 0 ≠ 0xFFFFFFFF) :=
  ⟨⟨q, ss (fun e => { e with pendingIds := [7] }) (tr (fun t => { t with genReq := some q }) base), by decide +kernel, by decide +kernel⟩,
   ⟨tr (fun t => { t with genReq := none }) base, by decide +kernel⟩,
   ⟨q, List.replicate 36 0, tSess .custodian, tr (fun t => { t with entropy := false }) base, by decide +kernel, by decide +kernel, by decide +kernel, by decide +kernel, by decide +kernel, by decide +kernel, by decide +kernel⟩,
   ⟨q, List.replicate 35 0, base, by decide +kernel, by decide +kernel⟩,
   ⟨1, { tSess .custodian with attestReq := some q, pendingIds := [7] }, q, ss (fun e => { e with attestReq := some q, pendingIds := [7] }) base, by decide +kernel, by decide +kernel, by decide +kernel, by decide +kernel⟩,
   ⟨9, base, by decide +kernel⟩,
   ⟨q, 1440, base, by decide +kernel, by decide +kernel, by decide +kernel, by decide +kernel⟩,
   ⟨q, 1, base, by decide +kernel, by decide +kernel, by decide +kernel, by decide +kernel⟩,
   ⟨q, 1441, base, by decide +kernel, by decide +kernel⟩,
   ⟨base.now, tr (fun t => { t with service := some base.now }) base, by decide +kernel, by decide +kernel⟩,
   ⟨base.now + 1, tr (fun t => { t with service := some (base.now + 1) }) base, by decide +kernel, by decide +kernel⟩,
   ⟨q, 5, base, by decide +kernel, by decide +kernel, by decide +kernel, by decide +kernel, by decide +kernel⟩⟩
theorem test_meets_IslandCommands_3 :
    (∃ (q : Req) (n : BitVec 8) (s : State), admits q .custodian s = true ∧ 5 ≤ n.toNat ∧ n.toNat ≤ 7 ∧ s.trust.counters.length = 8 ∧ s.trust.counters.getD n.toNat 0 ≠ 0xFFFFFFFF) ∧
    (∃ (q : Req) (n : BitVec 8) (s : State), admits q .custodian s = true ∧ 5 ≤ n.toNat ∧ n.toNat ≤ 7 ∧ s.trust.counters.getD n.toNat 0 = 0xFFFFFFFF) ∧
    (∃ (q : Req) (n : BitVec 8) (s : State), admits q .custodian s = true ∧ (n.toNat < 5 ∨ 7 < n.toNat)) ∧
    (∃ (q : Req) (n : BitVec 8) (s : State), admits q .custodian s = true ∧ (n.toNat < 5 ∨ 7 < n.toNat)) ∧
    (∃ (s : State), s.trust.entropy = false) ∧
    (∃ (s : State), s.trust.entropy = true) ∧
    (∃ (s : State), s.trust.entropy = true) ∧
    (∃ (s : State), s.trust.entropy = true) ∧
    (∃ (s : State), s.life.state ≠ .unpowered ∧ s.tb.a.traceable = true) ∧
    (∃ (s : State), s.tb.a.traceable = false) :=
  ⟨⟨q, 7, base, by decide +kernel, by decide +kernel, by decide +kernel, by decide +kernel, by decide +kernel⟩,
   ⟨q, 7, tr (fun t => { t with counters := List.replicate 8 0xFFFFFFFF }) base, by decide +kernel, by decide +kernel, by decide +kernel, by decide +kernel⟩,
   ⟨q, 4, base, by decide +kernel, by decide +kernel⟩,
   ⟨q, 8, base, by decide +kernel, by decide +kernel⟩,
   ⟨tr (fun t => { t with entropy := false }) base, by decide +kernel⟩,
   ⟨tr (fun t => { t with entropy := true }) base, by decide +kernel⟩,
   ⟨tr (fun t => { t with entropy := true }) base, by decide +kernel⟩,
   ⟨raise .entropy noInst (tr (fun t => { t with entropy := true }) base), by decide +kernel⟩,
   ⟨{ base with tb := { base.tb with a := { base.tb.a with traceable := true } } }, by decide +kernel, by decide +kernel⟩,
   ⟨{ base with tb := { base.tb with a := { base.tb.a with traceable := false } } }, by decide +kernel⟩⟩
theorem test_meets_LinkKeys_1 :
    (∃ (c : Chan) (m : MkaPdu) (k : Fin 4 × BitVec 32) (s : State), mkaRuns c s = true ∧ m.icvOk = true ∧ m.suite = true ∧ m.live = true ∧ keyServer c m s = false ∧ m.sak = some k ∧ (ca c s).sak = false) ∧
    (∃ (c : Chan) (m : MkaPdu) (s : State), mkaRuns c s = true ∧ m.icvOk = true ∧ m.suite = true ∧ m.live = true ∧ keyServer c m s = true ∧ (ca c s).sak = false ∧ (ca c s).rekey = false ∧ m.rekey = false ∧ s.life.state ≠ .restarting ∧ s.trust.entropy = false) ∧
    (∃ (c : Chan) (m : MkaPdu) (s : State), mkaRuns c s = true ∧ m.icvOk = false) ∧
    (∃ (c : Chan) (_m : MkaPdu) (s : State), mkaRuns c s = false) ∧
    (∃ (c : Chan) (s : State), s.life.state ≠ .restarting ∧ (∀ d : Chan, mkaRuns d s = decide (d = c))) ∧
    (∃ (s : State), s.life.state = .restarting) ∧
    (∃ (c : Chan) (s : State), (ca c s).live = true) ∧
    (∃ (c : Chan) (s : State), (ca c s).live = false) :=
  ⟨⟨3, pduA, (2, 77), updCa 3 (fun x => { x with sak := false }) (mkOn base), by decide +kernel, by decide +kernel, by decide +kernel, by decide +kernel, by decide +kernel, by decide +kernel, by decide +kernel⟩,
   ⟨3, pduB, updCa 3 (fun x => { x with sak := false, rekey := false }) (mkOn base), by decide +kernel, by decide +kernel, by decide +kernel, by decide +kernel, by decide +kernel, by decide +kernel, by decide +kernel, by decide +kernel, by decide +kernel, by decide +kernel⟩,
   ⟨3, { pduA with icvOk := false }, mkOn base, by decide +kernel, by decide +kernel⟩,
   ⟨5, pduA, base, by decide +kernel⟩,
   ⟨3, mkOn base, by decide +kernel, by decide +kernel⟩,
   ⟨updLife (fun l => { l with state := .restarting }) base, by decide +kernel⟩,
   ⟨3, updCa 3 (fun x => { x with live := true }) base, by decide +kernel⟩,
   ⟨5, base, by decide +kernel⟩⟩
theorem test_meets_LinkKeys_2 :
    (∃ (q : Req) (_c : Chan) (v : List Byte) (s : State), admits q .custodian s = true ∧ v.length = 68 ∧ 1 ≤ (v.getD 0 0).toNat ∧ (v.getD 0 0).toNat ≤ 32) ∧
    (∃ (q : Req) (_c : Chan) (v : List Byte) (s : State), admits q .custodian s = true ∧ v.length = 68 ∧ 1 ≤ (v.getD 0 0).toNat ∧ (v.getD 0 0).toNat ≤ 32) ∧
    (∃ (q : Req) (_c : Chan) (v : List Byte) (s : State), admits q .custodian s = true ∧ v.length ≠ 68) ∧
    (∃ (q : Req) (c : Chan) (s : State), admits q .custodian s = true ∧ s.trust.entropy = false ∧ mkaRuns c s = true ∧ (ca c s).live = true ∧ (ca c s).server = true) ∧
    (∃ (q : Req) (_c : Chan) (s : State), admits q .custodian s = true ∧ s.trust.entropy = true) ∧
    (∃ (q : Req) (_n : Fin 16) (v : List Byte) (s : State), admits q .custodian s = true ∧ v.length = 56 ∧ BitVec.ofNat 32 (leNat (v.take 4)) ≠ 0 ∧ s.trust.halKeys = []) ∧
    (∃ (q : Req) (n : Fin 16) (m : Fin 16) (v : List Byte) (k : HalKey) (s : State), admits q .custodian s = true ∧ v.length = 56 ∧ k.id = BitVec.ofNat 32 (leNat (v.take 4)) ∧ k.id ≠ 0 ∧ s.trust.halKeys = [(m.val + 1, k)] ∧ m ≠ n) :=
  ⟨⟨q, 3, [32] ++ List.replicate 67 1, base, by decide +kernel, by decide +kernel, by decide +kernel, by decide +kernel⟩,
   ⟨q, 5, [1] ++ List.replicate 67 1, base, by decide +kernel, by decide +kernel, by decide +kernel, by decide +kernel⟩,
   ⟨q, 3, [], base, by decide +kernel, by decide +kernel⟩,
   ⟨q, 3, updCa 3 (fun x => { x with live := true, server := true }) (mkOn base), by decide +kernel, by decide +kernel, by decide +kernel, by decide +kernel, by decide +kernel⟩,
   ⟨q, 3, tr (fun t => { t with entropy := true }) base, by decide +kernel, by decide +kernel⟩,
   ⟨q, 3, kv, tr (fun t => { t with halKeys := [] }) base, by decide +kernel, by decide +kernel, by decide +kernel, by decide +kernel⟩,
   ⟨q, 3, 4, kv, ⟨5, 1, 2, 0, 1000, [1, 2]⟩, tr (fun t => { t with halKeys := [(5, ⟨5, 1, 2, 0, 1000, [1, 2]⟩)] }) base, by decide +kernel, by decide +kernel, by decide +kernel, by decide +kernel, by decide +kernel, by decide +kernel⟩⟩
end A18

namespace A19
def up (f : Update → Update) (s : State) : State := { s with upd := f s.upd }
def ss (f : Session → Session) (s : State) : State := updSession 1 f s
def dk (k : Nat) (v : List Byte) (s : State) : State := { s with dict := { s.dict with vals := Tab.set k v s.dict.vals } }
def stq (s : State) : State := (fun s => { s with power := { s.power with level := 0 } }) (updLife (fun l => { l with state := .starting, nymyx := false, stage := 3 }) s)
def stp (s : State) : State := (fun s => { s with power := { s.power with level := 0, entries := [(0, ⟨1, 60⟩), (cFlash * 65536 + 3, ⟨1, 4⟩)] } }) (updLife (fun l => { l with state := .starting, nymyx := false, stage := 3 }) s)
def fl0 (s : State) : State := { s with power := { s.power with level := 0, entries := [(0, ⟨1, 60⟩), (cFlash * 65536 + 3, ⟨4, 4⟩)], waiting := [] } }
def fl1 (s : State) : State := { s with power := { s.power with level := 1, entries := [(0, ⟨1, 60⟩), (cFlash * 65536 + 3, ⟨4, 4⟩)], waiting := [] } }
theorem test_meets_FirmwareUpdate_1 :
    (∃ (q : Req) (n : Nat) (e : Session) (s : State), admits q .custodian s = true ∧ session q.sess s = some e ∧ bootMigrates s = false ∧ e.transfer = none ∧ s.life.state ≠ .stopping ∧ s.upd.state ≤ 1 ∧ s.upd.download = none ∧ s.upd.verifyReq = none ∧ 4353 ≤ n ∧ n ≤ 67108864 ∧ backgroundFits 4 s = true) ∧
    (∃ (q : Req) (n : Nat) (e : Session) (s : State), admits q .custodian s = true ∧ session q.sess s = some e ∧ bootMigrates s = false ∧ e.transfer = none ∧ s.life.state ≠ .stopping ∧ s.upd.state ≤ 1 ∧ s.upd.download = none ∧ s.upd.verifyReq = none ∧ 4353 ≤ n ∧ n ≤ 67108864 ∧ backgroundFits 4 s = true) ∧
    (∃ (q : Req) (_n : Nat) (e : Session) (s : State), admits q .custodian s = true ∧ session q.sess s = some e ∧ bootMigrates s = false ∧ e.transfer = none ∧ s.life.state ≠ .stopping ∧ 1 < s.upd.state) ∧
    (∃ (v : Fin 9) (q : Req) (s : State), s.upd.verifyReq = some q ∧ isPending q s = true ∧ verifyImage s.upd.staging v s = 0) ∧
    (∃ (v : Fin 9) (q : Req) (s : State), s.upd.verifyReq = some q ∧ isPending q s = true ∧ verifyImage s.upd.staging v s ≠ 0) ∧
    (∃ (v : Fin 9) (q : Req) (s : State), s.upd.verifyReq = some q ∧ isPending q s = true ∧ verifyImage s.upd.staging v s ≠ 0) ∧
    (∃ (_v : Fin 9) (s : State), s.upd.verifyReq = none) ∧
    (∃ (q : Req) (s : State), admits q .custodian s = true ∧ bootMigrates s = false ∧ s.upd.state = 1 ∧ s.upd.download = none) ∧
    (∃ (q : Req) (s : State), admits q .custodian s = true ∧ bootMigrates s = false ∧ s.upd.state ≠ 1) ∧
    (∃ (q : Req) (s : State), admits q .custodian s = true ∧ bootMigrates s = false ∧ s.upd.state ≠ 1) :=
  ⟨⟨q, 4353, tSess .custodian, (fun s => { s with power := { s.power with level := 0 } }) (up (fun u => { u with state := 1, download := none, verifyReq := none }) base), by decide +kernel, by decide +kernel, by decide +kernel, by decide +kernel, by decide +kernel, by decide +kernel, by decide +kernel, by decide +kernel, by decide +kernel, by decide +kernel, by decide +kernel⟩,
   ⟨q, 67108864, tSess .custodian, (fun s => { s with power := { s.power with level := 0 } }) (up (fun u => { u with state := 0, download := none, verifyReq := none }) base), by decide +kernel, by decide +kernel, by decide +kernel, by decide +kernel, by decide +kernel, by decide +kernel, by decide +kernel, by decide +kernel, by decide +kernel, by decide +kernel, by decide +kernel⟩,
   ⟨q, 5000, tSess .custodian, up (fun u => { u with state := 2 }) base, by decide +kernel, by decide +kernel, by decide +kernel, by decide +kernel, by decide +kernel, by decide +kernel⟩,
   ⟨0, q, ss (fun e => { e with pendingIds := [7] }) (up (fun u => { u with state := 0, staging := factoryImage, verifyReq := some q }) base), by decide +kernel, by decide +kernel, by decide +kernel⟩,
   ⟨5, q, ss (fun e => { e with pendingIds := [7] }) (up (fun u => { u with state := 0, staging := factoryImage, verifyReq := some q }) base), by decide +kernel, by decide +kernel, by decide +kernel⟩,
   ⟨0, q, ss (fun e => { e with pendingIds := [7] }) (up (fun u => { u with state := 0, staging := [7], verifyReq := some q }) base), by decide +kernel, by decide +kernel, by decide +kernel⟩,
   ⟨0, up (fun u => { u with verifyReq := none }) base, by decide +kernel⟩,
   ⟨q, up (fun u => { u with state := 1, download := none }) base, by decide +kernel, by decide +kernel, by decide +kernel, by decide +kernel⟩,
   ⟨q, up (fun u => { u with state := 0 }) base, by decide +kernel, by decide +kernel, by decide +kernel⟩,
   ⟨q, up (fun u => { u with state := 2 }) base, by decide +kernel, by decide +kernel, by decide +kernel⟩⟩
theorem test_meets_FirmwareUpdate_2 :
    (∃ (q : Req) (s : State), admits q .custodian s = true ∧ bootMigrates s = false ∧ s.upd.state = 2) ∧
    (∃ (q : Req) (s : State), admits q .custodian s = true ∧ bootMigrates s = false ∧ s.upd.state ≠ 2) ∧
    (∃ (q : Req) (s : State), admits q .custodian s = true ∧ bootMigrates s = false ∧ s.upd.state = 1 ∧ s.upd.download = none ∧ s.life.state = .running ∧ paired s = false) ∧
    (∃ (q : Req) (s : State), admits q .custodian s = true ∧ bootMigrates s = false ∧ s.life.state = .running ∧ s.upd.state ≠ 1) ∧
    (∃ (q : Req) (s : State), admits q .custodian s = true ∧ bootMigrates s = false ∧ s.upd.state = 4 ∧ s.trust.counters.length = 8) ∧
    (∃ (q : Req) (s : State), admits q .custodian s = true ∧ bootMigrates s = false ∧ s.upd.state ≠ 4) ∧
    (∃ (q : Req) (s : State), admits q .custodian s = true ∧ bootMigrates s = false ∧ s.upd.state = 4) ∧
    (∃ (q : Req) (s : State), admits q .custodian s = true ∧ bootMigrates s = false ∧ s.upd.state ≠ 4) ∧
    (∃ (q : Req) (s : State), admits q .custodian s = true ∧ bootMigrates s = false ∧ (s.upd.state = 1 ∨ s.upd.state = 2)) ∧
    (∃ (q : Req) (s : State), admits q .custodian s = true ∧ bootMigrates s = false ∧ (s.upd.state = 1 ∨ s.upd.state = 2)) :=
  ⟨⟨q, up (fun u => { u with state := 2 }) base, by decide +kernel, by decide +kernel, by decide +kernel⟩,
   ⟨q, up (fun u => { u with state := 1 }) base, by decide +kernel, by decide +kernel, by decide +kernel⟩,
   ⟨q, { (up (fun u => { u with state := 1, download := none }) base) with gleno := { base.gleno with pairSess := none } }, by decide +kernel, by decide +kernel, by decide +kernel, by decide +kernel, by decide +kernel, by decide +kernel⟩,
   ⟨q, up (fun u => { u with state := 2 }) base, by decide +kernel, by decide +kernel, by decide +kernel, by decide +kernel⟩,
   ⟨q, up (fun u => { u with state := 4 }) base, by decide +kernel, by decide +kernel, by decide +kernel, by decide +kernel⟩,
   ⟨q, up (fun u => { u with state := 5 }) base, by decide +kernel, by decide +kernel, by decide +kernel⟩,
   ⟨q, up (fun u => { u with state := 4 }) base, by decide +kernel, by decide +kernel, by decide +kernel⟩,
   ⟨q, up (fun u => { u with state := 3 }) base, by decide +kernel, by decide +kernel, by decide +kernel⟩,
   ⟨q, up (fun u => { u with state := 1, staging := [7] }) base, by decide +kernel, by decide +kernel, by decide +kernel⟩,
   ⟨q, up (fun u => { u with state := 2, staging := [7] }) base, by decide +kernel, by decide +kernel, by decide +kernel⟩⟩
theorem test_meets_FirmwareUpdate_3 :
    (∃ (q : Req) (s : State), admits q .custodian s = true ∧ bootMigrates s = false) ∧
    (∃ (s : State), s.upd.state = 4 ∧ cfg 0x6108 0 s ≠ 0 ∧ s.upd.since + cfg 0x6108 0 s * 6000000000 ≤ s.now ∧ s.upd.clean = true ∧ s.life.stage = 7 ∧ s.life.nymyx = true) ∧
    (∃ (s : State), s.upd.clean = false ∨ cfg 0x6108 0 s = 0) ∧
    (∃ (s : State), s.life.nymyx = false ∧ s.life.state = .starting ∧ s.power.level ≠ 4 ∧ unitsOf cFlash 3 s ≠ 0 ∧ s.upd.state = 3 ∧ s.upd.block + 1 < blocksOf s.upd.staging) ∧
    (∃ (s : State), s.life.nymyx = false ∧ s.life.state = .starting ∧ s.power.level ≠ 4 ∧ unitsOf cFlash 3 s ≠ 0 ∧ s.upd.state = 3 ∧ blocksOf s.upd.staging ≤ s.upd.block + 1) ∧
    (∃ (s : State), s.life.nymyx = false ∧ s.life.state = .starting ∧ s.power.level ≠ 4 ∧ unitsOf cFlash 3 s ≠ 0 ∧ s.upd.state = 6 ∧ blocksOf s.upd.reserve ≤ s.upd.block + 1) ∧
    (∃ (s : State), s.power.level = 4 ∨ unitsOf cFlash 3 s = 0) ∧
    (∃ (s : State), s.power.level = 4 ∨ unitsOf cFlash 3 s = 0) ∧
    (∃ (s : State), s.upd.state = 5 ∧ unitsOf cFlash 3 s ≠ 0 ∧ s.power.level = 0 ∧ s.life.nymyx = true ∧ s.upd.block + 1 < blocksOf s.upd.active) ∧
    (∃ (s : State), s.upd.state = 5 ∧ unitsOf cFlash 3 s ≠ 0 ∧ s.power.level = 0 ∧ s.life.nymyx = true ∧ blocksOf s.upd.active ≤ s.upd.block + 1) :=
  ⟨⟨q, base, by decide +kernel, by decide +kernel⟩,
   ⟨dk (key 0x6108 0) [1, 0] { (up (fun u => { u with state := 4, since := 0, clean := true }) base) with now := 6000000000 }, by decide +kernel, by decide +kernel, by decide +kernel, by decide +kernel, by decide +kernel, by decide +kernel⟩,
   ⟨up (fun u => { u with clean := false }) base, by decide +kernel⟩,
   by
  obtain ⟨l, h⟩ := two_blocks
  exact ⟨stp (up (fun u => { u with state := 3, staging := l, block := 0 }) base), rfl, rfl, by show (0 : Nat) ≠ 4; decide, by show (4 : Nat) ≠ 0; decide, rfl, h⟩,
   ⟨stp (up (fun u => { u with state := 3, staging := [7], block := 0 }) base), by decide +kernel, by decide +kernel, by decide +kernel, by decide +kernel, by decide +kernel, by decide +kernel⟩,
   ⟨stp (up (fun u => { u with state := 6, reserve := [7], block := 0 }) base), by decide +kernel, by decide +kernel, by decide +kernel, by decide +kernel, by decide +kernel, by decide +kernel⟩,
   ⟨{ base with power := { base.power with level := 4 } }, by decide +kernel⟩,
   ⟨stq (up (fun u => { u with state := 3 }) base), by decide +kernel⟩,
   by
  obtain ⟨l, h⟩ := two_blocks
  exact ⟨fl0 (up (fun u => { u with state := 5, active := l, block := 0 }) base), rfl, by show (4 : Nat) ≠ 0; decide, rfl, rfl, h⟩,
   ⟨fl0 (up (fun u => { u with state := 5, active := [7], block := 0 }) base), by decide +kernel, by decide +kernel, by decide +kernel, by decide +kernel, by decide +kernel⟩⟩
theorem test_meets_FirmwareUpdate_4 :
    (∃ (s : State), s.upd.state = 5 ∧ unitsOf cFlash 3 s ≠ 0 ∧ s.power.level = 0 ∧ s.life.nymyx = true ∧ blocksOf s.upd.active ≤ s.upd.block + 1) ∧
    (∃ (s : State), s.upd.state = 5 ∧ unitsOf cFlash 3 s ≠ 0 ∧ s.power.level ≠ 0 ∧ s.life.nymyx = true ∧ s.upd.block + 1 < blocksOf s.upd.active) ∧
    (∃ (s : State), unitsOf cFlash 3 s = 0) ∧
    (∃ (_a : Fin 9) (_r : Fin 9) (_g : Fin 9) (s : State), s.upd.runs = none ∧ s.life.nymyx = false ∧ s.life.state = .starting ∧ s.life.stage ≠ 0 ∧ unitsOf cFlash 3 s = 0) ∧
    (∃ (_a : Fin 9) (_r : Fin 9) (_g : Fin 9) (s : State), s.upd.runs = none ∧ s.life.nymyx = false ∧ s.life.state = .starting ∧ s.life.stage ≠ 0 ∧ unitsOf cFlash 3 s = 0) ∧
    (∃ (_a : Fin 9) (_r : Fin 9) (_g : Fin 9) (s : State), s.upd.runs = none ∧ s.life.nymyx = false ∧ s.life.state = .starting ∧ s.life.stage ≠ 0 ∧ unitsOf cFlash 3 s = 0) ∧
    (∃ (_a : Fin 9) (_r : Fin 9) (_g : Fin 9) (s : State), s.upd.runs.isSome = true) :=
  ⟨⟨fl0 (raise .reserveInvalid noInst (up (fun u => { u with state := 5, active := [7], block := 0 }) base)), by decide +kernel, by decide +kernel, by decide +kernel, by decide +kernel, by decide +kernel⟩,
   by
  obtain ⟨l, h⟩ := two_blocks
  exact ⟨fl1 (up (fun u => { u with state := 5, active := l, block := 0 }) base), rfl, by show (4 : Nat) ≠ 0; decide, by show (1 : Nat) ≠ 0; decide, rfl, h⟩,
   ⟨stq base, by decide +kernel⟩,
   ⟨5, 0, 0, stq (up (fun u => { u with runs := none, state := 0 }) base), by decide +kernel, by decide +kernel, by decide +kernel, by decide +kernel, by decide +kernel⟩,
   ⟨0, 0, 0, stq (up (fun u => { u with runs := none, state := 0 }) base), by decide +kernel, by decide +kernel, by decide +kernel, by decide +kernel, by decide +kernel⟩,
   ⟨5, 6, 8, stq (up (fun u => { u with runs := none, state := 4 }) base), by decide +kernel, by decide +kernel, by decide +kernel, by decide +kernel, by decide +kernel⟩,
   ⟨0, 0, 0, up (fun u => { u with runs := some .active }) base, by decide +kernel⟩⟩
end A19

namespace A20
def dk (k : Nat) (v : List Byte) (s : State) : State := { s with dict := { s.dict with vals := Tab.set k v s.dict.vals } }
def ob (f : Obs → Obs) (s : State) : State := { s with obs := f s.obs }
def cs : CtrSnap := ⟨1, 1, 3, false, none, false, false, false, Time96.zero, Time96.zero, [], []⟩
def lv0 (s : State) : State := { s with power := { s.power with level := 0, waiting := [], entries := [(0, ⟨1, 60⟩)] } }
def smp (s : State) : State := dk (key 0x7011 0) ([0x02, 0x00, 1, 0] ++ [0, 0, 0, 0] ++ [5, 0, 0, 0]) s
theorem test_meets_Observability_1 :
    (∃ (q : Req) (f : BitVec 16) (n : BitVec 16) (_fl : BitVec 8) (e : Session) (k : Nat) (s : State), admits q .operator s = true ∧ session q.sess s = some e ∧ e.ctrSnapAt = Time96.zero ∧ n ≠ 0 ∧ f.toNat + n.toNat ≤ 8192 ∧ freeSlot s = some k) ∧
    (∃ (q : Req) (f : BitVec 16) (n : BitVec 16) (_fl : BitVec 8) (e : Session) (k : Nat) (s : State), admits q .operator s = true ∧ session q.sess s = some e ∧ e.ctrSnapAt = Time96.zero ∧ n ≠ 0 ∧ f.toNat + n.toNat ≤ 8192 ∧ freeSlot s = some k) ∧
    (∃ (q : Req) (f : BitVec 16) (n : BitVec 16) (_fl : BitVec 8) (s : State), admits q .operator s = true ∧ (n = 0 ∨ 8192 < f.toNat + n.toNat)) ∧
    (∃ (q : Req) (f : BitVec 16) (n : BitVec 16) (_fl : BitVec 8) (s : State), admits q .operator s = true ∧ (n = 0 ∨ 8192 < f.toNat + n.toNat)) ∧
    (∃ (q : Req) (f : BitVec 16) (n : BitVec 16) (_fl : BitVec 8) (e : Session) (s : State), admits q .operator s = true ∧ session q.sess s = some e ∧ e.ctrSnapAt = Time96.zero ∧ n ≠ 0 ∧ f.toNat + n.toNat ≤ 8192 ∧ freeSlot s = none) ∧
    (∃ (k : Fin 5) (c : CtrSnap) (s : State), Tab.find k.val s.obs.slots = some c ∧ c.at_ = none ∧ c.started = false ∧ s.obs.sweepBusy = none ∧ c.cells = [] ∧ c.clear = false ∧ pairedCell c.first s = false) ∧
    (∃ (_k : Fin 5) (s : State), s.obs.sweepBusy.isSome = true) ∧
    (∃ (k : Nat) (c : CtrSnap) (s : State), s.obs.sweepBusy = some k ∧ Tab.find k s.obs.slots = some c ∧ c.count ≤ c.cells.length) ∧
    (∃ (k : Nat) (c : CtrSnap) (s : State), s.obs.sweepBusy = some k ∧ Tab.find k s.obs.slots = some c ∧ c.cells.length < c.count) ∧
    (∃ (q : Req) (k : BitVec 8) (s : State), admits q .operator s = true ∧ 1 ≤ k.toNat ∧ k.toNat ≤ 4) :=
  ⟨⟨q, 0, 8192, 1, tSess .custodian, 1, ob (fun o => { o with slots := [] }) base, by decide +kernel, by decide +kernel, by decide +kernel, by decide +kernel, by decide +kernel, by decide +kernel⟩,
   ⟨q, 8191, 1, 0, tSess .custodian, 2, ob (fun o => { o with slots := [(1, cs)] }) base, by decide +kernel, by decide +kernel, by decide +kernel, by decide +kernel, by decide +kernel, by decide +kernel⟩,
   ⟨q, 1, 8192, 0, base, by decide +kernel, by decide +kernel⟩,
   ⟨q, 1, 0, 0, base, by decide +kernel, by decide +kernel⟩,
   ⟨q, 0, 1, 0, tSess .custodian, ob (fun o => { o with slots := [(1, cs), (2, cs), (3, cs), (4, cs)] }) base, by decide +kernel, by decide +kernel, by decide +kernel, by decide +kernel, by decide +kernel, by decide +kernel⟩,
   ⟨1, cs, ob (fun o => { o with slots := [(1, cs)], sweepBusy := none }) base, by decide +kernel, by decide +kernel, by decide +kernel, by decide +kernel, by decide +kernel, by decide +kernel, by decide +kernel⟩,
   ⟨1, ob (fun o => { o with sweepBusy := some 1 }) base, by decide +kernel⟩,
   ⟨1, { cs with cells := [1, 2, 3] }, ob (fun o => { o with slots := [(1, { cs with cells := [1, 2, 3] })], sweepBusy := some 1 }) base, by decide +kernel, by decide +kernel, by decide +kernel⟩,
   ⟨1, { cs with cells := [1, 2] }, ob (fun o => { o with slots := [(1, { cs with cells := [1, 2] })], sweepBusy := some 1 }) base, by decide +kernel, by decide +kernel, by decide +kernel⟩,
   ⟨q, 1, ob (fun o => { o with slots := [(1, cs)] }) base, by decide +kernel, by decide +kernel, by decide +kernel⟩⟩
theorem test_meets_Observability_2 :
    (∃ (q : Req) (k : BitVec 8) (s : State), admits q .operator s = true ∧ 1 ≤ k.toNat ∧ k.toNat ≤ 4) ∧
    (∃ (q : Req) (k : BitVec 8) (s : State), admits q .operator s = true ∧ (k.toNat = 0 ∨ 4 < k.toNat)) ∧
    (∃ (q : Req) (k : BitVec 8) (s : State), admits q .operator s = true ∧ (k.toNat = 0 ∨ 4 < k.toNat)) ∧
    (∃ (q : Req) (s : State), admits q .operator s = true) ∧
    (∃ (a : Alarm) (_i : Nat) (_s : State), a.condition = false) ∧
    (∃ (a : Alarm) (_i : Nat) (_s : State), a.condition = true) ∧
    (∃ (s : State), s.obs.unwritten ≠ 0 ∧ s.life.nymyx = true ∧ s.life.state ≠ .restarting ∧ flashOk s = true ∧ s.obs.flash.length + s.obs.unwritten ≤ 131072 ∧ s.obs.unwritten ≤ s.obs.events.length) ∧
    (∃ (s : State), s.obs.unwritten ≠ 0 ∧ s.life.nymyx = true ∧ s.life.state ≠ .restarting ∧ flashOk s = false) ∧
    (∃ (s : State), s.obs.unwritten = 0) ∧
    (∃ (q : Req) (s : State), admits q .operator s = true ∧ s.obs.sampling = false ∧ sampleMask s ≠ 0 ∧ roleRuns .obs s = true ∧ backgroundFits 1 s = true) :=
  ⟨⟨q, 4, ob (fun o => { o with slots := [(1, cs)] }) base, by decide +kernel, by decide +kernel, by decide +kernel⟩,
   ⟨q, 0, base, by decide +kernel, by decide +kernel⟩,
   ⟨q, 5, base, by decide +kernel, by decide +kernel⟩,
   ⟨q, raise .strapChange noInst base, by decide +kernel⟩,
   ⟨.strapChange, noInst, raise .strapChange noInst base, by decide +kernel⟩,
   ⟨.cellLow, noInst, base, by decide +kernel⟩,
   ⟨lv0 (logInfo .dip 4 (logInfo .updateInfo 3 (ob (fun o => { o with unwritten := 0 }) base))), by decide +kernel, by decide +kernel, by decide +kernel, by decide +kernel, by decide +kernel, by decide +kernel⟩,
   ⟨{ (logInfo .dip 4 base) with power := { base.power with level := 2 } }, by decide +kernel, by decide +kernel, by decide +kernel, by decide +kernel⟩,
   ⟨ob (fun o => { o with unwritten := 0 }) base, by decide +kernel⟩,
   ⟨q, lv0 (ob (fun o => { o with sampling := false }) (smp base)), by decide +kernel, by decide +kernel, by decide +kernel, by decide +kernel, by decide +kernel⟩⟩
theorem test_meets_Observability_3 :
    (∃ (q : Req) (s : State), admits q .operator s = true ∧ s.obs.sampling = true) ∧
    (∃ (q : Req) (s : State), admits q .operator s = true ∧ s.obs.sampling = true) ∧
    (∃ (s : State), s.obs.sampling = true ∧ leNat ((cfgBytes 0x7011 0 s).drop 8) ≠ 0) ∧
    (∃ (s : State), s.obs.sampling = false) ∧
    (∃ (e : SparNo) (_fl : BitVec 8) (_pc : Word) (_d : Word) (_lat : BitVec 16) (_st : Fin 5) (_iv : Word) (x : SparEngine) (s : State), s.life.spar[e.val]? = some x ∧ s.obs.sampling = true ∧ bit (sampleMask s) e.val = true ∧ x.power = .running ∧ s.obs.samples.length < 4096) ∧
    (∃ (e : SparNo) (_fl : BitVec 8) (_pc : Word) (_d : Word) (_lat : BitVec 16) (_st : Fin 5) (_iv : Word) (x : SparEngine) (s : State), s.life.spar[e.val]? = some x ∧ s.obs.sampling = true ∧ bit (sampleMask s) e.val = true ∧ x.power = .running ∧ 4096 ≤ s.obs.samples.length) ∧
    (∃ (_e : SparNo) (_fl : BitVec 8) (_pc : Word) (_d : Word) (_lat : BitVec 16) (_st : Fin 5) (_iv : Word) (s : State), s.obs.sampling = false) ∧
    (∃ (q : Req) (_p : Fin 128) (_v : Word) (s : State), admits q .operator s = true) ∧
    (∃ (q : Req) (_p : Fin 128) (_v : Word) (s : State), admits q .operator s = true) ∧
    (∃ (q : Req) (_p : Fin 128) (_v : Word) (s : State), admits q .operator s = true) :=
  ⟨⟨q, ob (fun o => { o with sampling := true }) base, by decide +kernel, by decide +kernel⟩,
   ⟨q, ob (fun o => { o with sampling := true }) base, by decide +kernel, by decide +kernel⟩,
   ⟨ob (fun o => { o with sampling := true }) (smp base), by decide +kernel, by decide +kernel⟩,
   ⟨ob (fun o => { o with sampling := false }) base, by decide +kernel⟩,
   ⟨1, 3, 5, 6, 7, 4, 9, ⟨.gleno, .running⟩, ob (fun o => { o with sampling := true }) (smp base), by decide +kernel, by decide +kernel, by decide +kernel, by decide +kernel, by decide +kernel⟩,
   ⟨1, 3, 5, 6, 7, 4, 9, ⟨.gleno, .running⟩, ob (fun o => { o with sampling := true, samples := List.replicate 4096 ⟨Time96.zero, 0, 0, 0, 0, 0, 0, 0, 0, 0⟩ }) (smp base), by decide +kernel, by decide +kernel, by decide +kernel, by decide +kernel, by decide +kernel⟩,
   ⟨1, 3, 5, 6, 7, 4, 9, ob (fun o => { o with sampling := false }) base, by decide +kernel⟩,
   ⟨q, 0, 0xFFFFFFFF, base, by decide +kernel⟩,
   ⟨q, 127, 0x80000001, base, by decide +kernel⟩,
   ⟨q, 6, 0x08000001, base, by decide +kernel⟩⟩
end A20

namespace A21
def dkk (k : Nat) (v : List Byte) (s : State) : State := { s with dict := { s.dict with vals := Tab.set k v s.dict.vals } }
def rowOf (i : Nat) : ObjRow := (objRow i).getD ⟨0, 0, 0, false, .bool, .ro, .none, .any, .observer, false, false⟩
def two : State := { base with dict := { base.dict with members := [(0, 9)] } }
theorem test_meets_StepRunsFrontCommand : ∃ (c : Instr) (l : List Instr) (s : State), s.pending = c :: l :=
  ⟨.mkaHelloSend, [.serviceExpiry], { base with pending := [.mkaHelloSend, .serviceExpiry] }, by decide +kernel⟩
theorem test_meets_IdleStepIsOneMastEdge :
    (∃ (s : State), s.pending = []) ∧
    (∃ (s : State), s.pending = [] ∧ s.tb.running = false ∧ s.obs.sweepBusy = none) ∧
    (∃ (s : State), s.pending = [] ∧ s.tb.running = true ∧ s.tb.mastOk = true) ∧
    (∃ (s : State), s.pending = [] ∧ s.tb.running = true ∧ s.tb.mastOk = false) :=
  ⟨⟨base, by decide +kernel⟩,
   ⟨State.reset, by decide +kernel, by decide +kernel, by decide +kernel⟩,
   ⟨base, by decide +kernel, by decide +kernel, by decide +kernel⟩,
   ⟨{ base with tb := { base.tb with mastOk := false } }, by decide +kernel, by decide +kernel, by decide +kernel⟩⟩
theorem test_meets_FactoryDataNeverChange : ∃ (s : State) (t : State), step s = .next t :=
  ⟨base, idle base, rfl⟩
theorem test_meets_IslandCountersNeverFall : ∃ (s : State) (t : State), step s = .next t :=
  ⟨base, idle base, rfl⟩
theorem test_meets_RetirementIsFinal : ∃ (s : State) (t : State), step s = .next t :=
  ⟨{ base with trust := { base.trust with state := 3, idevid := false } }, idle { base with trust := { base.trust with state := 3, idevid := false } }, rfl⟩
theorem test_meets_TamperLockStands :
    (∃ (c : Instr) (s : State) (t : State), (∀ q v, c ≠ .tamperAck q v) ∧ (∀ q sub v, c ≠ .objectWrite q 0x6013 sub v) ∧ s.trust.lock = true ∧ exec c s = .next t) ∧
    (∃ (s : State) (t : State), step s = .next t ∧ s.trust.lock = true) :=
  ⟨⟨.serviceExpiry, { base with trust := { base.trust with lock := true } }, { base with trust := { base.trust with lock := true } }, by intros; nofun, by intros; nofun, by decide +kernel, rfl⟩,
   ⟨{ base with pending := [.serviceExpiry], trust := { base.trust with lock := true } }, { base with trust := { base.trust with lock := true } }, rfl, by decide +kernel⟩⟩
theorem test_meets_UnknownIndicesAndSubindices :
    (∃ (q : Req) (i : BitVec 16) (_sub : BitVec 8) (_v : List Byte) (_n : BitVec 32) (s : State), admits q .observer s = true ∧ objRow i.toNat = none) ∧
    (∃ (q : Req) (i : BitVec 16) (_sub : BitVec 8) (_v : List Byte) (_n : BitVec 32) (s : State), admits q .observer s = true ∧ objRow i.toNat = none) ∧
    (∃ (q : Req) (i : BitVec 16) (sub : BitVec 8) (_v : List Byte) (_n : BitVec 32) (r : ObjRow) (s : State), admits q .observer s = true ∧ objRow i.toNat = some r ∧ hasSub r sub.toNat = false) ∧
    (∃ (q : Req) (i : BitVec 16) (sub : BitVec 8) (_v : List Byte) (_n : BitVec 32) (r : ObjRow) (s : State), admits q .observer s = true ∧ objRow i.toNat = some r ∧ hasSub r sub.toNat = false) :=
  ⟨⟨q, 0xFFFF, 0, [1], 4, base, by decide +kernel, by decide +kernel⟩,
   ⟨q, 0, 255, [], 0, base, by decide +kernel, by decide +kernel⟩,
   ⟨q, 0x2001, 193, [1], 4, rowOf 0x2001, base, by decide +kernel, by decide +kernel, by decide +kernel⟩,
   ⟨q, 0x5001, 1, [1], 4, rowOf 0x5001, base, by decide +kernel, by decide +kernel, by decide +kernel⟩⟩
theorem test_meets_WriteLengthAndRange :
    (∃ (q : Req) (i : BitVec 16) (sub : BitVec 8) (v : List Byte) (r : ObjRow) (e : Session) (s : State), admits q .observer s = true ∧ session q.sess s = some e ∧ objRow i.toNat = some r ∧ hasSub r sub.toNat = true ∧ r.acc.writes = true ∧ r.first ≤ sub.toNat ∧ roleMeets e.role r.wrole = true ∧ r.ty ≠ .domain ∧ (∀ n : Nat, r.ty ≠ .str n) ∧ v.length ≠ r.ty.len) ∧
    (∃ (q : Req) (i : BitVec 16) (sub : BitVec 8) (v : List Byte) (r : ObjRow) (e : Session) (s : State), admits q .observer s = true ∧ session q.sess s = some e ∧ objRow i.toNat = some r ∧ hasSub r sub.toNat = true ∧ r.acc.writes = true ∧ r.first ≤ sub.toNat ∧ roleMeets e.role r.wrole = true ∧ r.ty ≠ .domain ∧ (∀ n : Nat, r.ty ≠ .str n) ∧ v.length ≠ r.ty.len) ∧
    (∃ (q : Req) (i : BitVec 16) (sub : BitVec 8) (v : List Byte) (n : Nat) (r : ObjRow) (e : Session) (s : State), admits q .observer s = true ∧ session q.sess s = some e ∧ objRow i.toNat = some r ∧ hasSub r sub.toNat = true ∧ r.acc.writes = true ∧ r.first ≤ sub.toNat ∧ roleMeets e.role r.wrole = true ∧ r.ty = .str n ∧ (v.length = 0 ∨ n < v.length)) ∧
    (∃ (q : Req) (i : BitVec 16) (sub : BitVec 8) (v : List Byte) (n : Nat) (r : ObjRow) (e : Session) (s : State), admits q .observer s = true ∧ session q.sess s = some e ∧ objRow i.toNat = some r ∧ hasSub r sub.toNat = true ∧ r.acc.writes = true ∧ r.first ≤ sub.toNat ∧ roleMeets e.role r.wrole = true ∧ r.ty = .str n ∧ (v.length = 0 ∨ n < v.length)) ∧
    (∃ (q : Req) (i : BitVec 16) (sub : BitVec 8) (v : List Byte) (r : ObjRow) (e : Session) (s : State), admits q .observer s = true ∧ session q.sess s = some e ∧ objRow i.toNat = some r ∧ hasSub r sub.toNat = true ∧ r.acc.writes = true ∧ r.first ≤ sub.toNat ∧ roleMeets e.role r.wrole = true ∧ r.ty ≠ .domain ∧ lenOk r v = true ∧ (rangeOk r v = false ∨ specialOk i.toNat sub.toNat v = false)) :=
  ⟨⟨q, 0x2001, 1, [1, 1], rowOf 0x2001, tSess .custodian, base, by decide +kernel, by decide +kernel, by decide +kernel, by decide +kernel, by decide +kernel, by decide +kernel, by decide +kernel, by decide +kernel, by intros; nofun, by decide +kernel⟩,
   ⟨q, 0x2001, 192, [], rowOf 0x2001, tSess .custodian, base, by decide +kernel, by decide +kernel, by decide +kernel, by decide +kernel, by decide +kernel, by decide +kernel, by decide +kernel, by decide +kernel, by intros; nofun, by decide +kernel⟩,
   ⟨q, 0x100C, 0, [], 16, rowOf 0x100C, tSess .custodian, base, by decide +kernel, by decide +kernel, by decide +kernel, by decide +kernel, by decide +kernel, by decide +kernel, by decide +kernel, by decide +kernel, by decide +kernel⟩,
   ⟨q, 0x100C, 0, List.replicate (16 + 1) 65, 16, rowOf 0x100C, tSess .custodian, base, by decide +kernel, by decide +kernel, by decide +kernel, by decide +kernel, by decide +kernel, by decide +kernel, by decide +kernel, by decide +kernel, by decide +kernel⟩,
   ⟨q, 0x2000, 1, [3], rowOf 0x2000, tSess .custodian, base, by decide +kernel, by decide +kernel, by decide +kernel, by decide +kernel, by decide +kernel, by decide +kernel, by decide +kernel, by decide +kernel, by decide +kernel, by decide +kernel⟩⟩
theorem test_meets_GroupReads :
    (∃ (q : Req) (i : BitVec 16) (sub : BitVec 8) (r : ObjRow) (e : Session) (c : Nat) (l : List Nat) (s : State), admits q .observer s = true ∧ session q.sess s = some e ∧ objRow i.toNat = some r ∧ hasSub r sub.toNat = true ∧ r.acc.reads = true ∧ r.acc ≠ .rc ∧ domainSub i.toNat sub.toNat = false ∧ groupSub r sub.toNat = true ∧ members sub.toNat s = c :: l) ∧
    (∃ (q : Req) (i : BitVec 16) (sub : BitVec 8) (r : ObjRow) (e : Session) (c : Nat) (l : List Nat) (s : State), admits q .observer s = true ∧ session q.sess s = some e ∧ objRow i.toNat = some r ∧ hasSub r sub.toNat = true ∧ r.acc.reads = true ∧ r.acc ≠ .rc ∧ domainSub i.toNat sub.toNat = false ∧ groupSub r sub.toNat = true ∧ members sub.toNat s = c :: l) ∧
    (∃ (q : Req) (i : BitVec 16) (sub : BitVec 8) (r : ObjRow) (s : State), admits q .observer s = true ∧ objRow i.toNat = some r ∧ hasSub r sub.toNat = true ∧ r.acc.reads = true ∧ domainSub i.toNat sub.toNat = false ∧ groupSub r sub.toNat = true ∧ members sub.toNat s = []) ∧
    (∃ (q : Req) (i : BitVec 16) (sub : BitVec 8) (r : ObjRow) (e : Session) (c : Nat) (l : List Nat) (s : State), admits q .observer s = true ∧ session q.sess s = some e ∧ e.transfer = none ∧ objRow i.toNat = some r ∧ hasSub r sub.toNat = true ∧ r.acc.reads = true ∧ domainSub i.toNat sub.toNat = true ∧ groupSub r sub.toNat = true ∧ members sub.toNat s = c :: l ∧ objVal e r (c + 1) s ≠ []) ∧
    (∃ (q : Req) (i : BitVec 16) (sub : BitVec 8) (r : ObjRow) (e : Session) (s : State), admits q .observer s = true ∧ session q.sess s = some e ∧ e.transfer = none ∧ objRow i.toNat = some r ∧ hasSub r sub.toNat = true ∧ r.acc.reads = true ∧ domainSub i.toNat sub.toNat = true ∧ groupSub r sub.toNat = true ∧ members sub.toNat s = []) :=
  ⟨⟨q, 0x2000, 0xE0, rowOf 0x2000, tSess .custodian, 0, [3], two, by decide +kernel, by decide +kernel, by decide +kernel, by decide +kernel, by decide +kernel, by decide +kernel, by decide +kernel, by decide +kernel, by decide +kernel⟩,
   ⟨q, 0x2000, 0xFF, rowOf 0x2000, tSess .custodian, 0, (List.range 191).map (fun n => n + 1), two, by decide +kernel, by decide +kernel, by decide +kernel, by decide +kernel, by decide +kernel, by decide +kernel, by decide +kernel, by decide +kernel, by decide +kernel⟩,
   ⟨q, 0x2000, 0xEF, rowOf 0x2000, base, by decide +kernel, by decide +kernel, by decide +kernel, by decide +kernel, by decide +kernel, by decide +kernel, by decide +kernel⟩,
   ⟨q, 0x4304, 0xE0, rowOf 0x4304, tSess .custodian, 0, [3], dkk (key 0x4304 1) (List.replicate 32 1) two, by decide +kernel, by decide +kernel, by decide +kernel, by decide +kernel, by decide +kernel, by decide +kernel, by decide +kernel, by decide +kernel, by decide +kernel, by decide +kernel⟩,
   ⟨q, 0x4304, 0xEF, rowOf 0x4304, tSess .custodian, base, by decide +kernel, by decide +kernel, by decide +kernel, by decide +kernel, by decide +kernel, by decide +kernel, by decide +kernel, by decide +kernel, by decide +kernel⟩⟩
end A21

end Sys2Proof.Tests
end

section
/-!
PROOFS. The object dictionary (05): requests that name no object, writes of a wrong length or value, reads of groups. First what
a request that is admitted answers, then one equation per check of the dictionary, then the statements.
-/
namespace Sys2Proof.Machine

/-! ## Admitted requests and their answers -/

/-- An admitted request belongs to an open session. -/
theorem admits_session {need : Role} {q : Req} {s : State} (h : admits q need s = true) : ∃ e, session q.sess s = some e :=
  let ⟨e, he, _⟩ := roleRequest_admitted (fun _ s => Res.of s 0) h
  ⟨e, he⟩

/-- Every session has at least the role observer, so a request of that role is one with no role check (R148). -/
theorem roleRequest_observer (q : Req) (body : Session → State → Res) (s : State) :
    roleRequest .observer q body s = request q body s := by
  simp [roleRequest, roleMeets, roleRank]

theorem request_admitted {q : Req} {s : State} {e : Session} (body : Session → State → Res) (h : admits q .observer s = true)
    (he : session q.sess s = some e) : request q body s = answer q (body e s).code (body e s).data (body e s).st := by
  obtain ⟨e', he', hr⟩ := roleRequest_admitted body h
  obtain rfl : e = e' := Option.some.inj (he.symm.trans he')
  rw [← roleRequest_observer, hr]

/-- An admitted request whose body gives a status alone does nothing but answer. -/
theorem request_answers {q : Req} {s : State} {e : Session} {st : Status} {body : Session → State → Res}
    (h : admits q .observer s = true) (he : session q.sess s = some e) (hb : body e s = Res.of s st) :
    request q body s = answer q st [] s := by
  rw [request_admitted body h he, hb]; rfl

theorem session_updSession {n : Nat} {s : State} {e : Session} (f : Session → Session) (h : session n s = some e) :
    session n (updSession n f s) = some (f e) := by
  unfold updSession; rw [h]; simp [putSession, session]

/-- An answer leaves the open transfer of its session as it was. -/
theorem answer_transfer (q : Req) (st : Status) (d : List Byte) (s : State) :
    (session q.sess (answer q st d s)).map (fun e => e.transfer) = (session q.sess s).map (fun e => e.transfer) := by
  cases he : session q.sess s with
  | none => unfold session at he; unfold answer updSession; split <;> simp [session, he]
  | some e => unfold session at he; unfold answer updSession; split <;> simp [session, he, putSession]

/-- An answer other than 0x0402 changes the Gleno part alone. -/
theorem onlyIn_answer (q : Req) (st : Status) (d : List Byte) (s : State) (h : st ≠ 0x0402#16) : OnlyIn [.gleno] s (answer q st d s) := by
  intro p hp
  obtain ⟨hobs, hregs⟩ := answer_obs q st d s h
  cases p with
  | gleno => exact absurd hp (by simp)
  | _ => simp [Part.same, hobs, hregs]

theorem onlyIn_setTransfer (n : Nat) (t : Option Transfer) (s : State) : OnlyIn [.gleno] s (setTransfer n t s) := by
  intro p hp
  cases p with
  | gleno => exact absurd hp (by simp)
  | _ => simp [Part.same]

/-! ## Requests that name no object (R142) -/

/-- The status of a request that names an index that is not implemented, or a subindex that its form does not provide. -/
def lookupFault (idx sub : Nat) : Option Status :=
  match objRow idx with
  | none => some 0x0101#16
  | some r => if hasSub r sub then none else some 0x0102#16

theorem lookupFault_index {idx : Nat} (sub : Nat) (h : objRow idx = none) : lookupFault idx sub = some 0x0101#16 := by
  simp [lookupFault, h]

theorem lookupFault_subindex {idx sub : Nat} {r : ObjRow} (h : objRow idx = some r) (hs : hasSub r sub = false) :
    lookupFault idx sub = some 0x0102#16 := by
  simp [lookupFault, h, hs]

/-- The two ways in which a request names no object. -/
theorem lookupFault_cases {idx sub : Nat} {st : Status} (h : lookupFault idx sub = some st) :
    (objRow idx = none ∧ st = 0x0101#16) ∨ (∃ r, objRow idx = some r ∧ hasSub r sub = false ∧ st = 0x0102#16) := by
  unfold lookupFault at h
  cases hr : objRow idx with
  | none => simp_all
  | some r => cases hs : hasSub r sub <;> simp_all

section
variable {idx sub : Nat} {st : Status} (h : lookupFault idx sub = some st)
include h

theorem lookupFault_ne_zero : st ≠ 0 := by
  obtain ⟨-, rfl⟩ | ⟨r, -, -, rfl⟩ := lookupFault_cases h <;> decide

theorem readObj_of_lookupFault (n : Nat) (e : Session) (s : State) : readObj n e idx sub s = Res.of s st := by
  obtain ⟨hr, rfl⟩ | ⟨r, hr, hs, rfl⟩ := lookupFault_cases h <;> simp [readObj, *]

theorem domainSub_of_lookupFault : domainSub idx sub = false := by
  obtain ⟨hr, rfl⟩ | ⟨r, hr, hs, rfl⟩ := lookupFault_cases h <;> simp [domainSub, *]

theorem writeFault_of_lookupFault (whole : Bool) (e : Session) (v : List Byte) (s : State) : writeFault whole e idx sub v s = st := by
  obtain ⟨hr, rfl⟩ | ⟨r, hr, hs, rfl⟩ := lookupFault_cases h <;> simp [writeFault, *]

theorem initRead_of_lookupFault (q : Req) (e : Session) (s : State) : initRead q idx sub e s = Res.of s st := by
  obtain ⟨hr, rfl⟩ | ⟨r, hr, hs, rfl⟩ := lookupFault_cases h <;> simp [initRead, *]

theorem initWrite_of_lookupFault (q : Req) (len : Nat) (e : Session) (s : State) : initWrite q idx sub len e s = Res.of s st := by
  obtain ⟨hr, rfl⟩ | ⟨r, hr, hs, rfl⟩ := lookupFault_cases h <;> simp [initWrite, *]

end

/-! ## Refused writes (R150) -/

section
variable {q : Req} {i : BitVec 16} {sub : BitVec 8} {v : List Byte} {e : Session} {s : State} {st : Status}

/-- A write whose checks find a fault is answered with it and does nothing else. -/
theorem exec_objectWrite_fault (h : admits q .observer s = true) (he : session q.sess s = some e)
    (hf : writeFault false e i.toNat sub.toNat v s = st) (hst : st ≠ 0) :
    exec (.objectWrite q i sub v) s = .next (answer q st [] s) := by
  subst hf
  calc exec (.objectWrite q i sub v) s = execObjectWrite q i sub v s := rfl
    _ = .next (request q (fun e s => Res.of s (writeFault false e i.toNat sub.toNat v s)) s) := by simp only [execObjectWrite, he, if_pos hst]
    _ = .next (answer q (writeFault false e i.toNat sub.toNat v s) [] s) := by rw [request_answers h he rfl]

/-- A staged write whose checks find a fault is answered with it and does nothing else. -/
theorem exec_rwsStage_fault (h : admits q .observer s = true) (he : session q.sess s = some e)
    (hf : writeFault ((objRow i.toNat).any (fun r => r.ty == .domain)) e i.toNat sub.toNat v s = st) (hst : st ≠ 0) :
    exec (.rwsStage q i sub v) s = .next (answer q st [] s) := by
  have hb : stageReq q i.toNat sub.toNat v e s = Res.of s st := by simp only [stageReq, hf, if_pos hst]
  calc exec (.rwsStage q i sub v) s = .next (request q (stageReq q i.toNat sub.toNat v) s) := rfl
    _ = .next (answer q st [] s) := by rw [request_answers h he hb]

/-- Outside the DOMAIN objects a write and a staged write are refused alike. -/
theorem exec_writes_fault {r : ObjRow} (h : admits q .observer s = true) (he : session q.sess s = some e) (hr : objRow i.toNat = some r)
    (hty : r.ty ≠ .domain) (hf : writeFault false e i.toNat sub.toNat v s = st) (hst : st ≠ 0) :
    exec (.objectWrite q i sub v) s = .next (answer q st [] s) ∧ exec (.rwsStage q i sub v) s = .next (answer q st [] s) :=
  have hw : (objRow i.toNat).any (fun r => r.ty == .domain) = false := by simp [hr, hty]
  ⟨exec_objectWrite_fault h he hf hst, exec_rwsStage_fault h he (by rw [hw, hf]) hst⟩

end

/-- Every request on an object that names none is answered with the status of the lookup and does nothing else. -/
theorem exec_of_lookupFault {q : Req} {i : BitVec 16} {sub : BitVec 8} {s : State} {st : Status} (h : admits q .observer s = true)
    (hl : lookupFault i.toNat sub.toNat = some st) (v : List Byte) (n : BitVec 32) :
    ∀ c ∈ [Instr.objectRead q i sub, .objectWrite q i sub v, .rwsStage q i sub v, .initiateReadTransfer q i sub, .initiateWriteTransfer q i sub n],
      exec c s = .next (answer q st [] s) := by
  obtain ⟨e, he⟩ := admits_session h
  simp only [List.forall_mem_cons, List.not_mem_nil, false_implies, implies_true, and_true]
  refine ⟨?read, ?write, ?stage, ?initRead, ?initWrite⟩
  case read =>
    exact congrArg _ (request_answers h he (by simp [domainSub_of_lookupFault hl, readObj_of_lookupFault hl]))
  case write => exact exec_objectWrite_fault h he (writeFault_of_lookupFault hl ..) (lookupFault_ne_zero hl)
  case stage => exact exec_rwsStage_fault h he (writeFault_of_lookupFault hl ..) (lookupFault_ne_zero hl)
  case initRead => exact congrArg _ (request_answers h he (initRead_of_lookupFault hl ..))
  case initWrite => exact congrArg _ (request_answers h he (initWrite_of_lookupFault hl ..))

/-- Settles O9: every command looks the object up before its other checks. -/
theorem unknownIndicesAndSubindices : Obligations.UnknownIndicesAndSubindices := by
  unfold Obligations.UnknownIndicesAndSubindices
  refine ⟨fun q i sub v n s ha hr => ?_, fun q i sub v n r s ha hr hs => ?_⟩
  · exact exec_of_lookupFault ha (lookupFault_index _ hr) v n
  · exact exec_of_lookupFault ha (lookupFault_subindex hr hs) v n

/-! ## Length and range of a written value (R145) -/

/-- A write has passed the checks that R150 puts before those of its value: index, subindex, access and role. -/
structure WriteAllowed (e : Session) (r : ObjRow) (idx sub : Nat) : Prop where
  row : objRow idx = some r
  subindex : hasSub r sub = true
  access : r.acc.writes = true
  first : r.first ≤ sub
  role : roleMeets e.role r.wrole = true

theorem WriteAllowed.writeFault_eq {e : Session} {r : ObjRow} {idx sub : Nat} (h : WriteAllowed e r idx sub) (hty : r.ty ≠ .domain)
    (v : List Byte) (s : State) :
    writeFault false e idx sub v s =
      if !lenOk r v then 0x0302#16
      else if !typeOk r v ∨ !rangeOk r v ∨ !specialOk idx sub v then 0x0301#16
      else if emptyGroup r sub s then 0x0803#16
      else 0 := by
  simp [writeFault, h.row, h.subindex, h.access, Nat.not_lt.mpr h.first, h.role, hty]

theorem lenOk_of_fixed {r : ObjRow} (hty : r.ty ≠ .domain) (hstr : ∀ n : Nat, r.ty ≠ .str n) (v : List Byte) :
    lenOk r v = (v.length == r.ty.len) := by
  unfold lenOk
  split
  · exact absurd ‹_› (hstr _)
  · exact absurd ‹_› hty
  · rfl

theorem lenOk_of_str {r : ObjRow} {n : Nat} (hty : r.ty = .str n) (v : List Byte) :
    lenOk r v = (decide (1 ≤ v.length) && decide (v.length ≤ n)) := by
  simp [lenOk, hty]

section
variable {q : Req} {i : BitVec 16} {sub : BitVec 8} {v : List Byte} {r : ObjRow} {e : Session} {s : State}

theorem exec_writes_wrongLength (ha : admits q .observer s = true) (he : session q.sess s = some e)
    (hw : WriteAllowed e r i.toNat sub.toNat) (hty : r.ty ≠ .domain) (hl : lenOk r v = false) :
    exec (.objectWrite q i sub v) s = .next (answer q 0x0302 [] s) ∧ exec (.rwsStage q i sub v) s = .next (answer q 0x0302 [] s) :=
  exec_writes_fault ha he hw.row hty (by simp [hw.writeFault_eq hty, hl]) (by decide)

theorem exec_writes_outOfRange (ha : admits q .observer s = true) (he : session q.sess s = some e)
    (hw : WriteAllowed e r i.toNat sub.toNat) (hty : r.ty ≠ .domain) (hl : lenOk r v = true)
    (hv : rangeOk r v = false ∨ specialOk i.toNat sub.toNat v = false) :
    exec (.objectWrite q i sub v) s = .next (answer q 0x0301 [] s) ∧ exec (.rwsStage q i sub v) s = .next (answer q 0x0301 [] s) :=
  exec_writes_fault ha he hw.row hty (by simp [hw.writeFault_eq hty, hl, hv]) (by decide)

end

/-- Settles O10: the check of the length comes before that of the range, and both before any effect. -/
theorem writeLengthAndRange : Obligations.WriteLengthAndRange := by
  unfold Obligations.WriteLengthAndRange
  refine ⟨?fixed, ?str, ?range⟩
  case fixed =>
    intro q i sub v r e s ha he hr hs hacc hfirst hrole hty hstr hlen
    exact exec_writes_wrongLength ha he ⟨hr, hs, hacc, hfirst, hrole⟩ hty (by simpa [lenOk_of_fixed hty hstr] using hlen)
  case str =>
    intro q i sub v n r e s ha he hr hs hacc hfirst hrole hty hlen
    have hl : lenOk r v = false := by
      rw [lenOk_of_str hty, Bool.and_eq_false_iff, decide_eq_false_iff_not, decide_eq_false_iff_not]; omega
    exact exec_writes_wrongLength ha he ⟨hr, hs, hacc, hfirst, hrole⟩ (by simp [hty]) hl
  case range =>
    intro q i sub v r e s ha he hr hs hacc hfirst hrole hty hl hv
    exact exec_writes_outOfRange ha he ⟨hr, hs, hacc, hfirst, hrole⟩ hty hl hv

/-! ## Reads of groups (R158) -/

/-- The members of a subindex come in rising order. -/
theorem members_sorted (sub : Nat) (s : State) : (members sub s).Pairwise (· < ·) := by
  unfold members
  split
  · exact List.pairwise_singleton ..
  · split
    · exact List.pairwise_lt_range
    · split
      · exact List.pairwise_lt_range.filter _
      · exact List.Pairwise.nil

theorem members_head_lt {sub c : Nat} {l : List Nat} {s : State} (h : members sub s = c :: l) : ∀ m ∈ l, c < m :=
  fun _ hm => List.rel_of_pairwise_cons (h ▸ members_sorted sub s) hm

/-- No row of the directory is both a DOMAIN and a count object. -/
theorem dirPage_domain_not_rc (p : Nat) : ∀ r ∈ dirPage p, r.ty = .domain → r.acc ≠ .rc := by
  unfold dirPage; split <;> decide

theorem objRow_domain_not_rc {idx : Nat} {r : ObjRow} (h : objRow idx = some r) (hty : r.ty = .domain) : r.acc ≠ .rc :=
  dirPage_domain_not_rc _ r (List.mem_of_find?_eq_some h) hty

/-- The register window has no groups: its objects are not per channel. -/
theorem groupSub_index_ne {idx sub : Nat} {r : ObjRow} (h : objRow idx = some r) (hg : groupSub r sub = true) : idx ≠ 0x5001 ∧ idx ≠ 0x5005 := by
  have h1 : ∀ r ∈ objRow 0x5001, r.perChan = false := by decide
  have h5 : ∀ r ∈ objRow 0x5005, r.perChan = false := by decide
  constructor <;> rintro rfl <;> simp_all [groupSub]

theorem domainSub_type {idx sub : Nat} {r : ObjRow} (h : objRow idx = some r) (hd : domainSub idx sub = true) : r.ty = .domain := by
  simp_all [domainSub]

section
variable {e : Session} {r : ObjRow} {sub c : Nat} {l : List Nat} {s : State}

theorem groupRead_empty (hm : members sub s = []) : groupRead e r sub s = (0x0803, []) := by
  simp [groupRead, hm]

theorem groupRead_same (hacc : r.acc ≠ .rc) (hm : members sub s = c :: l)
    (h : ∀ m ∈ l, objVal e r (m + 1) s = objVal e r (c + 1) s) : groupRead e r sub s = (0, objVal e r (c + 1) s) := by
  simpa [groupRead, hm, hacc] using h

theorem groupRead_differs (hacc : r.acc ≠ .rc) (hm : members sub s = c :: l)
    (h : ∃ m ∈ l, objVal e r (m + 1) s ≠ objVal e r (c + 1) s) : groupRead e r sub s = (0x0807, objVal e r (c + 1) s) := by
  simpa [groupRead, hm, hacc] using h

/-- A group with members gives the value of its first one, with 0x0000 or 0x0807. -/
theorem groupRead_cons (hacc : r.acc ≠ .rc) (hm : members sub s = c :: l) :
    ∃ st, (st = 0 ∨ st = 0x0807) ∧ groupRead e r sub s = (st, objVal e r (c + 1) s) := by
  by_cases h : ∀ m ∈ l, objVal e r (m + 1) s = objVal e r (c + 1) s
  · exact ⟨_, .inl rfl, groupRead_same hacc hm h⟩
  · exact ⟨_, .inr rfl, groupRead_differs hacc hm (by simpa using h)⟩

end

/-- A readable object is addressed by a subindex that names a group or all channels. -/
structure GroupAddressed (r : ObjRow) (idx sub : Nat) : Prop where
  row : objRow idx = some r
  subindex : hasSub r sub = true
  access : r.acc.reads = true
  group : groupSub r sub = true

section
variable {q : Req} {i : BitVec 16} {sub : BitVec 8} {r : ObjRow} {e : Session} {s : State}

theorem GroupAddressed.readObj_eq {idx sub : Nat} (h : GroupAddressed r idx sub) (n : Nat) (e : Session) (s : State) :
    readObj n e idx sub s = ⟨s, (groupRead e r sub s).1, (groupRead e r sub s).2⟩ := by
  simp [readObj, h.row, h.subindex, h.access, h.group, (groupSub_index_ne h.row h.group).1]

/-- The initiate request of a group opens a transfer where the group's read gives a value, and answers its status alone where not. -/
theorem GroupAddressed.initRead_eq {idx sub : Nat} (h : GroupAddressed r idx sub) (hd : domainSub idx sub = true) (ht : e.transfer = none) :
    initRead q idx sub e s =
      if (groupRead e r sub s).1 = 0 ∨ (groupRead e r sub s).1 = 0x0807 then
        openRead q.sess (key idx sub) (groupRead e r sub s).1 (groupRead e r sub s).2 s
      else ⟨s, (groupRead e r sub s).1, (groupRead e r sub s).2⟩ := by
  simp [initRead, h.row, h.subindex, h.access, hd, ht, (groupSub_index_ne h.row h.group).2, h.readObj_eq]

/-- An OBJECT_READ of a group answers what the read of the group gives and does nothing else. -/
theorem exec_objectRead_group (ha : admits q .observer s = true) (he : session q.sess s = some e)
    (hg : GroupAddressed r i.toNat sub.toNat) (hd : domainSub i.toNat sub.toNat = false) :
    exec (.objectRead q i sub) s = .next (answer q (groupRead e r sub.toNat s).1 (groupRead e r sub.toNat s).2 s) := by
  calc exec (.objectRead q i sub) s = execObjectRead q i sub s := rfl
    _ = .next (answer q (groupRead e r sub.toNat s).1 (groupRead e r sub.toNat s).2 s) := by
      simp [execObjectRead, request_admitted _ ha he, hd, hg.readObj_eq]

theorem exec_initiateReadTransfer (ha : admits q .observer s = true) (he : session q.sess s = some e) :
    exec (.initiateReadTransfer q i sub) s =
      .next (answer q (initRead q i.toNat sub.toNat e s).code (initRead q i.toNat sub.toNat e s).data (initRead q i.toNat sub.toNat e s).st) :=
  congrArg _ (request_admitted _ ha he)

/-- The answer of an opened read transfer: the session holds the transfer, the answer carries length and CRC-32, and the Gleno part
alone changes (R175, R197). -/
theorem answer_openRead {k : ObjKey} {st : Status} {b : List Byte} (he : session q.sess s = some e) (hb : b ≠ []) (hst : st ≠ 0x0402#16) :
    let x := openRead q.sess k st b s
    let t := answer q x.code x.data x.st
    (session q.sess t).map (fun e => e.transfer) = some (some ⟨k, false, b.length, b, 0⟩) ∧
      Answered q st (leBytes 4 b.length ++ leBytes 4 (crc32 b).toNat) s t ∧ OnlyIn [.gleno] s t := by
  refine ⟨?transfer, ?answered, OnlyIn.trans (onlyIn_setTransfer _ _ _) (onlyIn_answer _ _ _ _ hst)⟩
  case transfer => simp [answer_transfer, openRead, hb, setTransfer, session_updSession _ he]
  case answered => simp [Answered, openRead, setTransfer]

/-- An initiate request of a group whose read gives a value opens a transfer of that value. -/
theorem yields_initiateReadTransfer_group {st : Status} {b : List Byte} (ha : admits q .observer s = true)
    (he : session q.sess s = some e) (ht : e.transfer = none) (hg : GroupAddressed r i.toNat sub.toNat)
    (hd : domainSub i.toNat sub.toNat = true) (hread : groupRead e r sub.toNat s = (st, b)) (hst : st = 0 ∨ st = 0x0807) (hb : b ≠ []) :
    Yields (.initiateReadTransfer q i sub) s fun t =>
      (session q.sess t).map (fun e => e.transfer) = some (some ⟨key i.toNat sub.toNat, false, b.length, b, 0⟩) ∧
      Answered q st (leBytes 4 b.length ++ leBytes 4 (crc32 b).toNat) s t ∧ OnlyIn [.gleno] s t := by
  have hopen : initRead q i.toNat sub.toNat e s = openRead q.sess (key i.toNat sub.toNat) st b s := by
    rw [hg.initRead_eq hd ht, hread, if_pos hst]
  have h402 : st ≠ 0x0402#16 := by obtain rfl | rfl := hst <;> decide
  exact ⟨_, exec_initiateReadTransfer ha he, hopen ▸ answer_openRead he hb h402⟩

end

/-- Settles O11: an object read and an initiate request both answer what the read of the group gives. -/
theorem groupReads : Obligations.GroupReads := by
  unfold Obligations.GroupReads
  refine ⟨?read, ?readEmpty, ?initiate, ?initiateEmpty⟩
  case read =>
    intro q i sub r e c l s ha he hr hs hacc hrc hd hg hm
    refine ⟨_, exec_objectRead_group ha he ⟨hr, hs, hacc, hg⟩ hd, members_head_lt hm, fun h => ?_, fun h => ?_⟩
    · simp only [groupRead_same hrc hm h]
    · simp only [groupRead_differs hrc hm h]
  case readEmpty =>
    intro q i sub r s ha hr hs hacc hd hg hm
    obtain ⟨e, he⟩ := admits_session ha
    exact ⟨_, exec_objectRead_group ha he ⟨hr, hs, hacc, hg⟩ hd, by simp only [groupRead_empty hm]⟩
  case initiate =>
    intro q i sub r e c l s ha he ht hr hs hacc hd hg hm hv
    have hrc := objRow_domain_not_rc hr (domainSub_type hr hd)
    obtain ⟨st, hst, hread⟩ := groupRead_cons (e := e) hrc hm
    obtain ⟨t, hexec, htransfer, hanswered, honly⟩ :=
      yields_initiateReadTransfer_group ha he ht ⟨hr, hs, hacc, hg⟩ hd hread hst hv
    refine ⟨t, hexec, htransfer, fun h => ?_, fun h => ?_, honly⟩
    · obtain rfl : st = 0 := congrArg Prod.fst (hread.symm.trans (groupRead_same hrc hm h))
      exact hanswered
    · obtain rfl : st = 0x0807 := congrArg Prod.fst (hread.symm.trans (groupRead_differs hrc hm h))
      exact hanswered
  case initiateEmpty =>
    intro q i sub r e s ha he ht hr hs hacc hd hg hm
    refine ⟨_, exec_initiateReadTransfer ha he, ?_⟩
    simp only [GroupAddressed.initRead_eq ⟨hr, hs, hacc, hg⟩ hd ht, groupRead_empty hm]
    rfl

end Sys2Proof.Machine
end

section
/-!
PROOFS. What no command undoes (18): the factory data, the waiting commands, the island's monotonic counters, retirement. First every operation that
changes none of it, one line each in the order of the model; then the few that do, and the step.
-/
namespace Sys2Proof.Machine

/-- The factory data, the waiting commands and what the island keeps for ever are the same in two states. -/
@[simp] abbrev Steady (s t : State) : Prop :=
  t.factory = s.factory ∧ t.pending = s.pending ∧ t.trust.counters = s.trust.counters ∧ t.trust.state = s.trust.state ∧
    t.trust.idevid = s.trust.idevid

theorem Steady.trans {s t u : State} (h : Steady s t) (k : Steady t u) : Steady s u := by simp_all

/-- A command completes and keeps them. -/
def Completes (s : State) (o : Out) : Prop := ∃ t, o = .next t ∧ Steady s t

@[simp] theorem completes_next (s t : State) : Completes s (.next t) ↔ Steady s t := by simp [Completes]

@[simp] theorem completes_ite (s : State) (c : Prop) [Decidable c] (a b : Out) :
    Completes s (if c then a else b) ↔ (c → Completes s a) ∧ (¬c → Completes s b) := by split <;> simp_all

@[simp] theorem ite_counters (c : Prop) [Decidable c] (a b : Trust) :
    (if c then a else b).counters = if c then a.counters else b.counters := by split <;> rfl
@[simp] theorem ite_state (c : Prop) [Decidable c] (a b : Trust) : (if c then a else b).state = if c then a.state else b.state := by
  split <;> rfl
@[simp] theorem ite_idevid (c : Prop) [Decidable c] (a b : Trust) : (if c then a else b).idevid = if c then a.idevid else b.idevid := by
  split <;> rfl

@[simp] theorem foldl_steady {α : Type} (g : State → α → State) (l : List α) (s : State) (h : ∀ s x, Steady s (g s x)) : Steady s (l.foldl g s) := by
  induction l generalizing s with
  | nil => simp
  | cons a l ih =>
    have h1 := h s a
    have h2 := ih (g s a)
    simp_all

@[simp] theorem foldl_counters {α : Type} (g : State → α → State) (l : List α) (s : State)
    (h : ∀ s x, (g s x).trust.counters = s.trust.counters) : (l.foldl g s).trust.counters = s.trust.counters := by
  induction l generalizing s with
  | nil => rfl
  | cons a t ih => simp [ih, h]
@[simp] theorem foldl_state {α : Type} (g : State → α → State) (l : List α) (s : State)
    (h : ∀ s x, (g s x).trust.state = s.trust.state) : (l.foldl g s).trust.state = s.trust.state := by
  induction l generalizing s with
  | nil => rfl
  | cons a t ih => simp [ih, h]
@[simp] theorem foldl_idevid {α : Type} (g : State → α → State) (l : List α) (s : State)
    (h : ∀ s x, (g s x).trust.idevid = s.trust.idevid) : (l.foldl g s).trust.idevid = s.trust.idevid := by
  induction l generalizing s with
  | nil => rfl
  | cons a t ih => simp [ih, h]

/-- A request keeps what its body keeps. -/
@[simp] theorem roleRequest_steady {need : Role} {q : Req} {body : Session → State → Res} {s : State} (h : ∀ e, Steady s (body e s).st) :
    Steady s (roleRequest need q body s) :=
  roleRequest_keeps Steady need q body s (fun n => by simp) (fun g => by simp) (fun st d u hu => by simpa using hu) h (by simp)

@[simp] theorem request_steady {q : Req} {body : Session → State → Res} {s : State} (h : ∀ e, Steady s (body e s).st) :
    Steady s (request q body s) := by
  rw [← roleRequest_observer]; exact roleRequest_steady h


/-! #### Shared operations -/

@[simp] theorem count64_steady (idx sub s) : Steady s (count64 idx sub s) := by simp [count64]

/-! #### Channels -/

@[simp] theorem chanDown_steady (c s) : Steady s (chanDown c s) := by simp [chanDown]
@[simp] theorem setTx_steady (c m s) : Steady s (setTx c m s) := by simp [setTx]
@[simp] theorem announce_steady (c m s) : Steady s (announce c m s) := by simp [announce]
@[simp] theorem abruptTo_steady (c m s) : Steady s (abruptTo c m s) := by simp [abruptTo]
@[simp] theorem laneLostTx_steady (c k s) : Steady s (laneLostTx c k s) := by simp [laneLostTx]
@[simp] theorem laneLostRx_steady (c k s) : Steady s (laneLostRx c k s) := by simp [laneLostRx]
@[simp] theorem forceFurl_steady (c s) : Steady s (forceFurl c s) := by simp [forceFurl]
@[simp] theorem furlUntil_steady (n k s) : Steady s (furlUntil n k s) := by
  have h := furlUntil_frame n k s
  have hf := h .factory (by decide)
  have hp := h .pending (by decide)
  have ht := h .trust (by decide)
  simp_all [Part.same]
@[simp] theorem askUnfurl_steady (c s) : Steady s (askUnfurl c s) := by simp [askUnfurl]
@[simp] theorem endForced_steady (s) : Steady s (endForced s) := by simp [endForced]
@[simp] theorem chanDark_steady (c s) : Steady s (chanDark c s) := by simp [chanDark]
@[simp] theorem engOff_steady (t s) : Steady s (engOff t s) := by simp [engOff]
@[simp] theorem lasersOff_steady (s) : Steady s (lasersOff s) := by simp [lasersOff]
@[simp] theorem retire_steady (t j st s) : Steady s (retire t j st s) := by simp [retire]
@[simp] theorem toBackoff_steady (c s) : Steady s (toBackoff c s) := by simp [toBackoff]
@[simp] theorem bringUp1_steady (c s) : Steady s (bringUp1 c s) := by simp [bringUp1]
@[simp] theorem resolve_steady (c b s) : Steady s (resolve c b s) := by simp [resolve]

/-! #### Domains, MDLLs, slots and paths -/

@[simp] theorem setTime_steady (d t s) : Steady s (setTime d t s) := by simp [setTime]
@[simp] theorem slewTick_steady (s) : Steady s (slewTick s) := by simp [slewTick]
@[simp] theorem mastTick_steady (s) : Steady s (mastTick s) := by
  unfold mastTick; split
  · simp
  · exact Steady.trans (by simp) (slewTick_steady _)
@[simp] theorem freeOutputs_steady (s) : Steady s (freeOutputs s) := by simp [freeOutputs]
@[simp] theorem mdllStart_steady (m waking s) : Steady s (mdllStart m waking s) := by simp [mdllStart]
@[simp] theorem euClockLost_steady (s u) : Steady s (euClockLost s u) := by simp [euClockLost]
@[simp] theorem outMdllEffects_steady (s) : Steady s (outMdllEffects s) := by simp [outMdllEffects]
@[simp] theorem mdllLose_steady (m s) : Steady s (mdllLose m s) := by simp [mdllLose]

/-! #### PTP ports -/

@[simp] theorem followTrace_steady (s) : Steady s (followTrace s) := by simp [followTrace]
@[simp] theorem offerOffset_steady (c i off s) : Steady s (offerOffset c i off s) := by simp [offerOffset]
@[simp] theorem offerClass_steady (c s) : Steady s (offerClass c s) := by simp [offerClass]

/-! #### Calibration runs -/

@[simp] theorem deferRun_steady (kind inst reason s) : Steady s (deferRun kind inst reason s) := by simp [deferRun]

/-! #### Tables, meters and lookup -/

@[simp] theorem updTables_steady (f s) : Steady s (updTables f s) := by simp [updTables]
@[simp] theorem drainAll_steady (s) : Steady s (drainAll s) := by simp [drainAll]
@[simp] theorem meterFrame_steady (i b c h s) : Steady s (meterFrame i b c h s).2 := by simp [meterFrame]
@[simp] theorem meterApply_steady (i old new s) : Steady s (meterApply i old new s) := by simp [meterApply]
@[simp] theorem updStream_steady (i f s) : Steady s (updStream i f s) := by simp [updStream]
@[simp] theorem streamFn_steady (i p r s) : Steady s (streamFn i p r s).2.2.2 := by
  unfold streamFn; dsimp only; (repeat' split) <;> simp
@[simp] theorem streamApply_steady (i old new s) : Steady s (streamApply i old new s) := by simp [streamApply]

/-! #### Queues and the overflow store -/

@[simp] theorem traffic_steady (c w n s) : Steady s (traffic c w n s) := by simp [traffic]
@[simp] theorem putTail_steady (c q l s) : Steady s (putTail c q l s) := by simp [putTail]
@[simp] theorem ovfBrace_steady (s) : Steady s (ovfBrace s) := by simp [ovfBrace]
@[simp] theorem ovfResume_steady (s) : Steady s (ovfResume s) := by simp [ovfResume]
@[simp] theorem ovfAsk_steady (s) : Steady s (ovfAsk s) := by simp [ovfAsk]
@[simp] theorem spill_steady (k s) : Steady s (spill k s) := by simp [spill]
@[simp] theorem admitDie_steady (k s) : Steady s (admitDie k s) := by unfold admitDie; (repeat' split) <;> simp
@[simp] theorem enqueueCopy_steady (room k s) : Steady s (enqueueCopy room k s) := by simp [enqueueCopy]
@[simp] theorem mcCopy_steady (room k x s) : Steady s (mcCopy room k x s) := by simp [mcCopy]
@[simp] theorem deliver_steady (room et k s) : Steady s (deliver room et k s) := by unfold deliver; (repeat' split) <;> simp
@[simp] theorem mirrorOne_steady (f c a n) : Steady a.2 (mirrorOne f c a n).2 := by
  unfold mirrorOne; dsimp only; (repeat' split) <;> simp
@[simp] theorem mirrorAll_steady (f c l k s) : Steady s (mirrorAll f c l k s).2 := by
  unfold mirrorAll
  induction l generalizing k s with
  | nil => simp
  | cons n l ih => simpa using ih (mirrorOne f c (k, s) n).1 (mirrorOne f c (k, s) n).2

/-! #### Buckets and gate lists -/

@[simp] theorem updCa_steady (c f s) : Steady s (updCa c f s) := by simp [updCa]
@[simp] theorem distribute_steady (c s) : Steady s (distribute c s) := by simp [distribute]
@[simp] theorem charge_steady (c n len s) : Steady s (charge c n len s) := by simp [charge]
@[simp] theorem gateTime_steady (c l a s) : Steady s (gateTime c l a s).2 := by simp [gateTime]
@[simp] theorem gateCommit_steady (c l at_ up s) : Steady s (gateCommit c l at_ up s) := by simp [gateCommit]
@[simp] theorem gateTake_steady (c s) : Steady s (gateTake c s) := by unfold gateTake; (repeat' split) <;> simp
@[simp] theorem gateReach_steady (c s) : Steady s (gateReach c s) := by unfold gateReach; (repeat' split) <;> simp
@[simp] theorem gateWake_steady (c s) : Steady s (gateWake c s) := by unfold gateWake; (repeat' split) <;> simp
@[simp] theorem setDeficit_steady (c q d s) : Steady s (setDeficit c q d s) := by simp [setDeficit]
@[simp] theorem setPointer_steady (c p g s) : Steady s (setPointer c p g s) := by simp [setPointer]
@[simp] theorem dwrr_steady (c l n s) : Steady s (dwrr c l n s).2 := by
  induction n generalizing s with
  | zero => simp [dwrr]
  | succ n ih => unfold dwrr; dsimp only; (repeat' split) <;> simp [ih]
@[simp] theorem choose_steady (c t s) : Steady s (choose c t s).2 := by
  unfold choose; dsimp only
  have h := dwrr_steady c (heads c t s) 2100 s
  (repeat' split) <;> simp_all
@[simp] theorem chargeAll_steady (c q len excess s) : Steady s (chargeAll c q len excess s) := by simp [chargeAll]

/-! #### What other parts follow -/

@[simp] theorem portsUp_steady (c s) : Steady s (portsUp c s) := by simp [portsUp]
@[simp] theorem settleChans_steady (t r s) : Steady s (settleChans t r s) := by simp [settleChans]
@[simp] theorem tileOnJury_steady (t s) : Steady s (tileOnJury t s) := by simp [tileOnJury]
@[simp] theorem tileOffJury_steady (t s) : Steady s (tileOffJury t s) := by simp [tileOffJury]
@[simp] theorem overrun_steady (c s) : Steady s (overrun c s) := by simp [overrun]
@[simp] theorem gatesWait_steady (s) : Steady s (gatesWait s) := by simp [gatesWait]
@[simp] theorem euFirstCal_steady (s) : Steady s (euFirstCal s) := by simp [euFirstCal]

/-! #### Optical channels -/

@[simp] theorem requestNext_steady (s) : Steady s (requestNext s) := by simp [requestNext]
@[simp] theorem coverRetired_steady (t s) : Steady s (coverRetired t s) := by simp [coverRetired]
@[simp] theorem spareChecks_steady (t r s) : Steady s (spareChecks t r s) := by simp [spareChecks]
@[simp] theorem startFailures_steady (t r s) : Steady s (startFailures t r s) := by simp [startFailures]
@[simp] theorem execLaserBankStarted_completes (t reached bias power lo hi s) : Completes s (execLaserBankStarted t reached bias power lo hi s) := by
  simp [execLaserBankStarted]
@[simp] theorem execSubmountTempAlarm_completes (t temp s) : Completes s (execSubmountTempAlarm t temp s) := by simp [execSubmountTempAlarm]
@[simp] theorem execBeaconHeard_completes (c family vari caps s) : Completes s (execBeaconHeard c family vari caps s) := by simp [execBeaconHeard]
@[simp] theorem execListenTimeout_completes (c s) : Completes s (execListenTimeout c s) := by simp [execListenTimeout]
@[simp] theorem execAnswerHeard_completes (c family vari caps s) : Completes s (execAnswerHeard c family vari caps s) := by simp [execAnswerHeard]
@[simp] theorem execBeaconTimeout_completes (c s) : Completes s (execBeaconTimeout c s) := by simp [execBeaconTimeout]
@[simp] theorem execBackoffExpiry_completes (c s) : Completes s (execBackoffExpiry c s) := by simp [execBackoffExpiry]
@[simp] theorem execAnswerResolved_completes (c s) : Completes s (execAnswerResolved c s) := by simp [execAnswerResolved]
@[simp] theorem execAnswerTimeout_completes (c s) : Completes s (execAnswerTimeout c s) := by simp [execAnswerTimeout]
@[simp] theorem execBandRelease_completes (c s) : Completes s (execBandRelease c s) := by simp [execBandRelease]
@[simp] theorem execBandUnresolved_completes (c s) : Completes s (execBandUnresolved c s) := by simp [execBandUnresolved]
@[simp] theorem execLaserFailure_completes (t j spare s) : Completes s (execLaserFailure t j spare s) := by simp [execLaserFailure]
@[simp] theorem execSpareLocked_completes (t j wlError s) : Completes s (execSpareLocked t j wlError s) := by simp [execSpareLocked]
@[simp] theorem execPlannedSwitchIn_completes (q t j s) : Completes s (execPlannedSwitchIn q t j s) :=
  (completes_next _ _).2 (roleRequest_steady fun e => by split <;> simp [Res.of])
@[simp] theorem forceOff_steady (t j s) : Steady s (forceOff t j s) := by simp [forceOff]
@[simp] theorem execLaserForceOff_completes (q t j s) : Completes s (execLaserForceOff q t j s) :=
  (completes_next _ _).2 (roleRequest_steady fun e => by (repeat' split) <;> simp [Res.of])
@[simp] theorem execLaserForceAutomatic_completes (t j s) : Completes s (execLaserForceAutomatic t j s) := by simp [execLaserForceAutomatic]
@[simp] theorem setRx_steady (c k p s) : Steady s (setRx c k p s) := by simp [setRx]
@[simp] theorem execRxLosEnter_completes (c k p s) : Completes s (execRxLosEnter c k p s) := by simp [execRxLosEnter]
@[simp] theorem execRxLosExit_completes (c k p s) : Completes s (execRxLosExit c k p s) := by simp [execRxLosExit]
@[simp] theorem execThresholdCrossed_completes (c k which p s) : Completes s (execThresholdCrossed c k which p s) := by simp [execThresholdCrossed]
@[simp] theorem execTapLimit_completes (c s) : Completes s (execTapLimit c s) := by simp [execTapLimit]

/-! #### Channel coding and bring-up -/

@[simp] theorem tapMove_steady (c k p r s) : Steady s (tapMove c k p r s).1 := by
  unfold tapMove; dsimp only; (repeat' split) <;> simp
@[simp] theorem execClockRecovered_completes (c s) : Completes s (execClockRecovered c s) := by simp [execClockRecovered]
@[simp] theorem execTrainingFrameReceived_completes (c k f s) : Completes s (execTrainingFrameReceived c k f s) := by simp [execTrainingFrameReceived]
@[simp] theorem stageFails_steady (c s) : Steady s (stageFails c s) := by simp [stageFails]
@[simp] theorem execTrainingComplete_completes (c s) : Completes s (execTrainingComplete c s) := by simp [execTrainingComplete]
@[simp] theorem execAlignmentComplete_completes (c peerTx peerMax s) : Completes s (execAlignmentComplete c peerTx peerMax s) := by
  simp [execAlignmentComplete]
@[simp] theorem execCheckComplete_completes (c s) : Completes s (execCheckComplete c s) := by simp [execCheckComplete]
@[simp] theorem execBringupStageTimeout_completes (c s) : Completes s (execBringupStageTimeout c s) := by simp [execBringupStageTimeout]
@[simp] theorem execBringupAlarm_completes (c s) : Completes s (execBringupAlarm c s) := by simp [execBringupAlarm]
@[simp] theorem retrain_steady (c s) : Steady s (retrain c s) := by simp [retrain]
@[simp] theorem execRetrain_completes (q sub s) : Completes s (execRetrain q sub s) :=
  (completes_next _ _).2 (roleRequest_steady fun e => by (repeat' split) <;> simp [Res.of])
@[simp] theorem joinCheck_steady (c s) : Steady s (joinCheck c s) := by simp [joinCheck]
@[simp] theorem widthAt_steady (c s) : Steady s (widthAt c s) := by simp [widthAt]
@[simp] theorem execMarkerPeriod_completes (c s) : Completes s (execMarkerPeriod c s) := by
  unfold execMarkerPeriod; split
  · simp
  · refine (completes_next _ _).2 ?_
    simp only [Steady, settleChan_frame, updCod_frame, emit_frame]
    refine Steady.trans ?_ ((widthAt_steady _ _).trans (joinCheck_steady _ _))
    split <;> simp
@[simp] theorem takeControl_steady (c m s) : Steady s (takeControl c m s) := by simp [takeControl]
@[simp] theorem execMarkerReceived_completes (c k m s) : Completes s (execMarkerReceived c k m s) := by simp [execMarkerReceived]
@[simp] theorem execMarkerLockLost_completes (c k s) : Completes s (execMarkerLockLost c k s) := by simp [execMarkerLockLost]
@[simp] theorem execFurlDecision_completes (c percent s) : Completes s (execFurlDecision c percent s) := by simp [execFurlDecision]
@[simp] theorem execUnfurlRequest_completes (c s) : Completes s (execUnfurlRequest c s) := by simp [execUnfurlRequest]
@[simp] theorem execLaneRejoin_completes (c k s) : Completes s (execLaneRejoin c k s) := by simp [execLaneRejoin]
@[simp] theorem execPrbsCheckerLock_completes (c k s) : Completes s (execPrbsCheckerLock c k s) := by simp [execPrbsCheckerLock]

/-! #### The time base -/

@[simp] theorem byOwner_steady (w d body s) (h : ∀ u, Steady u (body u).st) : Steady s (byOwner w d body s) := by
  unfold byOwner; split
  · exact roleRequest_steady fun e => by split <;> simp [h, Res.of]
  · split <;> simp [h]
@[simp] theorem timeSet_steady (d t s) : Steady s (timeSet d t s).st := by unfold timeSet; (repeat' split) <;> simp [Res.of]
@[simp] theorem execTimeSet_completes (w d t s) : Completes s (execTimeSet w d t s) := by simp [execTimeSet]
@[simp] theorem timeAdj_steady (d a s) : Steady s (timeAdj d a s).st := by unfold timeAdj; (repeat' split) <;> simp [Res.of]
@[simp] theorem execTimeAdj_completes (w d a s) : Completes s (execTimeAdj w d a s) := by simp [execTimeAdj]
@[simp] theorem rateAdj_steady (d r s) : Steady s (rateAdj d r s).st := by unfold rateAdj; (repeat' split) <;> simp [Res.of]
@[simp] theorem execRateAdjWrite_completes (w d r s) : Completes s (execRateAdjWrite w d r s) := by simp [execRateAdjWrite]
@[simp] theorem traceableWrite_steady (d b s) : Steady s (traceableWrite d b s).st := by simp [traceableWrite, Res.of]
@[simp] theorem execTraceableWrite_completes (w d b s) : Completes s (execTraceableWrite w d b s) := by simp [execTraceableWrite]
@[simp] theorem execCapture_completes (s) : Completes s (execCapture s) := by simp [execCapture]
@[simp] theorem execOutResync_completes (q s) : Completes s (execOutResync q s) := by simp [execOutResync, Res.of]
@[simp] theorem execSlewingEnd_completes (s) : Completes s (execSlewingEnd s) := by simp [execSlewingEnd]
@[simp] theorem relock_steady (m s) : Steady s (relock m s) := by unfold relock; (repeat' split) <;> simp
@[simp] theorem execMdllRelock_completes (q m s) : Completes s (execMdllRelock q m s) := by unfold execMdllRelock; (repeat' split) <;> simp [Res.of]
@[simp] theorem execMdllLockReached_completes (m s) : Completes s (execMdllLockReached m s) := by simp [execMdllLockReached]
@[simp] theorem execMdllAcquireTimeout_completes (m s) : Completes s (execMdllAcquireTimeout m s) := by simp [execMdllAcquireTimeout]
@[simp] theorem outputsFirst_steady (s) : Steady s (outputsFirst s) := by simp [outputsFirst]
@[simp] theorem mdllLocked_steady (m s) : Steady s (mdllLocked m s) := by simp [mdllLocked]
@[simp] theorem execMdllHoldComplete_completes (m s) : Completes s (execMdllHoldComplete m s) := by simp [execMdllHoldComplete]
@[simp] theorem loseLock_steady (m s) : Steady s (loseLock m s) := by unfold loseLock; (repeat' split) <;> simp
@[simp] theorem execMdllLockLost_completes (m freqErr s) : Completes s (execMdllLockLost m freqErr s) := by simp [execMdllLockLost]
@[simp] theorem execFrequencyClamp_completes (m s) : Completes s (execFrequencyClamp m s) := by simp [execFrequencyClamp]
@[simp] theorem jurySources_steady (s) : Steady s (jurySources s) := by
  unfold jurySources; exact foldl_steady _ _ _ fun s m => by split <;> simp
@[simp] theorem execJuryFault_completes (s) : Completes s (execJuryFault s) := by simp [execJuryFault]
@[simp] theorem execJuryRecovered_completes (s) : Completes s (execJuryRecovered s) := by simp [execJuryRecovered]
@[simp] theorem detsLost_steady (s) : Steady s (detsLost s) := by simp [detsLost]
@[simp] theorem pathsFree_steady (s) : Steady s (pathsFree s) := by simp [pathsFree]
@[simp] theorem execMastFault_completes (s) : Completes s (execMastFault s) := by simp [execMastFault]
@[simp] theorem execMastRecovered_completes (s) : Completes s (execMastRecovered s) := by simp [execMastRecovered]
@[simp] theorem execLockmonAlarm_completes (mv s) : Completes s (execLockmonAlarm mv s) := by simp [execLockmonAlarm]

/-! #### Vernier measurement -/

@[simp] theorem traceSample_steady (d s) : Steady s (traceSample d s) := by unfold traceSample; (repeat' split) <;> simp
@[simp] theorem rebuild_steady (d e s) : Steady s (rebuild d e s) := by unfold rebuild; dsimp only; (repeat' split) <;> simp
@[simp] theorem takeSample_steady (d xn t m pulse s) : Steady s (takeSample d xn t m pulse s) := by simp [takeSample]
@[simp] theorem execInputBeatEdge_completes (d m inRange s) : Completes s (execInputBeatEdge d m inRange s) := by simp [execInputBeatEdge]
@[simp] theorem diffRefresh_steady (k s) : Steady s (diffRefresh k s) := by simp [diffRefresh]
@[simp] theorem execMastBeatEdge_completes (s) : Completes s (execMastBeatEdge s) := by simp [execMastBeatEdge]
@[simp] theorem execHelperUnlock_completes (s) : Completes s (execHelperUnlock s) := by simp [execHelperUnlock]
@[simp] theorem execHelperResume_completes (s) : Completes s (execHelperResume s) := by simp [execHelperResume]
@[simp] theorem pulseError_steady (n t s) : Steady s (pulseError n t s) := by simp [pulseError]
@[simp] theorem execPulseInputEdge_completes (n t s) : Completes s (execPulseInputEdge n t s) := by simp [execPulseInputEdge]
@[simp] theorem euArm_steady (u s) : Steady s (euArm u s) := by simp [euArm]
@[simp] theorem execEuArm_completes (q u s) : Completes s (execEuArm q u s) :=
  (completes_next _ _).2 (roleRequest_steady fun e => by (repeat' split) <;> simp [Res.of])
@[simp] theorem euMissed_steady (u s) : Steady s (euMissed u s) := by simp [euMissed]
@[simp] theorem startEdge_steady (u t time s) : Steady s (startEdge u t time s) := by unfold startEdge; dsimp only; (repeat' split) <;> simp
@[simp] theorem stopEdge_steady (u t s) : Steady s (stopEdge u t s) := by unfold stopEdge; dsimp only; (repeat' split) <;> simp
@[simp] theorem execEventEdge_completes (u stop t time s) : Completes s (execEventEdge u stop t time s) := by simp [execEventEdge]
@[simp] theorem execEuTimeoutExpiry_completes (u s) : Completes s (execEuTimeoutExpiry u s) := by simp [execEuTimeoutExpiry]
@[simp] theorem execEuWindowEnd_completes (u s) : Completes s (execEuWindowEnd u s) := by unfold execEuWindowEnd; dsimp only; (repeat' split) <;> simp
@[simp] theorem euPop_steady (u s) : Steady s (euPop u s) := by simp [euPop]
@[simp] theorem execEuResultPop_completes (u s) : Completes s (execEuResultPop u s) := by simp [execEuResultPop]
@[simp] theorem detTraceReq_steady (d n s) : Steady s (detTraceReq d n s).st := by unfold detTraceReq; (repeat' split) <;> simp [Res.of]
@[simp] theorem execDetTraceRequest_completes (q d n s) : Completes s (execDetTraceRequest q d n s) := by simp [execDetTraceRequest]
@[simp] theorem execDetTraceComplete_completes (s) : Completes s (execDetTraceComplete s) := by unfold execDetTraceComplete; (repeat' split) <;> simp

/-! #### References and holdover -/

@[simp] theorem judgeSlot_steady (k s) : Steady s (judgeSlot k s) := by simp [judgeSlot]
@[simp] theorem disagree_steady (k s) : Steady s (disagree k s) := by simp [disagree]
@[simp] theorem judgePair_steady (i j s) : Steady s (judgePair i j s) := by unfold judgePair; (repeat' split) <;> simp
@[simp] theorem judgeRank_steady (s) : Steady s (judgeRank s) := by unfold judgeRank; (repeat' split) <;> simp
@[simp] theorem servoFreq_steady (s) : Steady s (servoFreq s) := by unfold servoFreq; dsimp only; (repeat' split) <;> simp
@[simp] theorem servoTime_steady (n s) : Steady s (servoTime n s) := by simp [servoTime]
@[simp] theorem execSelectionEvaluation_completes (absent drift s) : Completes s (execSelectionEvaluation absent drift s) := by
  simp [execSelectionEvaluation]
@[simp] theorem execSwitchComplete_completes (meanOld meanNew s) : Completes s (execSwitchComplete meanOld meanNew s) := by
  unfold execSwitchComplete; dsimp only; (repeat' split) <;> simp
@[simp] theorem execQualifyTimer_completes (k time s) : Completes s (execQualifyTimer k time s) := by simp [execQualifyTimer]
@[simp] theorem execSlotHoldoffExpiry_completes (k time s) : Completes s (execSlotHoldoffExpiry k time s) := by simp [execSlotHoldoffExpiry]
@[simp] theorem execWaitToRestoreExpiry_completes (k time s) : Completes s (execWaitToRestoreExpiry k time s) := by simp [execWaitToRestoreExpiry]
@[simp] theorem execPathLocked_completes (n s) : Completes s (execPathLocked n s) := by simp [execPathLocked]
@[simp] theorem execAcquisitionTimeout_completes (n s) : Completes s (execAcquisitionTimeout n s) := by
  unfold execAcquisitionTimeout; (repeat' split) <;> simp
@[simp] theorem execPathLockLoss_completes (n s) : Completes s (execPathLockLoss n s) := by simp [execPathLockLoss]
@[simp] theorem timeBound_steady (n s) : Steady s (timeBound n s) := by simp [timeBound]
@[simp] theorem lostCheck_steady (n s) : Steady s (lostCheck n s) := by simp [lostCheck]
@[simp] theorem execHoldoverBoundUpdate_completes (b0 uy ud uk sumT s) : Completes s (execHoldoverBoundUpdate b0 uy ud uk sumT s) := by
  simp [execHoldoverBoundUpdate]
@[simp] theorem execHoldoverReady_completes (s) : Completes s (execHoldoverReady s) := by simp [execHoldoverReady]
@[simp] theorem ovenBack_steady (s) : Steady s (ovenBack s) := by simp [ovenBack]
@[simp] theorem execSteerWatchdog_completes (s) : Completes s (execSteerWatchdog s) := by simp [execSteerWatchdog]
@[simp] theorem slotQl_steady (k q ext eeecs eecs s) : Steady s (slotQl k q ext eeecs eecs s) := by simp [slotQl]
@[simp] theorem execEsmcPduReceived_completes (c ssm tlv s) : Completes s (execEsmcPduReceived c ssm tlv s) := by simp [execEsmcPduReceived]
@[simp] theorem execEsmcQlTimeout_completes (c s) : Completes s (execEsmcQlTimeout c s) := by simp [execEsmcQlTimeout]
@[simp] theorem execEsmcInfoSend_completes (s) : Completes s (execEsmcInfoSend s) := by simp [execEsmcInfoSend]
@[simp] theorem execOutputConfigEffect_completes (n s) : Completes s (execOutputConfigEffect n s) := by simp [execOutputConfigEffect]
@[simp] theorem phaseMove_steady (n s) : Steady s (phaseMove n s) := by simp [phaseMove]
@[simp] theorem alignMove_steady (n s) : Steady s (alignMove n s) := by simp [alignMove]
@[simp] theorem execOutputPulseEdge_completes (n sensed s) : Completes s (execOutputPulseEdge n sensed s) := by simp [execOutputPulseEdge]
@[simp] theorem slotCommit_steady (k s) : Steady s (slotCommit k s) := by simp [slotCommit]
@[simp] theorem ownerCommit_steady (n s) : Steady s (ownerCommit n s) := by simp [ownerCommit]
@[simp] theorem ovenCommit_steady (s) : Steady s (ovenCommit s) := by simp [ovenCommit]
@[simp] theorem outCommit_steady (n s) : Steady s (outCommit n s) := by simp [outCommit]
@[simp] theorem refsCommit_steady (s) : Steady s (refsCommit s) := by simp [refsCommit]

/-! #### Halyard and telecom PTP -/

@[simp] theorem stampTx_steady (e s) : Steady s (stampTx e s) := by simp [stampTx]
@[simp] theorem takeStamp_steady (t id s) : Steady s (takeStamp t id s) := by simp [takeStamp]
@[simp] theorem execSyncSend_completes (c inst id t1 taken s) : Completes s (execSyncSend c inst id t1 taken s) := by simp [execSyncSend]
@[simp] theorem receive_steady (c i ty h body s) (hb : ∀ u, Steady u (body u)) : Steady s (receive c i ty h body s) := by
  unfold receive; dsimp only; (repeat' split) <;> simp [hb]
@[simp] theorem goodExchange_steady (c i off s) : Steady s (goodExchange c i off s) := by simp [goodExchange]
@[simp] theorem judgeExchange_steady (c i e s) : Steady s (judgeExchange c i e s) := by simp [judgeExchange]
@[simp] theorem judgeSync_steady (c i e s) : Steady s (judgeSync c i e s) := by simp [judgeSync]
@[simp] theorem execSyncReceived_completes (c inst h twoStep ts t2 s) : Completes s (execSyncReceived c inst h twoStep ts t2 s) := by
  simp [execSyncReceived]
@[simp] theorem execFollowUpReceived_completes (c inst h syncSeq ts s) : Completes s (execFollowUpReceived c inst h syncSeq ts s) := by
  simp [execFollowUpReceived]
@[simp] theorem execDelayReqSend_completes (c inst id t3 taken s) : Completes s (execDelayReqSend c inst id t3 taken s) := by simp [execDelayReqSend]
@[simp] theorem execDelayReqReceived_completes (c inst h t4 s) : Completes s (execDelayReqReceived c inst h t4 s) := by simp [execDelayReqReceived]
@[simp] theorem execDelayRespReceived_completes (c i h n x s) : Completes s (execDelayRespReceived c i h n x s) :=
  (completes_next _ _).2 (receive_steady _ _ _ _ _ _ fun u => by dsimp only; (repeat' split) <;> simp)
@[simp] theorem execPdelayReqReceived_completes (c h id t2 t3 taken s) : Completes s (execPdelayReqReceived c h id t2 t3 taken s) := by
  simp [execPdelayReqReceived]
@[simp] theorem judgePdelay_steady (c e turn s) : Steady s (judgePdelay c e turn s) := by simp [judgePdelay]
@[simp] theorem execPdelayRespReceived_completes (c h reqSeq twoStep ts t4 s) : Completes s (execPdelayRespReceived c h reqSeq twoStep ts t4 s) := by
  simp [execPdelayRespReceived]
@[simp] theorem execPdelayRespFollowUpReceived_completes (c h n x s) : Completes s (execPdelayRespFollowUpReceived c h n x s) :=
  (completes_next _ _).2 (receive_steady _ _ _ _ _ _ fun u => by dsimp only; (repeat' split) <;> simp)
@[simp] theorem execAnnounceSend_completes (c inst s) : Completes s (execAnnounceSend c inst s) := by simp [execAnnounceSend]
@[simp] theorem helloRecv_steady (c h s) : Steady s (helloRecv c h s) := by simp [helloRecv]
@[simp] theorem execAnnounceReceived_completes (c inst h a s) : Completes s (execAnnounceReceived c inst h a s) := by
  unfold execAnnounceReceived; (repeat' split) <;> simp
@[simp] theorem execAnnounceTimeout_completes (c inst s) : Completes s (execAnnounceTimeout c inst s) := by simp [execAnnounceTimeout]
@[simp] theorem holdAnswer_steady (c ms reason s) : Steady s (holdAnswer c ms reason s) := by simp [holdAnswer]
@[simp] theorem holdRequest_steady (c ms s) : Steady s (holdRequest c ms s) := by simp [holdRequest]
@[simp] theorem skewRecv_steady (c k s) : Steady s (skewRecv c k s) := by simp [skewRecv]
@[simp] theorem sendSkew_steady (c s) : Steady s (sendSkew c s) := by simp [sendSkew]
@[simp] theorem execSignalingReceived_completes (c h g s) : Completes s (execSignalingReceived c h g s) := by
  unfold execSignalingReceived; (repeat' split) <;> simp
@[simp] theorem execHoldExpiry_completes (c mine s) : Completes s (execHoldExpiry c mine s) := by simp [execHoldExpiry]
@[simp] theorem execSkewSend_completes (c s) : Completes s (execSkewSend c s) := by simp [execSkewSend]
@[simp] theorem execL1SyncSend_completes (c s) : Completes s (execL1SyncSend c s) := by simp [execL1SyncSend]
@[simp] theorem execTxqStale_completes (t s) : Completes s (execTxqStale t s) := by simp [execTxqStale]
@[simp] theorem execTxStampMissing_completes (c inst id s) : Completes s (execTxStampMissing c inst id s) := by simp [execTxStampMissing]
@[simp] theorem txqFlush_steady (t s) : Steady s (txqFlush t s) := by simp [txqFlush]
@[simp] theorem execTxqFlush_completes (t s) : Completes s (execTxqFlush t s) := by simp [execTxqFlush]
@[simp] theorem execTodMessage_completes (s) : Completes s (execTodMessage s) := by simp [execTodMessage]
@[simp] theorem ptpCommit_steady (s) : Steady s (ptpCommit s) := by simp [ptpCommit]

/-! #### Calibration and ageing -/

@[simp] theorem askHold_steady (c s) : Steady s (askHold c s) := by simp [askHold]
@[simp] theorem tryRun_steady (p a r) : Steady a.1 (tryRun p a r).1 := by
  unfold tryRun; dsimp only; (repeat' split) <;> simp
@[simp] theorem foldl_tryRun_steady (p : Nat) (l : List (Nat × Nat)) (a : State × Bool) : Steady a.1 (l.foldl (tryRun p) a).1 := by
  induction l generalizing a with
  | nil => simp
  | cons r l ih => simpa using ih (tryRun p a r)
@[simp] theorem dropRuns_steady (s) : Steady s (dropRuns s) := by simp [dropRuns]
@[simp] theorem execCalEvaluation_completes (p w s) : Completes s (execCalEvaluation p w s) := by
  unfold execCalEvaluation; dsimp only; (repeat' split) <;> simp
@[simp] theorem execAsymSetDue_completes (c s) : Completes s (execAsymSetDue c s) := by simp [execAsymSetDue]
@[simp] theorem asymMeasure_steady (c s) : Steady s (asymMeasure c s).st := by unfold asymMeasure; (repeat' split) <;> simp [Res.of]
@[simp] theorem execAsymMeasure_completes (q c s) : Completes s (execAsymMeasure q c s) := by simp [execAsymMeasure]
@[simp] theorem hostRun_steady (kind inst s) : Steady s (hostRun kind inst s).st := by unfold hostRun; (repeat' split) <;> simp [Res.of]
@[simp] theorem euCalibrate_steady (u s) : Steady s (euCalibrate u s).st := by unfold euCalibrate; (repeat' split) <;> simp [Res.of]
@[simp] theorem execEuCalibrate_completes (q u s) : Completes s (execEuCalibrate q u s) := by simp [execEuCalibrate]
@[simp] theorem calRun_steady (kind inst s) : Steady s (calRun kind inst s).st := by unfold calRun; (repeat' split) <;> simp [Res.of]
@[simp] theorem execCalRun_completes (q kind inst s) : Completes s (execCalRun q kind inst s) := by simp [execCalRun]
@[simp] theorem holdRun_steady (kind inst v resid s) : Steady s (holdRun kind inst v resid s) := by simp [holdRun]
@[simp] theorem unhold_steady (kind inst s) : Steady s (unhold kind inst s) := by simp [unhold]
@[simp] theorem asymDone_steady (c a lam0 resid sigma half skew sigmas s) : Steady s (asymDone c a lam0 resid sigma half skew sigmas s) := by
  simp [asymDone]
@[simp] theorem laneDone_steady (n loop sigma s) : Steady s (laneDone n loop sigma s) := by simp [laneDone]
@[simp] theorem driverDone_steady (n v sigma s) : Steady s (driverDone n v sigma s) := by simp [driverDone]
@[simp] theorem tapDone_steady (u empty widest s) : Steady s (tapDone u empty widest s) := by simp [tapDone]
@[simp] theorem execCalRunComplete_completes (kind inst r s) : Completes s (execCalRunComplete kind inst r s) := by
  unfold execCalRunComplete; (repeat' split) <;> simp
@[simp] theorem execCalSlewTick_completes (s) : Completes s (execCalSlewTick s) := by simp [execCalSlewTick]
@[simp] theorem execCalOverdue_completes (kind inst s) : Completes s (execCalOverdue kind inst s) := by simp [execCalOverdue]
@[simp] theorem recValues_steady (w s) : Steady s (recValues w s) := by unfold recValues; (repeat' split) <;> simp
@[simp] theorem commitRec_steady (w s) : Steady s (commitRec w s) := by unfold commitRec; (repeat' split) <;> simp
@[simp] theorem execRecordWrite_completes (fails s) : Completes s (execRecordWrite fails s) := by unfold execRecordWrite; (repeat' split) <;> simp
@[simp] theorem execRxAdaptTrial_completes (c k set up better s) : Completes s (execRxAdaptTrial c k set up better s) := by simp [execRxAdaptTrial]
@[simp] theorem execRxMarginAlarm_completes (c k margin s) : Completes s (execRxMarginAlarm c k margin s) := by simp [execRxMarginAlarm]
@[simp] theorem execLaneInferred_completes (c k dtx drx s) : Completes s (execLaneInferred c k dtx drx s) := by simp [execLaneInferred]
@[simp] theorem switchPoint_steady (t j s) : Steady s (switchPoint t j s) := by simp [switchPoint]
@[simp] theorem replan_steady (code inst f s) : Steady s (replan code inst f s) := by simp [replan]
@[simp] theorem execAgeingRefit_completes (code inst f s) : Completes s (execAgeingRefit code inst f s) := by simp [execAgeingRefit]

/-! #### Forwarding -/

@[simp] theorem replicate_steady (st e num nh k s) : Steady s (replicate st e num nh k s) := by unfold replicate; (repeat' split) <;> simp
@[simp] theorem handOver_steady (k s) : Steady s (handOver k s) := by unfold handOver; (repeat' split) <;> simp
@[simp] theorem finishFrame_steady (c p act r way mc op rep f a s) : Steady s (finishFrame c p act r way mc op rep f a s) := by
  unfold finishFrame; (repeat' split) <;> simp
@[simp] theorem resolveFrame_steady (c p act r f a s) : Steady s (resolveFrame c p act r f a s) := by unfold resolveFrame; (repeat' split) <;> simp
@[simp] theorem pipeline_steady (c f a s) : Steady s (pipeline c f a s) := by unfold pipeline; dsimp only; (repeat' split) <;> simp
@[simp] theorem controlIn_steady (c f s) : Steady s (controlIn c f s) := by simp [controlIn]
@[simp] theorem execFrameReceived_completes (c f x a s) : Completes s (execFrameReceived c f x a s) := by
  unfold execFrameReceived; (repeat' split) <;> simp
@[simp] theorem setTxnFail_steady (q sub reason op mate s) : Steady s (setTxnFail q sub reason op mate s) := by simp [setTxnFail]
@[simp] theorem tableWrite_steady (q d s) : Steady s (tableWrite q d s).st := by unfold tableWrite; dsimp only; (repeat' split) <;> simp [Res.of]
@[simp] theorem execTableWrite_completes (q d s) : Completes s (execTableWrite q d s) := by simp [execTableWrite]
@[simp] theorem tableReadReq_steady (q d s) : Steady s (tableReadReq q d s).st := by
  unfold tableReadReq; dsimp only; (repeat' split) <;> simp [Res.of]
@[simp] theorem execTableReadReq_completes (q d s) : Completes s (execTableReadReq q d s) := by simp [execTableReadReq]
@[simp] theorem meterReadReq_steady (q n s) : Steady s (meterReadReq q n s).st := by unfold meterReadReq; (repeat' split) <;> simp [Res.of]
@[simp] theorem execMeterReadReq_completes (q n s) : Completes s (execMeterReadReq q n s) := by simp [execMeterReadReq]
@[simp] theorem execEpochDrainComplete_completes (s) : Completes s (execEpochDrainComplete s) := by simp [execEpochDrainComplete]

/-! #### Fabric, buffers and egress -/

@[simp] theorem crossInto_steady (room et s) : Steady s (crossInto room et s) := by unfold crossInto; (repeat' split) <;> simp
@[simp] theorem execFabricDelivery_completes (et room s) : Completes s (execFabricDelivery et room s) := by simp [execFabricDelivery]
@[simp] theorem execFabricWaitExpiry_completes (it et s) : Completes s (execFabricWaitExpiry it et s) := by
  unfold execFabricWaitExpiry; (repeat' split) <;> simp
@[simp] theorem execOnDieResidenceExpiry_completes (c q s) : Completes s (execOnDieResidenceExpiry c q s) := by simp [execOnDieResidenceExpiry]
@[simp] theorem execOvfStacksAwake_completes (s) : Completes s (execOvfStacksAwake s) := by simp [execOvfStacksAwake]
@[simp] theorem ageTail_steady (s n) : Steady s (ageTail s n) := by simp [ageTail]
@[simp] theorem execOvfAgeingTick_completes (s) : Completes s (execOvfAgeingTick s) := by simp [execOvfAgeingTick]
@[simp] theorem execOvfReturn_completes (c q bad s) : Completes s (execOvfReturn c q bad s) := by unfold execOvfReturn; (repeat' split) <;> simp
@[simp] theorem execOvfIdleClose_completes (s) : Completes s (execOvfIdleClose s) := by simp [execOvfIdleClose]
@[simp] theorem ovfFail_steady (s) : Steady s (ovfFail s) := by simp [ovfFail]
@[simp] theorem execOvfStackFailure_completes (s) : Completes s (execOvfStackFailure s) := by unfold execOvfStackFailure; (repeat' split) <;> simp
@[simp] theorem execOvfRetestComplete_completes (pass s) : Completes s (execOvfRetestComplete pass s) := by simp [execOvfRetestComplete]
@[simp] theorem ovfRetry_steady (v s) : Steady s (ovfRetry v s).st := by simp [ovfRetry, Res.of]
@[simp] theorem execOvfRetry_completes (q v s) : Completes s (execOvfRetry q v s) := by simp [execOvfRetry]
@[simp] theorem sending_steady (c q t len s) : Steady s (sending c q t len s) := by simp [sending]
@[simp] theorem transit_steady (c k f t s) : Steady s (transit c k f t s).2 := by
  unfold transit; dsimp only; (repeat' split) <;> simp
@[simp] theorem egressMirror_steady (c k f s) : Steady s (egressMirror c k f s) := by unfold egressMirror; (repeat' split) <;> simp
@[simp] theorem nextPn_steady (c s) : Steady s (nextPn c s) := by simp [nextPn]
@[simp] theorem sendFrame_steady (c q t k f stamp s) : Steady s (sendFrame c q t k f stamp s) := by simp [sendFrame]
@[simp] theorem egressSelect_steady (c o t s) : Steady s (egressSelect c o t s) := by
  unfold egressSelect; dsimp only
  have h := choose_steady c ((domOf (gateDom c (gateTrim c s)) (gateTrim c s)).counter.lsb + o) (gateTrim c s)
  (repeat' split) <;> simp_all
@[simp] theorem execEgressSelect_completes (c off stamp s) : Completes s (execEgressSelect c off stamp s) := by simp [execEgressSelect]
@[simp] theorem execShaperRefill_completes (s) : Completes s (execShaperRefill s) := by simp [execShaperRefill]
@[simp] theorem forgive_steady (v s c) : Steady s (forgive v s c) := by simp [forgive]
@[simp] theorem shaperForgive_steady (sub v s) : Steady s (shaperForgive sub v s).st := by unfold shaperForgive; (repeat' split) <;> simp [Res.of]
@[simp] theorem execShaperForgive_completes (q sub v s) : Completes s (execShaperForgive q sub v s) := by simp [execShaperForgive]
@[simp] theorem execGateEntryChange_completes (c s) : Completes s (execGateEntryChange c s) := by simp [execGateEntryChange]
@[simp] theorem execGateListStart_completes (c s) : Completes s (execGateListStart c s) := by simp [execGateListStart]

/-! #### The mated pair -/

@[simp] theorem pairSealed_steady (x ok s) (h : ∀ u, Steady u (ok u)) : Steady s (pairSealed x ok s) := by
  unfold pairSealed; (repeat' split) <;> simp [h]
@[simp] theorem nextSeq_steady (s) : Steady s (nextSeq s).2 := by simp [nextSeq]
@[simp] theorem sendPair_steady (f s) : Steady s (sendPair f s) := by unfold sendPair; (repeat' split) <;> simp
@[simp] theorem roleSettle_steady (s) : Steady s (roleSettle s) := by simp [roleSettle]
@[simp] theorem resyncGo_steady (s) : Steady s (resyncGo s) := by simp [resyncGo]
@[simp] theorem resynchronise_steady (mateDiverged s) : Steady s (resynchronise mateDiverged s) := by simp [resynchronise]
@[simp] theorem sendCkpt_steady (s) : Steady s (sendCkpt s) := by unfold sendCkpt; dsimp only; (repeat' split) <;> simp
@[simp] theorem becomeActive_steady (epoch s) : Steady s (becomeActive epoch s) := by unfold becomeActive; dsimp only; (repeat' split) <;> simp
@[simp] theorem takeover_steady (epoch s) : Steady s (takeover epoch s) := by simp [takeover]
@[simp] theorem startHandover_steady (req stop s) : Steady s (startHandover req stop s) := by simp [startHandover]
@[simp] theorem handoverNow_steady (h s) : Steady s (handoverNow h s) := by unfold handoverNow; (repeat' split) <;> simp
@[simp] theorem sendArb_steady (s) : Steady s (sendArb s) := by simp [sendArb]
@[simp] theorem arbitrate_steady (s) : Steady s (arbitrate s) := by simp [arbitrate]
@[simp] theorem mateGone_steady (s) : Steady s (mateGone s) := by unfold mateGone; dsimp only; (repeat' split) <;> simp
@[simp] theorem mateBeat_steady (s) : Steady s (mateBeat s) := by simp [mateBeat]
@[simp] theorem mateGleno_steady (g s) : Steady s (mateGleno g s) := by simp [mateGleno]
@[simp] theorem pairComplete_steady (i s) : Steady s (pairComplete i s) := by simp [pairComplete]

/-! #### The pair records -/

@[simp] theorem execPairingTimeout_completes (s) : Completes s (execPairingTimeout s) := by simp [execPairingTimeout]
@[simp] theorem execPairingRetry_completes (s) : Completes s (execPairingRetry s) := by simp [execPairingRetry]
@[simp] theorem execPairSessionRenew_completes (s) : Completes s (execPairSessionRenew s) := by simp [execPairSessionRenew]
@[simp] theorem execShroudHelloSend_completes (s) : Completes s (execShroudHelloSend s) := by simp [execShroudHelloSend]
@[simp] theorem execShroudHelloReceived_completes (j serial addr lnk vmax vmin s) : Completes s (execShroudHelloReceived j serial addr lnk vmax vmin s) := by
  simp [execShroudHelloReceived]
@[simp] theorem execShroudHeartbeatSend_completes (s) : Completes s (execShroudHeartbeatSend s) := by
  unfold execShroudHeartbeatSend; (repeat' split) <;> simp
@[simp] theorem beatTaken_steady (j h s) : Steady s (beatTaken j h s) := by simp [beatTaken]
@[simp] theorem execShroudHeartbeatReceived_completes (j x h s) : Completes s (execShroudHeartbeatReceived j x h s) := by
  simp [execShroudHeartbeatReceived]
@[simp] theorem execShroudHeartbeatLost_completes (s) : Completes s (execShroudHeartbeatLost s) := by simp [execShroudHeartbeatLost]
@[simp] theorem glenoLost_steady (s) : Steady s (glenoLost s) := by simp [glenoLost]
@[simp] theorem execGlenoHeartbeatLost_completes (s) : Completes s (execGlenoHeartbeatLost s) := by simp [execGlenoHeartbeatLost]
@[simp] theorem execArbitrationAnswer_completes (grant epoch s) : Completes s (execArbitrationAnswer grant epoch s) := by simp [execArbitrationAnswer]
@[simp] theorem execArbitrationRetry_completes (s) : Completes s (execArbitrationRetry s) := by simp [execArbitrationRetry]
@[simp] theorem execArbTimeoutExpiry_completes (s) : Completes s (execArbTimeoutExpiry s) := by simp [execArbTimeoutExpiry]
@[simp] theorem execSilenceHoldoffExpiry_completes (s) : Completes s (execSilenceHoldoffExpiry s) := by simp [execSilenceHoldoffExpiry]
@[simp] theorem execShroudTimeSyncSend_completes (t1 s) : Completes s (execShroudTimeSyncSend t1 s) := by
  unfold execShroudTimeSyncSend; (repeat' split) <;> simp
@[simp] theorem execShroudSyncReceived_completes (j x ex flags t1 dba t2 t3 s) : Completes s (execShroudSyncReceived j x ex flags t1 dba t2 t3 s) := by
  simp [execShroudSyncReceived]
@[simp] theorem execShroudRequestReceived_completes (j x ex t4 s) : Completes s (execShroudRequestReceived j x ex t4 s) := by
  simp [execShroudRequestReceived]
@[simp] theorem shroudOffsets_steady (e t4 s) : Steady s (shroudOffsets e t4 s) := by simp [shroudOffsets]
@[simp] theorem execShroudAnswerReceived_completes (j x ex fl same t s) : Completes s (execShroudAnswerReceived j x ex fl same t s) := by
  unfold execShroudAnswerReceived; split
  · simp
  · exact (completes_next _ _).2 (pairSealed_steady _ _ _ fun u => by dsimp only; (repeat' split) <;> simp)
@[simp] theorem execCheckpointSend_completes (s) : Completes s (execCheckpointSend s) := by simp [execCheckpointSend]
@[simp] theorem ckptTaken_steady (b s) : Steady s (ckptTaken b s) := by simp [ckptTaken]
@[simp] theorem execCheckpointReceived_completes (x b s) : Completes s (execCheckpointReceived x b s) := by simp [execCheckpointReceived]
@[simp] theorem replicaTaken_steady (c body a s) : Steady s (replicaTaken c body a s) := by simp [replicaTaken]
@[simp] theorem execReplicaReceived_completes (j body a s) : Completes s (execReplicaReceived j body a s) := by
  unfold execReplicaReceived; (repeat' split) <;> simp
@[simp] theorem execStreamResetTimeout_completes (n s) : Completes s (execStreamResetTimeout n s) := by simp [execStreamResetTimeout]
@[simp] theorem execStreamReadReq_completes (q n s) : Completes s (execStreamReadReq q n s) := by simp [execStreamReadReq, Res.of]
@[simp] theorem roleSwap_steady (q v s) : Steady s (roleSwap q v s).st := by unfold roleSwap; (repeat' split) <;> simp [Res.of]
@[simp] theorem execRoleSwap_completes (q v s) : Completes s (execRoleSwap q v s) := by simp [execRoleSwap]
@[simp] theorem execHandoverNoticeReceived_completes (x n s) : Completes s (execHandoverNoticeReceived x n s) := by simp [execHandoverNoticeReceived]
@[simp] theorem execHandoverConfirmed_completes (x s) : Completes s (execHandoverConfirmed x s) := by simp [execHandoverConfirmed]
@[simp] theorem execHandoverConfirmTimeout_completes (s) : Completes s (execHandoverConfirmTimeout s) := by
  unfold execHandoverConfirmTimeout; (repeat' split) <;> simp
@[simp] theorem execHandoverSecondN_completes (s) : Completes s (execHandoverSecondN s) := by unfold execHandoverSecondN; (repeat' split) <;> simp
@[simp] theorem pairResync_steady (v s) : Steady s (pairResync v s).st := by unfold pairResync; (repeat' split) <;> simp [Res.of]
@[simp] theorem execPairResync_completes (q v s) : Completes s (execPairResync q v s) := by simp [execPairResync]
@[simp] theorem execWitnessRegister_completes (q v s) : Completes s (execWitnessRegister q v s) := by simp [execWitnessRegister, Res.of]

/-! #### Sessions -/

@[simp] theorem requestThen_steady (need q go check act s) (h : ∀ u, Steady u (act u)) : Steady s (requestThen need q go check act s) := by
  unfold requestThen; dsimp only; split <;> simp [h, Res.of]
@[simp] theorem unpair_steady (s) : Steady s (unpair s) := by simp [unpair]
@[simp] theorem checked_steady (s) : Steady s (checked s) := by simp [checked]
@[simp] theorem recheckSessions_steady (s) : Steady s (recheckSessions s) := by simp [recheckSessions]

/-! #### The island -/

@[simp] theorem updTrust_trust (f s) : (updTrust f s).trust = f s.trust := rfl
@[simp] theorem tamperAlarm_steady (a cls s) : Steady s (tamperAlarm a cls s) := by simp [tamperAlarm]
@[simp] theorem tamperLock_steady (s) : Steady s (tamperLock s) := by simp [tamperLock]
@[simp] theorem tamperAck_steady (v s) : Steady s (tamperAck v s).st := by unfold tamperAck; (repeat' split) <;> simp [Res.of]
@[simp] theorem execTamperAck_completes (q v s) : Completes s (execTamperAck q v s) := by simp [execTamperAck]
@[simp] theorem ldevGenerate_steady (q v s) : Steady s (ldevGenerate q v s).st := by unfold ldevGenerate; (repeat' split) <;> simp [Res.of]
@[simp] theorem execLdevidGenerate_completes (q v s) : Completes s (execLdevidGenerate q v s) := by simp [execLdevidGenerate]
@[simp] theorem execLdevidGenerated_completes (s) : Completes s (execLdevidGenerated s) := by unfold execLdevidGenerated; (repeat' split) <;> simp
@[simp] theorem attestRequest_steady (q v e s) : Steady s (attestRequest q v e s).st := by
  unfold attestRequest; dsimp only; (repeat' split) <;> simp [Res.of]
@[simp] theorem execAttestRequest_completes (q v s) : Completes s (execAttestRequest q v s) := by simp [execAttestRequest]
@[simp] theorem execAttestReportReady_completes (n s) : Completes s (execAttestReportReady n s) := by
  unfold execAttestReportReady; (repeat' split) <;> simp
@[simp] theorem endService_steady (s) : Steady s (endService s) := by simp [endService]
@[simp] theorem serviceOpen_steady (m s) : Steady s (serviceOpen m s).st := by unfold serviceOpen; (repeat' split) <;> simp [Res.of]
@[simp] theorem execServiceOpen_completes (q m s) : Completes s (execServiceOpen q m s) := by simp [execServiceOpen]
@[simp] theorem execServiceExpiry_completes (s) : Completes s (execServiceExpiry s) := by unfold execServiceExpiry; (repeat' split) <;> simp
@[simp] theorem execEntropyFault_completes (s) : Completes s (execEntropyFault s) := by simp [execEntropyFault]
@[simp] theorem execEntropyRetest_completes (pass s) : Completes s (execEntropyRetest pass s) := by simp [execEntropyRetest]
@[simp] theorem execIslandClockSet_completes (s) : Completes s (execIslandClockSet s) := by simp [execIslandClockSet]
@[simp] theorem noPeer_steady (c s) : Steady s (noPeer c s) := by simp [noPeer]
@[simp] theorem mkaLive_steady (c m s) : Steady s (mkaLive c m s) := by unfold mkaLive; (repeat' split) <;> simp
@[simp] theorem execMkaPduReceived_completes (c m s) : Completes s (execMkaPduReceived c m s) := by simp [execMkaPduReceived]
@[simp] theorem execMkaHelloSend_completes (s) : Completes s (execMkaHelloSend s) := by simp [execMkaHelloSend]
@[simp] theorem execMkaPeerTimeout_completes (c s) : Completes s (execMkaPeerTimeout c s) := by simp [execMkaPeerTimeout]
@[simp] theorem cakWrite_steady (sub v s) : Steady s (cakWrite sub v s).st := by unfold cakWrite; dsimp only; (repeat' split) <;> simp [Res.of]
@[simp] theorem execMacsecCakWrite_completes (q sub v s) : Completes s (execMacsecCakWrite q sub v s) := by simp [execMacsecCakWrite]
@[simp] theorem rekeyOne_steady (s c) : Steady s (rekeyOne s c) := by simp [rekeyOne]
@[simp] theorem rekeyWrite_steady (sub v s) : Steady s (rekeyWrite sub v s).st := by unfold rekeyWrite; (repeat' split) <;> simp [Res.of]
@[simp] theorem execMacsecRekey_completes (q sub v s) : Completes s (execMacsecRekey q sub v s) := by simp [execMacsecRekey]
@[simp] theorem keyWrite_steady (sub v s) : Steady s (keyWrite sub v s).st := by unfold keyWrite; dsimp only; (repeat' split) <;> simp [Res.of]
@[simp] theorem execHalyardKeyWrite_completes (q sub v s) : Completes s (execHalyardKeyWrite q sub v s) := by simp [execHalyardKeyWrite]
@[simp] theorem execHalyardKeyRollover_completes (s) : Completes s (execHalyardKeyRollover s) := by simp [execHalyardKeyRollover]

/-! #### Firmware update -/

@[simp] theorem downloadInit_steady (q len e s) : Steady s (downloadInit q len e s).st := by unfold downloadInit; (repeat' split) <;> simp [Res.of]
@[simp] theorem execUpdateDownloadInitiate_completes (q len s) : Completes s (execUpdateDownloadInitiate q len s) := by
  simp [execUpdateDownloadInitiate]
@[simp] theorem execImageVerified_completes (v s) : Completes s (execImageVerified v s) := by unfold execImageVerified; (repeat' split) <;> simp
@[simp] theorem armRes_steady (s) : Steady s (armRes s).st := by unfold armRes; (repeat' split) <;> simp [Res.of]
@[simp] theorem execUpdateArm_completes (q s) : Completes s (execUpdateArm q s) := by simp [execUpdateArm]
@[simp] theorem disarm_steady (s) : Steady s (disarm s).st := by unfold disarm; (repeat' split) <;> simp [Res.of]
@[simp] theorem execUpdateDisarm_completes (q s) : Completes s (execUpdateDisarm q s) := by simp [execUpdateDisarm]
@[simp] theorem execUpdateReject_completes (q s) : Completes s (execUpdateReject q s) := by simp [execUpdateReject]
@[simp] theorem discard_steady (v s) : Steady s (discard v s).st := by unfold discard; (repeat' split) <;> simp [Res.of]
@[simp] theorem execUpdateDiscard_completes (q v s) : Completes s (execUpdateDiscard q v s) := by simp [execUpdateDiscard]
@[simp] theorem bootRuns_steady (r s) : Steady s (bootRuns r s) := by simp [bootRuns]
@[simp] theorem bootCopies_steady (on s) : Steady s (bootCopies on s) := by simp [bootCopies]
@[simp] theorem bootRevert_steady (vR vS s) : Steady s (bootRevert vR vS s) := by simp [bootRevert]
@[simp] theorem bootActive_steady (vA vR vS s) : Steady s (bootActive vA vR vS s) := by simp [bootActive]
@[simp] theorem bootRom_steady (vA vR vS s) : Steady s (bootRom vA vR vS s) := by simp [bootRom]
@[simp] theorem execFlashCopyBlock_completes (s) : Completes s (execFlashCopyBlock s) := by simp [execFlashCopyBlock]
@[simp] theorem deferRefresh_steady (s) : Steady s (deferRefresh s) := by simp [deferRefresh]
@[simp] theorem execReserveRefreshBlock_completes (s) : Completes s (execReserveRefreshBlock s) := by simp [execReserveRefreshBlock]
@[simp] theorem execBootRomRetry_completes (vA vR vS s) : Completes s (execBootRomRetry vA vR vS s) := by simp [execBootRomRetry]

/-! #### Counters, alarms, sampling -/

@[simp] theorem clearCell_steady (n s) : Steady s (clearCell n s) := by unfold clearCell; (repeat' split) <;> simp
@[simp] theorem ctrSnapRequest_steady (q f n clear e s) : Steady s (ctrSnapRequest q f n clear e s).st := by
  unfold ctrSnapRequest; dsimp only; (repeat' split) <;> simp [Res.of]
@[simp] theorem execCtrSnapRequest_completes (q f n flags s) : Completes s (execCtrSnapRequest q f n flags s) := by simp [execCtrSnapRequest]
@[simp] theorem sweepEdge_steady (k n c s) : Steady s (sweepEdge k n c s) := by simp [sweepEdge]
@[simp] theorem sweepTick_steady (s) : Steady s (sweepTick s) := by unfold sweepTick; (repeat' split) <;> simp
@[simp] theorem idle_steady (s) : Steady s (idle s) := by simp [idle]
@[simp] theorem execCounterSweepStart_completes (k s) : Completes s (execCounterSweepStart k s) := by
  unfold execCounterSweepStart; (repeat' split) <;> simp
@[simp] theorem execCounterSweepComplete_completes (s) : Completes s (execCounterSweepComplete s) := by
  unfold execCounterSweepComplete; (repeat' split) <;> simp
@[simp] theorem execCtrSnapRelease_completes (q k s) : Completes s (execCtrSnapRelease q k s) := by
  unfold execCtrSnapRelease; (repeat' split) <;> simp [Res.of]
@[simp] theorem endEvents_steady (f s) : Steady s (endEvents f s) := by simp [endEvents]
@[simp] theorem execAlarmAck_completes (q code s) : Completes s (execAlarmAck q code s) := by simp [execAlarmAck, Res.of]
@[simp] theorem execAlarmHoldExpiry_completes (a inst s) : Completes s (execAlarmHoldExpiry a inst s) := by simp [execAlarmHoldExpiry]
@[simp] theorem flushEvents_steady (s) : Steady s (flushEvents s) := by simp [flushEvents]
@[simp] theorem execEventLogFlush_completes (s) : Completes s (execEventLogFlush s) := by simp [execEventLogFlush]
@[simp] theorem sampleStart_steady (s) : Steady s (sampleStart s).st := by unfold sampleStart; (repeat' split) <;> simp [Res.of]
@[simp] theorem execSampleStart_completes (q s) : Completes s (execSampleStart q s) := by simp [execSampleStart]
@[simp] theorem execSampleStop_completes (q s) : Completes s (execSampleStop q s) := by simp [execSampleStop, Res.of]
@[simp] theorem execSampleDurationExpiry_completes (s) : Completes s (execSampleDurationExpiry s) := by simp [execSampleDurationExpiry]
@[simp] theorem execInstructionSample_completes (e flags pc data latency stall interval s) : Completes s (execInstructionSample e flags pc data latency stall interval s) := by
  unfold execInstructionSample; (repeat' split) <;> simp
@[simp] theorem putProg_steady (p v s) : Steady s (putProg p v s) := by simp [putProg]
@[simp] theorem progSelect_steady (sub v s) : Steady s (progSelect sub v s).st := by unfold progSelect; (repeat' split) <;> simp [Res.of]
@[simp] theorem execProgSelect_completes (q sub v s) : Completes s (execProgSelect q sub v s) := by simp [execProgSelect]

/-! #### The reef controller -/

@[simp] theorem furlTo_steady (target s) : Steady s (furlTo target s) := by simp [furlTo]
@[simp] theorem levelStops_steady (s) : Steady s (levelStops s) := by unfold levelStops; (repeat' split) <;> simp
@[simp] theorem riseOne_steady (s) : Steady s (riseOne s) := by simp [riseOne]
@[simp] theorem riseTo_steady (n s) : Steady s (riseTo n s) := by simp [riseTo]
@[simp] theorem floorAlarm_steady (s) : Steady s (floorAlarm s) := by simp [floorAlarm]
@[simp] theorem noteRefused_steady (a s) : Steady s (noteRefused a s) := by unfold noteRefused; (repeat' split) <;> simp
@[simp] theorem bringUpAlone_steady (c s) : Steady s (bringUpAlone c s) := by simp [bringUpAlone]
@[simp] theorem refusedAct_steady (w s) : Steady s (refusedAct w s) := by unfold refusedAct; (repeat' split) <;> simp
@[simp] theorem refuse_steady (w s) : Steady s (refuse w s) := by unfold refuse; (repeat' split) <;> simp
@[simp] theorem present_steady (w s) : Steady s (present w s) := by simp [present]
@[simp] theorem presentAsk_steady (a s) : Steady s (presentAsk a s) := by unfold presentAsk; (repeat' split) <;> simp
@[simp] theorem execReefRequest_completes (a s) : Completes s (execReefRequest a s) := by unfold execReefRequest; (repeat' split) <;> simp
@[simp] theorem execReefGrant_completes (s) : Completes s (execReefGrant s) := by unfold execReefGrant; (repeat' split) <;> simp
@[simp] theorem execRequestRetry_completes (a s) : Completes s (execRequestRetry a s) := by simp [execRequestRetry]
@[simp] theorem execBankRefusedAlarm_completes (t s) : Completes s (execBankRefusedAlarm t s) := by
  unfold execBankRefusedAlarm; (repeat' split) <;> simp
@[simp] theorem execLedgerEvaluation_completes (mv cur lowest s) : Completes s (execLedgerEvaluation mv cur lowest s) := by
  simp [execLedgerEvaluation]
@[simp] theorem execReefLevelFall_completes (s) : Completes s (execReefLevelFall s) := by simp [execReefLevelFall]
@[simp] theorem execUnderDeclaredDraw_completes (cur s) : Completes s (execUnderDeclaredDraw cur s) := by simp [execUnderDeclaredDraw]
@[simp] theorem execUnderDeclaredClear_completes (cur s) : Completes s (execUnderDeclaredClear cur s) := by simp [execUnderDeclaredClear]
@[simp] theorem execDieWarning_completes (die s) : Completes s (execDieWarning die s) := by simp [execDieWarning]
@[simp] theorem execDieWarningEnd_completes (s) : Completes s (execDieWarningEnd s) := by simp [execDieWarningEnd]
@[simp] theorem braceChan_steady (s c) : Steady s (braceChan s c) := by simp [braceChan]
@[simp] theorem braceBank_steady (s t) : Steady s (braceBank s t) := by unfold braceBank; (repeat' split) <;> simp
@[simp] theorem braceTile_steady (s t) : Steady s (braceTile s t) := by simp [braceTile]
@[simp] theorem dipRecord_steady (d s) : Steady s (dipRecord d s) := by simp [dipRecord]
@[simp] theorem execLevel4Entry_completes (lowest below s) : Completes s (execLevel4Entry lowest below s) := by simp [execLevel4Entry]
@[simp] theorem unbraceBank_steady (s t) : Steady s (unbraceBank s t) := by simp [unbraceBank]
@[simp] theorem unbraceTile_steady (s t) : Steady s (unbraceTile s t) := by simp [unbraceTile]
@[simp] theorem unbraceChan_steady (s c) : Steady s (unbraceChan s c) := by simp [unbraceChan]
@[simp] theorem takeLevel_steady (n s) : Steady s (takeLevel n s) := by simp [takeLevel]
@[simp] theorem execLevel4Exit_completes (mv lowest s) : Completes s (execLevel4Exit mv lowest s) := by simp [execLevel4Exit]
@[simp] theorem dipPop_steady (s) : Steady s (dipPop s) := by unfold dipPop; (repeat' split) <;> simp
@[simp] theorem execTileLightSleep_completes (t s) : Completes s (execTileLightSleep t s) := by simp [execTileLightSleep]
@[simp] theorem execTileLightWake_completes (t s) : Completes s (execTileLightWake t s) := by simp [execTileLightWake]
@[simp] theorem deepSleep_steady (t s) : Steady s (deepSleep t s) := by simp [deepSleep]
@[simp] theorem execTileDeepSleep_completes (t s) : Completes s (execTileDeepSleep t s) := by simp [execTileDeepSleep]
@[simp] theorem execTileDeepWake_completes (t s) : Completes s (execTileDeepWake t s) := by simp [execTileDeepWake]
@[simp] theorem execSliceSleep_completes (t s) : Completes s (execSliceSleep t s) := by simp [execSliceSleep]
@[simp] theorem execSliceWake_completes (t s) : Completes s (execSliceWake t s) := by simp [execSliceWake]
@[simp] theorem execSparClockStop_completes (e s) : Completes s (execSparClockStop e s) := by unfold execSparClockStop; (repeat' split) <;> simp

/-! #### Starting and stopping -/

@[simp] theorem saveSettings_steady (s) : Steady s (saveSettings s) := by simp [saveSettings]
@[simp] theorem takeOptic_steady (c s) : Steady s (takeOptic c s) := by simp [takeOptic]
@[simp] theorem freshBuckets_steady (c s) : Steady s (freshBuckets c s) := by simp [freshBuckets]
@[simp] theorem storedGate_steady (c s) : Steady s (storedGate c s) := by unfold storedGate; (repeat' split) <;> simp
@[simp] theorem takeSetting_steady (s k) : Steady s (takeSetting s k) := by unfold takeSetting; (repeat' split) <;> simp
@[simp] theorem takeSettings_steady (s) : Steady s (takeSettings s) := by simp [takeSettings]
@[simp] theorem storedLasers_steady (s) : Steady s (storedLasers s) := by simp [storedLasers]
@[simp] theorem keepPorts_steady (r s) : Steady s (keepPorts r s) := by simp [keepPorts]
@[simp] theorem clearFor_steady (cause s) : Steady s (clearFor cause s) := by unfold clearFor; (repeat' split) <;> simp
@[simp] theorem intoReset_steady (h cause s) : Steady s (intoReset h cause s) := by simp [intoReset]
@[simp] theorem execInletApplied_completes (mv reversed s) : Completes s (execInletApplied mv reversed s) := by simp [execInletApplied]
@[simp] theorem execInletRemoved_completes (s) : Completes s (execInletRemoved s) := by simp [execInletRemoved]
@[simp] theorem execResetNAsserted_completes (s) : Completes s (execResetNAsserted s) := by simp [execResetNAsserted]
@[simp] theorem execSupplyReset_completes (lowest below s) : Completes s (execSupplyReset lowest below s) := by simp [execSupplyReset]
@[simp] theorem execOverVoltageAlarm_completes (mv s) : Completes s (execOverVoltageAlarm mv s) := by simp [execOverVoltageAlarm]
@[simp] theorem execOverVoltageStop_completes (mv s) : Completes s (execOverVoltageStop mv s) := by simp [execOverVoltageStop]
@[simp] theorem testEngines_steady (p s) : Steady s (testEngines p s) := by
  unfold testEngines; exact foldl_steady _ _ _ fun s e => by (repeat' split) <;> simp
@[simp] theorem startTimeBase_steady (s) : Steady s (startTimeBase s) := by simp [startTimeBase]
@[simp] theorem strapFault_steady (s) : Steady s (strapFault s) := by simp [strapFault]
@[simp] theorem execAddressLatched_completes (s) : Completes s (execAddressLatched s) := by simp [execAddressLatched]
@[simp] theorem execStrapFault_completes (s) : Completes s (execStrapFault s) := by simp [execStrapFault]
@[simp] theorem execStrapChange_completes (straps s) : Completes s (execStrapChange straps s) := by simp [execStrapChange]
@[simp] theorem bookSpars_steady (s) : Steady s (bookSpars s) := by simp [bookSpars]
@[simp] theorem assignRoles_steady (s) : Steady s (assignRoles s) := by simp [assignRoles]
@[simp] theorem formatCheck_steady (s) : Steady s (formatCheck s) := by unfold formatCheck; (repeat' split) <;> simp
@[simp] theorem owedAlarms_steady (s) : Steady s (owedAlarms s) := by simp [owedAlarms]
@[simp] theorem factoryValues_steady (kind n s) : Steady s (factoryValues kind n s) := by unfold factoryValues; (repeat' split) <;> simp
@[simp] theorem loseRecord_steady (s k) : Steady s (loseRecord s k) := by simp [loseRecord]
@[simp] theorem execNymyxStarted_completes (l s) : Completes s (execNymyxStarted l s) := by
  unfold execNymyxStarted; split
  · simp
  · refine (completes_next _ _).2 ?_
    extract_lets s1 s2 g s3 s4 s5
    have h3 : Steady s s3 := by simp [s3, s2, s1]
    have h4 : Steady s3 s4 := by dsimp only [s4]; split <;> simp
    have h5 : Steady s4 s5 := by simp [s5]
    have h : Steady s s5 := (h3.trans h4).trans h5
    split
    · exact h.trans (by simp)
    · exact h
@[simp] theorem execStartDeadlineMissed_completes (stage s) : Completes s (execStartDeadlineMissed stage s) := by simp [execStartDeadlineMissed]
@[simp] theorem execOvenWarm_completes (s) : Completes s (execOvenWarm s) := by simp [execOvenWarm]
@[simp] theorem execStage7Reached_completes (s) : Completes s (execStage7Reached s) := by simp [execStage7Reached]
@[simp] theorem lightsOut_steady (s) : Steady s (lightsOut s) := by simp [lightsOut]
@[simp] theorem execLaserEnFall_completes (s) : Completes s (execLaserEnFall s) := by simp [execLaserEnFall]
@[simp] theorem execLaserEnQualified_completes (s) : Completes s (execLaserEnQualified s) := by simp [execLaserEnQualified]
@[simp] theorem execLaserRelease_completes (q v s) : Completes s (execLaserRelease q v s) := by simp [execLaserRelease, Res.of]
@[simp] theorem execStagingInstant_completes (s) : Completes s (execStagingInstant s) := by simp [execStagingInstant]
@[simp] theorem execReversedFlow_completes (s) : Completes s (execReversedFlow s) := by simp [execReversedFlow]
@[simp] theorem tilesDown_steady (s) : Steady s (tilesDown s) := by simp [tilesDown]
@[simp] theorem dropFrames_steady (s) : Steady s (dropFrames s) := by simp [dropFrames]
@[simp] theorem execThermalStop_completes (s) : Completes s (execThermalStop s) := by simp [execThermalStop]
@[simp] theorem execCellTest_completes (mv s) : Completes s (execCellTest mv s) := by simp [execCellTest]
@[simp] theorem warmSession_steady (s n) : Steady s (warmSession s n) := by simp [warmSession]
@[simp] theorem warmStart_steady (cause s) : Steady s (warmStart cause s) := by simp [warmStart]
@[simp] theorem coldRestart_steady (s) : Steady s (coldRestart s) := by simp [coldRestart]
@[simp] theorem restartAct_steady (q v s) : Steady s (restartAct q v s) := by simp [restartAct]
@[simp] theorem restart_steady (q v s) : Steady s (restart q v s) := by simp [restart]
@[simp] theorem execRestartWarm_completes (q s) : Completes s (execRestartWarm q s) := by simp [execRestartWarm]
@[simp] theorem execRestartCold_completes (q v s) : Completes s (execRestartCold q v s) := by simp [execRestartCold]
@[simp] theorem execUpdateArmRestart_completes (q s) : Completes s (execUpdateArmRestart q s) := by simp [execUpdateArmRestart]
@[simp] theorem execNymyxFatalFault_completes (s) : Completes s (execNymyxFatalFault s) := by simp [execNymyxFatalFault]
@[simp] theorem drainWarm_steady (s) : Steady s (drainWarm s) := by simp [drainWarm]
@[simp] theorem execWarmStartComplete_completes (v s) : Completes s (execWarmStartComplete v s) := by simp [execWarmStartComplete]
@[simp] theorem execWarmStartTimeout_completes (s) : Completes s (execWarmStartTimeout s) := by simp [execWarmStartTimeout]
@[simp] theorem stopAct_steady (q v s) : Steady s (stopAct q v s) := by simp [stopAct]
@[simp] theorem stop_steady (q v s) : Steady s (stop q v s) := by simp [stop]
@[simp] theorem execStopOrderly_completes (q s) : Completes s (execStopOrderly q s) := by simp [execStopOrderly]
@[simp] theorem execStopNoHandover_completes (q s) : Completes s (execStopNoHandover q s) := by simp [execStopNoHandover]
@[simp] theorem execShutdownFlushTimeout_completes (s) : Completes s (execShutdownFlushTimeout s) := by simp [execShutdownFlushTimeout]
@[simp] theorem flushAll_steady (s) : Steady s (flushAll s) := by simp [flushAll]
@[simp] theorem shutDown_steady (s) : Steady s (shutDown s) := by
  unfold shutDown; simp only [Steady, updPower_frame, updLife_frame]
  exact Steady.trans (by simp) (foldl_steady _ _ _ fun s e => by (repeat' split) <;> simp)
@[simp] theorem execShutdownComplete_completes (s) : Completes s (execShutdownComplete s) := by simp [execShutdownComplete]
@[simp] theorem roleLost_steady (r s) : Steady s (roleLost r s) := by unfold roleLost; (repeat' split) <;> simp
@[simp] theorem execSparEngineFailure_completes (e s) : Completes s (execSparEngineFailure e s) := by
  unfold execSparEngineFailure; dsimp only; (repeat' split) <;> simp
@[simp] theorem execRoleMigrationResumed_completes (e s) : Completes s (execRoleMigrationResumed e s) := by
  unfold execRoleMigrationResumed; (repeat' split) <;> simp

/-! #### Effects of values -/

@[simp] theorem takePin_steady (c s) : Steady s (takePin c s) := by simp [takePin]
@[simp] theorem takeEnable_steady (c s) : Steady s (takeEnable c s) := by unfold takeEnable; (repeat' split) <;> simp
@[simp] theorem takeEq_steady (c s) : Steady s (takeEq c s) := by simp [takeEq]
@[simp] theorem takeDet_steady (d s) : Steady s (takeDet d s) := by simp [takeDet]
@[simp] theorem takeEu_steady (u r s) : Steady s (takeEu u r s) := by simp [takeEu]
@[simp] theorem takeShapers_steady (c s) : Steady s (takeShapers c s) := by simp [takeShapers]
@[simp] theorem takeGate_steady (c a l r s) : Steady s (takeGate c a l r s) := by unfold takeGate; (repeat' split) <;> simp
@[simp] theorem takePairEnable_steady (r s) : Steady s (takePairEnable r s) := by simp [takePairEnable]
@[simp] theorem takeShroud_steady (j r s) : Steady s (takeShroud j r s) := by simp [takeShroud]
@[simp] theorem takeMacsec_steady (t s) : Steady s (takeMacsec t s) := by simp [takeMacsec]
@[simp] theorem takeLdev_steady (s) : Steady s (takeLdev s) := by simp [takeLdev]
@[simp] theorem valueEffect_steady (a l r s k) : Steady s (valueEffect a l r s k) := by unfold valueEffect; (repeat' split) <;> simp
@[simp] theorem applyTables_steady (l s) : Steady s (applyTables l s) := by simp [applyTables]

/-! #### Registers -/

@[simp] theorem guardUsed_steady (base hold s) : Steady s (guardUsed base hold s) := by simp [guardUsed]
@[simp] theorem refuseGuarded_steady (base s) : Steady s (refuseGuarded base s) := by simp [refuseGuarded]
@[simp] theorem guardWrite_steady (base sess v s) : Steady s (guardWrite base sess v s).st := by
  unfold guardWrite; dsimp only; (repeat' split) <;> simp [Res.of]
@[simp] theorem latch_steady (p sess s) : Steady s (latch p sess s) := by simp [latch]
@[simp] theorem clearRead_steady (p s) : Steady s (clearRead p s) := by unfold clearRead; (repeat' split) <;> simp
@[simp] theorem regRead_steady (n a s) : Steady s (regRead n a s).1 := by
  unfold regRead; dsimp only; (repeat' split) <;> simp
@[simp] theorem orRefused_steady (r) : Steady r.st (orRefused r) := by unfold orRefused; split <;> simp
@[simp] theorem timeBaseCtl_steady (v s) : Steady s (timeBaseCtl v s) := by simp [timeBaseCtl]
@[simp] theorem timeBasePut_steady (o v s) : Steady s (timeBasePut o v s) := by simp [timeBasePut]
@[simp] theorem widePut_steady (o n s) : Steady s (widePut o n s) := by simp [widePut]
@[simp] theorem euPut_steady (u v s) : Steady s (euPut u v s) := by simp [euPut]
@[simp] theorem vernierPut_steady (o v s) : Steady s (vernierPut o v s) := by simp [vernierPut]
@[simp] theorem testPut_steady (c v s) : Steady s (testPut c v s).st := by unfold testPut; dsimp only; (repeat' split) <;> simp [Res.of]
@[simp] theorem modesPut_steady (c v s) : Steady s (modesPut c v s) := by simp [modesPut]
@[simp] theorem plainPut_steady (p v s) : Steady s (plainPut p v s).st := by unfold plainPut; (repeat' split) <;> simp [Res.of]
@[simp] theorem maskedPut_steady (a v s) : Steady s (maskedPut a v s) := by simp [maskedPut]
@[simp] theorem lowPut_steady (p a sess words hold v s) : Steady s (lowPut p a sess words hold v s).st := by
  unfold lowPut; (repeat' split) <;> simp [Res.of]
@[simp] theorem fieldWrite_steady (p a sess hold v s) : Steady s (fieldWrite p a sess hold v s).st := by
  unfold fieldWrite; dsimp only; (repeat' split) <;> simp [Res.of]
@[simp] theorem windowWrite_steady (p sess hold v s) : Steady s (windowWrite p sess hold v s).st := by
  unfold windowWrite; dsimp only; (repeat' split) <;> simp [Res.of]
@[simp] theorem regWrite_steady (sess a hold v s) : Steady s (regWrite sess a hold v s).st := by unfold regWrite; (repeat' split) <;> simp [Res.of]
@[simp] theorem afterAccess_steady (sess st s) : Steady s (afterAccess sess st s) := by simp [afterAccess]
@[simp] theorem dataWrite_steady (q v e s) : Steady s (dataWrite q v e s).st := by simp [dataWrite, Res.of]
@[simp] theorem dataRead_steady (q e s) : Steady s (dataRead q e s).st := by simp [dataRead]
@[simp] theorem blockRead_steady (q n a s) : Steady s (blockRead q n a s).1 := by
  induction n generalizing a s with
  | zero => simp [blockRead]
  | succ n ih => unfold blockRead; dsimp only; split <;> simp [ih]
@[simp] theorem blockContent_steady (q e s) : Steady s (blockContent q e s).1 := by simp [blockContent]
@[simp] theorem blockPut_steady (q l a s) : Steady s (blockPut q l a s).1 := by
  fun_induction blockPut q l a s with
  | case1 b0 b1 b2 b3 t a s r h => exact regWrite_steady ..
  | case2 b0 b1 b2 b3 t a s r h x ih =>
    have := regWrite_steady q a true (BitVec.ofNat 32 (leNat [b0, b1, b2, b3])) s
    simp_all [x, r]
  | case3 => simp
@[simp] theorem closeGuards_steady (q n a s) : Steady s (closeGuards q n a s) := by
  induction n generalizing a s with
  | zero => simp [closeGuards]
  | succ n ih => unfold closeGuards; dsimp only; (repeat' split) <;> simp [ih]
@[simp] theorem blockWrite_steady (sess d e s) : Steady s (blockWrite sess d e s).st := by simp [blockWrite, Res.of]
@[simp] theorem landCtl_steady (c v s) : Steady s (landCtl c v s) := by simp [landCtl]
@[simp] theorem landTaps_steady (c k v s) : Steady s (landTaps c k v s) := by simp [landTaps]
@[simp] theorem landForce_steady (t j v s) : Steady s (landForce t j v s) := by unfold landForce; (repeat' split) <;> simp
@[simp] theorem landSteer_steady (v s) : Steady s (landSteer v s) := by simp [landSteer]
@[simp] theorem land_steady (w s) : Steady s (land w s) := by unfold land; (repeat' split) <;> simp
@[simp] theorem execRegisterWrite_completes (q v s) : Completes s (execRegisterWrite q v s) := by simp [execRegisterWrite]
@[simp] theorem execMaskedWrite_completes (q mask payload s) : Completes s (execMaskedWrite q mask payload s) := by simp [execMaskedWrite]
@[simp] theorem execPostedWrite_completes (q v s) : Completes s (execPostedWrite q v s) := by simp [execPostedWrite]
@[simp] theorem execPostedWriteLanded_completes (base s) : Completes s (execPostedWriteLanded base s) := by
  unfold execPostedWriteLanded; (repeat' split) <;> simp
@[simp] theorem execPostedWriteDropped_completes (base s) : Completes s (execPostedWriteDropped base s) := by
  unfold execPostedWriteDropped; (repeat' split) <;> simp
@[simp] theorem execRcFieldRead_completes (q s) : Completes s (execRcFieldRead q s) := by simp [execRcFieldRead]
@[simp] theorem execWideReadLatch_completes (q s) : Completes s (execWideReadLatch q s) := by simp [execWideReadLatch]
@[simp] theorem execWideUpperWrite_completes (q v s) : Completes s (execWideUpperWrite q v s) := by simp [execWideUpperWrite, Res.of]
@[simp] theorem execWideLowWrite_completes (q v s) : Completes s (execWideLowWrite q v s) := by simp [execWideLowWrite]
@[simp] theorem execGuardUnlock_completes (q s) : Completes s (execGuardUnlock q s) := by simp [execGuardUnlock]
@[simp] theorem execGuardLock_completes (q s) : Completes s (execGuardLock q s) := by simp [execGuardLock]
@[simp] theorem execGuardWrongKey_completes (q v s) : Completes s (execGuardWrongKey q v s) := by simp [execGuardWrongKey]
@[simp] theorem execGuardTimeout_completes (base s) : Completes s (execGuardTimeout base s) := by simp [execGuardTimeout]
@[simp] theorem execWindowWrite_completes (q v s) : Completes s (execWindowWrite q v s) := by simp [execWindowWrite]
@[simp] theorem execWindowRead_completes (q s) : Completes s (execWindowRead q s) := by simp [execWindowRead]

/-! #### Object reads -/

@[simp] theorem clearCount_steady (r sub s) : Steady s (clearCount r sub s) := by simp [clearCount]
@[simp] theorem readAct_steady (e r sub s) : Steady s (readAct e r sub s) := by simp [readAct]
@[simp] theorem readObj_steady (n e idx sub s) : Steady s (readObj n e idx sub s).st := by unfold readObj; (repeat' split) <;> simp [Res.of]

/-! #### Object writes -/

@[simp] theorem assetTagWrite_steady (v s) : Steady s (assetTagWrite v s).st := by unfold assetTagWrite; (repeat' split) <;> simp [Res.of]
@[simp] theorem warnWrite_steady (v s) : Steady s (warnWrite v s).st := by unfold warnWrite; (repeat' split) <;> simp [Res.of]
@[simp] theorem ovenSteer_steady (v s) : Steady s (ovenSteer v s).st := by unfold ovenSteer; (repeat' split) <;> simp [Res.of]
@[simp] theorem alarmMapWrite_steady (v s) : Steady s (alarmMapWrite v s) := by simp [alarmMapWrite]
@[simp] theorem localWrite_steady (n idx v s) : Steady s (localWrite n idx v s) := by simp [localWrite]
@[simp] theorem domainWrite_steady (d body s) (h : ∀ u, Steady u (body u).st) : Steady s (domainWrite d body s).st := by
  unfold domainWrite; split <;> simp [h, Res.of]
@[simp] theorem rwWrite_steady (q e r sub v s) : Steady s (rwWrite q e r sub v s).st := by
  unfold rwWrite; dsimp only; (repeat' split) <;> simp [Res.of]
@[simp] theorem groupDone_steady (r sub n s) : Steady s (groupDone r sub n s) := by simp [groupDone]
@[simp] theorem stageWrite_steady (n e r sub v s) : Steady s (stageWrite n e r sub v s).st := by
  unfold stageWrite; dsimp only; (repeat' split) <;> simp [Res.of]
@[simp] theorem plainWrite_steady (q e idx sub v s) : Steady s (plainWrite q e idx sub v s).st := by
  unfold plainWrite; dsimp only; (repeat' split) <;> simp [Res.of]
@[simp] theorem stageReq_steady (q idx sub v e s) : Steady s (stageReq q idx sub v e s).st := by
  unfold stageReq; dsimp only; (repeat' split) <;> simp [Res.of]
@[simp] theorem execRwsStage_completes (q idx sub v s) : Completes s (execRwsStage q idx sub v s) := by simp [execRwsStage]
@[simp] theorem execOvenSteer_completes (q v s) : Completes s (execOvenSteer q v s) := by unfold execOvenSteer; (repeat' split) <;> simp [Res.of]
@[simp] theorem settingsClear_steady (v s) : Steady s (settingsClear v s).st := by unfold settingsClear; (repeat' split) <;> simp [Res.of]
@[simp] theorem execSettingsClear_completes (q v s) : Completes s (execSettingsClear q v s) := by simp [execSettingsClear]
@[simp] theorem execSettingsSave_completes (s) : Completes s (execSettingsSave s) := by simp [execSettingsSave]
@[simp] theorem snapRequest_steady (n mask e s) : Steady s (snapRequest n mask e s).st := by unfold snapRequest; (repeat' split) <;> simp [Res.of]
@[simp] theorem execSnapRequest_completes (q mask s) : Completes s (execSnapRequest q mask s) := by simp [execSnapRequest]
@[simp] theorem freeSnapSlot_steady (k s) : Steady s (freeSnapSlot k s) := by simp [freeSnapSlot]
@[simp] theorem execSnapRelease_completes (q k s) : Completes s (execSnapRelease q k s) := by
  unfold execSnapRelease; (repeat' split) <;> simp [Res.of]
@[simp] theorem execSnapSlotExpiry_completes (k ctr s) : Completes s (execSnapSlotExpiry k ctr s) := by simp [execSnapSlotExpiry]
@[simp] theorem statusEntry_steady (n e i j s) : Steady s (statusEntry n e i j s).1 := by
  unfold statusEntry; dsimp only; split <;> simp [Res.of]
@[simp] theorem statusEntries_steady (n e l s) : Steady s (statusEntries n e l s).1 := by
  fun_induction statusEntries n e l s with
  | case1 i0 i1 b _ t s x y ih =>
    have := statusEntry_steady n e (leNat [i0, i1]) b.toNat s
    simp_all [x, y]
  | case2 => simp
@[simp] theorem statusSnap_steady (n v e s) : Steady s (statusSnap n v e s).st := by unfold statusSnap; (repeat' split) <;> simp [Res.of]
@[simp] theorem execStatusSnapRequest_completes (q v s) : Completes s (execStatusSnapRequest q v s) := by simp [execStatusSnapRequest]

/-! #### Commits -/

@[simp] theorem judgePairState_steady (s) : Steady s (judgePairState s) := by simp [judgePairState]
@[simp] theorem schedule_steady (c s) : Steady s (schedule c s) := by simp [schedule]
@[simp] theorem unschedule_steady (c s) : Steady s (unschedule c s) := by simp [unschedule]
@[simp] theorem startExchange_steady (q c s) : Steady s (startExchange q c s) := by simp [startExchange]
@[simp] theorem commitFailed_steady (q c f s) : Steady s (commitFailed q c f s) := by unfold commitFailed; (repeat' split) <;> simp
@[simp] theorem commit_steady (q mask e s) : Steady s (commit q mask e s).st := by unfold commit; dsimp only; (repeat' split) <;> simp [Res.of]
@[simp] theorem execCommit_completes (q mask s) : Completes s (execCommit q mask s) := by simp [execCommit]
@[simp] theorem raiseGens_steady (sets s) : Steady s (raiseGens sets s) := by simp [raiseGens]
@[simp] theorem localApplied_steady (c s) : Steady s (localApplied c s) := by simp [localApplied]
@[simp] theorem pairApplied_steady (c s) : Steady s (pairApplied c s) := by unfold pairApplied; (repeat' split) <;> simp
@[simp] theorem cancelLocal_steady (s c) : Steady s (cancelLocal s c) := by simp [cancelLocal]
@[simp] theorem endExchange_steady (s) : Steady s (endExchange s) := by simp [endExchange]
@[simp] theorem abortExchange_steady (n mask s) : Steady s (abortExchange n mask s) := by unfold abortExchange; (repeat' split) <;> simp
@[simp] theorem askCancel_steady (q s c) : Steady s (askCancel q s c) := by simp [askCancel]
@[simp] theorem commitAbort_steady (q mask s) : Steady s (commitAbort q mask s).st := by
  unfold commitAbort; dsimp only; (repeat' split) <;> simp [Res.of]
@[simp] theorem execCommitAbort_completes (q mask s) : Completes s (execCommitAbort q mask s) := by simp [execCommitAbort]
@[simp] theorem exchangeFailed_steady (x idx sub mate s) : Steady s (exchangeFailed x idx sub mate s) := by simp [exchangeFailed]
@[simp] theorem matePassed_steady (x number s) : Steady s (matePassed x number s) := by simp [matePassed]
@[simp] theorem execPairCommitReply_completes (x st i j r op n s) : Completes s (execPairCommitReply x st i j r op n s) :=
  (completes_next _ _).2 (pairSealed_steady _ _ _ fun u => by dsimp only; (repeat' split) <;> simp)
@[simp] theorem execPairCommitTimeout_completes (s) : Completes s (execPairCommitTimeout s) := by
  unfold execPairCommitTimeout; (repeat' split) <;> simp
@[simp] theorem execPairCommitRequest_completes (x m g v s) : Completes s (execPairCommitRequest x m g v s) := by
  unfold execPairCommitRequest; split
  · simp
  · exact (completes_next _ _).2 (pairSealed_steady _ _ _ fun u => by dsimp only; split <;> simp)
@[simp] theorem execPairCommitOrder_completes (x t n g s) : Completes s (execPairCommitOrder x t n g s) :=
  (completes_next _ _).2 (pairSealed_steady _ _ _ fun u => by dsimp only; (repeat' split) <;> simp)
@[simp] theorem execPairCommitCancel_completes (x n s) : Completes s (execPairCommitCancel x n s) :=
  (completes_next _ _).2 (pairSealed_steady _ _ _ fun u => by dsimp only; (repeat' split) <;> simp)
@[simp] theorem execPairCancelConfirm_completes (x n s) : Completes s (execPairCancelConfirm x n s) :=
  (completes_next _ _).2 (pairSealed_steady _ _ _ fun u => by dsimp only; (repeat' split) <;> simp)
@[simp] theorem takeScope_steady (v s) : Steady s (takeScope v s) := by simp [takeScope]
@[simp] theorem pairScope_steady (q v s) : Steady s (pairScope q v s).st := by unfold pairScope; (repeat' split) <;> simp [Res.of]
@[simp] theorem pairScopeRequest_steady (q v check s) : Steady s (pairScopeRequest q v check s) := by
  have h := request_steady (s := s) (q := q) (body := fun e s => if check e s ≠ 0 then Res.of s (check e s) else pairScope q v s)
    fun e => by split <;> simp [Res.of]
  unfold pairScopeRequest; dsimp only
  split
  · exact h.trans (by simp)
  · exact h
@[simp] theorem execPairScopeWrite_completes (q v s) : Completes s (execPairScopeWrite q v s) := by simp [execPairScopeWrite]
@[simp] theorem execPairScopeConfirm_completes (x v s) : Completes s (execPairScopeConfirm x v s) :=
  (completes_next _ _).2 (pairSealed_steady _ _ _ fun u => by dsimp only; (repeat' split) <;> simp)
@[simp] theorem execPairScopeTimeout_completes (s) : Completes s (execPairScopeTimeout s) := by unfold execPairScopeTimeout; (repeat' split) <;> simp
@[simp] theorem imageMeters_steady (old new s) : Steady s (imageMeters old new s) := by simp [imageMeters]

/-! #### The dictionary -/

@[simp] theorem execObjectRead_completes (q idx sub s) : Completes s (execObjectRead q idx sub s) := by
  unfold execObjectRead; (repeat' split) <;> simp [Res.of]
@[simp] theorem whenTrue_completes (q r v o s) (h : Completes s o) : Completes s (whenTrue q r v o s) := by
  unfold whenTrue; split
  · exact h
  · simp [Res.of]
theorem writeOnly1_completes (q i j v s) : ∀ o ∈ writeOnly1 q i j v s, Completes s o := by
  unfold writeOnly1; dsimp only; split <;> simp
theorem writeOnly2_completes (q i j v s) : ∀ o ∈ writeOnly2 q i j v s, Completes s o := by
  unfold writeOnly2; dsimp only; split <;> simp
@[simp] theorem activateWrite_completes (q n s) : Completes s (activateWrite q n s) := by
  unfold activateWrite; split
  · exact execUpdateDisarm_completes ..
  · exact execUpdateArm_completes ..
  · exact execUpdateArmRestart_completes ..
@[simp] theorem sessionClose_steady (q n s) : Steady s (sessionClose q n s) := by simp [sessionClose]
@[simp] theorem execSessionClose_completes (q n s) : Completes s (execSessionClose q n s) := by simp [execSessionClose]
@[simp] theorem openRead_steady (n k st b s) : Steady s (openRead n k st b s).st := by simp [openRead]
@[simp] theorem initRead_steady (q idx sub e s) : Steady s (initRead q idx sub e s).st := by
  unfold initRead; dsimp only; (repeat' split) <;> simp [Res.of]
@[simp] theorem execInitiateReadTransfer_completes (q idx sub s) : Completes s (execInitiateReadTransfer q idx sub s) := by
  simp [execInitiateReadTransfer]
@[simp] theorem initWrite_steady (q idx sub len e s) : Steady s (initWrite q idx sub len e s).st := by
  unfold initWrite; (repeat' split) <;> simp [Res.of]
@[simp] theorem execInitiateWriteTransfer_completes (q idx sub len s) : Completes s (execInitiateWriteTransfer q idx sub len s) := by
  simp [execInitiateWriteTransfer]
@[simp] theorem readEnds_steady (k b s) : Steady s (readEnds k b s) := by simp [readEnds]
@[simp] theorem readSegment_steady (n seg t s) : Steady s (readSegment n seg t s).st := by simp [readSegment]
@[simp] theorem wholeWrite_steady (q e idx sub v s) : Steady s (wholeWrite q e idx sub v s).st := by
  unfold wholeWrite; dsimp only; (repeat' split) <;> simp [Res.of]
@[simp] theorem imageWhole_steady (q s) : Steady s (imageWhole q s).st := by simp [imageWhole, Res.of]
@[simp] theorem writeSegment_steady (q last d crc t e s) : Steady s (writeSegment q last d crc t e s).st := by
  unfold writeSegment; dsimp only; (repeat' split) <;> simp [Res.of]
@[simp] theorem segment_steady (q seg last d crc e s) : Steady s (segment q seg last d crc e s).st := by
  unfold segment; (repeat' split) <;> simp [Res.of]
@[simp] theorem execSegment_completes (q n last d crc s) : Completes s (execSegment q n last d crc s) := by simp [execSegment]
@[simp] theorem execAbortTransfer_completes (q s) : Completes s (execAbortTransfer q s) :=
  (completes_next _ _).2 (request_steady fun e => by (repeat' split) <;> simp [Res.of])
@[simp] theorem execTransferTimeout_completes (n s) : Completes s (execTransferTimeout n s) := by unfold execTransferTimeout; (repeat' split) <;> simp
@[simp] theorem execRegBlockRead_completes (q s) : Completes s (execRegBlockRead q s) := by simp [execRegBlockRead]
@[simp] theorem execRegBlockWrite_completes (q d s) : Completes s (execRegBlockWrite q d s) :=
  (completes_next _ _).2 (roleRequest_steady fun e => by (repeat' split) <;> simp [Res.of])
@[simp] theorem execCloseSession_completes (q s) : Completes s (execCloseSession q s) := by simp [execCloseSession, Res.of]

/-! #### Gleno -/

@[simp] theorem setPort_steady (p x s) : Steady s (setPort p x s) := by simp [setPort]
@[simp] theorem glenoGo_steady (s) : Steady s (glenoGo s) := by simp [glenoGo]
@[simp] theorem oneDown_steady (s) : Steady s (oneDown s) := by simp [oneDown]
@[simp] theorem execKrTrainingComplete_completes (p alone s) : Completes s (execKrTrainingComplete p alone s) := by simp [execKrTrainingComplete]
@[simp] theorem execKrTrainingRetry_completes (p s) : Completes s (execKrTrainingRetry p s) := by simp [execKrTrainingRetry]
@[simp] theorem execKrLinkDown_completes (p s) : Completes s (execKrLinkDown p s) := by simp [execKrLinkDown]
@[simp] theorem execGlenoBothDown_completes (s) : Completes s (execGlenoBothDown s) := by simp [execGlenoBothDown]
@[simp] theorem joinedNow_steady (s) : Steady s (joinedNow s) := by simp [joinedNow]
@[simp] theorem toNoSlot_steady (s) : Steady s (toNoSlot s) := by simp [toNoSlot]
@[simp] theorem toJoining_steady (join s) : Steady s (toJoining join s) := by simp [toJoining]
@[simp] theorem joinStep_steady (b change s) : Steady s (joinStep b change s) := by unfold joinStep; (repeat' split) <;> simp
@[simp] theorem openCycle_steady (h b s) : Steady s (openCycle h b s) := by simp [openCycle]
@[simp] theorem execCycleStartReceived_completes (h b s) : Completes s (execCycleStartReceived h b s) := by simp [execCycleStartReceived]
@[simp] theorem execMasterHoldoffExpiry_completes (s) : Completes s (execMasterHoldoffExpiry s) := by simp [execMasterHoldoffExpiry]
@[simp] theorem execCycleStartTransmit_completes (s) : Completes s (execCycleStartTransmit s) := by simp [execCycleStartTransmit]
@[simp] theorem execJoinStart_completes (s) : Completes s (execJoinStart s) := by simp [execJoinStart]
@[simp] theorem execJoinUnacknowledged_completes (s) : Completes s (execJoinUnacknowledged s) := by simp [execJoinUnacknowledged]
@[simp] theorem execPresenceLost_completes (s) : Completes s (execPresenceLost s) := by simp [execPresenceLost]
@[simp] theorem execNodeLost_completes (a s) : Completes s (execNodeLost a s) := by simp [execNodeLost]
@[simp] theorem sealOut_steady (k x a) : Steady x.1 (sealOut k x a).1 := by simp [sealOut]
@[simp] theorem foldl_sealOut_steady (k : Nat) (l : List Answer) (x : State × List Int) : Steady x.1 (l.foldl (sealOut k) x).1 := by
  induction l generalizing x with
  | nil => simp
  | cons r l ih => simpa using ih (sealOut k x r)
@[simp] theorem closeSpent_steady (s) : Steady s (closeSpent s) := by simp [closeSpent]
@[simp] theorem slotFrame_steady (s) : Steady s (slotFrame s) := by
  unfold slotFrame; dsimp only
  have h (u : State) := foldl_sealOut_steady 2 (fitAnswers 554 s.gleno.answers).1 (u, [])
  split <;> simp_all
@[simp] theorem execSlotTransmit_completes (ready s) : Completes s (execSlotTransmit ready s) := by simp [execSlotTransmit]
@[simp] theorem execRequestCompletion_completes (s) : Completes s (execRequestCompletion s) := by
  unfold execRequestCompletion; (repeat' split) <;> simp
@[simp] theorem execCompletionTimeout_completes (q s) : Completes s (execCompletionTimeout q s) := by simp [execCompletionTimeout]
@[simp] theorem hear_steady (a join s) : Steady s (hear a join s) := by simp [hear]
@[simp] theorem conflict_steady (s) : Steady s (conflict s) := by simp [conflict]
@[simp] theorem slotBeat_steady (hb s) : Steady s (slotBeat hb s) := by simp [slotBeat]
@[simp] theorem refuseShake_steady (src id st s) : Steady s (refuseShake src id st s) := by simp [refuseShake]
@[simp] theorem acceptOpen_steady (src id role pair v s) : Steady s (acceptOpen src id role pair v s) := by simp [acceptOpen]
@[simp] theorem execHandshakeOpen_completes (src id vmin vmax role s) : Completes s (execHandshakeOpen src id vmin vmax role s) := by
  unfold execHandshakeOpen; (repeat' split) <;> simp
@[simp] theorem grantSession_steady (h role chain s) : Steady s (grantSession h role chain s) := by simp [grantSession]
@[simp] theorem proveHost_steady (h chain sig s) : Steady s (proveHost h chain sig s) := by unfold proveHost; dsimp only; (repeat' split) <;> simp
@[simp] theorem pairRefused_steady (s) : Steady s (pairRefused s) := by simp [pairRefused]
@[simp] theorem pairOpens_steady (h i s) : Steady s (pairOpens h i s) := by simp [pairOpens]
@[simp] theorem provePair_steady (h chain sig dev leaf i s) : Steady s (provePair h chain sig dev leaf i s) := by simp [provePair]
@[simp] theorem execHandshakeProve_completes (src id chain sig dev leaf i s) : Completes s (execHandshakeProve src id chain sig dev leaf i s) := by
  unfold execHandshakeProve; (repeat' split) <;> simp
@[simp] theorem execHandshakeAcceptReceived_completes (v n chain sig dev leaf s) : Completes s (execHandshakeAcceptReceived v n chain sig dev leaf s) := by
  unfold execHandshakeAcceptReceived; (repeat' split) <;> simp
@[simp] theorem execHandshakeGrantReceived_completes (ok i s) : Completes s (execHandshakeGrantReceived ok i s) := by
  unfold execHandshakeGrantReceived; (repeat' split) <;> simp
@[simp] theorem execHandshakeTimeout_completes (src id s) : Completes s (execHandshakeTimeout src id s) := by
  unfold execHandshakeTimeout; (repeat' split) <;> simp
@[simp] theorem execSessionIdleTimeout_completes (n s) : Completes s (execSessionIdleTimeout n s) := by
  unfold execSessionIdleTimeout; (repeat' split) <;> simp
@[simp] theorem execSessionLifetimeExpiry_completes (n s) : Completes s (execSessionLifetimeExpiry n s) := by
  unfold execSessionLifetimeExpiry; (repeat' split) <;> simp

/-! ### What changes the island -/

/-- What no step undoes: the factory data, the waiting commands, the island's counters, retirement, the erased IDevID key. -/
structure Lasting (s t : State) : Prop where
  factory : t.factory = s.factory
  pending : t.pending = s.pending
  counters : ∀ i, (s.trust.counters.getD i 0).toNat ≤ (t.trust.counters.getD i 0).toNat
  retired : s.trust.state = 3 → t.trust.state = 3
  erased : s.trust.idevid = false → t.trust.idevid = false

theorem Steady.lasting {s t : State} (h : Steady s t) : Lasting s t := by
  obtain ⟨hf, hp, hc, hs, he⟩ := h
  exact ⟨hf, hp, fun i => Nat.le_of_eq (by rw [hc]), fun h => hs.trans h, fun h => he.trans h⟩

theorem Lasting.refl (s : State) : Lasting s s := Steady.lasting (by simp)

theorem Lasting.trans {s t u : State} (h : Lasting s t) (k : Lasting t u) : Lasting s u where
  factory := k.factory.trans h.factory
  pending := k.pending.trans h.pending
  counters i := Nat.le_trans (h.counters i) (k.counters i)
  retired hs := k.retired (h.retired hs)
  erased hs := k.erased (h.erased hs)

/-- What is steady before and after a lasting change changes nothing of it. -/
theorem Lasting.steady {s t u : State} (h : Lasting s t) (k : Steady t u) : Lasting s u := h.trans k.lasting

theorem Lasting.ite {s a b : State} (c : Prop) [Decidable c] (ha : Lasting s a) (hb : Lasting s b) : Lasting s (if c then a else b) := by
  split <;> assumption

theorem foldl_lasting {α : Type} (g : State → α → State) (l : List α) (s : State) (h : ∀ s x, Lasting s (g s x)) :
    Lasting s (l.foldl g s) := by
  induction l generalizing s with
  | nil => exact .refl s
  | cons a l ih => exact (h s a).trans (ih _)

theorem roleRequest_lasting {need : Role} {q : Req} {body : Session → State → Res} {s : State} (h : ∀ e, Lasting s (body e s).st) :
    Lasting s (roleRequest need q body s) :=
  roleRequest_keeps Lasting need q body s (fun n => Steady.lasting (by simp)) (fun g => Steady.lasting (by simp))
    (fun st d u hu => hu.steady (by simp)) h (.refl s)

theorem requestThen_lasting {need : Role} {q : Req} {go : Status} {check : State → Status} {act : State → State} {s : State}
    (h : ∀ u, Lasting u (act u)) : Lasting s (requestThen need q go check act s) := by
  have hr : Lasting s (roleRequest need q (fun _ s => Res.of s (check s)) s) := roleRequest_lasting fun e => .refl s
  unfold requestThen; dsimp only; split
  · exact hr.trans (h _)
  · exact hr

theorem pairSealed_lasting {x : Seal} {ok : State → State} {s : State} (h : ∀ u, Lasting u (ok u)) : Lasting s (pairSealed x ok s) := by
  unfold pairSealed
  split
  · exact Steady.lasting (by simp)
  · split
    · exact Steady.lasting (by simp)
    · split
      · exact Steady.lasting (by simp)
      · next a m _ => exact Lasting.trans (t := updPair (fun p => { p with rxHigh := some a, rxMask := m }) s) (Steady.lasting (by simp)) (h _)

/-- A counter that is set to at least its value falls nowhere in the list (R540). -/
theorem getD_setAt_le (i j : Nat) (v : BitVec 32) (l : List (BitVec 32)) (h : (l.getD i 0).toNat ≤ v.toNat) :
    (l.getD j 0).toNat ≤ ((setAt i v l).getD j 0).toNat := by
  induction l generalizing i j with
  | nil => simp [setAt]
  | cons x l ih => cases i <;> cases j <;> simp_all [setAt]

/-- A monotonic counter goes up by one or stays at its maximum (R540). -/
theorem le_bump (n : BitVec 32) : n.toNat ≤ (if n = 0xFFFFFFFF#32 then n else n + 1).toNat := by
  split <;> bv_omega

theorem bumpCounter_lasting (i : Nat) (s : State) : Lasting s (bumpCounter i s) where
  factory := rfl
  pending := rfl
  counters j := getD_setAt_le i j _ _ (le_bump _)
  retired h := h
  erased h := h

theorem zeroise_lasting (s : State) : Lasting s (zeroise s) := by
  unfold zeroise
  extract_lets keep t d c n s1 s2
  have h : Lasting s s1 := ⟨rfl, rfl, fun j => getD_setAt_le 3 j _ _ (le_bump _), fun h => if_pos h, fun h => h⟩
  exact h.steady (by simp [s2])

/-- Retirement and the loss of the IDevID key undo nothing that lasts (R545). -/
theorem retire_lasting (s : State) (r : Regs) : Lasting s { s with trust := { s.trust with idevid := false, state := 3 }, regs := r } :=
  ⟨rfl, rfl, fun _ => Nat.le_refl _, fun _ => rfl, fun _ => rfl⟩

theorem zeroiseAll_lasting (s : State) : Lasting s (zeroiseAll s) := by
  unfold zeroiseAll
  extract_lets s1 r t s2
  have h2 : Lasting s s2 := ((zeroise_lasting s).trans (retire_lasting s1 { s1.regs with assetTag := 0 })).steady (by simp [s2, r, t])
  exact Lasting.ite _ (h2.steady (by simp)) h2

theorem tamper_lasting (n : Nat) (s : State) : Lasting s (tamper n s) := by
  unfold tamper
  extract_lets pol s1 s2
  have h1 : Steady s s1 := by simp [s1]
  have h2 : Lasting s s2 := (h1.lasting.trans (bumpCounter_lasting 2 s1)).steady (by simp [s2])
  clear_value pol
  split
  · exact h2.steady (by simp)
  · exact h2.steady (by simp)
  · exact (h2.trans (zeroise_lasting s2)).steady (by simp)
  · exact (h2.trans (zeroiseAll_lasting s2)).steady (by simp)

theorem confirm_lasting (s : State) : Lasting s (confirm s) := by
  unfold confirm
  extract_lets rel c0 s1 s2 s3
  have h1 : Lasting s s1 := ⟨rfl, rfl, fun j => getD_setAt_le 0 j _ _ (by show c0.toNat ≤ _; split <;> omega), fun h => h, fun h => h⟩
  exact h1.steady (by simp [s3, s2])

theorem counterIncrement_lasting (n : Nat) (s : State) : Lasting s (counterIncrement n s).st := by
  unfold counterIncrement
  (repeat' split) <;> first
    | exact .refl s
    | exact bumpCounter_lasting n s

theorem beginStart_lasting (c : BitVec 8) (n : Nat) (s : State) : Lasting s (beginStart c n s) := by
  unfold beginStart
  extract_lets l p s1
  have h1 : Steady s s1 := by simp [s1]
  exact (h1.lasting.trans (bumpCounter_lasting 1 s1)).steady (by simp)

theorem trustCommit_lasting (s : State) : Lasting s (trustCommit s) := by
  unfold trustCommit
  extract_lets cust t s1
  have h : Lasting s s1 := by
    refine dite (s.trust.state = 0 ∧ cust = true) (fun hc => ?_) (fun hc => ?_)
    · have h1 : Lasting s { s with trust := { s.trust with state := 1 } } :=
        ⟨rfl, rfl, fun _ => Nat.le_refl _, fun h => absurd (h.symm.trans hc.1) (by decide), fun h => h⟩
      have hs : s1 = count 0x601D 3 (bumpCounter 4 { s with trust := { s.trust with state := 1 } }) := if_pos hc
      exact (h1.trans (bumpCounter_lasting 4 _)).steady (by rw [hs]; simp)
    · exact Steady.lasting (by simp [s1, hc])
  exact Lasting.ite _ (h.steady (by simp)) h

theorem setEffect_lasting (s : State) (n : Nat) : Lasting s (setEffect s n) := by
  unfold setEffect
  split
  case h_5 => exact trustCommit_lasting s
  all_goals exact Steady.lasting (by simp)

theorem applyValues_lasting (t : Nat) (m : List Nat) (l : List Staged) (s : State) : Lasting s (applyValues t m l s) := by
  unfold applyValues; dsimp only
  refine Lasting.trans ?_ (foldl_lasting _ _ _ setEffect_lasting)
  refine Steady.lasting (Steady.trans ?_ (foldl_steady _ _ _ fun u k => valueEffect_steady ..))
  split <;> simp

theorem applyCommit_lasting (c : Commit) (s : State) : Lasting s (applyCommit c s) := by
  unfold applyCommit
  extract_lets a s1 s2
  have h1 : Lasting s s1 := (unschedule_steady c s).lasting.trans (applyValues_lasting a c.sets c.values _)
  have h2 : Lasting s s2 := h1.steady (by simp [s2])
  exact Lasting.ite _ (h2.steady (by simp)) (h2.steady (by simp))

theorem applyImage_lasting (m : List Nat) (l : List Staged) (n : Tables) (k : BitVec 32) (s : State) : Lasting s (applyImage m l n k s) := by
  unfold applyImage
  extract_lets old e t w s1 s2
  have h1 : Lasting s s1 := Steady.lasting (by simp [s1])
  have h2 : Lasting s s2 := (h1.trans (applyValues_lasting (domA s) m l s1)).steady (by simp [s2])
  exact h2.steady (by simp)

/-! ### The commands that change the island -/

/-- A command completes and undoes none of it. -/
def Lasts (s : State) (o : Out) : Prop := ∃ t, o = .next t ∧ Lasting s t

theorem Completes.lasts {s : State} {o : Out} : Completes s o → Lasts s o := fun ⟨t, ho, h⟩ => ⟨t, ho, h.lasting⟩

theorem Lasting.lasts {s t : State} (h : Lasting s t) : Lasts s (.next t) := ⟨t, rfl, h⟩

theorem execTamperEvent_lasts (k s) : Lasts s (execTamperEvent k s) := (tamper_lasting _ s).lasts
theorem execZeroiseOperatorSecrets_lasts (q s) : Lasts s (execZeroiseOperatorSecrets q s) :=
  (requestThen_lasting fun u => Lasting.trans (t := complete q 0 [] u) (Steady.lasting (by simp)) (zeroise_lasting _)).lasts
theorem execZeroiseAll_lasts (q s) : Lasts s (execZeroiseAll q s) :=
  (requestThen_lasting fun u => Lasting.trans (t := complete q 0 [] u) (Steady.lasting (by simp)) (zeroiseAll_lasting _)).lasts
theorem execCounterIncrement_lasts (q n s) : Lasts s (execCounterIncrement q n s) :=
  (roleRequest_lasting fun _ => counterIncrement_lasting _ s).lasts
theorem execUpdateConfirmAccept_lasts (q s) : Lasts s (execUpdateConfirmAccept q s) :=
  (requestThen_lasting fun u => (confirm_lasting u).steady (by simp)).lasts
theorem execAutoConfirmExpiry_lasts (s) : Lasts s (execAutoConfirmExpiry s) := by
  unfold execAutoConfirmExpiry
  extract_lets m
  exact Lasting.lasts (.ite _ (confirm_lasting s) (.refl s))
theorem execStartPermitted_lasts (m s) : Lasts s (execStartPermitted m s) := by
  refine (Lasting.ite _ (.refl s) (Lasting.ite _ ?_ ?_)).lasts
  · exact (Steady.lasting (by simp)).trans (beginStart_lasting _ _ _)
  · exact Steady.lasting (by simp)
theorem execResetNRelease_lasts (n s) : Lasts s (execResetNRelease n s) := by
  refine (Lasting.ite _ (Lasting.ite _ (Steady.lasting (by simp)) (.refl s)) (Lasting.ite _ ?_ ?_)).lasts
  · exact (Steady.lasting (by simp)).trans (beginStart_lasting _ _ _)
  · exact Steady.lasting (by simp)
theorem execResetEnd_lasts (m s) : Lasts s (execResetEnd m s) := by
  refine (Lasting.ite _ (.refl s) (Lasting.ite _ ?_ ?_)).lasts
  · exact (Steady.lasting (by simp)).trans (beginStart_lasting _ _ _)
  · exact Steady.lasting (by simp)
theorem execRegulatorsValid_lasts (p a r g l s) : Lasts s (execRegulatorsValid p a r g l s) := by
  refine Lasting.lasts (.ite _ (.refl s) ?_)
  extract_lets s1
  have h1 : Lasting s s1 := .ite _ (Lasting.trans (Steady.lasting (by simp)) (tamper_lasting 6 _)) (.refl s)
  exact h1.steady (by simp)
theorem execThermalRecovery_lasts (p a r g s) : Lasts s (execThermalRecovery p a r g s) := by
  refine (Lasting.ite _ (.refl s) (Lasting.ite _ (Steady.lasting (by simp)) ?_)).lasts
  exact ((Steady.lasting (by simp)).trans (beginStart_lasting 6 s.now (clearFor 6 s))).steady (by simp)
theorem execCommitApply_lasts (s) : Lasts s (execCommitApply s) := by
  refine Lasting.lasts ?_
  split
  · exact .refl s
  · exact applyCommit_lasting _ s
theorem execResyncImageReceived_lasts (x v a b c n s) : Lasts s (execResyncImageReceived x v a b c n s) := by
  refine (Lasting.ite _ (.refl s) (pairSealed_lasting fun u => ?_)).lasts
  dsimp only
  split
  · exact .refl u
  · exact Lasting.ite _ (.refl u) (applyImage_lasting ..)

theorem zeroiseWrite_lasts (q n s) : Lasts s (zeroiseWrite q n s) := by
  unfold zeroiseWrite
  split
  · exact execZeroiseOperatorSecrets_lasts q s
  · split
    · exact execZeroiseAll_lasts q s
    · exact (roleRequest_lasting fun _ => .refl s).lasts

theorem writeOnly3_lasts (q i j v s) : ∀ o ∈ writeOnly3 q i j v s, Lasts s o := by
  unfold writeOnly3; dsimp only
  split <;> rintro o ⟨rfl⟩
  case h_4 => exact execCounterIncrement_lasts ..
  case h_6 => exact zeroiseWrite_lasts ..
  case h_11 =>
    split
    · exact execUpdateConfirmAccept_lasts ..
    · exact Completes.lasts (by simp)
  all_goals exact Completes.lasts (by simp)

theorem objectWrite_lasts (q i j v s) : Lasts s (objectWrite q i j v s) := by
  unfold objectWrite
  split
  · exact Completes.lasts (by simp)
  · split
    · exact Completes.lasts (by simp)
    · split
      next h => exact (writeOnly1_completes _ _ _ _ _ _ h).lasts
      next => split
              next h => exact (writeOnly2_completes _ _ _ _ _ _ h).lasts
              next => split
                      next h => exact writeOnly3_lasts _ _ _ _ _ _ h
                      next => exact Completes.lasts (by simp)

theorem execObjectWrite_lasts (q i j v s) : Lasts s (execObjectWrite q i j v s) := by
  unfold execObjectWrite; dsimp only
  split
  · exact Completes.lasts (by simp [Res.of])
  · split
    · exact Completes.lasts (by simp [Res.of])
    · exact objectWrite_lasts ..

theorem Lasts.after {s : State} {o : Out} (u : State) : Lasts s o → Lasting s (after o u) := by
  rintro ⟨t, rfl, h⟩; exact h

theorem runRequest_lasting (n b s) : Lasting s (runRequest n b s) := by
  unfold runRequest; dsimp only
  refine Lasting.ite _ (Steady.lasting (by simp)) (Lasts.after _ ?_)
  have hbad : Lasts s (.next (request ⟨n, BitVec.ofNat 16 (part 0 2 b)⟩ (fun _ s => Res.of s 0x0302#16) s)) :=
    Completes.lasts (by simp [Res.of])
  (repeat' split) <;> first
    | exact hbad
    | exact execObjectWrite_lasts ..
    | exact Completes.lasts (by simp)

theorem recordIn_lasting (a c s r) : Lasting s (recordIn a c s r) := by
  unfold recordIn
  refine .ite _ (.refl s) (.ite _ (Steady.lasting (by simp)) (.ite _ (Steady.lasting ?_) ?_))
  · split <;> simp
  · split
    · exact Steady.lasting (by simp)
    · refine .ite _ (Steady.lasting (by simp)) ?_
      split
      · exact Steady.lasting (by split <;> simp)
      · extract_lets s1 s2
        have h1 : Steady s s1 := by simp [s1]
        have h2 : Lasting s s2 := h1.lasting.trans (runRequest_lasting ..)
        exact .ite _ (h2.steady (by simp)) h2

theorem execSlotFrameReceived_lasts (h hb l b s) : Lasts s (execSlotFrameReceived h hb l b s) := by
  unfold execSlotFrameReceived
  refine (Lasting.ite _ (.refl s) (Lasting.ite _ (Steady.lasting (by simp)) (Lasting.ite _ (Steady.lasting (by simp)) ?_))).lasts
  extract_lets copy s1 s2 s3
  have h2 : Steady s s2 := by dsimp only [s2, s1]; split <;> simp
  have h3 : Lasting s s3 := h2.lasting.trans (foldl_lasting _ _ _ fun u r => recordIn_lasting ..)
  exact Lasting.ite _ (h3.steady (by simp)) h3

/-- Every command completes and undoes nothing that lasts. -/
theorem exec_lasts (c : Instr) (s : State) : Lasts s (exec c s) := by
  cases c
  case tamperEvent => exact execTamperEvent_lasts ..
  case zeroiseOperatorSecrets => exact execZeroiseOperatorSecrets_lasts ..
  case zeroiseAll => exact execZeroiseAll_lasts ..
  case counterIncrement => exact execCounterIncrement_lasts ..
  case updateConfirmAccept => exact execUpdateConfirmAccept_lasts ..
  case autoConfirmExpiry => exact execAutoConfirmExpiry_lasts ..
  case startPermitted => exact execStartPermitted_lasts ..
  case resetNRelease => exact execResetNRelease_lasts ..
  case resetEnd => exact execResetEnd_lasts ..
  case regulatorsValid => exact execRegulatorsValid_lasts ..
  case thermalRecovery => exact execThermalRecovery_lasts ..
  case commitApply => exact execCommitApply_lasts ..
  case resyncImageReceived => exact execResyncImageReceived_lasts ..
  case objectWrite => exact execObjectWrite_lasts ..
  case slotFrameReceived => exact execSlotFrameReceived_lasts ..
  all_goals exact Completes.lasts (by simp [exec])

/-- A step takes the front command from the queue, or nothing, and undoes nothing that lasts. -/
theorem step_lasting {s t : State} (h : step s = .next t) : Lasting { s with pending := s.pending.tail } t := by
  unfold step at h
  split at h
  next hp =>
    obtain rfl : idle s = t := by simpa using h
    have he : { s with pending := s.pending.tail } = s := by rw [hp, List.tail_nil, ← hp]
    rw [he]
    exact (idle_steady s).lasting
  next c l hp =>
    obtain ⟨u, hu, hl⟩ := exec_lasts c { s with pending := l }
    obtain rfl : u = t := by simpa [h] using hu.symm
    simpa [hp] using hl

/-- Every step ends in a next state. -/
theorem step_next (s : State) : ∃ t, step s = .next t := by
  unfold step
  split
  · exact ⟨_, rfl⟩
  · obtain ⟨t, ht, -⟩ := exec_lasts _ _
    exact ⟨t, ht⟩

theorem safeFrom (s : State) : SafeFrom s := by
  intro n
  induction n generalizing s with
  | zero => exact ⟨s, rfl⟩
  | succ n ih =>
    obtain ⟨t, ht⟩ := step_next s
    simpa [Host.Core.run, ht] using ih t

/-- Settles O3: no arm of `exec` answers a fault or a refusal, and none writes the queue. -/
theorem everyCommandCompletes : Obligations.EveryCommandCompletes :=
  ⟨fun c s => let ⟨t, ht, h⟩ := exec_lasts c s; ⟨t, ht, h.pending⟩, safeFrom⟩

/-- Settles O5: the factory data are among what no step undoes. -/
theorem factoryDataNeverChange : Obligations.FactoryDataNeverChange := fun _ _ h => (step_lasting h).factory

/-- Settles O6: every write of a counter is to at least its value. -/
theorem islandCountersNeverFall : Obligations.IslandCountersNeverFall := fun _ _ h => (step_lasting h).counters

/-- Settles O7: nothing leaves the retired state, and nothing makes a new IDevID key. -/
theorem retirementIsFinal : Obligations.RetirementIsFinal := fun _ _ h => ⟨(step_lasting h).retired, (step_lasting h).erased⟩

end Sys2Proof.Machine
end

section
/-!
PROOFS. The frame of a command as one conjunction, for `simp`; the block as a whole.
-/
namespace Sys2Proof.Machine

/-- A frame holds where each part is listed or the same: with the field lemmas this is decided part by part. -/
theorem onlyIn_iff {ps : List Part} {s t : State} : OnlyIn ps s t ↔
    (.factory ∈ ps ∨ t.factory = s.factory) ∧ (.pins ∈ ps ∨ t.pins = s.pins) ∧ (.life ∈ ps ∨ t.life = s.life) ∧
    (.power ∈ ps ∨ t.power = s.power) ∧ (.regs ∈ ps ∨ t.regs = s.regs) ∧ (.dict ∈ ps ∨ t.dict = s.dict) ∧
    (.commits ∈ ps ∨ t.commits = s.commits) ∧ (.snaps ∈ ps ∨ t.snaps = s.snaps) ∧ (.gleno ∈ ps ∨ t.gleno = s.gleno) ∧
    (.obs ∈ ps ∨ t.obs = s.obs) ∧ (.optics ∈ ps ∨ t.optics = s.optics) ∧ (.tb ∈ ps ∨ t.tb = s.tb) ∧ (.vern ∈ ps ∨ t.vern = s.vern) ∧
    (.refs ∈ ps ∨ t.refs = s.refs) ∧ (.ptp ∈ ps ∨ t.ptp = s.ptp) ∧ (.cal ∈ ps ∨ t.cal = s.cal) ∧ (.fwd ∈ ps ∨ t.fwd = s.fwd) ∧
    (.sw ∈ ps ∨ t.sw = s.sw) ∧ (.egr ∈ ps ∨ t.egr = s.egr) ∧ (.pair ∈ ps ∨ t.pair = s.pair) ∧ (.trust ∈ ps ∨ t.trust = s.trust) ∧
    (.upd ∈ ps ∨ t.upd = s.upd) ∧ (.wire ∈ ps ∨ t.wire = s.wire) ∧ (.now ∈ ps ∨ t.now = s.now) ∧
    (.started ∈ ps ∨ t.started = s.started) ∧ (.draws ∈ ps ∨ t.draws = s.draws) ∧ (.pending ∈ ps ∨ t.pending = s.pending) := by
  have each : OnlyIn ps s t ↔ ∀ p, p ∈ ps ∨ p.same s t := forall_congr' fun p => (Decidable.or_iff_not_imp_left (a := p ∈ ps)).symm
  rw [each]
  constructor
  · intro h
    exact ⟨h .factory, h .pins, h .life, h .power, h .regs, h .dict, h .commits, h .snaps, h .gleno, h .obs, h .optics, h .tb, h .vern,
      h .refs, h .ptp, h .cal, h .fwd, h .sw, h .egr, h .pair, h .trust, h .upd, h .wire, h .now, h .started, h .draws, h .pending⟩
  · rintro ⟨h1, h2, h3, h4, h5, h6, h7, h8, h9, h10, h11, h12, h13, h14, h15, h16, h17, h18, h19, h20, h21, h22, h23, h24, h25, h26, h27⟩ p
    cases p <;> assumption

/-- Settles O1: it is the second case of the step. -/
theorem stepRunsFrontCommand : Obligations.StepRunsFrontCommand := by
  intro c l s h
  simp [step, h]

/-- Settles O4: the tables of the reset state are empty, so every look-up in them gives its default. -/
theorem resetState : Obligations.ResetState := by
  refine ⟨rfl, rfl, rfl, rfl, rfl, rfl, rfl, rfl, rfl, rfl, rfl, rfl, fun _ _ => rfl, fun _ _ => rfl, fun _ => rfl, fun _ => ⟨rfl, rfl⟩,
    rfl, rfl, rfl, fun i => ?_, rfl⟩
  show (List.replicate 8 (0 : BitVec 32)).getD i 0 = 0
  rw [List.getD_eq_getElem?_getD, List.getElem?_replicate]
  split <;> rfl

theorem slewTick_counters (s : State) : (slewTick s).tb.a = s.tb.a ∧ (slewTick s).tb.b = s.tb.b := by
  unfold slewTick
  dsimp only
  split
  · exact ⟨rfl, rfl⟩
  · split <;> exact ⟨rfl, rfl⟩

theorem slewTick_only (s : State) : OnlyIn [.tb] s (slewTick s) := by
  unfold slewTick
  dsimp only
  split
  · exact .refl _ _
  · split <;> simp [onlyIn_iff]

theorem clearCell_only (n : Nat) (s : State) : OnlyIn [.obs] s (clearCell n s) := by
  unfold clearCell
  (repeat' split) <;> simp [onlyIn_iff]

theorem sweepEdge_only (k n : Nat) (c : CtrSnap) (s : State) : OnlyIn [.obs] s (sweepEdge k n c s) := by
  have set : ∀ f, OnlyIn [.obs] s (updObs f s) := fun f => by simp [onlyIn_iff]
  unfold sweepEdge
  dsimp only
  split
  · exact set _
  · split
    · split
      · exact ((set _).trans (clearCell_only _ _)).trans (clearCell_only _ _)
      · exact (set _).trans (clearCell_only _ _)
    · exact set _

theorem sweepTick_only (s : State) : OnlyIn [.obs] s (sweepTick s) := by
  unfold sweepTick
  split
  · exact .refl _ _
  · split
    · exact .refl _ _
    · split
      · exact sweepEdge_only _ _ _ _
      · exact .refl _ _

theorem mastTick_stopped (s : State) (h : s.tb.running = false) : mastTick s = { s with now := s.now + 1 } := by
  unfold mastTick
  rw [if_pos (by simp [h])]

theorem mastTick_running (s : State) (h : s.tb.running = true) : ∃ tb, mastTick s = slewTick { s with now := s.now + 1, tb := tb } ∧
    tb.a.counter = s.tb.a.counter.tick (if s.tb.mastOk then s.tb.a.rate else 0) ∧
    tb.b.counter = s.tb.b.counter.tick (if s.tb.mastOk then s.tb.b.rate else 0) := by
  unfold mastTick
  rw [if_neg (by simp [h])]
  exact ⟨_, rfl, rfl, rfl⟩

theorem mastTick_only (s : State) : (mastTick s).now = s.now + 1 ∧ OnlyIn [.now, .tb] s (mastTick s) := by
  cases h : s.tb.running with
  | false => simp [mastTick_stopped s h, onlyIn_iff]
  | true =>
    obtain ⟨tb, ht, -, -⟩ := mastTick_running s h
    rw [ht]
    have step := slewTick_only { s with now := s.now + 1, tb := tb }
    exact ⟨step .now (by simp), .trans (by simp [onlyIn_iff]) (step.mono (by simp))⟩

theorem mastTick_counters (s : State) (h : s.tb.running = true) :
    (mastTick s).tb.a.counter = s.tb.a.counter.tick (if s.tb.mastOk then s.tb.a.rate else 0) ∧
    (mastTick s).tb.b.counter = s.tb.b.counter.tick (if s.tb.mastOk then s.tb.b.rate else 0) := by
  obtain ⟨tb, ht, ha, hb⟩ := mastTick_running s h
  rw [ht, (slewTick_counters _).1, (slewTick_counters _).2]
  exact ⟨ha, hb⟩

theorem idle_tb (s : State) : (idle s).tb = (mastTick s).tb := sweepTick_only _ .tb (by simp)

/-- Settles O2: an idle step is a tick of the mast clock, then one of the sweep, which is in the observations alone. -/
theorem idleStepIsOneMastEdge : Obligations.IdleStepIsOneMastEdge := by
  have step_idle : ∀ s : State, s.pending = [] → step s = .next (idle s) := fun s h => by simp [step, h]
  refine ⟨fun s h => ⟨_, step_idle s h, ?_, ?_⟩, fun s h hr hs => ?_, fun s h hr hm => ⟨_, step_idle s h, ?_⟩,
    fun s h hr hm => ⟨_, step_idle s h, ?_⟩⟩
  · exact (sweepTick_only _ .now (by simp)).trans (mastTick_only s).1
  · exact ((mastTick_only s).2.mono (by simp)).trans ((sweepTick_only _).mono (by simp))
  · simp [step_idle s h, idle, mastTick_stopped s hr, sweepTick, hs]
  · simpa [idle_tb, hm] using mastTick_counters s hr
  · simpa [idle_tb, hm] using mastTick_counters s hr

end Sys2Proof.Machine
end

section
/-!
SUPPORT. What the accessors of the parts and of their tables read after an update: the entry updated, and any other entry.
-/
namespace Sys2Proof.Machine

/-! ## A part after its update -/

@[simp] theorem updPower_power (f : Power → Power) (s : State) : (updPower f s).power = f s.power := rfl
@[simp] theorem updLife_life (f : Life → Life) (s : State) : (updLife f s).life = f s.life := rfl
@[simp] theorem updObs_obs (f : Obs → Obs) (s : State) : (updObs f s).obs = f s.obs := rfl
@[simp] theorem updPair_pair (f : Pair → Pair) (s : State) : (updPair f s).pair = f s.pair := rfl
@[simp] theorem updGleno_gleno (f : Gleno → Gleno) (s : State) : (updGleno f s).gleno = f s.gleno := rfl
@[simp] theorem updUpd_upd (f : Update → Update) (s : State) : (updUpd f s).upd = f s.upd := rfl

/-! ## An entry after an update of the same entry, and of another -/

@[simp] theorem eng_updEng (n : Nat) (f : Engine → Engine) (s : State) : eng n (updEng n f s) = f (eng n s) := by
  simp [eng, updEng]

@[simp] theorem opt_updOpt (n : Nat) (f : Optic → Optic) (s : State) : opt n (updOpt n f s) = f (opt n s) := by
  simp [opt, updOpt]
theorem opt_updOpt_ne {m n : Nat} (h : m ≠ n) (f : Optic → Optic) (s : State) : opt m (updOpt n f s) = opt m s := Tab.get_upd_ne h _ _ _

@[simp] theorem cod_updCod (n : Nat) (f : Coding → Coding) (s : State) : cod n (updCod n f s) = f (cod n s) := by
  simp [cod, updCod]
theorem cod_updCod_ne {m n : Nat} (h : m ≠ n) (f : Coding → Coding) (s : State) : cod m (updCod n f s) = cod m s := Tab.get_upd_ne h _ _ _

@[simp] theorem det_updDet (n : Nat) (f : Det → Det) (s : State) : det n (updDet n f s) = f (det n s) := by
  simp [det, updDet]
theorem det_updDet_ne {m n : Nat} (h : m ≠ n) (f : Det → Det) (s : State) : det m (updDet n f s) = det m s := Tab.get_upd_ne h _ _ _

@[simp] theorem tile_updTile (n : Nat) (f : TileState → TileState) (s : State) : tile n (updTile n f s) = f (tile n s) := by
  simp [tile, updTile]

@[simp] theorem outp_updOut (n : Nat) (f : Output → Output) (s : State) : outp n (updOut n f s) = f (outp n s) := by
  simp [outp, updOut]

@[simp] theorem mdll_updMdll (n : Nat) (f : Mdll → Mdll) (s : State) : mdll n (updMdll n f s) = f (mdll n s) := by
  simp [mdll, updMdll]

@[simp] theorem slot_updSlot (n : Nat) (f : Slot → Slot) (s : State) : slot n (updSlot n f s) = f (slot n s) := by
  simp [slot, updSlot]
theorem slot_updSlot_ne {m n : Nat} (h : m ≠ n) (f : Slot → Slot) (s : State) : slot m (updSlot n f s) = slot m s := Tab.get_upd_ne h _ _ _

@[simp] theorem asym_updAsym (n : Nat) (f : Asym → Asym) (s : State) : asym n (updAsym n f s) = f (asym n s) := by
  simp [asym, updAsym]

@[simp] theorem tsu_updTsu (n : Nat) (f : Tsu → Tsu) (s : State) : tsu n (updTsu n f s) = f (tsu n s) := by
  simp [tsu, updTsu]
theorem tsu_updTsu_ne {m n : Nat} (h : m ≠ n) (f : Tsu → Tsu) (s : State) : tsu m (updTsu n f s) = tsu m s := Tab.get_upd_ne h _ _ _

@[simp] theorem laneCal_updLane (n : Nat) (f : LaneCal → LaneCal) (s : State) : laneCal n (updLane n f s) = f (laneCal n s) := by
  simp [laneCal, updLane]
theorem laneCal_updLane_ne {m n : Nat} (h : m ≠ n) (f : LaneCal → LaneCal) (s : State) : laneCal m (updLane n f s) = laneCal m s := Tab.get_upd_ne h _ _ _

@[simp] theorem stream_updStream (n : Nat) (f : Stream → Stream) (s : State) : stream n (updStream n f s) = f (stream n s) := by
  simp [stream, updStream]
theorem stream_updStream_ne {m n : Nat} (h : m ≠ n) (f : Stream → Stream) (s : State) : stream m (updStream n f s) = stream m s := Tab.get_upd_ne h _ _ _

@[simp] theorem ca_updCa (n : Nat) (f : Ca → Ca) (s : State) : ca n (updCa n f s) = f (ca n s) := by
  simp [ca, updCa]
theorem ca_updCa_ne {m n : Nat} (h : m ≠ n) (f : Ca → Ca) (s : State) : ca m (updCa n f s) = ca m s := Tab.get_upd_ne h _ _ _

@[simp] theorem gate_updGate (n : Nat) (f : Gate → Gate) (s : State) : gate n (updGate n f s) = f (gate n s) := by
  simp [gate, updGate]

@[simp] theorem eu_updEu (n : Nat) (f : Eu → Eu) (s : State) : eu n (updEu n f s) = f (eu n s) := by
  simp [eu, updEu]

@[simp] theorem unit_updUnit (n : Nat) (f : Eu → Eu) (s : State) : unit n (updUnit n f s) = f (unit n s) := by
  simp [unit, updUnit]

@[simp] theorem blockOf_updBlock (n : Nat) (f : Block → Block) (s : State) : blockOf n (updBlock n f s) = f (blockOf n s) := by
  simp [blockOf, updBlock]
theorem blockOf_updBlock_ne {m n : Nat} (h : m ≠ n) (f : Block → Block) (s : State) : blockOf m (updBlock n f s) = blockOf m s := Tab.get_upd_ne h _ _ _

@[simp] theorem bucket_updBucket (c n : Nat) (f : Bucket → Bucket) (s : State) : bucket c n (updBucket c n f s) = f (bucket c n s) := by
  simp [bucket, updBucket]
@[simp] theorem port_updPort (c i : Nat) (f : PtpPort → PtpPort) (s : State) : port c i (updPort c i f s) = f (port c i s) := by
  simp [port, updPort]
@[simp] theorem session_putSession (n : Nat) (e : Session) (s : State) : session n (putSession n e s) = some e := by
  simp [session, putSession]

/-! ## The ledger and the contacts -/

/-- A booking changes the entries of the ledger, and nothing else of the power part. -/
@[simp] theorem setEntry_power (c i st u : Nat) (s : State) : (setEntry c i st u s).power.waiting = s.power.waiting ∧
    (setEntry c i st u s).power.level = s.power.level ∧ (setEntry c i st u s).power.derate = s.power.derate ∧
    (setEntry c i st u s).power.ledgerMv = s.power.ledgerMv ∧ (setEntry c i st u s).power.tiles = s.power.tiles ∧
    (setEntry c i st u s).power.before4 = s.power.before4 ∧ (setEntry c i st u s).power.dipLog = s.power.dipLog ∧
    (setEntry c i st u s).power.dipPending = s.power.dipPending ∧
    (setEntry c i st u s).power.forcedFurls = s.power.forcedFurls := ⟨rfl, rfl, rfl, rfl, rfl, rfl, rfl, rfl, rfl⟩

@[simp] theorem contacts_pins (s : State) : (contacts s).pins =
    { s.pins with almMaj := !contactsDead s && !stands 2 s, almMin := !contactsDead s && !stands 1 s } := rfl

/-! ## Requests that are admitted, and answered other than 0x0402 -/

theorem answered_answer (q : Req) (st : Status) (d : List Byte) (s t : State) (h : t.gleno.answers = s.gleno.answers) :
    Answered q st d s (answer q st d t) := by
  simp [Answered, h]

/-- An admitted request answers what its body gives; the answer is in the Gleno part alone. -/
theorem roleRequest_does {need : Role} {q : Req} {s : State} (body : Session → State → Res) (h : admits q need s = true) :
    ∃ e, session q.sess s = some e ∧ roleMeets e.role need = true ∧
      roleRequest need q body s = answer q (body e s).code (body e s).data (body e s).st := by
  obtain ⟨e, he, hr⟩ := roleRequest_admitted body h
  refine ⟨e, he, ?_, hr⟩
  simp only [admits, he, Bool.and_eq_true] at h
  exact h.2.1

end Sys2Proof.Machine
end

section
/-!
PROOFS. What a start clears: the pins, the emissions and the clock that a cleared state keeps; the inlet and the resets (01, 03).
-/
namespace Sys2Proof.Machine

theorem foldl_only {α : Type} {ps : List Part} (g : State → α → State) (l : List α) (s : State) (h : ∀ s x, OnlyIn ps s (g s x)) :
    OnlyIn ps s (l.foldl g s) := by
  induction l generalizing s with
  | nil => exact .refl ps s
  | cons x l ih => exact (h s x).trans (ih _)

/-- The parts in which a start takes the settings in force. -/
def settingParts : List Part := [.life, .power, .regs, .dict, .gleno, .obs, .optics, .refs, .egr]

/-- No path is steered by the host. -/
def Unhosted (s : State) : Prop := ∀ n, (path n s).st ≠ .host

theorem freshBuckets_only (c : Nat) (s : State) : OnlyIn settingParts s (freshBuckets c s) :=
  foldl_only _ _ _ fun s n => by simp [onlyIn_iff, settingParts]

theorem takeOptic_only (c : Nat) (s : State) : OnlyIn settingParts s (takeOptic c s) := by
  simp [takeOptic, onlyIn_iff, settingParts]

theorem storedGate_only (c : Nat) (s : State) : OnlyIn settingParts s (storedGate c s) := by
  unfold storedGate
  (repeat' split) <;> simp [onlyIn_iff, settingParts]

theorem takeSetting_only (s : State) (k : ObjKey) : OnlyIn settingParts s (takeSetting s k) := by
  unfold takeSetting
  dsimp only
  split
  · exact takeOptic_only _ s
  · exact takeOptic_only _ s
  · exact takeOptic_only _ s
  · exact takeOptic_only _ s
  · exact freshBuckets_only _ s
  · exact freshBuckets_only _ s
  · exact storedGate_only _ s
  all_goals simp [onlyIn_iff, settingParts]

theorem takeSetting_refs (s : State) (k : ObjKey) : (takeSetting s k).refs = s.refs := by
  unfold takeSetting
  dsimp only
  split <;> simp [takeOptic, freshBuckets, storedGate]
  (repeat' split) <;> simp

theorem path_of_refs {s t : State} (h : t.refs = s.refs) (n : Nat) : path n t = path n s := by
  simp [path, h]

theorem path_slotCommit (k n : Nat) (s : State) : path n (slotCommit k s) = path n s := rfl

theorem path_foldl_slotCommit (n : Nat) (l : List Nat) (s : State) : path n (l.foldl (fun s k => slotCommit k s) s) = path n s := by
  induction l generalizing s with
  | nil => rfl
  | cons k l ih => exact (ih _).trans (path_slotCommit k n s)

theorem ownerCommit_only {n : Nat} {s : State} (h : (path n s).st ≠ .host) : OnlyIn [.refs] s (ownerCommit n s) := by
  unfold ownerCommit
  (repeat' split) <;> simp_all [onlyIn_iff]

theorem ovenCommit_only {s : State} (h : (path 0 s).st ≠ .host) : OnlyIn [.refs] s (ovenCommit s) := by
  have h : s.refs.freq.st ≠ .host := h
  unfold ovenCommit
  (repeat' split) <;> simp_all [onlyIn_iff]

theorem path_ownerCommit {n m : Nat} {s : State} (h : (path n s).st ≠ .host) (hm : m ≤ 2) (hn : n ≤ 2) (hmn : m ≠ n) :
    path m (ownerCommit n s) = path m s := by
  have other : ∀ f, path m (updPath n f s) = path m s := fun f => by
    unfold updPath path
    grind
  unfold ownerCommit
  (repeat' split) <;> simp_all

theorem takeSettings_only {s : State} (h : Unhosted s) : OnlyIn settingParts s (takeSettings s) := by
  unfold takeSettings
  extract_lets s1 l p g s2
  have h1 : OnlyIn settingParts s s1 := foldl_only _ _ _ takeSetting_only
  have h2 : OnlyIn settingParts s1 s2 := by simp [onlyIn_iff, settingParts, s2]
  have r2 : s2.refs = s.refs := foldl_refs _ _ _ takeSetting_refs
  generalize hs3 : (List.range 16).foldl (fun s k => slotCommit k s) s2 = s3
  have h3 : OnlyIn settingParts s2 s3 := hs3 ▸ foldl_only _ _ _ fun s k => by simp [slotCommit, onlyIn_iff, settingParts]
  have p3 : ∀ n, (path n s3).st ≠ .host := fun n => by
    rw [← hs3, path_foldl_slotCommit, path_of_refs r2]
    exact h n
  have p4 : ∀ m ≤ 2, m ≠ 1 → (path m (ownerCommit 1 s3)).st ≠ .host := fun m hm hn => by
    rw [path_ownerCommit (p3 1) hm (by decide) hn]
    exact p3 m
  have p5 : (path 0 (ownerCommit 2 (ownerCommit 1 s3))).st ≠ .host := by
    rw [path_ownerCommit (p4 2 (by decide) (by decide)) (by decide) (by decide) (by decide)]
    exact p4 0 (by decide) (by decide)
  have refs : [Part.refs] ⊆ settingParts := by simp [settingParts]
  have h4 := ((ownerCommit_only (p3 1)).trans (ownerCommit_only (p4 2 (by decide) (by decide)))).trans (ovenCommit_only p5)
  exact ((h1.trans h2).trans h3).trans (h4.mono refs)

theorem storedLasers_only (s : State) : OnlyIn [.optics] s (storedLasers s) := by
  unfold storedLasers
  refine .trans (foldl_only _ _ s fun s n => by simp [onlyIn_iff]) (foldl_only _ _ _ fun s n => ?_)
  dsimp only
  split
  · exact .refl _ _
  · simp [onlyIn_iff]

/-- A cleared start takes its settings with no path held by the host. -/
theorem clearFor_eq (c : Nat) (s : State) : ∃ u, clearFor c s = takeSettings (storedLasers u) ∧
    u.pins = { s.pins with outHeld := true, lockmonZero := true } ∧ u.wire = s.wire ∧ u.now = s.now ∧ Unhosted u := by
  refine ⟨_, rfl, ?_, ?_, ?_, fun n => ?_⟩
  · split <;> simp [keepPorts]
  · split <;> simp [keepPorts]
  · split <;> simp [keepPorts]
  · split <;> simp [keepPorts, path, Refs.reset, Path.reset]

theorem clearFor_keeps (c : Nat) (s : State) : (clearFor c s).pins = { s.pins with outHeld := true, lockmonZero := true } ∧
    (clearFor c s).wire = s.wire ∧ (clearFor c s).now = s.now := by
  obtain ⟨u, hu, hp, hw, hn, h⟩ := clearFor_eq c s
  have hl := storedLasers_only u
  have ht := takeSettings_only (s := storedLasers u) fun n => by
    rw [path_of_refs (hl .refs (by simp))]
    exact h n
  exact hu ▸ ⟨((ht .pins (by simp [settingParts])).trans (hl .pins (by simp))).trans hp,
    ((ht .wire (by simp [settingParts])).trans (hl .wire (by simp))).trans hw,
    ((ht .now (by simp [settingParts])).trans (hl .now (by simp))).trans hn⟩

/-- A start begins with its cause: the contacts, the life, the counters of starts and of the island follow, nothing else. -/
theorem beginStart_does (c : BitVec 8) (n : Nat) (s : State) : (beginStart c n s).life.state = .starting ∧
    (beginStart c n s).life.resetCause = c ∧ (beginStart c n s).pins.resetN = s.pins.resetN ∧ (beginStart c n s).started = n ∧
    countOf 0x140A 2 (beginStart c n s) = countOf 0x140A 2 s + 1 ∧
    OnlyIn [.pins, .life, .regs, .obs, .trust, .started] s (beginStart c n s) := by
  have hc := countOf_count 0x140A 2 (bumpCounter 1 { s with
    life := { s.life with state := .starting, hold := .none, resetCause := c, pendingCause := 0 }
    pins := { s.pins with lockmonZero := false }, started := n }) (by decide)
  refine ⟨?_, ?_, ?_, ?_, hc, ?_⟩ <;> simp [beginStart, onlyIn_iff]

/-- RESET is entered with its cause, the outputs held. -/
theorem intoReset_does (h : Hold) (c : Nat) (s : State) : (intoReset h c s).life.state = .reset ∧ (intoReset h c s).life.hold = h ∧
    (intoReset h c s).life.pendingCause = BitVec.ofNat 8 c ∧ (c = 2 → (intoReset h c s).life.regulators = false) ∧
    (intoReset h c s).pins = { s.pins with outHeld := true, lockmonZero := true, almMaj := false, almMin := false } ∧
    (intoReset h c s).wire = s.wire ∧ (intoReset h c s).now = s.now := by
  obtain ⟨hp, hw, hn⟩ := clearFor_keeps c s
  refine ⟨?_, ?_, ?_, fun h => ?_, ?_, ?_, ?_⟩ <;> simp [intoReset, contactsDead, *]

/-- An event that is logged outside a warm start takes the next number. -/
theorem logEvent_nextSeq (k : EventKind) (i c : Nat) (s : State) (h : s.life.state ≠ .restarting) :
    (logEvent k i c s).obs.nextSeq = s.obs.nextSeq + 1 := by
  have hw : (s.life.state == .restarting) = false := by simpa using h
  have hp : ∀ e (u : State), (pushEvent e u).obs.nextSeq = u.obs.nextSeq := fun e u => by
    unfold pushEvent count countW
    dsimp only
    (repeat' split) <;> simp [setRc]
  simp [logEvent, hw, hp]

/-- Settles O12: what a start begins with, what RESET is entered with, and what a cleared start keeps, command by command. -/
theorem inletAndReset : Obligations.InletAndReset := by
  refine ⟨?_, ?_, ?_, ?_, ?_, ?_, ?_, ?_, ?_, ?_, ?_⟩
  · intro mv s hs
    refine ⟨_, rfl, ?_⟩
    rw [if_neg (by simp [hs])]
    have hb : unitsOf cBase 0 (setEntry cOven 0 1 30 (setEntry cBase 0 1 60 s)) = 60 := by
      rw [unitsOf_setEntry_ne _ _ _ _ _ _ _ (by decide), unitsOf_setEntry]
    have ho := unitsOf_setEntry cOven 0 1 30 (setEntry cBase 0 1 60 s)
    exact ⟨hb, ho, rfl, rfl, rfl, rfl, by simp [onlyIn_iff]⟩
  · intro mv s
    exact ⟨_, rfl, by simp⟩
  · intro mv s hs hb hm hp
    obtain ⟨h1, h2, -, h4, h5, h6⟩ := beginStart_does 1 s.started (updPower (fun p => { p with busMv := mv.toNat, ledgerMv := mv.toNat }) s)
    refine ⟨_, rfl, ?_⟩
    rw [if_neg (by simp [hs, hb, hm]), if_pos hp]
    refine ⟨h1, h2, by simp, h5, ?_⟩
    simp [onlyIn_iff, beginStart]
  · intro mv s hs hb hm hp
    refine ⟨_, rfl, ?_⟩
    rw [if_neg (by simp [hs, hb, hm]), if_neg (by simp [hp])]
    simp [contactsDead, onlyIn_iff]
  · intro s hs
    refine ⟨_, rfl, ?_⟩
    obtain ⟨-, hw, hn⟩ := clearFor_keeps 1 s
    rw [if_neg (by simp [hs])]
    simp [hw, hn]
  · intro s hs
    obtain ⟨h1, h2, h3, -, h4, -⟩ := intoReset_does .none 3 { s with pins := { s.pins with resetN := false } }
    refine ⟨_, congrArg Host.Outcome.next (if_pos (by simpa [canReset] using hs)), ?_⟩
    simp [h1, h2, h3, h4]
  · intro s hs
    refine ⟨_, rfl, ?_⟩
    exact if_neg (by simpa [canReset] using hs)
  · intro ns s hr hs hh
    obtain ⟨h1, h2, h3, h4, -, h6⟩ := beginStart_does s.life.pendingCause s.now { s with pins := { s.pins with resetN := true } }
    refine ⟨_, rfl, ?_⟩
    rw [if_neg (by simp [hr]), if_pos (by simp [hs, hh])]
    refine ⟨h1, h2, h3, h4, .trans ?_ h6⟩
    simp [onlyIn_iff]
  · intro ns s hr h1 h2 hs
    refine ⟨_, rfl, ?_⟩
    rw [if_pos hr, if_pos (by simp [hs, h1, h2])]
    exact ⟨logEvent_nextSeq _ _ _ _ (by simp [hs]), by simp, by simp [onlyIn_iff]⟩
  · intro mv s hs hr hh
    refine ⟨_, rfl, ?_⟩
    obtain ⟨h1, h2, -, -, -, h6⟩ := beginStart_does s.life.pendingCause (if s.life.hold = .supply then s.now - 10000000 else s.now)
      (updPower (fun p => { p with busMv := mv.toNat, ledgerMv := mv.toNat }) s)
    rw [if_neg (by obtain ⟨hh, hm⟩ | ⟨hh, hm⟩ := hh <;> simp [hs, hh, hm]), if_pos hr]
    refine ⟨h1, h2, by simp, OnlyIn.trans ?_ (h6.mono (by simp))⟩
    simp [onlyIn_iff]
  · intro mv s hs hh hm
    refine ⟨_, rfl, ?_⟩
    exact if_pos (by simp [hh, hm])

end Sys2Proof.Machine
end

section
/-!
PROOFS. The supply, the straps and the stages of the cold start (01, 03).
-/
namespace Sys2Proof.Machine

/-- Of the pins an alarm sets its contacts alone. -/
@[simp] theorem raise_pins (a : Alarm) (i : Nat) (s : State) : (raise a i s).pins.outHeld = s.pins.outHeld ∧
    (raise a i s).pins.straps = s.pins.straps ∧ (raise a i s).pins.resetN = s.pins.resetN := by
  unfold raise
  split <;> simp

theorem strapFault_does (s : State) : (strapFault s).life = { s.life with state := .strapFault } ∧ (strapFault s).gleno.state = .silent ∧
    (strapFault s).pins.outHeld = true ∧ (strapFault s).pins.almMaj = false ∧ Stands .strapFault noInst (strapFault s) ∧
    OnlyIn [.pins, .life, .regs, .gleno, .obs, .upd] s (strapFault s) := by
  have hs : Stands .strapFault noInst (strapFault s) := standing_raise _ _ _
  refine ⟨?_, ?_, ?_, ?_, hs, ?_⟩ <;> simp [strapFault, holdOutputs, contactsDead, onlyIn_iff]

/-- Settles O13: RESET is entered with the cause of the voltage; the straps are latched or end the start. -/
theorem supplyAndStraps : Obligations.SupplyAndStraps := by
  refine ⟨?_, ?_, ?_, ?_, ?_, ?_, ?_⟩
  · intro lowest below s hs
    refine ⟨_, congrArg Host.Outcome.next (if_neg hs), ?_⟩
    obtain ⟨h1, h2, h3, h4, h5, -⟩ := intoReset_does .supply 2 (updPower (fun p => { p with
      dipPending := if s.power.level = 4 then s.power.dipPending.map (fun d => { d with lowest := lowest.toNat, below := below.toNat }) else none
      busMv := lowest.toNat }) (if s.power.level = 4 then dipPop s else s))
    exact ⟨h1, h2, h3, h4 rfl, by rw [h5], by rw [h5], by simp⟩
  · intro mv s hs hm
    refine ⟨_, congrArg Host.Outcome.next (if_neg (by simp [hs, hm])), standing_raise _ _ _, ?_⟩
    simp [onlyIn_iff]
  · intro mv s hs hm
    refine ⟨_, congrArg Host.Outcome.next ((if_neg (by omega)).trans (if_pos hs)), ?_⟩
    obtain ⟨h1, h2, h3, -, h5, -⟩ := intoReset_does .overVoltage 4 (raise .overVoltageStop noInst (updPower (fun p => { p with busMv := mv.toNat }) s))
    exact ⟨h1, h2, h3, by rw [h5], by simp⟩
  · intro s hs hr hl hp
    exact ⟨_, congrArg Host.Outcome.next ((if_neg (by simp [hs, hr, hl])).trans (if_neg (by omega))), rfl⟩
  · intro s hs hr hl hp
    obtain ⟨h1, h2, -, -, h3, -⟩ := strapFault_does s
    exact ⟨_, congrArg Host.Outcome.next ((if_neg (by simp [hs, hr, hl])).trans (if_pos hp)), by rw [h1], by rw [h1]; exact hl, h2, h3⟩
  · intro s hs hr hl
    obtain ⟨h1, h2⟩ := strapFault_does s
    exact ⟨_, congrArg Host.Outcome.next (if_pos (by simp [hs, hr, hl])), by rw [h1], h2⟩
  · intro x s hl hx
    refine ⟨_, congrArg Host.Outcome.next (if_pos ⟨hl, hx⟩), ?_, ?_, standing_raise _ _ _, ?_⟩ <;> simp [onlyIn_iff]

/-- A start of a module whose update record says that the active image is being reverted to the reserve. -/
def revertedStart : State :=
  { State.reset with life := { State.reset.life with state := .starting }, upd := { State.reset.upd with state := 6 } }

/-- The boot ROM goes on with the copy of the reserve image, and books it as a flash write in the ledger. -/
theorem revertedStart_books_copy :
    Yields (.regulatorsValid 0 0 0 0 false) revertedStart fun t => unitsOf cFlash 3 revertedStart = 0 ∧ unitsOf cFlash 3 t = 4 :=
  ⟨_, rfl, by decide +kernel⟩

/-- Refutes O14: its frame of REGULATORS_VALID leaves out the power part, where the boot ROM books a copy of an image. -/
theorem not_coldStartStages : ¬ Obligations.ColdStartStages := by
  rintro ⟨h, -⟩
  obtain ⟨t, ht, -, -, -, -, -, -, -, -, only⟩ := h 0 0 0 0 revertedStart rfl rfl
  obtain ⟨u, hu, h0, h4⟩ := revertedStart_books_copy
  obtain rfl : t = u := Host.Outcome.next.inj (ht.symm.trans hu)
  have power : t.power = revertedStart.power := only .power (by decide)
  rw [unitsOf, power, ← unitsOf, h0] at h4
  exact absurd h4 (by decide)

end Sys2Proof.Machine
end

section
/-!
PROOFS. Restarts and warm starts (03).
-/
namespace Sys2Proof.Machine

/-- An admitted request that passes its check answers 0, then acts. -/
theorem requestThen_acts {need : Role} {q : Req} {s : State} {go : Status} {check : State → Status} (act : State → State)
    (h : admits q need s = true) (hc : check s = go) : requestThen need q go check act s = act (answer q go [] s) := by
  rw [requestThen_admitted go check act h, if_pos hc, hc]

/-- An admitted request that fails its check answers so, and does nothing else. -/
theorem requestThen_refuses {need : Role} {q : Req} {s : State} {go : Status} {check : State → Status} (act : State → State)
    (h : admits q need s = true) (hc : check s ≠ go) : requestThen need q go check act s = answer q (check s) [] s := by
  rw [requestThen_admitted go check act h, if_neg hc]

/-- A warm start from RUNNING: RESTARTING with its cause and no commit waiting. -/
theorem warmStart_does (c : BitVec 8) (s : State) (h : s.life.state = .running) : (warmStart c s).life.state = .restarting ∧
    (warmStart c s).life.fromState = .running ∧ (warmStart c s).life.restartCause = c ∧ (warmStart c s).commits.scheduled = [] := by
  have ha : (abandonHandover s).life.state = .running := by
    unfold abandonHandover
    (repeat' split) <;> simp [h]
  have hw : ∀ (l : List Nat) (u : State), (l.foldl warmSession u).life = u.life := fun l u => by simp [warmSession]
  simp [warmStart, hw, ha]

/-- An event that is logged outside a warm start does not enter the hardware buffer. -/
theorem pushEvent_warmBuf (e : Event) (s : State) : (pushEvent e s).obs.warmBuf = s.obs.warmBuf := by
  unfold pushEvent count countW setRc
  dsimp only
  (repeat' split) <;> rfl

theorem logEvent_warmBuf (k : EventKind) (i c : Nat) (s : State) (h : s.life.state ≠ .restarting) :
    (logEvent k i c s).obs.warmBuf = s.obs.warmBuf := by
  have hw : (s.life.state == .restarting) = false := by simpa using h
  simp [logEvent, hw, pushEvent_warmBuf]

theorem raise_warmBuf (a : Alarm) (i : Nat) (s : State) (h : s.life.state ≠ .restarting) : (raise a i s).obs.warmBuf = s.obs.warmBuf := by
  unfold raise
  split
  · rfl
  · exact logEvent_warmBuf _ _ _ _ h

theorem endAlarm_warmBuf (a : Alarm) (i : Nat) (s : State) (h : s.life.state ≠ .restarting) :
    (endAlarm a i s).obs.warmBuf = s.obs.warmBuf := by
  unfold endAlarm
  split
  · exact logEvent_warmBuf _ _ _ _ h
  · rfl

theorem settlePort_warmBuf (c i : Nat) (s : State) (h : s.life.state ≠ .restarting) : (settlePort c i s).obs.warmBuf = s.obs.warmBuf := by
  unfold settlePort
  dsimp only
  (repeat' split) <;> simp [raise_warmBuf, endAlarm_warmBuf, h]

theorem settlePorts_warmBuf (l : List Nat) (s : State) (h : s.life.state ≠ .restarting) : (settlePorts l s).obs.warmBuf = s.obs.warmBuf := by
  unfold settlePorts
  induction l generalizing s with
  | nil => rfl
  | cons c l ih => simp [ih, settlePort_warmBuf, h]

theorem drainWarm_empties (s : State) : (drainWarm s).obs.warmBuf = [] ∧ OnlyIn [.regs, .obs] s (drainWarm s) := by
  have push : ∀ (l : List Event) (u : State), (l.foldl (fun s e => pushEvent e s) u).obs.warmBuf = u.obs.warmBuf := fun l => by
    induction l with
    | nil => simp
    | cons e l ih => simp [ih, pushEvent_warmBuf]
  exact ⟨push _ _, by simp [drainWarm, onlyIn_iff]⟩

/-- Settles O17: each command resets, enters a warm start or ends it. -/
theorem restartsAndWarmStarts : Obligations.RestartsAndWarmStarts := by
  refine ⟨?_, ?_, ?_, ?_, ?_, ?_, ?_, ?_⟩
  · intro q s ha hs
    refine ⟨_, congrArg Host.Outcome.next (requestThen_acts _ ha (by simp [restartStatus, hs])), ?_⟩
    rw [restartAct, if_pos (by simp [hs])]
    exact warmStart_does 7 _ (by simp [hs])
  · intro q s ha hs
    refine ⟨_, congrArg Host.Outcome.next (requestThen_acts _ ha (by simp [restartStatus, hs])), ?_⟩
    rw [restartAct, if_neg (by simp)]
    obtain ⟨h1, h2, h3, -, -, h4, -⟩ := intoReset_does .timed 5 (emit .slotFrame q.sess [q.id.toNat, 0] (answer q 0 [] s))
    refine ⟨h1, h2, h3, h4.trans ?_⟩
    simp [emit]
  · intro q v s ha h1 h2
    have hv : restartStatus v.toNat s = 0x0301#16 := if_pos ⟨fun h => h1 (BitVec.eq_of_toNat_eq h), fun h => h2 (BitVec.eq_of_toNat_eq h)⟩
    refine ⟨_, congrArg Host.Outcome.next (requestThen_refuses _ ha (by simp [hv])), ?_⟩
    rw [hv]
    exact ⟨by simp, answered_answer _ _ _ _ _ rfl⟩
  · intro s hs hu
    refine ⟨_, congrArg Host.Outcome.next ((if_neg (by simp [hs])).trans (if_neg hu)), warmStart_does 8 s hs⟩
  · intro s hs hu h3
    obtain ⟨h1, -, h2, -⟩ := intoReset_does .timed 8 s
    exact ⟨_, congrArg Host.Outcome.next ((if_neg (by simp [hs])).trans ((if_pos hu).trans (if_pos h3))), h1, h2⟩
  · intro v s hs hf hv
    refine ⟨_, congrArg Host.Outcome.next ((if_neg (by simp [hs])).trans (if_neg (by simp [hv]))), ?_⟩
    generalize hu : updLife (fun l => { l with state := l.fromState, resetCause := l.restartCause }) s = u
    generalize hr : (if rolesPlaced u then u else assignRoles u) = r
    have life : r.life.state = .running ∧ r.life.resetCause = s.life.restartCause := by
      rw [← hr]
      split <;> simp [assignRoles, bookSpars, ← hu, hf]
    obtain ⟨hw, hd⟩ := drainWarm_empties r
    have hl : (drainWarm r).life = r.life := hd .life (by simp)
    simp [hr, hl, life, hw, settlePorts_warmBuf]
  · intro v s hs hv
    obtain ⟨h1, -, h2, -⟩ := intoReset_does .timed 9 s
    exact ⟨_, congrArg Host.Outcome.next ((if_neg (by simp [hs])).trans (if_pos hv)), h1, h2⟩
  · intro s hs
    obtain ⟨h1, h2, h3, -⟩ := intoReset_does .timed 9 s
    exact ⟨_, congrArg Host.Outcome.next (if_pos hs), h1, h2, h3⟩

theorem beginStop_does (s : State) : (beginStop s).life.state = .stopping ∧ (beginStop s).life.stopStatus = 1 := by
  simp [beginStop, shutFromStep3]

/-- An answer changes the answers that wait and the sessions, and no other part of the Gleno state. -/
theorem answer_gleno (q : Req) (st : Status) (d : List Byte) (s : State) :
    ∃ l, (answer q st d s).gleno = { s.gleno with answers := s.gleno.answers ++ [⟨q.sess, q.id, st, d⟩], sessions := l } := by
  unfold answer updSession putSession
  dsimp only
  (repeat' split) <;> exact ⟨_, by simp; rfl⟩

@[simp] theorem ownsOutputs_answer (q : Req) (st : Status) (d : List Byte) (s : State) : ownsOutputs (answer q st d s) = ownsOutputs s := by
  obtain ⟨l, hl⟩ := answer_gleno q st d s
  simp [ownsOutputs, paired, hl]

theorem shutDown_does (s : State) : (shutDown s).life.state = .stopped ∧ (shutDown s).life.stopStatus = 2 ∧
    (shutDown s).life.staging = false ∧ (shutDown s).power.waiting = [] ∧ (shutDown s).pins.outHeld = true := by
  unfold shutDown
  refine ⟨rfl, rfl, rfl, rfl, ?_⟩
  simp only [updPower_frame, updLife_frame]
  rw [foldl_pins]
  · simp [holdOutputs]
  · intro u e
    split
    · split <;> simp
    · rfl

/-- Settles O18: a stop is refused, changes nothing or begins at step 3; the last step shuts down. -/
theorem orderlyStop : Obligations.OrderlyStop := by
  have begins : ∀ (q : Req) (v : Nat) (s : State), admits q .operator s = true → s.life.state = .running → ¬ (v = 1 ∧ ownsOutputs s) →
      stop q v s = beginStop (answer q 0 [] s) := fun q v s ha hs hv => by
    have st : stopStatus v s = 0 := by simp only [stopStatus, hs, if_neg hv]
    rw [stop, requestThen_acts _ ha (by simp [st])]
    simp only [st, stopAct, answer_frame, hs, ownsOutputs_answer, if_neg hv]
    rfl
  refine ⟨?_, ?_, ?_, ?_, ?_, ?_, ?_⟩
  · intro q s ha hs
    obtain ⟨h1, h2⟩ := beginStop_does (answer q 0 [] s)
    exact ⟨_, congrArg Host.Outcome.next (begins q 2 s ha hs (by simp)), h1, h2, by simp [Answered]⟩
  · intro q s ha hs ho
    obtain ⟨h1, h2⟩ := beginStop_does (answer q 0 [] s)
    exact ⟨_, congrArg Host.Outcome.next (begins q 1 s ha hs (by simp [ho])), h1, h2, by simp [Answered]⟩
  · intro q s ha hs ho hh
    have st : stopStatus 1 s = 0x0801#16 := by simp [stopStatus, hs, ho, hh]
    refine ⟨_, congrArg Host.Outcome.next (requestThen_refuses _ ha (by simp [st])), ?_⟩
    rw [st]
    exact ⟨by simp, answered_answer _ _ _ _ _ rfl⟩
  · intro q s ha hs
    have st : stopStatus 1 s = 0 := by simp only [stopStatus, hs]
    refine ⟨_, congrArg Host.Outcome.next (requestThen_acts _ ha (by simp [st])), ?_⟩
    simp [st, stopAct, hs, Answered]
  · intro s hs h5
    exact ⟨_, congrArg Host.Outcome.next (if_pos ⟨hs, h5⟩), rfl⟩
  · intro s hs h6 he
    obtain ⟨h1, h2, h3, h4, h5⟩ := shutDown_does s
    refine ⟨_, congrArg Host.Outcome.next (if_neg (by simp [hs, h6, he])), ?_⟩
    rw [if_pos h6]
    exact ⟨h1, h2, h3, h4, h5, by simp⟩
  · intro s hs he
    exact ⟨_, congrArg Host.Outcome.next (if_pos (by simp [he])), rfl⟩

end Sys2Proof.Machine
end

section
/-!
PROOFS. The engines that fail or stop, and the requests to the current ledger (02, 03).
-/
namespace Sys2Proof.Machine

/-! ## What bookings and events leave alone -/

/-- A logged event counts nothing but lost events. -/
theorem countOf_logInfo (k : EventKind) (i x y : Nat) (s : State) (h : key x y ≠ key 0x7015 1) (h' : key x y ≠ key 0x7015 4) :
    countOf x y (logInfo k i s) = countOf x y s := count_counts_of_logEvent _ _ _ _ x y h h'

theorem countOf_settlePort (c i x y : Nat) (s : State) (h : key x y ≠ key 0x7015 1) (h' : key x y ≠ key 0x7015 4) :
    countOf x y (settlePort c i s) = countOf x y s := by
  have upd : ∀ f u, countOf x y (updPort c i f u) = countOf x y u := fun f u => by simp [countOf]
  unfold settlePort
  dsimp only
  (repeat' split) <;> simp only [upd, countOf_raise _ _ _ _ _ h h', countOf_endAlarm _ _ _ _ _ h h']

theorem countOf_settlePorts (l : List Nat) (x y : Nat) (s : State) (h : key x y ≠ key 0x7015 1) (h' : key x y ≠ key 0x7015 4) :
    countOf x y (settlePorts l s) = countOf x y s := by
  unfold settlePorts
  induction l generalizing s with
  | nil => rfl
  | cons c l ih => simp only [List.foldl_cons, ih, countOf_settlePort _ _ _ _ _ h h']

/-! ## Engines -/

theorem enginesOf_spare_setAt {s t : State} {e : Nat} {x y : SparEngine} (hs : s.life.spar[e]? = some x) (hx : x.role ≠ .spare)
    (hy : y.role ≠ .spare) (ht : t.life.spar = setAt e y s.life.spar) : enginesOf .spare t = enginesOf .spare s := by
  have hl : e < s.life.spar.length := (List.getElem?_eq_some_iff.mp hs).1
  refine List.filter_congr fun n _ => ?_
  rw [ht]
  by_cases hn : n = e
  · subst hn
    simp only [getElem?_setAt_same _ _ _ hl, hs, beq_eq_false_iff_ne.mpr hx, beq_eq_false_iff_ne.mpr hy]
  · rw [getElem?_setAt_ne hn]

/-- At level 4 no request is granted or refused (R77). -/
theorem presentAsk_level4 (a : Ask) (s : State) (h : s.power.level = 4) : presentAsk a s = s := by
  unfold presentAsk present
  split <;> simp [h]

/-- Settles O19: the role's new engine is the lowest spare, which the failure does not change. -/
theorem sparEngines : Obligations.SparEngines := by
  have failed : ∀ {s : State} {e : Nat} {r : SparRole}, s.life.spar[e]? = some ⟨r, .running⟩ →
      (setAt e ⟨.failed, .off⟩ s.life.spar)[e]? = some ⟨.failed, .off⟩ :=
    fun h => getElem?_setAt_same _ _ _ (List.getElem?_eq_some_iff.mp h).1
  have free : ∀ {s : State} {e : Nat} {r : SparRole}, s.life.spar[e]? = some ⟨r, .running⟩ → r ≠ .spare →
      freeEngines (setEntry cSpar e 0 0 (updLife (fun l => { l with spar := setAt e ⟨.failed, .off⟩ l.spar }) s)) = freeEngines s :=
    fun h hr => by simp [freeEngines, enginesOf_spare_setAt h hr (y := ⟨.failed, .off⟩) (by simp)]
  refine ⟨?_, ?_, ?_, ?_⟩
  · intro e n l s he hn hs hf
    have step : exec (.sparEngineFailure e) s = .next (setEntry cSpar n 1 3
        (updLife (fun l => { l with migrating := l.migrating ++ [⟨.reef, e.val, n, true⟩] })
          (setEntry cSpar e 0 0 (updLife (fun l => { l with spar := setAt e ⟨.failed, .off⟩ l.spar }) s)))) := by
      simp [exec, execSparEngineFailure, he, hn, hs, free he, hf, roleLost]
    refine ⟨_, step, ?_⟩
    simp [failed he, onlyIn_iff]
  · intro e n l s he hn hs hf h4
    have step : exec (.sparEngineFailure e) s = .next (updPower (fun p => { p with waiting := p.waiting ++ [⟨.repair, .sparMigration e, 3⟩] })
        (updLife (fun l => { l with migrating := l.migrating ++ [⟨.servo, e.val, n, false⟩] })
          (setEntry cSpar e 0 0 (updLife (fun l => { l with spar := setAt e ⟨.failed, .off⟩ l.spar }) s)))) := by
      simp [exec, execSparEngineFailure, he, hn, hs, free he, hf, roleLost]
      rw [presentAsk_level4 _ _ (by simp [h4])]
      rfl
    refine ⟨_, step, ?_⟩
    simp [failed he, onlyIn_iff]
  · intro e m s hm he hg ht
    refine ⟨_, congrArg Host.Outcome.next (by simp only [hm, he, hg, List.find?_cons, beq_self_eq_true]; rfl), ?_⟩
    refine ⟨?_, ?_, (countOf_settlePorts _ _ _ _ (by decide) (by decide)).trans
      ((countOf_logInfo _ _ _ _ _ (by decide) (by decide)).trans (countOf_count 0x140A 3 _ (by decide)))⟩
    · simp [getElem?_setAt_same _ _ _ ht]
    · simp [hm, he]
  · intro e r s he hn
    have step : exec (.sparClockStop e) s = .next (setEntry cSpar e 1 0
        (updLife (fun l => { l with spar := setAt e ⟨r, .stopped⟩ l.spar }) s)) := by
      simp [exec, execSparClockStop, sparPower, he, hn]
    refine ⟨_, step, ?_⟩
    simp [onlyIn_iff, getElem?_setAt_same _ _ _ (List.getElem?_eq_some_iff.mp he).1]

end Sys2Proof.Machine
end

section
/-!
PROOFS. The requests to the current ledger (02).
-/
namespace Sys2Proof.Machine

/-! ## The level, through what a rise to level 1 stops -/

@[simp] theorem bookLanes_level (c : Nat) (s : State) : (bookLanes c s).power.level = s.power.level := by simp [bookLanes]
@[simp] theorem setCod_level (c : Nat) (f : Coding → Coding) (s : State) : (setCod c f s).power.level = s.power.level := by simp [setCod]
@[simp] theorem chanTo_level (c st : Nat) (s : State) : (chanTo c st s).power.level = s.power.level := by simp [chanTo]
@[simp] theorem endRun_level (k i : Nat) (s : State) : (endRun k i s).power.level = s.power.level := by
  unfold endRun
  (repeat' split) <;> simp
@[simp] theorem discardRun_level (n : Nat) (r : CalRun) (s : State) : (discardRun n r s).power.level = s.power.level := by
  simp [discardRun]
@[simp] theorem foldl_level {α : Type} (g : State → α → State) (l : List α) (s : State) (h : ∀ s x, (g s x).power.level = s.power.level) :
    (l.foldl g s).power.level = s.power.level := by
  induction l generalizing s with
  | nil => rfl
  | cons x l ih => simp [ih, h]
@[simp] theorem discardRuns_level (n : Nat) (f : CalRun → Bool) (s : State) : (discardRuns n f s).power.level = s.power.level := by
  simp [discardRuns]
@[simp] theorem portsDown_level (c : Nat) (s : State) : (portsDown c s).power.level = s.power.level := by simp [portsDown]
@[simp] theorem settleChan_level (c : Nat) (s0 s : State) : (settleChan c s0 s).power.level = s.power.level := by
  unfold settleChan
  split <;> simp
@[simp] theorem loopSettle_level (c : Nat) (s : State) : (loopSettle c s).power.level = s.power.level := by
  unfold loopSettle
  dsimp only
  (repeat' split) <;> simp
@[simp] theorem endSampling_level (n : Nat) (s : State) : (endSampling n s).power.level = s.power.level := by
  unfold endSampling
  split <;> simp
@[simp] theorem abortDownload_level (s : State) : (abortDownload s).power.level = s.power.level := by
  unfold abortDownload endDownload
  (repeat' split) <;> simp
@[simp] theorem endBackground_level (n : Nat) (s : State) : (endBackground n s).power.level = s.power.level := by
  have loops : ∀ (u : State) (c : Nat), (if cfg 0x2109 (c + 1) u = 0 then u else loopSettle c (setVal 0x2109 (c + 1) [0] u)).power.level =
      u.power.level := fun u c => by split <;> simp
  simp only [endBackground, abortDownload_level, foldl_level _ _ _ loops]
  simp

/-- A rise from level 0 is to level 1: what the level stops does not change it. -/
theorem riseOne_level0 (s : State) (h : s.power.level = 0) : (riseOne s).power.level = 1 := by
  simp [riseOne, levelStops, h]

/-! ## Granting and refusing -/

/-- The reef controller grants requests of its role, short of level 4. -/
theorem presentAsk_grants {a : Ask} {w : Waiting} {s : State} (hw : s.power.waiting.find? (fun w => w.what == a) = some w)
    (hg : grantable w s = true) : presentAsk a s = grant w s := by
  have hr : reefRuns s = true ∧ s.power.level ≠ 4 := by
    simp only [grantable, Bool.and_eq_true, bne_iff_ne] at hg
    exact hg.1.1
  simp [presentAsk, hw, present, hr, hg]

theorem presentAsk_refuses {a : Ask} {w : Waiting} {s : State} (hw : s.power.waiting.find? (fun w => w.what == a) = some w)
    (hr : reefRuns s = true) (h4 : s.power.level ≠ 4) (hg : grantable w s = false) : presentAsk a s = refuse w s := by
  simp [presentAsk, hw, present, hr, h4, hg]

/-- At level 0 no rule of a level bars a request: it is granted where it fits. -/
theorem grantable_level0 (w : Waiting) (s : State) (hr : reefRuns s = true) (h0 : s.power.level = 0) :
    grantable w s = fits w.cls (needs w s) s := by
  have hb : barred w s = false := by
    unfold barred
    simp only [h0]
    (repeat' split) <;> simp
  simp [grantable, hr, h0, hb]

theorem reefRuns_wait (s : State) (l : List Waiting) : reefRuns (updPower (fun p => { p with waiting := l }) s) = reefRuns s := rfl

/-- A granted bank start: the bank starts, its starting entry is booked. -/
theorem bankGrant_does (t : Nat) (s : State) (hl : (eng t s).lower.bound = false) (hu : (eng t s).upper.bound = false) :
    (eng t (bankGrant t s)).bank = .starting ∧ unitsOf cBank t (bankGrant t s) = perVariant 18 24 s ∧
    (bankGrant t s).power.waiting = s.power.waiting ∧ countOf 0x130D 1 (bankGrant t s) = countOf 0x130D 1 s ∧
    OnlyIn [.pins, .power, .regs, .obs, .optics] s (bankGrant t s) := by
  have he : ∀ (a : Alarm) (n : Nat) (u : State), eng t (endAlarm a n u) = eng t u := fun a n u => by simp [eng]
  have hb : ∀ u, eng t (bookBank t 1 u) = eng t u := fun u => by simp [eng]
  have hc : ∀ (a : Alarm) (n : Nat) (u : State), unitsOf cBank t (endAlarm a n u) = unitsOf cBank t u := fun a n u => by simp [unitsOf]
  unfold bankGrant
  simp only [hl, hu, he, hb, hc, countOf_endAlarm _ _ 0x130D 1 _ (by decide) (by decide), Bool.false_eq_true, if_false]
  refine ⟨by simp, ?_, ?_, ?_, ?_⟩ <;> simp [bookBank, perVariant, onlyIn_iff, countOf]

@[simp] theorem unwait_power (a : Ask) (s : State) :
    (unwait a s).power = { s.power with waiting := s.power.waiting.filter (fun w => w.what != a) } := rfl

/-- The state in which a request that waits is granted: counted, and no longer waiting. -/
theorem granting_does (a : Ask) (s : State) : (countGrant (unwait a s)).power = { s.power with waiting := s.power.waiting.filter (fun w => w.what != a) } ∧
    countOf 0x130D 1 (countGrant (unwait a s)) = countOf 0x130D 1 s + 1 ∧ OnlyIn [.power, .regs, .obs] s (countGrant (unwait a s)) := by
  refine ⟨?_, countOf_count 0x130D 1 _ (by decide), ?_⟩
  · simp [countGrant, unwait]
  · simp [countGrant, unwait, onlyIn_iff]

theorem exec_reefRequest_laserBank (n : Tile) (s : State) (hb : (eng n s).bank = .waiting) (hw : s.power.waiting = []) :
    exec (.reefRequest (.laserBank n)) s = .next (presentAsk (.laserBank n)
      (updPower (fun p => { p with waiting := [⟨.traffic, .laserBank n, perVariant 18 24 s⟩] }) s)) := by
  simp [exec, execReefRequest, hw, freshAsk, hb, updPower]

/-- Settles O20: a request that waits is put to the reef controller, which grants it where it fits. -/
theorem ledgerRequests : Obligations.LedgerRequests := by
  refine ⟨?_, ?_, ?_, ?_, ?_, ?_⟩
  · intro n s hb hl hu hw hr h0 hf
    generalize hus : updPower (fun p => { p with waiting := [⟨.traffic, .laserBank n, perVariant 18 24 s⟩] }) s = u
    have hg : grantable ⟨.traffic, .laserBank n, perVariant 18 24 s⟩ u = true := by
      subst hus
      exact (grantable_level0 _ _ hr h0).trans hf
    have step : exec (.reefRequest (.laserBank n)) s = .next (bankGrant n (countGrant (unwait (.laserBank n) u))) := by
      rw [exec_reefRequest_laserBank n s hb hw, hus, presentAsk_grants (by simp [← hus]) hg]
      rfl
    obtain ⟨hp, hc, ho⟩ := granting_does (.laserBank n) u
    have he : eng n (countGrant (unwait (.laserBank n) u)) = eng n s := by
      simp [← hus, eng, countGrant, unwait]
    have hv : perVariant 18 24 (countGrant (unwait (.laserBank n) u)) = perVariant 18 24 s := by
      simp [← hus, perVariant, countGrant, unwait]
    obtain ⟨h1, h2, h3, h4, h5⟩ := bankGrant_does n (countGrant (unwait (.laserBank n) u)) (he ▸ hl) (he ▸ hu)
    refine ⟨_, step, h1, h2.trans hv, ?_, ?_, OnlyIn.trans ?_ (OnlyIn.trans (ho.mono (by simp)) h5)⟩
    · rw [h3, hp, ← hus]
      simp
    · rw [h4, hc, ← hus]
      rfl
    · simp [← hus, onlyIn_iff]
  · intro n s hb hw hr h0 hf
    generalize hus : updPower (fun p => { p with waiting := [⟨.traffic, .laserBank n, perVariant 18 24 s⟩] }) s = u
    have hr' : reefRuns u = true := by rw [← hus, reefRuns_wait, hr]
    have h0' : u.power.level = 0 := by simp [← hus, h0]
    have hg : grantable ⟨.traffic, .laserBank n, perVariant 18 24 s⟩ u = false := by
      subst hus
      exact (grantable_level0 _ _ hr' h0').trans hf
    have hbar : barred ⟨.traffic, .laserBank n, perVariant 18 24 s⟩ u = false := by simp [barred, h0']
    have step : exec (.reefRequest (.laserBank n)) s = .next (noteRefused (.laserBank n) (riseOne (countRefusal u))) := by
      rw [exec_reefRequest_laserBank n s hb hw, hus, presentAsk_refuses (by simp [← hus]) hr' (by simp [h0']) hg]
      simp [refuse, hbar, refusedAct]
    refine ⟨_, step, ?_⟩
    have h1 := riseOne_level0 (countRefusal u) (by simpa [countRefusal] using h0')
    simpa [noteRefused] using h1
  · intro r m p s hw hm hr h0 hf
    have hn : nextGrant s = some ⟨.repair, .sparMigration r, 3⟩ := by
      have hf' : fits .repair (needs ⟨.repair, .sparMigration r, 3⟩ s) s = true := hf
      simp [nextGrant, hw, grantable_level0 _ _ hr h0, hf']
    have step : exec .reefGrant s = .next (setEntry cSpar m 1 3 (updLife (fun l => { l with migrating := [⟨p, r, m, true⟩] })
        (countGrant (unwait (.sparMigration r) s)))) := by
      simp [exec, execReefGrant, hn, grant, applyGrant, hm, updLife]
    obtain ⟨-, -, ho⟩ := granting_does (.sparMigration r) s
    refine ⟨_, step, ?_, ?_, ?_, OnlyIn.trans (ho.mono (by simp)) ?_⟩
    · simp [hw]
    all_goals simp [onlyIn_iff]
  · intro s hw
    refine ⟨s, ?_, rfl⟩
    simp [exec, execReefGrant, nextGrant, hw]
  · intro s hw hr h0 hf
    have hg : grantable ⟨.background, .flashWrite 3, 4⟩ s = true := (grantable_level0 _ _ hr h0).trans hf
    have step : exec (.requestRetry (.flashWrite 3)) s = .next (setEntry cFlash 3 1 4 (countGrant (unwait (.flashWrite 3) s))) := by
      simp only [exec, execRequestRetry]
      rw [presentAsk_grants (by simp [hw]) hg]
      rfl
    obtain ⟨-, hc, ho⟩ := granting_does (.flashWrite 3) s
    refine ⟨_, step, ?_, by simp, hc, OnlyIn.trans ho ?_⟩
    · simp [hw]
    · simp [onlyIn_iff]
  · intro n x s hb hx hn
    have step : exec (.bankRefusedAlarm n) s = .next (if standing .bankRefused n s then s else raise .bankRefused n s) := by
      cases h : standing .bankRefused n s <;> simp [exec, execBankRefusedAlarm, hb, hx, hn, h]
    refine ⟨_, step, ?_⟩
    split
    next h => exact ⟨h, .refl _ _⟩
    next h => exact ⟨standing_raise _ _ _, by simp [onlyIn_iff]⟩

end Sys2Proof.Machine
end

section
/-!
PROOFS. The end of level 4 (02).
-/
namespace Sys2Proof.Machine

@[simp] theorem ovfLevel_level (s : State) : (ovfLevel s).power.level = s.power.level := by
  unfold ovfLevel ovfSettle ovfClose
  dsimp only
  (repeat' split) <;> simp

@[simp] theorem furlUntil_level (n k : Nat) (s : State) : (furlUntil n k s).power.level = s.power.level := by
  induction n generalizing s with
  | zero => rfl
  | succ n ih =>
    unfold furlUntil
    split
    · rfl
    · split
      · rfl
      · simp [ih, forceFurl]

@[simp] theorem furlTo_level (k : Nat) (s : State) : (furlTo k s).power.level = s.power.level := by
  simp [furlTo, preempt]

@[simp] theorem levelStops_level (s : State) : (levelStops s).power.level = s.power.level := by
  unfold levelStops
  split <;> simp

/-- The level taken is the one it names: what the levels stop on the way changes none. -/
theorem takeLevel_level (n : Nat) (s : State) : (takeLevel n s).power.level = n := by
  unfold takeLevel
  induction n with
  | zero => rfl
  | succ n ih => simp [List.range_succ]

@[simp] theorem ovfResume_level (s : State) : (ovfResume s).power.level = s.power.level := by
  unfold ovfResume
  split <;> simp

@[simp] theorem unbraceChan_level (s : State) (c : Nat) : (unbraceChan s c).power.level = s.power.level := by
  unfold unbraceChan
  split <;> simp

@[simp] theorem askUnfurl_level (c : Nat) (s : State) : (askUnfurl c s).power.level = s.power.level := by
  unfold askUnfurl
  dsimp only
  split <;> simp

@[simp] theorem floorAlarm_level (s : State) : (floorAlarm s).power.level = s.power.level := by
  unfold floorAlarm
  (repeat' split) <;> simp

/-- What the exit of level 4 makes of the banks, the tiles and the engines before it chooses the level anew. -/
def unbraced (mv : BitVec 16) (s : State) : State :=
  let s1 := (List.range 24).foldl unbraceTile ((List.range 24).foldl unbraceBank
    (updPower (fun p => { p with busMv := mv.toNat, dipPending := none }) s))
  updLife (fun l => { l with braced := [] }) (s1.life.braced.foldl (sparPower .running) s1)

theorem exec_level4Exit_level (mv : BitVec 16) (s : State) (h4 : s.power.level = 4) (hv : 40000 < mv.toNat)
    (hw : s.power.warnInForce * 100 + 500 < mv.toNat) :
    Yields (.level4Exit mv none) s fun t => t.power.level = levelAfter4 (ovfResume (updPower (fun p => { p with level := 0 }) (unbraced mv s))) := by
  refine ⟨_, congrArg Host.Outcome.next (if_neg (by omega)), ?_⟩
  simp only [floorAlarm_level]
  rw [foldl_level _ _ _ fun s c => by split <;> simp]
  simp [takeLevel_level]
  rfl

/-- Level 4 with an empty ledger, where the level kept as the one before it is 4 as well. -/
def levelFourTwice : State := { State.reset with power := { State.reset.power with level := 4, before4 := 4 } }

/-- Refutes O22: it bounds the level after LEVEL_4_EXIT in every state, but the level kept by the entry is taken again whatever it is. -/
theorem not_tileSleepAndLevelFour : ¬ Obligations.TileSleepAndLevelFour := by
  rintro ⟨-, -, -, -, -, -, -, exit, -⟩
  obtain ⟨t, ht, low, -⟩ := exit 50000 levelFourTwice rfl (by decide) (by decide)
  obtain ⟨u, hu, level⟩ := exec_level4Exit_level 50000 levelFourTwice rfl (by decide) (by decide)
  obtain rfl : t = u := Host.Outcome.next.inj (ht.symm.trans hu)
  have again : levelAfter4 (ovfResume (updPower (fun p => { p with level := 0 }) (unbraced 50000 levelFourTwice))) = 4 := by decide +kernel
  omega

end Sys2Proof.Machine
end

section
/-!
PROOFS. The coding part of a channel through the operations on it; the stages of bring-up (08).
-/
namespace Sys2Proof.Machine

/-! ## The channel parts after an operation -/

theorem cod_of_optics {s t : State} (h : t.optics = s.optics) (c : Nat) : cod c t = cod c s := by simp [cod, h]
theorem opt_of_optics {s t : State} (h : t.optics = s.optics) (c : Nat) : opt c t = opt c s := by simp [opt, h]

@[simp] theorem cod_bookLanes (c d : Nat) (s : State) : cod d (bookLanes c s) = cod d s := cod_of_optics (by simp) d
@[simp] theorem opt_bookLanes (c d : Nat) (s : State) : opt d (bookLanes c s) = opt d s := opt_of_optics (by simp) d
@[simp] theorem cod_setCod (c : Nat) (f : Coding → Coding) (s : State) : cod c (setCod c f s) = f (cod c s) :=
  (cod_bookLanes c c _).trans (cod_updCod c f s)
theorem cod_setCod_ne {c d : Nat} (h : d ≠ c) (f : Coding → Coding) (s : State) : cod d (setCod c f s) = cod d s :=
  (cod_bookLanes c d _).trans (cod_updCod_ne h f s)
@[simp] theorem opt_setCod (c d : Nat) (f : Coding → Coding) (s : State) : opt d (setCod c f s) = opt d s :=
  opt_bookLanes c d _
@[simp] theorem opt_updCod (c d : Nat) (f : Coding → Coding) (s : State) : opt d (updCod c f s) = opt d s := rfl
@[simp] theorem cod_updOpt (c d : Nat) (f : Optic → Optic) (s : State) : cod d (updOpt c f s) = cod d s := rfl
@[simp] theorem cod_detFollow (c d : Nat) (s : State) : cod d (detFollow c s) = cod d s := cod_of_optics (by simp) d
@[simp] theorem opt_detFollow (c d : Nat) (s : State) : opt d (detFollow c s) = opt d s := opt_of_optics (by simp) d
@[simp] theorem cod_raise (a : Alarm) (i d : Nat) (s : State) : cod d (raise a i s) = cod d s := cod_of_optics (by simp) d
@[simp] theorem opt_raise (a : Alarm) (i d : Nat) (s : State) : opt d (raise a i s) = opt d s := opt_of_optics (by simp) d
@[simp] theorem cod_endAlarm (a : Alarm) (i d : Nat) (s : State) : cod d (endAlarm a i s) = cod d s := cod_of_optics (by simp) d
@[simp] theorem opt_endAlarm (a : Alarm) (i d : Nat) (s : State) : opt d (endAlarm a i s) = opt d s := opt_of_optics (by simp) d
@[simp] theorem cod_count (i j d : Nat) (s : State) : cod d (count i j s) = cod d s := cod_of_optics (by simp) d
@[simp] theorem opt_count (i j d : Nat) (s : State) : opt d (count i j s) = opt d s := opt_of_optics (by simp) d
@[simp] theorem cod_setRc (a : Nat) (m : Word) (d : Nat) (s : State) : cod d (setRc a m s) = cod d s := rfl
@[simp] theorem opt_setRc (a : Nat) (m : Word) (d : Nat) (s : State) : opt d (setRc a m s) = opt d s := rfl
@[simp] theorem cod_emit (k : EmitKind) (p : Nat) (l : List Int) (d : Nat) (s : State) : cod d (emit k p l s) = cod d s := rfl
@[simp] theorem opt_emit (k : EmitKind) (p : Nat) (l : List Int) (d : Nat) (s : State) : opt d (emit k p l s) = opt d s := rfl
@[simp] theorem cod_enterReduced (c d : Nat) (s : State) : cod d (enterReduced c s) = cod d s := by simp [enterReduced]
@[simp] theorem opt_enterReduced (c d : Nat) (s : State) : opt d (enterReduced c s) = opt d s := by simp [enterReduced]

@[simp] theorem cod_chanTo (c st : Nat) (s : State) : cod c (chanTo c st s) = Coding.down st (cod c s) := by
  unfold chanTo
  dsimp only
  split <;> simp

theorem getLsbD_laneBit (k : Lane) : (laneBit k).getLsbD k = true := by
  revert k
  decide

/-! ## The stages of bring-up -/

/-- A stage that fails: the channel is back at stage 2 and its failure counted, every other channel as it was. -/
theorem stageFails_does (c : Nat) (s : State) : (cod c (stageFails c s)).stage = 2 ∧ (cod c (stageFails c s)).fails = (cod c s).fails + 1 ∧
    countOf 0x2110 2 (stageFails c s) = countOf 0x2110 2 s + 1 ∧
    (∀ d, d ≠ c → opt d (stageFails c s) = opt d s ∧ cod d (stageFails c s) = cod d s) ∧
    (2 ≤ (cod c s).fails → Stands .bringUp c (stageFails c s)) := by
  have counted : ∀ u : State, countOf 0x2110 2 (count 0x2110 2 u) = countOf 0x2110 2 u + 1 := fun u => countOf_count _ _ _ (by decide)
  unfold stageFails
  dsimp only
  split
  next h =>
    refine ⟨by simp [Coding.down], by simp [Coding.down], ?_, fun d hd => by simp [cod_setCod_ne hd], fun _ => standing_raise _ _ _⟩
    rw [countOf_raise _ _ _ _ _ (by decide) (by decide), counted]
    simp [countOf]
  next h =>
    refine ⟨by simp [Coding.down], by simp [Coding.down], ?_, fun d hd => by simp [cod_setCod_ne hd], fun h2 => by omega⟩
    rw [counted]
    simp [countOf]

theorem tapMove_none (c k : Nat) (post : Bool) (s : State) :
    tapMove c k post 0 s = (updCod c (fun d => { d with tapAck := Tab.put 0 (tapNo k post) 0 d.tapAck }) s, 0) := rfl

/-- A training frame of an upright lane that asks for no tap: its polarity and capabilities are kept, and it is answered. -/
theorem exec_trainingFrame (c : Chan) (k : Lane) (f : Train) (s : State) (h3 : (cod c s).stage = 3) (hid : f.idOk = true)
    (hk : f.laneId = k) (hpre : f.preReq = 0) (hpost : f.postReq = 0) :
    exec (.trainingFrameReceived c k f) s = .next (emit .training c [k.val, 0, 0]
      (updCod c (fun d => { d with tapAck := Tab.put 0 (tapNo k true) 0 d.tapAck })
      (updCod c (fun d => { d with tapAck := Tab.put 0 (tapNo k false) 0 d.tapAck })
      (updCod c (fun d => { d with
        laneMap := (d.laneMap &&& ~~~(0xF#16 <<< (4 * k.val))) ||| (BitVec.ofNat 16 f.laneId.val <<< (4 * k.val)),
        peerCaps := if d.peerFam = 1 then f.caps else d.peerCaps })
      (updCod c (fun d => { d with polInv := if f.inverted then d.polInv ||| laneBit k else d.polInv &&& ~~~(laneBit k) }) s))))) := by
  simp [exec, execTrainingFrameReceived, h3, hid, hk, hpre, hpost, tapMove_none]

/-! ## What the ports of a channel leave alone -/

/-- Raising an alarm leaves whether another stands as it was. -/
theorem standing_raise_ne {a b : Alarm} (h : a ≠ b) (i j : Nat) (s : State) : standing b j (raise a i s) = standing b j s := by
  unfold raise
  split
  · simp only [standing, List.any_map]
    refine congrArg (fun p => List.any s.obs.alarms p) (funext fun x => ?_)
    simp only [Function.comp]
    split <;> rfl
  · simp [standing, h]

theorem standing_endAlarm_ne {a b : Alarm} (h : a ≠ b) (i j : Nat) (s : State) : standing b j (endAlarm a i s) = standing b j s := by
  unfold endAlarm
  split
  · simp only [standing, contacts_obs, logEvent_alarms, List.any_filter]
    refine congrArg (fun p => List.any s.obs.alarms p) (funext fun x => ?_)
    by_cases hx : x.alarm = b
    · simp [hx, Ne.symm h]
    · simp [hx]
  · rfl

/-- Whether an alarm other than that of a faulty port stands. -/
theorem standing_settlePort {b : Alarm} (h : Alarm.halyardFaulty ≠ b) (c i j : Nat) (s : State) :
    standing b j (settlePort c i s) = standing b j s := by
  have upd : ∀ f u, standing b j (updPort c i f u) = standing b j u := fun f u => rfl
  unfold settlePort
  dsimp only
  (repeat' split) <;> simp only [upd, standing_raise_ne h, standing_endAlarm_ne h]

theorem standing_of_obs {s t : State} (h : t.obs = s.obs) (b : Alarm) (j : Nat) : standing b j t = standing b j s := by
  simp [standing, h]

theorem standing_enablePort {b : Alarm} (h : Alarm.halyardFaulty ≠ b) (c i j : Nat) (s : State) :
    standing b j (enablePort c i s) = standing b j s := by
  have upd : ∀ f u, standing b j (updPort c i f u) = standing b j u := fun f u => rfl
  have sent : ∀ k ty x f u, standing b j (sendPtp k c 0 ty x f u) = standing b j u := fun k ty x f u =>
    standing_of_obs (s := u) (t := sendPtp k c 0 ty x f u) (by simp) b j
  unfold enablePort
  dsimp only
  (repeat' split) <;> simp only [sent, standing_settlePort h, upd, standing_endAlarm_ne h]

theorem standing_gateWake (c j : Nat) (b : Alarm) (s : State) : standing b j (gateWake c s) = standing b j s := by
  unfold gateWake gateTime
  (repeat' split) <;> simp [standing, apply_ite]

theorem gateWake_optics (c : Nat) (s : State) : (gateWake c s).optics = s.optics := by
  unfold gateWake gateTime
  (repeat' split) <;> simp

/-- The ports of a channel that comes up: its optics and every alarm but theirs are as they were. -/
theorem portsUp_keeps (c : Nat) (s : State) : (portsUp c s).optics = s.optics ∧
    ∀ b j, Alarm.halyardFaulty ≠ b → standing b j (portsUp c s) = standing b j s := by
  have due : ∀ u b j, standing b j (makeDue 2 c (updAsym c (fun a => { a with first := true }) u)) = standing b j u :=
    fun u b j => by simp [standing]
  refine ⟨by simp [portsUp, gateWake_optics], fun b j h => ?_⟩
  rw [portsUp, standing_gateWake, due, standing_enablePort h, standing_enablePort h]

theorem roleRequest_const {need : Role} {q : Req} {s : State} (body : State → Res) (h : admits q need s = true) :
    roleRequest need q (fun _ s => body s) s = answer q (body s).code (body s).data (body s).st :=
  let ⟨_, _, hr⟩ := roleRequest_admitted (fun _ s => body s) h
  hr

/-- Settles O26: each stage changes the coding part of its channel, fails as one, or leaves the state as it was. -/
theorem bringUp : Obligations.BringUp := by
  refine ⟨?_, ?_, ?_, ?_, ?_, ?_, ?_, ?_, ?_, ?_, ?_, ?_⟩
  · intro c s h2 ht hs
    have step : exec (.clockRecovered c) s = .next (setCod c (fun d => { d with stage := 3, polInv := 0, laneMap := 0xFFFF#16 })
        (updOpt c (fun o => { o with taps := startTaps c s }) s)) := by
      simp [exec, execClockRecovered, h2, ht, hs]
    refine ⟨_, step, by simp, by simp, by simp, fun d hd => ?_, ?_⟩
    · simp [opt_updOpt_ne hd, cod_setCod_ne hd]
    · simp [onlyIn_iff]
  · intro c s ht
    exact ⟨s, by simp [exec, execClockRecovered, ht], rfl⟩
  · intro c k f s h3 hid hk hinv hpre hpost hp
    refine ⟨_, exec_trainingFrame c k f s h3 hid hk hpre hpost, ?_, ?_, ?_, ?_, ?_⟩
    · simp [h3]
    · simp [hinv, getLsbD_laneBit]
    · simp [hp]
    · simp [Emitted, emit]
    · simp [onlyIn_iff]
  · intro c s h3 hb hf hp ht hm
    have step : exec (.trainingComplete c) s = .next (setCod c (fun d => { d with
        stage := 4, tapAck := [], maxLanes := if d.brace then 1 else if d.force then 3 else if d.peerFam = 2 then 1 else 0xF }) s) := by
      simp [exec, execTrainingComplete, h3, ht, hm]
    refine ⟨_, step, by simp, by simp [hb, hf, hp], fun d hd => by simp [cod_setCod_ne hd], by simp [onlyIn_iff]⟩
  · intro c s h3 ht
    obtain ⟨h1, h2, h4, -⟩ := stageFails_does c s
    exact ⟨stageFails c s, by simp [exec, execTrainingComplete, h3, ht], h1, h2, h4⟩
  · intro c tx mx s h4
    have step : exec (.alignmentComplete c tx mx) s = .next (detFollow c (setCod c (fun d => { d with
        stage := 5, rxLanes := tx, locked := tx, peerMax := mx, txLanes := d.train }) s)) := by
      simp [exec, execAlignmentComplete, h4]
    refine ⟨_, step, by simp, by simp, by simp, by simp, by simp, fun d hd => by simp [cod_setCod_ne hd], by simp [onlyIn_iff]⟩
  · intro c s h5
    generalize hu : updOpt c (fun o => { o with lanesLit := (cod c (setCod c (fun d => { d with stage := 6, fails := 0, everUp := true }) s)).txLanes })
      (setCod c (fun d => { d with stage := 6, fails := 0, everUp := true }) s) = u
    have step : exec (.checkComplete c) s = .next (portsUp c (endAlarm .bringUp c (detFollow c
        (if widthState (cod c u) = 2 then enterReduced c u else u)))) := by
      simp [exec, execCheckComplete, h5, ← hu]
    have hc : ∀ d, cod d (if widthState (cod c u) = 2 then enterReduced c u else u) = cod d u := fun d => by split <;> simp
    have ho : ∀ d, opt d (if widthState (cod c u) = 2 then enterReduced c u else u) = opt d u := fun d => by split <;> simp
    have hu1 : (cod c u).stage = 6 ∧ (cod c u).fails = 0 ∧ (cod c u).everUp = true := by simp [← hu]
    have hu2 : ∀ d, d ≠ c.val → opt d u = opt d s ∧ cod d u = cod d s := fun d hd => by simp [← hu, cod_setCod_ne hd, opt_updOpt_ne hd]
    obtain ⟨hp, ha⟩ := portsUp_keeps c (endAlarm .bringUp c (detFollow c (if widthState (cod c u) = 2 then enterReduced c u else u)))
    refine ⟨_, step, ?_, ?_, ?_, ?_, fun d hd => ?_⟩
    · simp [cod_of_optics hp, hc, hu1]
    · simp [cod_of_optics hp, hc, hu1]
    · simp [cod_of_optics hp, hc, hu1]
    · simp [Stands, ha, standing_endAlarm]
    · simp [cod_of_optics hp, opt_of_optics hp, hc, ho, hu2 d hd]
  · intro c s h2 h5
    obtain ⟨h1, h2', h3, h4, -⟩ := stageFails_does c s
    exact ⟨stageFails c s, by simp [exec, execBringupStageTimeout, h2, h5], h1, h2', h3, h4⟩
  · intro c s h2 h5 hf
    obtain ⟨-, -, -, -, h⟩ := stageFails_does c s
    exact ⟨stageFails c s, by simp [exec, execBringupStageTimeout, h2, h5], h hf⟩
  · intro c s h6 hb
    exact ⟨raise .bringUp c s, by simp [exec, execBringupAlarm, h6, hb], standing_raise _ _ _, by simp [onlyIn_iff]⟩
  · intro q c s ha hb h6
    have hm : members (BitVec.ofNat 8 (c + 1)).toNat s = [c.val] := by
      have hc : (BitVec.ofNat 8 (c.val + 1)).toNat = c.val + 1 := by
        have := c.isLt
        simp only [BitVec.toNat_ofNat]
        omega
      have hc' : 1 ≤ c.val + 1 ∧ c.val + 1 ≤ 192 := by omega
      simp [members, hc, hc']
    refine ⟨_, congrArg Host.Outcome.next (roleRequest_const _ ha), ?_⟩
    have hr : retrain c s = portsDown c (chanTo c 2 s) := by simp [retrain, hb, h6]
    simp only [hm, List.isEmpty_cons, Bool.false_eq_true, if_false, List.foldl_cons, List.foldl_nil, Res.of, hr]
    refine ⟨?_, answered_answer _ _ _ _ _ (by simp)⟩
    rw [cod_of_optics (s := chanTo c 2 s) (by simp), cod_chanTo]
    rfl
  · intro q s ha
    refine ⟨_, congrArg Host.Outcome.next (roleRequest_const _ ha), ?_⟩
    simp [members, Res.of, Answered]
    exact onlyIn_answer _ _ _ _ (by decide)

end Sys2Proof.Machine
end

section
/-!
PROOFS. Markers, widths and furling (08).
-/
namespace Sys2Proof.Machine

theorem countOf_of_obs {s t : State} (h : t.obs = s.obs) (x y : Nat) : countOf x y t = countOf x y s := by simp [countOf, h]

/-- A later word of any object is not the first word of one. -/
theorem countOf_countW_later (i j w n x y : Nat) (s : State) (hw : w % 256 ≠ 0) (h : key x y ≠ key 0x7015 4) :
    countOf x y (countW i j w n s) = countOf x y s := by
  have h1 : cellKey x y 0 ≠ cellKey i j w := by
    unfold cellKey
    omega
  have h2 := cellKey_ne h
  unfold countOf countW
  dsimp only
  split
  · simp only [Tab.get_put_ne h1]
  · simp only [Tab.get_put_ne h2, Tab.get_put_ne h1]

theorem countOf_gateTrimQ (c q x y : Nat) (s : State) (h : key x y ≠ key 0x430D 1) (h' : key x y ≠ key 0x7015 4) :
    countOf x y (gateTrimQ c s q) = countOf x y s := by
  unfold gateTrimQ
  (repeat' split) <;> simp only [countOf_count_ne _ _ _ _ _ h h', countOf_countW_later _ _ 1 _ _ _ _ (by decide) h']
  exact countOf_of_obs (by simp) x y

theorem countOf_gateTrim (c x y : Nat) (s : State) (h : key x y ≠ key 0x430D 1) (h' : key x y ≠ key 0x7015 4) :
    countOf x y (gateTrim c s) = countOf x y s := by
  have inner : ∀ (q : Nat) (l : List Copy) (u : State), countOf x y (l.foldl (fun s _ => gateTrimQ c s q) u) = countOf x y u :=
    fun q l => by
      induction l with
      | nil => exact fun _ => rfl
      | cons k l ih => exact fun u => (ih _).trans (countOf_gateTrimQ c q x y u h h')
  have outer : ∀ (l : List Nat) (u : State),
      countOf x y (l.foldl (fun s q => (dieQ c q s).foldl (fun s _ => gateTrimQ c s q) s) u) = countOf x y u := fun l => by
    induction l with
    | nil => exact fun _ => rfl
    | cons q l ih => exact fun u => (ih _).trans (inner q _ u)
  unfold gateTrim
  split
  · rfl
  · exact outer _ s

theorem countOf_overrunAt (c x y : Nat) (s : State) (h : key x y ≠ key 0x430D 2) (h' : key x y ≠ key 0x7015 4) :
    countOf x y (overrunAt c s) = countOf x y s := by
  have gate : ∀ f (u : State), countOf x y (updGate c f u) = countOf x y u := fun f u => rfl
  unfold overrunAt
  dsimp only
  split
  · rfl
  · split
    · rfl
    · split
      · rfl
      · split
        · rfl
        · rw [countOf_count_ne _ _ _ _ _ h h', countOf_countW_later _ _ 2 _ _ _ _ (by decide) h', gate]
          rfl

@[simp] theorem cod_settleChan (c d : Nat) (s0 s : State) : cod d (settleChan c s0 s) = cod d s := cod_of_optics (by simp) d
@[simp] theorem opt_settleChan (c d : Nat) (s0 s : State) : opt d (settleChan c s0 s) = opt d s := opt_of_optics (by simp) d

/-- A channel that does not leave stage 6 settles without its ports: nothing leaves the module, and no object but those of the gates counts. -/
theorem settleChan_stays (c : Nat) (s0 s : State) (h : ¬ ((cod c s0).stage = 6 ∧ (cod c s).stage ≠ 6)) : (settleChan c s0 s).wire = s.wire ∧
    ∀ x y, key x y ≠ key 0x430D 1 → key x y ≠ key 0x430D 2 → key x y ≠ key 0x7015 4 → countOf x y (settleChan c s0 s) = countOf x y s := by
  unfold settleChan
  rw [if_neg h]
  dsimp only
  refine ⟨by simp, fun x y h1 h2 h3 => ?_⟩
  have freeze : ∀ u, countOf x y (freezeAsym c u) = countOf x y u := fun u => countOf_of_obs (t := freezeAsym c u) (by simp) x y
  have due : ∀ u, countOf x y (makeDue 2 c u) = countOf x y u := fun u => countOf_of_obs (t := makeDue 2 c u) (by simp) x y
  have relane : ∀ u, countOf x y (relaneAsym c u) = countOf x y u := fun u => countOf_of_obs (t := relaneAsym c u) (by simp) x y
  simp only [freeze, apply_ite (countOf x y), countOf_gateTrim _ _ _ _ h1 h3, countOf_overrunAt _ _ _ _ h2 h3, due, relane, ite_self]

/-! ## Marker periods -/

theorem widthAt_none (c : Nat) (s : State) (h : (cod c s).announced = false) : widthAt c s = s := by simp [widthAt, h]
theorem joinCheck_none (c : Nat) (s : State) (h : (cod c s).rxAnn = false) : joinCheck c s = s := by simp [joinCheck, h]

/-- A marker period of a channel that wakes no lane: the period counts, an announced width may take effect, one marker goes out. -/
theorem exec_markerPeriod (c : Chan) (s : State) (h6 : (cod c s).stage = 6) (hw : (cod c s).wake = 0 ∨ (cod c s).announced = true) :
    ∃ l, exec (.markerPeriod c) s = .next (settleChan c s (updCod c (fun d => { d with abrupt := false, tapStatus := 0 })
      (emit .marker c l (joinCheck c (widthAt c (updCod c (fun d => { d with txAm := d.txAm + 1 }) s)))))) := by
  rw [show exec (.markerPeriod c) s = execMarkerPeriod c s from rfl, execMarkerPeriod, if_neg (by simp [h6])]
  dsimp only
  rw [if_neg (by obtain h | h := hw <;> simp [h])]
  exact ⟨_, rfl⟩

/-- A narrower width takes effect at its period, and is counted as a furl. -/
theorem widthAt_furl (c : Nat) (s : State) (ha : (cod c s).announced = true) (hp : (cod c s).txAm = (cod c s).atCount)
    (hn : (cod c s).nextLanes = 3#4) (ht : (cod c s).txLanes = 0xF#4) (hf : (cod c s).peerFault = 0) :
    widthAt c s = count 0x2110 3 (setTx c 3#4 (setCod c (fun d => { d with announced := false, wake := 0 }) s)) := by
  have less : laneCount 3#4 < laneCount 0xF#4 := by decide
  simp [widthAt, ha, hp, hn, ht, hf, less]

@[simp] theorem cod_setTx (c : Nat) (m : BitVec 4) (s : State) : cod c (setTx c m s) = { cod c s with txLanes := m } := by
  unfold setTx
  split
  next h => rw [← h]
  next h => simp

@[simp] theorem setTx_obs (c : Nat) (m : BitVec 4) (s : State) : (setTx c m s).obs = s.obs := by
  unfold setTx
  split <;> simp

/-- A valid marker without ABRUPT that announces nothing, of a lane whose channel has no faulty lane: what it changes but for the lock. -/
theorem exec_markerReceived (c : Chan) (k : Lane) (m : Marker) (s : State) (h4 : (cod c s).stage = 4) (hl : (cod c s).locked = 0)
    (hp : (cod c s).peerFam ≠ 1 ∨ gainsLock c k m s = false) (hf : (cod c s).rxFault = 0) (ha : m.abrupt = false) (hn : m.next = m.tx) :
    exec (.markerReceived c k m) s = .next (settleChan c s (
      let s0 := updCod c (fun d => { d with rxAm := m.am, peerRev := m.rev, amSeen := Tab.set k m.am d.amSeen }) s
      if gainsLock c k m s then detFollow c (updCod c (fun d => { d with locked := d.locked ||| laneBit k }) s0) else s0)) := by
  have low : ¬ (4 = k.val) := by omega
  cases hg : gainsLock c k m s with
  | false => simp [exec, execMarkerReceived, h4, hl, hg, hf, ha, hn, lowestLane, low]
  | true =>
    have hp : (cod c s).peerFam ≠ 1 := by simpa [hg] using hp
    simp [exec, execMarkerReceived, h4, hl, hg, hf, ha, hn, hp]

/-- A channel whose transmit lanes stay settles without its gates. -/
theorem settleChan_regs (c : Nat) (s0 s : State) (h : ¬ ((cod c s0).stage = 6 ∧ (cod c s).stage ≠ 6)) (ha : (cod c s).abrupt = false)
    (ht : (cod c s).txLanes = (cod c s0).txLanes) : (settleChan c s0 s).regs = s.regs := by
  unfold settleChan
  rw [if_neg h]
  simp [ha, ht]

theorem or_laneBit_and (m : BitVec 4) (k : Lane) : (m ||| laneBit k) &&& laneBit k = laneBit k := by
  revert m k
  decide

/-- An unfurl that was not asked for yet joins the requests that wait. -/
theorem askUnfurl_asks (c : Nat) (s : State) (h6 : (cod c s).stage = 6) (hu : (cod c s).unfurlAsk = false) (hn : unfurlNew c s ≠ 0) :
    cod c (askUnfurl c s) = { cod c s with unfurlAsk := true } ∧
    (askUnfurl c s).power.waiting = s.power.waiting ++ [⟨.traffic, .unfurl c, 2 * laneCount (unfurlNew c s)⟩] := by
  have hn' : ¬ (unfurlTarget c s &&& ~~~(cod c s).txLanes = 0#4) := hn
  have asked := cod_updCod c (fun d => { d with unfurlAsk := true }) s
  unfold askUnfurl
  rw [if_neg (by simp [h6, hu, hn'])]
  exact ⟨asked, rfl⟩

/-- Settles O27: each command as an equation of its channel's parts, read off field by field. -/
theorem markersAndFurl : Obligations.MarkersAndFurl := by
  refine ⟨?_, ?_, ?_, ?_, ?_, ?_, ?_, ?_, ?_, ?_, ?_⟩
  · intro c s h6 hw ha hr
    obtain ⟨l, step⟩ := exec_markerPeriod c s h6 (.inl hw)
    rw [widthAt_none _ _ (by simp [ha]), joinCheck_none _ _ (by simp [hr])] at step
    obtain ⟨hk, -⟩ := settleChan_stays c s (updCod c (fun d => { d with abrupt := false, tapStatus := 0 })
      (emit .marker c l (updCod c (fun d => { d with txAm := d.txAm + 1 }) s))) (by simp [h6])
    refine ⟨_, step, by simp, by simp, by simp, ?_, fun d hd => by simp [cod_updCod_ne hd]⟩
    rw [hk]
    simp [emit]
  · intro c s h6 ha hp hn ht hf hr
    obtain ⟨l, step⟩ := exec_markerPeriod c s h6 (.inr ha)
    rw [widthAt_furl _ _ (by simp [ha]) (by simp [hp]) (by simp [hn]) (by simp [ht]) (by simp [hf]), joinCheck_none _ _ (by simp [hr])] at step
    refine ⟨_, step, by simp, by simp, ?_⟩
    rw [(settleChan_stays _ _ _ (by simp [h6])).2 _ _ (by decide) (by decide) (by decide)]
    refine (countOf_of_obs (s := count 0x2110 3 _) (by simp [emit]; rfl) _ _).trans ((countOf_count _ _ _ (by decide)).trans ?_)
    rw [countOf_of_obs (setTx_obs ..)]
    simp [countOf]
  · intro c k m s h4 hp hl hs hf ha hm hn
    have hg : gainsLock c k m s = true := by
      obtain ⟨a, hs⟩ := Option.isSome_iff_exists.mp hs
      simp [gainsLock, hl, hs, hp, lowestLane]
    refine ⟨_, exec_markerReceived c k m s h4 hl (by simp [hp]) hf hm hn, ?_, ?_, ?_, ?_⟩ <;> simp [hg, hl]
  · intro c k m s h4 hl hs hf ha hm hn
    have hg : gainsLock c k m s = false := by simp [gainsLock, hl, hs, lowestLane]
    refine ⟨_, exec_markerReceived c k m s h4 hl (.inr hg) hf hm hn, ?_, ?_, ?_⟩ <;> simp [hg, hl]
  · intro c k m s h4
    exact ⟨s, congrArg Host.Outcome.next (if_pos (.inl h4)), rfl⟩
  · intro c k s hl h4 ha
    have step : exec (.markerLockLost c k) s = .next (settleChan c s (detFollow c (setRc (chanAddr c 0x110) 0x20
        (updCod c (fun d => { d with locked := d.locked &&& ~~~(laneBit k), amSeen := Tab.erase k d.amSeen }) s)))) := by
      simp only [exec, execMarkerLockLost, hl, laneLostRx, cod_setRc, cod_updCod, h4]
      rfl
    refine ⟨_, step, ?_, ?_, ?_⟩
    · simp [getLsbD_laneBit]
    · rw [settleChan_regs _ _ _ (by simp [h4]) (by simp [ha]) (by simp)]
      simp only [detFollow_frame, setRc_get, BitVec.getLsbD_or]
      simp
    · simp [h4]
  · intro c s hh hm ht h2 h3
    have step : exec (.furlDecision c 0) s = .next (announce c 3#4 s) := by
      simp [exec, execFurlDecision, hh, hm, ht, h2, h3]
    refine ⟨_, step, ?_, ?_, ?_, ?_, fun d hd => by simp [announce, cod_setCod_ne hd], by simp [announce, onlyIn_iff]⟩ <;> simp [announce, ht]
  · intro c p s hm
    exact ⟨s, by simp [exec, execFurlDecision, hm], rfl⟩
  · intro c s h6 hr h0 hc hu hn
    have hp : preempt3 c s = s := by simp [preempt3, discardRuns, hc]
    have step : exec (.unfurlRequest c) s = .next (askUnfurl c s) := by simp [exec, execUnfurlRequest, h6, hr, h0, hp]
    obtain ⟨h1, h2⟩ := askUnfurl_asks c s h6 hu hn
    exact ⟨_, step, by simp [h1], by simp [h1], h2⟩
  · intro c k s h6 hl hc
    have hp : ∀ u : State, u.cal = s.cal → preempt3 c u = u := fun u hu => by simp [preempt3, discardRuns, hu, hc]
    have step : exec (.laneRejoin c k) s = .next (announce c ((cod c s).txLanes ||| laneBit k)
        (updCod c (fun d => { d with peerFault := d.peerFault &&& ~~~(laneBit k) })
        (updOpt c (fun o => { o with laserLost := o.laserLost &&& ~~~(laneBit k) }) s))) := by
      simp [exec, execLaneRejoin, h6, hl, hp]
    refine ⟨_, step, ?_, ?_, ?_, ?_, ?_⟩ <;> simp [announce, getLsbD_laneBit]
  · intro c k s h7 hc
    have hb : BitVec.ofNat 4 (cfg 0x2109 (c + 1) s) = laneBit k := by rw [hc]; rfl
    have step : exec (.prbsCheckerLock c k) s = .next (updCod c (fun d => { d with
        prbsLock := d.prbsLock ||| laneBit k, prbsCount := (d.prbsLock ||| laneBit k) &&& laneBit k == laneBit k }) s) := by
      simp [exec, execPrbsCheckerLock, hb, h7, getLsbD_laneBit]
    refine ⟨_, step, ?_, ?_, fun d hd => by simp [cod_updCod_ne hd], by simp [onlyIn_iff]⟩
    · simp [getLsbD_laneBit]
    · simp [or_laneBit_and]

end Sys2Proof.Machine
end

section
/-!
PROOFS. Samples of the phase detectors, pulse inputs and traces (10).
-/
namespace Sys2Proof.Machine

/-! ## Samples -/

/-- The record a sample makes of a detector (R301 to R303). -/
def sampleOf (d : Nat) (xn t : Int) (m : Nat) (pulse : Bool) (s : State) : Det :=
  let x := det d s
  let y := if x.resume then x.restart xn t pulse else if pulse then { x with u := xn, x := xn, valid := true, noSource := false } else x.follow xn t
  { (y.sampled (freqWindow s) t) with m := m, seq := x.seq + 1, instant := s.vern.beatNumber.toNat }

theorem rebuild_only (d : Nat) (e : Int) (s : State) : OnlyIn [.refs] s (rebuild d e s) := by
  unfold rebuild
  dsimp only
  split
  · exact .refl _ _
  · split
    · simp [onlyIn_iff]
    · exact .refl _ _

/-- A sample of a detector that is not traced changes that detector alone, and what follows a restart. -/
theorem takeSample_does (d : Nat) (xn t : Int) (m : Nat) (pulse : Bool) (s : State) (h : s.vern.trace = none) :
    (takeSample d xn t m pulse s).vern = (updDet d (fun _ => sampleOf d xn t m pulse s) s).vern ∧
    OnlyIn [.regs, .obs, .vern, .refs] s (takeSample d xn t m pulse s) := by
  have sampled : ∀ u : State, u.vern = (updDet d (fun _ => sampleOf d xn t m pulse s) s).vern → traceSample d u = u := fun u hu => by
    have none : u.vern.trace = none := by rw [hu]; exact h
    simp [traceSample, none]
  have counted : ∀ (b : Bool) (k : Nat) (u : State), (if b then count 0x3113 k u else u).vern = u.vern ∧
      OnlyIn [.regs, .obs] u (if b then count 0x3113 k u else u) := fun b k u => by
    cases b <;> simp [onlyIn_iff]
  have rebuilt : ∀ (b : Bool) (e : Int) (u : State), (if b then rebuild d e (count 0x3113 1 u) else u).vern = u.vern ∧
      OnlyIn [.regs, .obs, .refs] u (if b then rebuild d e (count 0x3113 1 u) else u) := fun b e u => by
    cases b with
    | false => exact ⟨rfl, .refl _ _⟩
    | true =>
      have hr := rebuild_only d e (count 0x3113 1 u)
      exact ⟨(hr .vern (by simp)).trans (by simp), .trans (by simp [onlyIn_iff]) (hr.mono (by simp))⟩
  have first : OnlyIn [.vern] s (updDet d (fun _ => sampleOf d xn t m pulse s) s) := by simp [onlyIn_iff]
  obtain ⟨hr, ho⟩ := rebuilt (det d s).resume (freqErr s) (updDet d (fun _ => sampleOf d xn t m pulse s) s)
  obtain ⟨hc, hp⟩ := counted ((sampleOf d xn t m pulse s).slip && !(det d s).slip) 2
    (if (det d s).resume then rebuild d (freqErr s) (count 0x3113 1 (updDet d (fun _ => sampleOf d xn t m pulse s) s))
      else updDet d (fun _ => sampleOf d xn t m pulse s) s)
  have step : takeSample d xn t m pulse s = _ := sampled _ (hc.trans hr)
  rw [step]
  exact ⟨hc.trans hr, ((first.mono (by simp)).trans (ho.mono (by simp))).trans (hp.mono (by simp))⟩

/-! ## The edges -/

theorem det_of_vern {s t : State} (h : t.vern = s.vern) (d : Nat) : det d t = det d s := by simp [det, h]

theorem diffRefresh_only (k : Nat) (s : State) : (diffRefresh k s).vern.dets = s.vern.dets ∧
    (diffRefresh k s).vern.beatNumber = s.vern.beatNumber ∧ OnlyIn [.vern] s (diffRefresh k s) := by
  unfold diffRefresh
  dsimp only
  split
  · exact ⟨rfl, rfl, by simp [onlyIn_iff]⟩
  · exact ⟨rfl, rfl, .refl _ _⟩

theorem diffsRefresh_only (l : List Nat) (s : State) : (l.foldl (fun s k => diffRefresh k s) s).vern.dets = s.vern.dets ∧
    (l.foldl (fun s k => diffRefresh k s) s).vern.beatNumber = s.vern.beatNumber ∧
    OnlyIn [.vern] s (l.foldl (fun s k => diffRefresh k s) s) := by
  induction l generalizing s with
  | nil => exact ⟨rfl, rfl, .refl _ _⟩
  | cons k l ih =>
    obtain ⟨h1, h2, h3⟩ := diffRefresh_only k s
    obtain ⟨k1, k2, k3⟩ := ih (diffRefresh k s)
    exact ⟨k1.trans h1, k2.trans h2, h3.trans k3⟩

theorem find_map {α : Type} (f : α → α) (k : Nat) (t : Tab α) : Tab.find k (t.map fun (j, x) => (j, f x)) = (Tab.find k t).map f := by
  induction t with
  | nil => rfl
  | cons x t ih =>
    obtain ⟨j, v⟩ := x
    simp only [List.map_cons, Tab.find]
    split <;> simp [ih]

/-- Without the helper oscillator no detector is valid. -/
theorem det_detsLost (d : Nat) (s : State) : (det d (detsLost s)).valid = false := by
  have hf := find_map (fun x : Det => { x with valid := false, resume := true, freqValid := false }) d s.vern.dets
  simp only [det, detsLost, Tab.get_eq]
  rw [hf]
  cases Tab.find d s.vern.dets <;> rfl

theorem detsLost_only (s : State) : OnlyIn [.vern] s (detsLost s) := by simp [detsLost, onlyIn_iff]

/-- Settles O31: a sample changes its detector alone; without the helper oscillator none is taken. -/
theorem detectorSamples : Obligations.DetectorSamples := by
  refine ⟨?_, ?_, ?_, ?_, ?_, ?_⟩
  · intro d m s hh hm hp hs hr ht
    have step : exec (.inputBeatEdge d m true) s = .next (takeSample d (m.val * 40) ((s.vern.beatNumber.toNat : Int) * 16384 + m.val) m false s) := by
      simp [exec, execInputBeatEdge, hh, hm, hp, hs]
    obtain ⟨hv, ho⟩ := takeSample_does d (m.val * 40) ((s.vern.beatNumber.toNat : Int) * 16384 + m.val) m false s ht
    refine ⟨_, step, ?_, ?_, ?_, ?_, ?_, fun e he => ?_, ho⟩
    case refine_6 => rw [det_of_vern hv, det_updDet_ne he]
    all_goals
      rw [det_of_vern hv, det_updDet]
      simp [sampleOf, hr, Det.sampled, Det.restart]
  · intro d m s hh hm hp hs
    generalize hu : updDet d (fun x => { x with valid := false, outRange := true, noSource := false, resume := true, freqValid := false }) s = u
    have step : exec (.inputBeatEdge d m false) s = .next (if (det d s).outRange then u else count 0x3113 3 u) := by
      simp [exec, execInputBeatEdge, hh, hm, hp, hs, hu]
    have hv : (if (det d s).outRange then u else count 0x3113 3 u).vern = u.vern := by split <;> simp
    refine ⟨_, step, ?_, ?_, ?_, fun e he => ?_, ?_⟩
    · rw [det_of_vern hv, ← hu]
      simp
    · rw [det_of_vern hv, ← hu]
      simp
    · rw [det_of_vern hv, ← hu]
      simp
    · rw [det_of_vern hv, ← hu, det_updDet_ne he]
    · split <;> simp [← hu, onlyIn_iff]
  · intro d m b s hh
    exact ⟨s, by simp [exec, execInputBeatEdge, hh], rfl⟩
  · intro s hh hm
    obtain ⟨h1, h2, h3⟩ := diffsRefresh_only (List.range 8) s
    have ht : timeA ((List.range 8).foldl (fun s k => diffRefresh k s) s) = timeA s := by
      simp only [timeA, domA, show ((List.range 8).foldl (fun s k => diffRefresh k s) s).tb = s.tb from h3 .tb (by simp)]
    generalize hu : (List.range 8).foldl (fun s k => diffRefresh k s) s = u at h1 h2 h3 ht
    have step : exec .mastBeatEdge s = .next { u with vern := { u.vern with beatNumber := u.vern.beatNumber + 1, beatTime := timeA u } } := by
      simp [exec, execMastBeatEdge, hh, hm, hu]
    exact ⟨_, step, by simp [h2], by simp [ht], by simp [h1], h3.trans (by simp [onlyIn_iff])⟩
  · intro s hh
    have step : exec .helperUnlock s = .next (raise .helper noInst (count 0x3113 4 (setRc 0x30018 1 (detsLost s)))) := by
      simp [exec, execHelperUnlock, hh]
    have hv : (raise .helper noInst (count 0x3113 4 (setRc 0x30018 1 (detsLost s)))).vern = (detsLost s).vern := by simp
    refine ⟨_, step, by rw [hv]; rfl, standing_raise _ _ _, fun d => by rw [det_of_vern hv, det_detsLost], (detsLost_only s).mono (by simp) |>.trans ?_⟩
    simp [onlyIn_iff]
  · intro s hh hr hm
    have step : exec .helperResume s = .next (endAlarm .helper noInst { s with vern := { s.vern with helperLocked := true } }) := by
      simp [exec, execHelperResume, hh, hr, hm]
    refine ⟨_, step, by simp, ?_, by simp [onlyIn_iff]⟩
    simp [Stands, standing_endAlarm]

/-! ## Pulses and traces -/

/-- An admitted request does what its body does, and answers with the body's status. -/
theorem exec_request {c : Instr} {need : Role} {q : Req} {s u : State} {st : Status} {d : List Byte} {body : Session → State → Res}
    (step : exec c s = .next (roleRequest need q body s)) (ha : admits q need s = true)
    (hb : ∀ e, session q.sess s = some e → body e s = ⟨u, st, d⟩) : exec c s = .next (answer q st d u) := by
  obtain ⟨e, he, hr⟩ := roleRequest_admitted body ha
  rw [step, hr, hb e he]

/-- A request that is refused does nothing but answer. -/
theorem refused {c : Instr} {q : Req} {s : State} {st : Status} (step : exec c s = .next (answer q st [] s)) (hst : st ≠ 0x0402#16 := by decide) :
    Yields c s fun t => Answered q st [] s t ∧ OnlyIn [.gleno] s t :=
  ⟨_, step, answered_answer _ _ _ _ _ rfl, onlyIn_answer _ _ _ _ hst⟩

/-- A pulse that is used: it is remembered, taken as a sample, and gives its phase slot a time error. -/
theorem pulseError_does (n : Nat) (a : Int) (s : State) : (slot n (pulseError n a s)).present = true ∧
    (slot n (pulseError n a s)).timeErr = -(secOffset a) ∧ OnlyIn [.refs] s (pulseError n a s) := by
  simp [pulseError, onlyIn_iff]

/-- Settles O32. -/
theorem pulsesAndTraces : Obligations.PulsesAndTraces := by
  refine ⟨?_, ?_, ?_, ?_, ?_, ?_⟩
  · intro n x s hc hh hm hl hp ht
    generalize hu : updDet (192 + n) (fun y => { y with lastPulse := some (lsbOf x : Int) }) s = u
    have step : exec (.pulseInputEdge n x) s =
        .next (pulseError n (lsbOf x) (takeSample (192 + n) (secOffset (lsbOf x)) ((lsbOf x : Int) / 655360) 0 true u)) := by
      simp [exec, execPulseInputEdge, hc, hh, hm, hl, hp, hu]
    obtain ⟨hv, ho⟩ := takeSample_does (192 + n) (secOffset (lsbOf x)) ((lsbOf x : Int) / 655360) 0 true u (by simpa [← hu, updDet] using ht)
    obtain ⟨h1, h2, h3⟩ := pulseError_does n (lsbOf x) (takeSample (192 + n) (secOffset (lsbOf x)) ((lsbOf x : Int) / 655360) 0 true u)
    refine ⟨_, step, ?_, h1, h2, OnlyIn.trans ?_ (ho.trans (h3.mono (by simp)))⟩
    · rw [det_of_vern (h3 .vern (by simp)), det_of_vern hv, det_updDet, ← hu]
      simp only [sampleOf, Det.sampled, det_updDet]
      split
      · rfl
      · rfl
    · simp [← hu, onlyIn_iff]
  · intro n x l s hc hh hm hl hp hr hx
    have step : exec (.pulseInputEdge n x) s = .next (updDet (192 + n) (fun y => { y with irregular := true }) s) := by
      simp [exec, execPulseInputEdge, hc, hh, hm, hl, hp, hr, hx]
    exact ⟨_, step, by simp, by simp [onlyIn_iff]⟩
  · intro q d n s ha hd h1 hn ht
    have step := exec_request (c := .detTraceRequest q d n) rfl ha fun _ _ =>
      show detTraceReq d.toNat n.toNat s = Res.of { s with vern := { s.vern with trace := some ⟨d.toNat, n.toNat, [], false⟩ } } 0 by
        rw [detTraceReq, if_neg (by omega), ht]
    refine ⟨_, step, by simp, answered_answer _ _ _ _ _ rfl, OnlyIn.trans ?_ ((onlyIn_answer _ _ _ _ (by decide)).mono (by simp))⟩
    simp [onlyIn_iff]
  · intro q d n r s ha hd h1 hn ht hr
    exact refused (exec_request (c := .detTraceRequest q d n) rfl ha fun _ _ => show detTraceReq d.toNat n.toNat s = Res.of s 0x0401#16 by
      rw [detTraceReq, if_neg (by omega), ht]
      simp [hr])
  · intro q d n s ha hd
    exact refused (exec_request (c := .detTraceRequest q d n) rfl ha fun _ _ => if_pos (by omega))
  · intro r s ht hw
    have step : exec .detTraceComplete s = .next { s with vern := { s.vern with trace := some { r with done := true } } } := by
      simp [exec, execDetTraceComplete, ht, hw]
    exact ⟨_, step, rfl, by simp [onlyIn_iff]⟩

end Sys2Proof.Machine
end

section
/-!
PROOFS. Reference slots and paths (chapter 11): what an evaluation of the selection leaves, the slots' timers, and a time path that a mate's slot
keeps from making its domain TRACEABLE.
-/
namespace Sys2Proof.Machine

/-! ## Settings in force -/

theorem cfgBytes_of_dict {s t : State} (hf : t.factory = s.factory) (hd : t.dict = s.dict) (i j : Nat) :
    cfgBytes i j t = cfgBytes i j s := by
  simp [cfgBytes, defaultOf, hf, hd]

theorem cfg_of_dict {s t : State} (hf : t.factory = s.factory) (hd : t.dict = s.dict) (i j : Nat) : cfg i j t = cfg i j s := by
  rw [cfg, cfg, cfgBytes_of_dict hf hd]

theorem cfgB_of_dict {s t : State} (hf : t.factory = s.factory) (hd : t.dict = s.dict) (i j : Nat) : cfgB i j t = cfgB i j s := by
  rw [cfgB, cfgB, cfg_of_dict hf hd]

/-- A count of a state that agrees on the counters with another. -/
theorem countOf_count_of_obs {s u : State} (h : u.obs = s.obs) (x y : Nat) (hk : key x y ≠ key 0x7015 4) :
    countOf x y (count x y u) = countOf x y s + 1 := by
  rw [countOf_count x y u hk, countOf_of_obs h]

/-! ## What the tail of an evaluation leaves -/

theorem gateWake_only (c : Nat) (s : State) : OnlyIn [.regs, .obs, .egr] s (gateWake c s) := by
  unfold gateWake gateTime
  (repeat' split) <;> simp [onlyIn_iff]

theorem gatesWait_only (s : State) : OnlyIn [.regs, .obs, .egr] s (gatesWait s) :=
  foldl_only _ _ _ fun u c => gateWake_only c u

@[simp] theorem gatesWait_refs (s : State) : (gatesWait s).refs = s.refs := gatesWait_only s .refs (by simp)
@[simp] theorem gatesWait_tb (s : State) : (gatesWait s).tb = s.tb := gatesWait_only s .tb (by simp)

theorem followTrace_only (s : State) : OnlyIn [.tb] s (followTrace s) := by
  unfold followTrace
  (repeat' split) <;> simp [onlyIn_iff]

@[simp] theorem followTrace_refs (s : State) : (followTrace s).refs = s.refs := followTrace_only s .refs (by simp)

/-- What each step of a fold leaves, the fold leaves. -/
theorem foldl_keeps {α β : Type} {f : State → β → State} (g : State → α) (h : ∀ s b, g (f s b) = g s) (l : List β) (s : State) :
    g (l.foldl f s) = g s := by
  induction l generalizing s with
  | nil => rfl
  | cons b l ih => rw [List.foldl_cons, ih, h]

/-- The references without the QLs sent. -/
def unsent (s : State) : Refs := { s.refs with txQl := [] }

/-- The sender of event PDUs keeps every field of the references but the QLs it sent. -/
theorem unsent_esmcEvents (s : State) : unsent (esmcEvents s) = unsent s := by
  refine foldl_keeps unsent (fun u c => ?_) _ _
  dsimp only
  split
  · simp [unsent]
  · rfl

@[simp] theorem freq_esmcEvents (s : State) : (esmcEvents s).refs.freq = s.refs.freq := by
  simpa [unsent] using congrArg Refs.freq (unsent_esmcEvents s)

@[simp] theorem path_esmcEvents (n : Nat) (s : State) : path n (esmcEvents s) = path n s := by
  have h := unsent_esmcEvents s
  have ha : (esmcEvents s).refs.timeA = s.refs.timeA := by simpa [unsent] using congrArg Refs.timeA h
  have hb : (esmcEvents s).refs.timeB = s.refs.timeB := by simpa [unsent] using congrArg Refs.timeB h
  rw [path, path, freq_esmcEvents, ha, hb]

@[simp] theorem predict_esmcEvents (s : State) : (esmcEvents s).refs.predict = s.refs.predict := by
  simpa [unsent] using congrArg Refs.predict (unsent_esmcEvents s)

@[simp] theorem countOf_esmcEvents (x y : Nat) (s : State) : countOf x y (esmcEvents s) = countOf x y s :=
  countOf_of_obs (t := esmcEvents s) (by simp) x y

/-! ## A time path that took the mate's slot -/

/-- A time path that acquires the mate's slot, with no mate paired and a mate that was not traceable. -/
def matelessOnSlotFour : State :=
  { State.reset with
    life := { Life.reset with state := .running }
    tb := { State.reset.tb with running := true }
    refs := { State.reset.refs with timeA := { Path.reset with st := .acquiring, slot := some 4 } } }

theorem exec_pathLocked_timeA (s : State) (hp : s.refs.timeA.st = .acquiring) (hw : s.refs.timeA.switching = none)
    (hr : servoRuns s = true) :
    ∃ t, exec (.pathLocked 1) s = .next t ∧ t.tb = (followTrace (endAlarm .holdoverLost 1
      (setTraceable .a true (updPath 1 (fun p => { p with st := .locked, fromHold := false }) s)))).tb := by
  refine ⟨_, congrArg Host.Outcome.next (if_pos (by simp [path, hp, hw, hr])), ?_⟩
  simp [pathDom]

/-- Refutes O35: a domain A whose path locks on slot 4 follows the mate's TRACEABLE (R528) with no mate paired too, so it need not become
TRACEABLE. -/
theorem not_pathStates : ¬ Obligations.PathStates := by
  rintro ⟨-, traced, -⟩
  obtain ⟨t, ht, traceable⟩ := traced matelessOnSlotFour (by decide) (by decide) (by decide) (by decide)
  obtain ⟨u, hu, hb⟩ := exec_pathLocked_timeA matelessOnSlotFour (by decide) (by decide) (by decide)
  obtain rfl : t = u := Host.Outcome.next.inj (ht.symm.trans hu)
  rw [hb] at traceable
  exact absurd traceable (by decide +kernel)

end Sys2Proof.Machine
end

section
/-!
PROOFS. The evaluation of the reference slots (chapter 11): the prediction it renews, the path it lets acquire, the switch it completes and the
timers of a qualification.
-/
namespace Sys2Proof.Machine

/-! ## The prediction stands through the rest of an evaluation -/

@[simp] theorem predict_updPath (n : Nat) (f : Path → Path) (s : State) : (updPath n f s).refs.predict = s.refs.predict := by
  unfold updPath; (repeat' split) <;> rfl

@[simp] theorem predict_updSlot (k : Nat) (f : Slot → Slot) (s : State) : (updSlot k f s).refs.predict = s.refs.predict := rfl

@[simp] theorem predict_stepped (d : Domain) (s : State) : (stepped d s).refs.predict = s.refs.predict := by
  cases d <;> simp [stepped, judgeP, stepP, apply_ite]

@[simp] theorem predict_adjTime (d : Domain) (a : Int) (s : State) : (adjTime d a s).refs.predict = s.refs.predict := by
  unfold adjTime
  split <;> simp

@[simp] theorem predict_stepPath (n k : Nat) (s : State) : (stepPath n k s).refs.predict = s.refs.predict := by
  unfold stepPath
  dsimp only
  split <;> simp

@[simp] theorem predict_pathHoldover (n : Nat) (e : Int) (s : State) : (pathHoldover n e s).refs.predict = s.refs.predict := by
  simp [pathHoldover]

@[simp] theorem predict_pathFree (n : Nat) (s : State) : (pathFree n s).refs.predict = s.refs.predict := by
  unfold pathFree
  dsimp only
  split <;> simp

@[simp] theorem predict_pathOut (n : Nat) (e : Int) (s : State) : (pathOut n e s).refs.predict = s.refs.predict := by
  unfold pathOut
  split <;> simp

@[simp] theorem predict_endSeed (n k : Nat) (s : State) : (endSeed n k s).refs.predict = s.refs.predict := by
  unfold endSeed
  (repeat' split) <;> rfl

@[simp] theorem predict_startSwitch (n k : Nat) (s : State) : (startSwitch n k s).refs.predict = s.refs.predict := by
  unfold startSwitch timeSwitch
  dsimp only
  (repeat' split) <;> simp

@[simp] theorem predict_bridge (n : Nat) (s : State) : (bridge n s).refs.predict = s.refs.predict := by
  unfold bridge
  split <;> simp

@[simp] theorem predict_unbridge (n : Nat) (s : State) : (unbridge n s).refs.predict = s.refs.predict := by
  unfold unbridge
  (repeat' split) <;> simp

theorem predict_evalLocked (n k : Nat) (s : State) : (evalLocked n k s).refs.predict = s.refs.predict := by
  unfold evalLocked
  dsimp only
  (repeat' split) <;> simp

theorem predict_evalAcquiring (n k : Nat) (s : State) : (evalAcquiring n k s).refs.predict = s.refs.predict := by
  unfold evalAcquiring
  (repeat' split) <;> simp

theorem predict_acquire (n k : Nat) (s : State) : (acquire n k s).refs.predict = s.refs.predict := by simp [acquire]

@[simp] theorem predict_evalPath (n : Nat) (s : State) : (evalPath n s).refs.predict = s.refs.predict := by
  unfold evalPath
  dsimp only
  (repeat' split) <;> simp [predict_evalLocked, predict_evalAcquiring, predict_acquire]

theorem predict_judgePair (i j : Nat) (s : State) : (judgePair i j s).refs.predict = s.refs.predict := by
  unfold judgePair disagree
  dsimp only
  (repeat' split) <;> simp

@[simp] theorem predict_judgeRank (s : State) : (judgeRank s).refs.predict = s.refs.predict := by
  unfold judgeRank
  split
  · rfl
  · exact foldl_keeps (fun s => s.refs.predict) (fun u (p : Nat × Nat) => predict_judgePair p.1 p.2 u) _ _

@[simp] theorem predict_servoFreq (s : State) : (servoFreq s).refs.predict = s.refs.predict := by
  unfold servoFreq
  dsimp only
  (repeat' split) <;> simp

@[simp] theorem predict_servoTime (n : Nat) (s : State) : (servoTime n s).refs.predict = s.refs.predict := by
  unfold servoTime
  dsimp only
  (repeat' split) <;> simp

/-! ## One qualified slot -/

/-- A path selects nothing while no slot is qualified for it. -/
theorem select_none {n : Nat} {s : State} (h : ∀ k, qualFor n k s = false) : select n s = none := by
  have empty : cands n s = [] := List.filter_eq_nil_iff.mpr fun k _ => by simp [h]
  have none_best : bestOf n s (cands n s) = none := by rw [empty]; rfl
  simp [select, h, none_best]

/-- A disabled qualification of the frequency bars a slot from every path. -/
theorem qualFor_disabled {n k : Nat} {s : State} (h : (slot k s).freq.st = .disabled) : qualFor n k s = false := by simp [qualFor, h]

/-- A slot whose time is not qualified is not qualified for a time path. -/
theorem qualFor_timeless {n k : Nat} {s : State} (hn : n ≠ 0) (h : (slot k s).time.st = .disabled) : qualFor n k s = false := by
  simp [qualFor, h, hn]

/-- The prediction renewed from the mean steer and what the ageing model adds (R423). -/
def renewed (drift : Int) (s : State) : State := { s with refs := { s.refs with predict := mean s.refs.freq.hist + drift } }

/-- What an evaluation does to the slots, their rank, the paths and the loops, of a state with its prediction renewed. -/
def evaluated (s : State) : State :=
  servoTime 2 (servoTime 1 (servoFreq ([0, 1, 2].foldl (fun s n => evalPath n s) (judgeRank ((List.range 16).foldl (fun s k => judgeSlot k s) s)))))

/-- With no event of its own, an evaluation renews the prediction, judges the slots and their rank, and takes the paths in turn. -/
theorem exec_selectionEvaluation (drift : Int) (s : State) (h : servoRuns s = true) :
    ∃ t, exec (.selectionEvaluation [] drift) s = .next t ∧ unsent t = unsent (evaluated (renewed drift s)) := by
  refine ⟨_, congrArg Host.Outcome.next (if_neg (by simp [h])), ?_⟩
  rw [show ∀ u : State, unsent (gatesWait u) = unsent u from fun u => congrArg (fun r : Refs => { r with txQl := [] }) (gatesWait_refs u),
    unsent_esmcEvents]
  simp [unsent, evaluated, renewed]

/-- The one slot table in which slot 0 is qualified for the frequency and every other slot is as reset left it. -/
def onlySlotZero : Tab Slot := [(0, { Slot.reset with freq := ⟨.qualified, 0⟩ })]

section
variable {s : State} (hs : s.refs.slots = onlySlotZero)
include hs

theorem slot_zero : slot 0 s = { Slot.reset with freq := ⟨.qualified, 0⟩ } := by rw [slot, hs]; rfl

theorem slot_other {k : Nat} (hk : k ≠ 0) : slot k s = Slot.reset := by
  simp [slot, hs, onlySlotZero, Tab.get, Tab.find, hk]

/-- A change that leaves a slot's content leaves the table. -/
theorem updSlot_same {f : Slot → Slot} {k : Nat} (hf : f (slot k s) = slot k s) : updSlot k f s = s := by
  have same : Tab.upd Slot.reset k f s.refs.slots = s.refs.slots := by
    rw [Tab.upd, show Tab.get Slot.reset k s.refs.slots = slot k s from rfl, hf]
    by_cases hk : k = 0
    · subst hk
      rw [slot_zero hs, hs]
      rfl
    · rw [slot_other hs hk, hs]
      simp [Tab.put, onlySlotZero, Tab.erase, hk]
  simp [updSlot, same]

/-- A present and unmeasured input keeps slot 0 qualified, and no slot that is disabled leaves that. -/
theorem judgeSlot_same (hv : (det 192 s).valid = true) (hf : (det 192 s).freqValid = false) (k : Nat) : judgeSlot k s = s := by
  refine updSlot_same hs ?_
  by_cases hk : k = 0
  · subst hk
    have cause : freqCause 0 s = 0 := by simp [freqCause, slotValid, withinLimits, slotDet, hv, hf]
    simp [slot_zero hs, judgeQ, cause, Slot.reset]
  · simp [slot_other hs hk, judgeQ, Slot.reset]

theorem cands_zero : cands 0 s = [0] := by
  have here : qualFor 0 0 s = true := by simp [qualFor, mateBarred, slot_zero hs]
  have others : ∀ k, k ≠ 0 → qualFor 0 k s = false := fun k hk => qualFor_disabled (by rw [slot_other hs hk]; rfl)
  simp [cands, List.range_succ, here, others]

theorem judgeRank_same : judgeRank s = s := by simp [judgeRank, cands_zero hs, bestOf, pairsOf]

theorem qualFor_time {n : Nat} (hn : n ≠ 0) (k : Nat) : qualFor n k s = false := by
  refine qualFor_timeless hn ?_
  by_cases hk : k = 0
  · rw [hk, slot_zero hs]; rfl
  · rw [slot_other hs hk]; rfl

/-- A free time path stays free. -/
theorem evalPath_time {n : Nat} (hn : n ≠ 0) (hp : path n s = Path.reset) : evalPath n s = s := by
  simp [evalPath, hp, Path.reset, select_none (qualFor_time hs hn)]

/-- A free frequency path acquires slot 0. -/
theorem evalPath_freq (hp : s.refs.freq = Path.reset) (hr : s.pair.role = .unpaired) (hF : cfg 0x3216 1 s = 255)
    (hD : cfgB 0x3217 1 s = false) : evalPath 0 s = acquire 0 0 s := by
  have sel : select 0 s = some 0 := by simp [select, hF, hD, hr, cands_zero hs, bestOf, path, hp, Path.reset]
  have free : path 0 s = Path.reset := hp
  simp [evalPath, free, Path.reset, sel]

end

theorem freq_acquire (s : State) (hp : s.refs.freq = Path.reset) : (acquire 0 0 s).refs =
    { s.refs with freq := { Path.reset with st := .acquiring, slot := some 0 } } := by
  simp [acquire, stepPath, endSeed, updPath, path, hp, Path.reset]

/-- The servo steers for an acquiring frequency path and leaves the paths as they are. -/
theorem path_servoFreq (n : Nat) (s : State) (hp : s.refs.freq.st = .acquiring) : path n (servoFreq s) = path n s := by
  have steered : ∃ v, (servoFreq s).refs = { s.refs with steer := v } := by
    rw [servoFreq, hp]
    dsimp only
    split
    · exact ⟨_, rfl⟩
    · exact ⟨freeRate s, by simp⟩
  obtain ⟨v, refs⟩ := steered
  simp only [path, refs]

/-- A time path at rest is not steered. -/
theorem servoTime_free (n : Nat) (s : State) (hp : path n s = Path.reset) : servoTime n s = s := by simp [servoTime, hp, Path.reset]

/-- A fold whose every step leaves the state alone leaves it alone. -/
theorem foldl_same {f : State → Nat → State} {s : State} (h : ∀ k, f s k = s) (l : List Nat) : l.foldl f s = s := by
  induction l with
  | nil => rfl
  | cons k l ih => rw [List.foldl_cons, h, ih]

/-- With slot 0 alone qualified, an evaluation of paths at rest lets the frequency path acquire it. -/
theorem evaluation_acquires {s : State} (hs : s.refs.slots = onlySlotZero) (hf : s.refs.freq = Path.reset) (ha : s.refs.timeA = Path.reset)
    (hb : s.refs.timeB = Path.reset) (hv : (det 192 s).valid = true) (hu : (det 192 s).freqValid = false) (hr : s.pair.role = .unpaired)
    (hF : cfg 0x3216 1 s = 255) (hD : cfgB 0x3217 1 s = false) :
    (evaluated s).refs.freq = { Path.reset with st := .acquiring, slot := some 0 } := by
  have judged : (List.range 16).foldl (fun s k => judgeSlot k s) s = s := foldl_same (judgeSlot_same hs hv hu) _
  generalize hw : acquire 0 0 s = w
  have refs : w.refs = { s.refs with freq := { Path.reset with st := .acquiring, slot := some 0 } } := hw ▸ freq_acquire s hf
  have slots : w.refs.slots = onlySlotZero := by rw [refs]; exact hs
  have restA : path 1 w = Path.reset := by simp [path, refs, ha]
  have restB : path 2 w = Path.reset := by simp [path, refs, hb]
  have acquiring : w.refs.freq.st = .acquiring := by rw [refs]
  have paths : [0, 1, 2].foldl (fun s n => evalPath n s) s = w := by
    simp [evalPath_freq hs hf hr hF hD, hw, evalPath_time slots (n := 1) (by decide) restA, evalPath_time slots (n := 2) (by decide) restB]
  have steered : ∀ n, path n (servoFreq w) = path n w := fun n => path_servoFreq n w acquiring
  have still : servoTime 2 (servoTime 1 (servoFreq w)) = servoFreq w := by
    rw [servoTime_free 1 _ ((steered 1).trans restA), servoTime_free 2 _ ((steered 2).trans restB)]
  rw [evaluated, judged, judgeRank_same hs, paths, still]
  exact (steered 0).trans (by simp [path, refs])

/-! ## The timers of a qualification -/

theorem updQ_only (k : Nat) (b : Bool) (f : Qualif → Qualif) (s : State) : OnlyIn [.refs] s (updQ k b f s) := by simp [onlyIn_iff]

theorem qualif_updQ (k : Nat) (b : Bool) (f : Qualif → Qualif) (s : State) : qualif k b (updQ k b f s) = f (qualif k b s) := by
  cases b <;> simp [qualif, updQ]

theorem qualif_updQ_other (k : Nat) (b : Bool) (f : Qualif → Qualif) (s : State) : qualif k (!b) (updQ k b f s) = qualif k (!b) s := by
  cases b <;> simp [qualif, updQ]

theorem slot_updQ_ne {j k : Nat} (h : j ≠ k) (b : Bool) (f : Qualif → Qualif) (s : State) : slot j (updQ k b f s) = slot j s :=
  slot_updSlot_ne h _ s

theorem predict_judged (s : State) : ((List.range 16).foldl (fun s k => judgeSlot k s) s).refs.predict = s.refs.predict :=
  foldl_keeps (f := fun s k => judgeSlot k s) (fun s => s.refs.predict) (fun u k => predict_updSlot k _ u) _ s

/-- Settles O34, clause by clause: the prediction that no later part of the evaluation writes, the one slot that a path at rest acquires, and the
one qualification that a timer moves. -/
theorem slotSelection : Obligations.SlotSelection := by
  refine ⟨fun drift s h => ?predict, fun drift s h => ⟨s, by simp [exec, execSelectionEvaluation, h], rfl⟩,
    fun drift s h hs hf ha hb hv hu hr hF hD => ?acquire, fun x y k s hk hb hh => ?switch,
    fun k b s hq h => ?qualify, fun k b s hq h => ?holdoff, fun k b s hq h => ?restore⟩
  case predict =>
    obtain ⟨t, ht, refs⟩ := exec_selectionEvaluation drift s h
    refine ⟨t, ht, (congrArg Refs.predict refs).trans ?_⟩
    simp [unsent, evaluated, predict_judged, renewed]
  case acquire =>
    obtain ⟨t, ht, refs⟩ := exec_selectionEvaluation drift s h
    have freq : (unsent t).freq = { Path.reset with st := .acquiring, slot := some 0 } := by
      rw [refs]
      simpa only [unsent] using evaluation_acquires (s := renewed drift s) hs hf ha hb hv hu hr ((cfg_of_dict rfl rfl _ _).trans hF)
        ((cfgB_of_dict rfl rfl _ _).trans hD)
    exact ⟨t, ht, congrArg Path.st freq, congrArg Path.slot freq⟩
  case switch =>
    generalize hu : updPath 0 (fun p => { p with
        slot := some k, switching := none, bridging := false, buildOut := y - (x - s.refs.freq.buildOut) }) s = u
    have step : exec (.switchComplete x y) s = .next (esmcEvents (count 0x3225 1 (setRc 0x40018 4 u))) := by
      simp [exec, execSwitchComplete, hk, hb, hh, ← hu]
    have obs : u.obs = s.obs := by simp [← hu]
    refine ⟨_, step, ?_, ?_, ?_, ?_, ?_⟩
    · simp [← hu, updPath]
    · simp [← hu, updPath]
    · simp [← hu, updPath]
    · rw [countOf_esmcEvents, countOf_count_of_obs (u := setRc 0x40018 4 u) obs _ _ (by decide)]
    · simp [← hu, onlyIn_iff]
  case qualify =>
    exact ⟨_, congrArg Host.Outcome.next (if_pos (by simp [hq, h])), qualif_updQ _ _ _ s, qualif_updQ_other _ _ _ s,
      fun j hj => slot_updQ_ne hj _ _ s, updQ_only _ _ _ s⟩
  case holdoff =>
    exact ⟨_, congrArg Host.Outcome.next (if_pos (by simp [hq, h])), qualif_updQ _ _ _ s, fun j hj => slot_updQ_ne hj _ _ s, updQ_only _ _ _ s⟩
  case restore =>
    exact ⟨_, congrArg Host.Outcome.next (if_pos (by simp [hq, h])), qualif_updQ _ _ _ s, fun j hj => slot_updQ_ne hj _ _ s, updQ_only _ _ _ s⟩

end Sys2Proof.Machine
end

section
/-!
PROOFS. Halyard and telecom PTP (chapter 12): a received message that is accepted, the exchanges it completes, and the stamp queues.
-/
namespace Sys2Proof.Machine

/-! ## A message received -/

/-- A port with a message noted: its tile's control queue holds one less, its sequenceId is the last of its source. -/
def noted (c i ty : Nat) (h : PtpHdr) (s : State) : State :=
  updPort c i (fun p => { p with heard := (h.src, h.port, ty, h.seq) :: p.heard.filter (fun x => !(x.1 == h.src && x.2.1 == h.port && x.2.2.1 == ty)) })
    (updTsu (tileOf c) (fun u => { u with rxLevel := u.rxLevel - 1 }) s)

@[simp] theorem port_updTsu (c i t : Nat) (f : Tsu → Tsu) (s : State) : port c i (updTsu t f s) = port c i s := rfl

@[simp] theorem tsu_updPort (c i t : Nat) (f : PtpPort → PtpPort) (s : State) : tsu t (updPort c i f s) = tsu t s := rfl

@[simp] theorem port_noted (c i ty : Nat) (h : PtpHdr) (s : State) : port c i (noted c i ty h s) = { port c i s with
    heard := (h.src, h.port, ty, h.seq) :: (port c i s).heard.filter (fun x => !(x.1 == h.src && x.2.1 == h.port && x.2.2.1 == ty)) } := by
  simp [noted]

theorem noted_only (c i ty : Nat) (h : PtpHdr) (s : State) : OnlyIn [.ptp] s (noted c i ty h s) := by simp [noted, onlyIn_iff]

/-- An accepted message is noted and handed on. -/
theorem receive_accepted {c i ty : Nat} {h : PtpHdr} {s : State} (body : State → State) (hp : portTakes (port c i s) = true)
    (hr : refuseMsg c i ty h s = 0) : receive c i ty h body s = body (noted c i ty h s) := by
  have same : refuseMsg c i ty h (updTsu (tileOf c) (fun u => { u with rxLevel := u.rxLevel - 1 }) s) = 0 := hr
  simp [receive, hp, same, noted]

/-- A message that is not accepted is counted under its reason. -/
theorem receive_refused {c i ty : Nat} {h : PtpHdr} {s : State} (body : State → State) (hp : portTakes (port c i s) = true)
    (hr : refuseMsg c i ty h s ≠ 0) :
    receive c i ty h body s = count 0x331B (refuseMsg c i ty h s) (updTsu (tileOf c) (fun u => { u with rxLevel := u.rxLevel - 1 }) s) := by
  have same : refuseMsg c i ty h (updTsu (tileOf c) (fun u => { u with rxLevel := u.rxLevel - 1 }) s) = refuseMsg c i ty h s := rfl
  simp only [receive, port_updTsu, hp, same]
  generalize refuseMsg c i ty h s = n at hr
  cases n with
  | zero => exact absurd rfl hr
  | succ n => rfl

theorem sendPtp_emits (k : EmitKind) (c i ty : Nat) (coarse : Bool) (f : List Int) (s : State) :
    Emitted [⟨k, c, (i : Int) :: (seqOf c i ty s).toNat :: ((domOf (instDom i s) s).epoch.toNat % 16 : Nat) ::
      (if coarse then 1 else 0) :: (sentKey i s : Int) :: f⟩] s
      (sendPtp k c i ty coarse f s) := by
  simp [Emitted, sendPtp, emit, seqNext]

/-- What left since a state with the same wire. -/
theorem Emitted.of_wire {l : List Emit} {r s t : State} (h : Emitted l s t) (hw : s.wire = r.wire) : Emitted l r t := by
  rw [Emitted, ← hw]
  exact h

/-! ## What the rest of the module reads of a port in which a message is noted -/

section
variable (c i ty : Nat) (h : PtpHdr) (s : State)

@[simp] theorem rxCoarse_noted (d : Nat) : rxCoarse d (noted c i ty h s) = rxCoarse d s := rfl
@[simp] theorem txCoarse_noted (d : Nat) : txCoarse d (noted c i ty h s) = txCoarse d s := rfl
@[simp] theorem lanesNow_noted (d : Nat) : lanesNow d (noted c i ty h s) = lanesNow d s := rfl
@[simp] theorem peerDelay_noted (j : Nat) : peerDelay j (noted c i ty h s) = peerDelay j s := rfl
@[simp] theorem sentKey_noted (j : Nat) : sentKey j (noted c i ty h s) = sentKey j s := rfl
@[simp] theorem domOf_noted (d : Domain) : domOf d (noted c i ty h s) = domOf d s := rfl
@[simp] theorem instDom_noted (j : Nat) : instDom j (noted c i ty h s) = instDom j s := rfl
@[simp] theorem seqOf_noted (m : Nat) : seqOf c i m (noted c i ty h s) = seqOf c i m s := by simp [seqOf]
@[simp] theorem rxCoarse_rxStamp (d : Nat) : rxCoarse d (rxStamp c s) = rxCoarse d s := rfl
@[simp] theorem peerDelay_rxStamp (j : Nat) : peerDelay j (rxStamp c s) = peerDelay j s := rfl
@[simp] theorem lanesNow_rxStamp (d : Nat) : lanesNow d (rxStamp c s) = lanesNow d s := rfl
@[simp] theorem sentKey_rxStamp (j : Nat) : sentKey j (rxStamp c s) = sentKey j s := rfl
@[simp] theorem domOf_rxStamp (d : Domain) : domOf d (rxStamp c s) = domOf d s := rfl
@[simp] theorem instDom_rxStamp (j : Nat) : instDom j (rxStamp c s) = instDom j s := rfl
@[simp] theorem port_rxStamp (d j : Nat) : port d j (rxStamp c s) = port d j s := rfl
@[simp] theorem seqOf_rxStamp (d j m : Nat) : seqOf d j m (rxStamp c s) = seqOf d j m s := rfl
@[simp] theorem port_count (x y d j : Nat) : port d j (count x y s) = port d j s := by simp [port]
@[simp] theorem port_draw (d j : Nat) : port d j (draw s) = port d j s := rfl
@[simp] theorem peerDelay_updPort (f : PtpPort → PtpPort) (j : Nat) : peerDelay j (updPort c i f s) = peerDelay j s := rfl
@[simp] theorem peerDelay_count (x y j : Nat) : peerDelay j (count x y s) = peerDelay j s := by
  rw [peerDelay, peerDelay, cfg_of_dict (s := s) (t := count x y s) (by simp) (by simp)]
@[simp] theorem peerDelay_draw (j : Nat) : peerDelay j (draw s) = peerDelay j s := rfl
@[simp] theorem lanesNow_updPort (f : PtpPort → PtpPort) (d : Nat) : lanesNow d (updPort c i f s) = lanesNow d s := rfl

@[simp] theorem countOf_rxStamp (x y : Nat) : countOf x y (rxStamp c s) = countOf x y s := rfl
@[simp] theorem countOf_updPort (f : PtpPort → PtpPort) (x y : Nat) : countOf x y (updPort c i f s) = countOf x y s := rfl
@[simp] theorem countOf_noted (x y : Nat) : countOf x y (noted c i ty h s) = countOf x y s := rfl

end

@[simp] theorem voids_zero (s : State) : voids 0 s = s := rfl
@[simp] theorem voids_one (s : State) : voids 1 s = count 0x331B 4 s := rfl

/-! ## The exchanges of chapter 12 -/

@[simp] theorem port_offerOffset (c i d j : Nat) (off : Int) (s : State) : port d j (offerOffset c i off s) = port d j s := by
  unfold offerOffset
  split
  · rfl
  · exact foldl_keeps (fun s => port d j s) (fun u k => by split <;> rfl) _ s

/-- A good exchange keeps the requests and the delay filter of its port and is counted. -/
theorem goodExchange_keeps (c i : Nat) (off : Int) (s : State) :
    (port c i (goodExchange c i off s)).reqs = (port c i s).reqs ∧ (port c i (goodExchange c i off s)).mpdN = (port c i s).mpdN ∧
    countOf 0x331B 3 (goodExchange c i off s) = countOf 0x331B 3 s + 1 := by
  generalize hu : (updPort c i (fun p => { p with recent := (s.now, off) :: p.recent.filter (fun x => decide (s.now ≤ x.1 + 100000000)), goodN := p.goodN + 1 }) s) = u
  have counted : countOf 0x331B 3 (offerOffset c i off (count 0x331B 3 u)) = countOf 0x331B 3 s + 1 := by
    rw [countOf_of_obs (t := offerOffset c i off (count 0x331B 3 u)) (s := count 0x331B 3 u) (by simp [offerOffset, apply_ite]),
      countOf_count_of_obs (s := s) (by simp [← hu]) _ _ (by decide)]
  simp only [goodExchange, hu]
  split
  · exact ⟨by simp [← hu], by simp [← hu], counted⟩
  · exact ⟨by simp [← hu], by simp [← hu], counted⟩

/-- A judged exchange whose stamps, lanes and delay agree is good: its delay enters the filter and it is counted. -/
theorem judgeExchange_good {c i : Nat} {e : Exchange} {s : State} (hb : e.bad = false) (ho : allSame e.own = true)
    (hp : allSame e.peer = true) (hl : e.lanes = lanesNow c s) (ht : e.reqAt = s.now) (hn : (port c i s).mpdN = 0) :
    (port c i (judgeExchange c i e s)).reqs = (port c i s).reqs ∧ (port c i (judgeExchange c i e s)).mpdN = 1 ∧
    countOf 0x331B 3 (judgeExchange c i e s) = countOf 0x331B 3 s + 1 := by
  have good : judgeExchange c i e s = goodExchange c i (e.t2.getD 0 - e.t1.getD 0 - exDelay e - delayAsym c s) (updPort c i (filterDelay (exDelay e)) s) := by
    simp [judgeExchange, hb, ho, hp, hl, ht, hn, delayOk]
  obtain ⟨reqs, filtered, counted⟩ := goodExchange_keeps c i (e.t2.getD 0 - e.t1.getD 0 - exDelay e - delayAsym c s) (updPort c i (filterDelay (exDelay e)) s)
  rw [good]
  exact ⟨reqs.trans (by simp [filterDelay]), filtered.trans (by simp [filterDelay, hn]), counted⟩

/-- Settles O38, clause by clause: a message that is accepted is noted, and what it does then is its own case of R371. -/
theorem ptpExchange : Obligations.PtpExchange := by
  refine ⟨fun c i h x y s hp hr hx hq hd => ?sync, fun c i h two x y s hp hu => ?unicast, fun c i h n x s hp hr h2 h1 hn hq hd => ?followUp,
    fun c i h x s hp hr => ?delayReq, fun c i h n x e s hp hr hq hn h4 h3 => ?void, fun c i h n x e s hp hr hq hn h4 h3 h1 hb hc ho hs hl ht hf => ?good⟩
  case sync =>
    have step : exec (.syncReceived c i h false x y) s = .next (receive c (instNo i) 0 h _ s) := rfl
    rw [receive_accepted _ (by simp [portTakes, hp]) hr] at step
    have measured : measures (port c (instNo i) (rxStamp c (count 0x331B 2 (noted c (instNo i) 0 h s)))) = true := by simp [measures, hp]
    refine ⟨_, step, ?_⟩
    simp only [measured, Bool.not_true, Bool.false_eq_true, if_false, peerDelay_draw]
    generalize hu : rxStamp c (count 0x331B 2 (noted c (instNo i) 0 h s)) = u
    have counted : countOf 0x331B 2 u = countOf 0x331B 2 s + 1 := by
      rw [← hu, countOf_rxStamp, countOf_count _ _ _ (by decide), countOf_noted]
    have only : OnlyIn [.regs, .obs, .ptp, .draws] s u := by simp [← hu, noted, onlyIn_iff]
    have reqs : (port c (instNo i) u).reqs = [] := by simp [← hu, hq]
    have ex : (port c (instNo i) u).ex = Exchange.none := by simp [← hu, hx]
    have exchange : peerDelay (instNo i) u = false := by simp [← hu, hd]
    have draws : u.draws = s.draws := by simp [← hu, noted]
    simp only [reqs, ex, exchange, Exchange.none, List.filter_nil, List.length_nil, Option.isSome_none, Bool.false_and, Bool.false_eq_true,
      if_false, voids_zero, peerDelay_updPort, Nat.add_zero]
    exact ⟨by simp, by simp, by simp, counted, by simp [draw, draws], only.trans (by simp [onlyIn_iff])⟩
  case unicast =>
    have reason : refuseMsg c (instNo i) 0 h s = 6 := by simp [refuseMsg, hu]
    have step : exec (.syncReceived c i h two x y) s = .next (receive c (instNo i) 0 h _ s) := rfl
    rw [receive_refused _ (by simp [portTakes, hp]) (by simp [reason]), reason] at step
    exact ⟨_, step, by simp, (countOf_count_of_obs rfl 0x331B 6 (by decide)).trans rfl, by simp [onlyIn_iff]⟩
  case followUp =>
    have step : exec (.followUpReceived c i h n x) s = .next (receive c (instNo i) 8 h _ s) := rfl
    rw [receive_accepted _ (by simp [portTakes, hp]) hr] at step
    refine ⟨_, step, ?_, ?_⟩
    · simp [hq, hd, h2, h1, hn]
    · refine OnlyIn.trans (t := noted c (instNo i) 8 h s) (noted_only _ _ _ _ _) ?_
      simp [hq, hd, onlyIn_iff]
  case delayReq =>
    have step : exec (.delayReqReceived c i h x) s = .next (receive c (instNo i) 1 h _ s) := rfl
    rw [receive_accepted _ (by simp [portTakes, hp]) hr] at step
    have master : (port c (instNo i) (rxStamp c (noted c (instNo i) 1 h s))).st = .master := by simp [hp]
    refine ⟨_, step.trans (congrArg Host.Outcome.next (if_pos master)), ?_, ?_⟩
    · refine .of_wire (s := rxStamp c (noted c (instNo i) 1 h s)) ?_ rfl
      simpa using sendPtp_emits .delayResp c (instNo i) 9 _ _ (rxStamp c (noted c (instNo i) 1 h s))
    · simp [onlyIn_iff, noted]
  case void =>
    have step : exec (.delayRespReceived c i h n x) s = .next (receive c (instNo i) 9 h _ s) := rfl
    rw [receive_accepted _ (by simp [portTakes, hp]) hr] at step
    have reqs : (port c (instNo i) (noted c (instNo i) 9 h s)).reqs = [e] := by simp [hq]
    refine ⟨_, step, ?_⟩
    simp only [reqs, List.find?_cons, hn, h4]
    simp only [beq_self_eq_true, Option.isNone_none, Bool.and_self, h3, if_true, voids_one]
    refine ⟨by simp [hq, hn], ?_, by simp [onlyIn_iff, noted]⟩
    rw [countOf_count _ _ _ (by decide), countOf_updPort, countOf_noted]
  case good =>
    have step : exec (.delayRespReceived c i h n x) s = .next (receive c (instNo i) 9 h _ s) := rfl
    rw [receive_accepted _ (by simp [portTakes, hp]) hr] at step
    have reqs : (port c (instNo i) (noted c (instNo i) 9 h s)).reqs = [e] := by simp [hq]
    obtain ⟨stamp3, h3⟩ := Option.isSome_iff_exists.mp h3
    obtain ⟨stamp1, h1⟩ := Option.isSome_iff_exists.mp h1
    refine ⟨_, step, ?_⟩
    simp only [reqs, List.find?_cons, hn, h4, beq_self_eq_true, Option.isNone_none, Bool.and_self, h3, h1, Option.isNone_some, Bool.false_eq_true,
      if_false]
    generalize hu : updPort c (instNo i) _ (noted c (instNo i) 9 h s) = u
    have emptied : (port c (instNo i) u).reqs = [] := by simp [← hu, hn]
    have unfiltered : (port c (instNo i) u).mpdN = 0 := by simp [← hu, hf]
    have lanes : e.lanes = lanesNow c u := by rw [← hu, hl]; rfl
    have time : e.reqAt = u.now := by rw [← hu, ht]; rfl
    have counted : countOf 0x331B 3 u = countOf 0x331B 3 s := by rw [← hu]; rfl
    obtain ⟨reqs, filter, count⟩ := judgeExchange_good (c := c) (i := instNo i) (s := u)
      (e := { e with reqSeq := n, t1 := some stamp1, t3 := some stamp3, t4 := some ((lsbOf x : Int) - h.corr), peer := h.epoch :: e.peer, bad := e.bad || h.coarse })
      (by simp [hb, hc]) ho hs lanes time unfiltered
    exact ⟨reqs.trans emptied, filter, by rw [← counted]; exact count⟩

end Sys2Proof.Machine
end

section
/-!
PROOFS. Halyard and telecom PTP (chapter 12): the peer delay, Announce, Signaling, the transmit stamp queues and the TOD message.
-/
namespace Sys2Proof.Machine

/-! ## The peer delay -/

/-- A peer-delay exchange that holds all its stamps and agrees with itself gives the first value of the delay filter. -/
theorem judgePdelay_good {c : Nat} {e : Exchange} {turn z v : Int} {s : State} (h1 : e.t1 = some z) (h4 : e.t4 = some v) (hb : e.bad = false)
    (ho : allSame e.own = true) (hp : allSame e.peer = true) (hl : e.lanes = lanesNow c s) (hn : (port c 0 s).mpdN = 0) :
    judgePdelay c e turn s = updPort c 0 (fun p => { filterDelay (((v - z) - turn) / 2) p with pd := Exchange.none }) s := by
  simp [judgePdelay, h1, h4, hb, ho, hp, hl, hn, delayOk]

/-- Settles O39, clause by clause: one-step answers carry the turnaround, and a complete exchange enters the filter. -/
theorem peerDelayExchange : Obligations.PeerDelay := by
  refine ⟨fun c h id x y b s hp hr hd ho => ?request, fun c h n x y e z s hp hr hd he hn h1 hb hc hx ho hl hm => ?response,
    fun c h n x e z w v s hp hr he hn h1 h2 h4 hb ho hpe hl hm => ?followUp⟩
  case request =>
    have step : exec (.pdelayReqReceived c h id x y b) s = .next (receive c 0 2 h _ s) := rfl
    rw [receive_accepted _ (by simp [portTakes, hp]) hr] at step
    have oneStep : cfgB 0x3306 1 (rxStamp c (noted c 0 2 h s)) = true := ho
    refine ⟨_, step, ?_⟩
    simp only [peerDelay_rxStamp, peerDelay_noted, hd, oneStep, Bool.not_true, Bool.false_eq_true, if_false, if_true]
    refine ⟨.of_wire (s := rxStamp c (noted c 0 2 h s)) ?_ rfl, by simp [onlyIn_iff, noted]⟩
    simpa using sendPtp_emits .pdelayResp c 0 3 _ _ (rxStamp c (noted c 0 2 h s))
  case response =>
    have step : exec (.pdelayRespReceived c h n false x y) s = .next (receive c 0 3 h _ s) := rfl
    rw [receive_accepted _ (by simp [portTakes, hp]) hr] at step
    refine ⟨_, step, ?_⟩
    generalize hu : rxStamp c (noted c 0 3 h s) = u
    have pd : (port c 0 u).pd = e := by simp [← hu, he]
    have on : peerDelay 0 u = true := by simp [← hu, hd]
    have fine : rxCoarse c u = false := by simp [← hu, hx]
    have epoch : domOf (instDom 0 u) u = domOf (instDom 0 s) s := by simp [← hu]
    have lanes : e.lanes = lanesNow c u := by simp [← hu, hl]
    have fresh : (port c 0 u).mpdN = 0 := by simp [← hu, hm]
    have only : OnlyIn [.ptp] s u := by simp [← hu, noted, onlyIn_iff]
    have awaited : (!peerDelay 0 u || (port c 0 u).pd.reqSeq != n || (port c 0 u).pd.reqAt = 0 && (port c 0 u).pd.own.isEmpty) = false := by
      simp [on, pd, hn, ho]
    rw [if_neg (by simp [awaited]), if_neg (by simp), pd,
      judgePdelay_good (z := z) (v := lsbOf y) (e := { e with
        t4 := some (lsbOf y : Int), peer := [h.epoch], bad := e.bad || h.coarse || rxCoarse c u,
        own := BitVec.ofNat 4 (domOf (instDom 0 u) u).epoch.toNat :: e.own }) h1 rfl (by simp [hb, hc, fine]) (by simp [ho, epoch, allSame]) rfl lanes fresh]
    exact ⟨by simp [filterDelay, fresh], by simp [filterDelay, fresh], by simp, only.trans (by simp [onlyIn_iff])⟩
  case followUp =>
    have step : exec (.pdelayRespFollowUpReceived c h n x) s = .next (receive c 0 10 h _ s) := rfl
    rw [receive_accepted _ (by simp [portTakes, hp]) hr] at step
    have pd : (port c 0 (noted c 0 10 h s)).pd = e := by simp [he]
    have fresh : (port c 0 (noted c 0 10 h s)).mpdN = 0 := by simp [hm]
    refine ⟨_, step, ?_⟩
    simp only [pd, h2]
    rw [if_neg (by simp [hn]),
      judgePdelay_good (z := z) (v := v) (e := { e with t2 := some w, peer := h.epoch :: e.peer }) h1 h4 hb ho (by simp [hpe, allSame]) (by simp [hl]) fresh]
    exact ⟨by simp [filterDelay, hm], by simp [filterDelay, hm], (noted_only c 0 10 h s).trans (by simp [onlyIn_iff])⟩

/-! ## Announce and Signaling -/

@[simp] theorem port_offerClass (c d j : Nat) (s : State) : port d j (offerClass c s) = port d j s := by
  unfold offerClass
  exact foldl_keeps (fun s => port d j s) (fun u k => by split <;> rfl) _ s

/-- A comparison moves the state of its port and nothing else of it. -/
theorem port_comparePort (c i : Nat) (b : Bool) (s : State) :
    port c i (comparePort c i b s) = { port c i s with st := (port c i (comparePort c i b s)).st } := by
  unfold comparePort
  dsimp only
  (repeat' split) <;> simp

@[simp] theorem port_noteKey (c i j : Nat) (s : State) : port c i (noteKey j s) = port c i s := by
  unfold noteKey
  (repeat' split) <;> rfl

/-- A message sent takes its port's next sequenceId. -/
theorem port_sendPtp (k : EmitKind) (c i ty : Nat) (co : Bool) (f : List Int) (s : State) :
    port c i (sendPtp k c i ty co f s) = { port c i s with seqs := Tab.put 0 ty (Tab.get 0 ty (port c i s).seqs + 1) (port c i s).seqs } := by
  have sent : ∀ e, port c i (emit k c e s) = port c i s := fun _ => rfl
  simp [sendPtp, seqNext, sent]

theorem portTakes_slave {p : PtpPort} (h : p.st = .slave) : portTakes p = true := by simp [portTakes, h]

/-- Settles O40, clause by clause. -/
theorem announceAndSignaling : Obligations.AnnounceAndSignaling := by
  refine ⟨fun c i h a s hp hr ha => ?announce, fun c i s hp => ?timeout, fun c h f s hp hr => ?l1sync, fun c h ms s hp hr => ?answer,
    fun c h ms s hp hr hm hM hl => ?request, fun c s => ⟨_, rfl, by simp, by simp [onlyIn_iff]⟩, fun c s => ⟨_, rfl, by simp, by simp [onlyIn_iff]⟩⟩
  case announce =>
    have step : exec (.announceReceived c i h a) s = .next (receive c (instNo i) 11 h _ s) := rfl
    rw [receive_accepted _ (by simp [portTakes, hp]) hr] at step
    refine ⟨_, step, ?_⟩
    simp only [ha]
    generalize hu : updPort c (instNo i) _ (noted c (instNo i) 11 h s) = u
    have setting : cfg 0x3305 (instNo i + 1) (noted c (instNo i) 11 h s) = cfg 0x3305 (instNo i + 1) s := cfg_of_dict rfl rfl _ _
    rw [port_comparePort, port_offerClass, ← hu, port_updPort, setting, port_noted]
    exact ⟨rfl, rfl, rfl, rfl⟩
  case timeout =>
    have step : exec (.announceTimeout c i) s = .next (comparePort c (instNo i) true (offerClass c
        (updPort c (instNo i) (fun p => { p with annRun := 0, annOk := false }) s))) :=
      congrArg Host.Outcome.next (if_pos (portTakes_slave hp))
    refine ⟨_, step, ?_⟩
    dsimp only
    rw [port_comparePort, port_offerClass, port_updPort]
    exact ⟨rfl, rfl⟩
  case l1sync =>
    have step : exec (.signalingReceived c h (.l1sync f)) s = .next (receive c 0 12 h _ s) := rfl
    rw [receive_accepted _ (portTakes_slave hp) hr] at step
    exact ⟨_, step, by simp, by simp [onlyIn_iff, noted]⟩
  case answer =>
    have step : exec (.signalingReceived c h (.holdAns ms 0)) s = .next (receive c 0 12 h _ s) := rfl
    rw [receive_accepted _ (portTakes_slave hp) hr] at step
    exact ⟨_, step, by simp, by simp [onlyIn_iff, noted]⟩
  case request =>
    have step : exec (.signalingReceived c h (.holdReq ms)) s = .next (receive c 0 12 h _ s) := rfl
    rw [receive_accepted _ (portTakes_slave hp) hr] at step
    have level : (noted c 0 12 h s).power.level = 4 := hl
    have refused : holdRequest c ms (noted c 0 12 h s) = holdAnswer c ms 4 (noted c 0 12 h s) := by
      simp [holdRequest, level, Nat.ne_of_gt hm]
    refine ⟨_, step, ?_⟩
    simp only [hM, if_true, refused]
    refine ⟨?_, ?_, by simp [holdAnswer, onlyIn_iff, noted]⟩
    · simp [holdAnswer, port_sendPtp]
    · refine .of_wire (s := updPort c 0 (fun p => { p with holdOut := 0 }) (noted c 0 12 h s)) ?_ rfl
      have seq : seqOf c 0 12 (updPort c 0 (fun p => { p with holdOut := 0 }) (noted c 0 12 h s)) = seqOf c 0 12 s := by simp [seqOf]
      rw [← seq]
      exact sendPtp_emits .signaling c 0 12 _ [3, 0, 4] (updPort c 0 (fun p => { p with holdOut := 0 }) (noted c 0 12 h s))

/-! ## The stamp queues and the TOD message -/

@[simp] theorem length_leBytes (k n : Nat) : (leBytes k n).length = k := by
  induction k generalizing n with
  | zero => rfl
  | succ k ih => rw [leBytes, List.length_cons, ih]

theorem length_todBytes (s : State) : (todBytes s).length = 24 := by simp [todBytes, leBytesI]

/-- Settles O41, clause by clause. -/
theorem stampQueuesAndTod : Obligations.StampQueuesAndTod := by
  refine ⟨fun n s hq => ?stale, fun c i id s hs hq hd => ?missing, fun c i id s hs => ?present,
    fun n s => ⟨_, rfl, by simp [txqFlush], fun m hm => tsu_updTsu_ne hm _ s, by simp [txqFlush, onlyIn_iff]⟩, fun s h => ?tod, fun s h => ?idle⟩
  case stale =>
    have step : exec (.txqStale n) s = .next (setRc (tsuAddr n 0x18) 8 (updTsu n (fun u => { u with queue := u.queue.drop 1, stales := u.stales + 1 }) s)) :=
      congrArg Host.Outcome.next (if_neg (by simpa using hq))
    have tsu_setRc : ∀ a w u, tsu n (setRc a w u) = tsu n u := fun _ _ _ => rfl
    refine ⟨_, step, by simp [tsu_setRc], by simp [tsu_setRc], ?_, fun m hm => tsu_updTsu_ne hm _ s, by simp [onlyIn_iff]⟩
    simp only [setRc_get, BitVec.getLsbD_or]
    simp
  case missing =>
    have none_void : ((port c (instNo i) s).reqs.filter (fun e => e.id == id && e.t3.isNone)).length +
        (if (port c (instNo i) s).pd.id == id && (port c (instNo i) s).pd.t1.isNone && !(port c (instNo i) s).pd.own.isEmpty then 1 else 0) = 0 := by
      simp [hq, hd, Exchange.none]
    have step : exec (.txStampMissing c i id) s = .next (if hasStamp (tileOf c) id s then s else _) := rfl
    rw [if_neg (by simp [hs])] at step
    dsimp only at step
    rw [none_void, voids_zero] at step
    refine ⟨_, step, ?_, ?_, by simp [onlyIn_iff]⟩
    · rw [countOf_count _ _ _ (by decide), countOf_updPort]
    · rw [countOf_count_ne _ _ _ _ _ (by decide) (by decide), countOf_updPort]
  case present =>
    exact ⟨_, congrArg Host.Outcome.next (if_pos hs), rfl⟩
  case tod =>
    exact ⟨_, congrArg Host.Outcome.next (if_neg (by simp [h])), rfl, rfl, length_todBytes s, by simp [onlyIn_iff]⟩
  case idle =>
    exact ⟨_, congrArg Host.Outcome.next (if_pos h), rfl⟩

end Sys2Proof.Machine
end

section
/-!
PROOFS. Receivers, inferred lanes and ageing (chapter 13).
-/
namespace Sys2Proof.Machine

@[simp] theorem laneCal_raise (n : Nat) (a : Alarm) (i : Nat) (s : State) : laneCal n (raise a i s) = laneCal n s := by simp [laneCal]
@[simp] theorem laneCal_endAlarm (n : Nat) (a : Alarm) (i : Nat) (s : State) : laneCal n (endAlarm a i s) = laneCal n s := by simp [laneCal]
@[simp] theorem laneCal_aimSlew (n k i : Nat) (v : Int) (s : State) : laneCal n (aimSlew k i v s) = laneCal n s := rfl

theorem countOf_queueRec (x y k i : Nat) (b : Bool) (q : Option Req) (s : State) : countOf x y (queueRec k i b q s) = countOf x y s := rfl

/-- A refit that is kept replaces the fit before it, is counted and queues its record; the plans of banks and of the core voltage are the codes 2
and 6. -/
theorem exec_ageingRefit_kept {code n : Nat} {f : AgeFit} {s : State} (ha : calActive s = true) (hf : f.resid ≤ 3 * f.noise) (h2 : code ≠ 2)
    (h6 : code ≠ 6) : exec (.ageingRefit code n f) s = .next (queueRec 9 (calKey code n) false none (count 0x340F 5
      { s with cal := { s.cal with ages := Tab.set (calKey code n) ⟨f.flags, f.words, timeA s, f.days⟩ s.cal.ages } })) := by
  simp [exec, execAgeingRefit, ha, Nat.not_lt.mpr hf, replan, h2, h6]

/-- Settles O44, clause by clause. -/
theorem receiversAndAgeing : Obligations.ReceiversAndAgeing := by
  refine ⟨fun c k s he hc hk hp hr h15 => ?trial, fun c k n up s => ⟨s, by simp [exec, execRxAdaptTrial], rfl⟩, fun c k m s hm => ?low, fun c k m s hm => ?high,
    fun c k x y s => ?inferred, fun code n f s ha hf h2 h6 => ?kept, fun code n f s ha hf => ?rejected⟩
  case trial =>
    have step : exec (.rxAdaptTrial c k 0 true true) s = .next (updLane (4 * c + k) (adaptSet 0 true) s) := by
      simp [exec, execRxAdaptTrial, he, hc, hk, hp, hr]
    refine ⟨_, step, ?_, fun n hn => laneCal_updLane_ne hn _ s, by simp [onlyIn_iff]⟩
    simp only [laneCal_updLane, adaptSet, if_true]
    omega
  case low =>
    exact ⟨_, congrArg Host.Outcome.next (if_pos hm), by simp, standing_raise .rxMargin _ _, by simp [onlyIn_iff]⟩
  case high =>
    exact ⟨_, congrArg Host.Outcome.next (if_neg (Int.not_lt.mpr hm)), by simp, by simp [Stands, standing_endAlarm], by simp [onlyIn_iff]⟩
  case inferred =>
    refine ⟨_, rfl, ?_, ?_, fun n hn => ?_, ?_⟩
    · dsimp only
      split <;> simp
    · dsimp only
      split <;> simp
    · dsimp only
      split <;> simp [laneCal_updLane_ne hn]
    · dsimp only
      split <;> simp [onlyIn_iff]
  case kept =>
    refine ⟨_, exec_ageingRefit_kept ha hf h2 h6, by simp [queueRec], ?_, by simp [queueRec], by simp [onlyIn_iff]⟩
    rw [countOf_queueRec]
    exact countOf_count_of_obs rfl 0x340F 5 (by decide)
  case rejected =>
    have step : exec (.ageingRefit code n f) s = .next (logCal ⟨timeA s, 0, code, 2, 0x20, n, 0, f.resid⟩ s) := by
      simp [exec, execAgeingRefit, ha, hf]
    exact ⟨_, step, rfl, rfl, by simp [onlyIn_iff]⟩

end Sys2Proof.Machine
end

section
/-!
PROOFS. Frames received (chapter 14): a frame that no meter colours is remarked as a green one.
-/
namespace Sys2Proof.Machine

/-- Channel 0 cross-connects to next hop 0; the QoS input map colours every frame yellow, and the remark profile discards green frames of class 0. -/
def yellowInGreenOut : State :=
  { State.reset with
    dict := { State.reset.dict with
      vals := [(key 0x4007 1, [1]), (key 0x4009 1, [0, 0, 0, 0]), (key 0x4103 1, List.replicate 76 0x10), (key 0x4104 1, 0 :: 0x80 :: List.replicate 98 0)] }
    optics := { State.reset.optics with coding := [(0, { Coding.reset with stage := 6 })] }
    fwd := { State.reset.fwd with tables := { State.reset.fwd.tables with nh := [(0, ⟨.live, 0, BitVec.ofNat 256 (2 ^ 255)⟩)] } } }

/-- A frame of 60 bytes of EtherType 0x1234. -/
def plainFrame : List Byte := List.replicate 6 2 ++ List.replicate 6 4 ++ [0x12, 0x34] ++ List.replicate 46 0

/-- The frame is discarded as a green one and does not enter the fabric. -/
theorem yellowInGreenOut_discards : ∃ t, exec (.frameReceived 0 plainFrame .clear ⟨0, 0, false, 0⟩) yellowInGreenOut = .next t ∧ fabQ 0 0 t = [] :=
  ⟨_, rfl, by decide +kernel⟩

/-- Refutes O45: no meter colours the frame, so it is remarked as green (colour 0) and not as the yellow the QoS input map gave it; the clause asks
for the remark entry of the input colour, and the entry of green discards the frame under reason 11. -/
theorem not_framesAndTables : ¬ Obligations.FramesAndTables := by
  rintro ⟨-, -, -, crosses, -⟩
  obtain ⟨t, ht, ⟨k, hk, -⟩, -⟩ := crosses 0 plainFrame ⟨0, 0, false, 0⟩ 0 yellowInGreenOut (by decide +kernel) (by decide +kernel) (by decide +kernel)
    (by decide +kernel) (by decide +kernel) (by decide +kernel) (by decide +kernel) (by decide +kernel) (by decide) rfl (by decide +kernel)
    (by decide +kernel) (by decide +kernel) (by decide +kernel) (by decide +kernel) (by decide +kernel) (by decide +kernel) (by decide +kernel)
    (by decide +kernel) (by decide +kernel)
  obtain ⟨u, hu, empty⟩ := yellowInGreenOut_discards
  obtain rfl : t = u := Host.Outcome.next.inj (ht.symm.trans hu)
  have tile : tileOf (field (row 0 yellowInGreenOut.fwd.tables.nh).bits 254 247) = 0 := by decide +kernel
  rw [tile] at hk
  exact List.cons_ne_nil _ _ (hk.symm.trans empty)

end Sys2Proof.Machine
end

section
/-!
PROOFS. The fabric (chapter 15): a discard of a channel number that no channel has counts in another object's word too.
-/
namespace Sys2Proof.Machine

/-- A copy of 64 bytes for channel number 768, whose word of BUF_DROPS is that of BUF_COUNTS. -/
def strayCopy : Copy := ⟨[], Edit.none, .hop 0, none, 0, 768, 0, 0, 0, 64, 0, 0, none, false, [], 0⟩

/-- The stray copy waits in the fabric, its queue has no room on die and no spill point. -/
def strayInFabric : State :=
  { State.reset with
    dict := { State.reset.dict with vals := [(key 0x4202 (cfg 0x4201 769 State.reset + 1), List.replicate 83 0)] }
    optics := { State.reset.optics with coding := [(768, { Coding.reset with stage := 6 })] }
    sw := { State.reset.sw with fab := [(0, [strayCopy])] } }

/-- The discard of the stray copy counts twice in the same word. -/
theorem strayInFabric_counts_twice :
    ∃ t, exec (.fabricDelivery 0 false) strayInFabric = .next t ∧ countOf 0x4210 1 t = 2 := ⟨_, rfl, by decide +kernel⟩

/-- Refutes O46: a copy may name any number as its channel, and the discards of number 768 are counted in the word of BUF_COUNTS that counts
reason 1, so the discard raises that count by two. -/
theorem not_fabricAndBuffers : ¬ Obligations.FabricAndBuffers := by
  rintro ⟨-, discards, -⟩
  obtain ⟨t, ht, -, -, counted, -⟩ := discards 0 false false 0 strayCopy [] strayInFabric (by decide +kernel) (by decide +kernel) rfl rfl
    (by decide +kernel) (by decide +kernel) (by decide +kernel) (by decide +kernel) (fun _ => rfl)
  obtain ⟨u, hu, twice⟩ := strayInFabric_counts_twice
  obtain rfl : t = u := Host.Outcome.next.inj (ht.symm.trans hu)
  rw [twice] at counted
  exact absurd counted (by decide +kernel)

end Sys2Proof.Machine
end

section
/-!
PROOFS. The overflow store (chapter 15): a host that makes the three-stack alarm major.
-/
namespace Sys2Proof.Machine

/-- The store has failed and is retested, the update's confirmation period is clean so far, and ALARM_MAP makes the alarm of three stacks major. -/
def threeStacksMajor : State :=
  { State.reset with
    dict := { State.reset.dict with vals := [(key 0x700B 0, leBytes 2 (alarmCode .ovfThree) ++ [2, 0])] }
    sw := { State.reset.sw with ovf := { State.reset.sw.ovf with st := .failed, retest := true } }
    upd := { State.reset.upd with clean := true } }

theorem leNat_leBytes_two {n : Nat} (h : n < 65536) : leNat (leBytes 2 n) = n := by
  simp [leBytes, leNat]
  omega

/-- The class that ALARM_MAP gives the first code it lists. -/
theorem mapClass_first {n : Nat} (h : n < 65536) (c : BitVec 8) : mapClass n (leBytes 2 n ++ [c, 0]) = c.toNat := by
  have code : leNat [BitVec.ofNat 8 n, BitVec.ofNat 8 (n / 256)] = n := leNat_leBytes_two h
  simp [leBytes, mapClass, code]

/-- A major alarm that comes to stand ends the clean confirmation of an update. -/
theorem clean_raise_major {a : Alarm} {i : Nat} {s : State} (hs : standing a i s = false) (hc : alarmClass a s = 2) :
    (raise a i s).upd.clean = false := by
  simp [raise, hs, hc]

/-- The class of an alarm follows the settings in force. -/
theorem alarmClass_of_dict {s t : State} (hf : t.factory = s.factory) (hd : t.dict = s.dict) (a : Alarm) : alarmClass a t = alarmClass a s := by
  rw [alarmClass, alarmClass, cfgBytes_of_dict hf hd]

theorem threeStacksMajor_class : alarmClass .ovfThree threeStacksMajor = 2 := by
  have low : (Config.alarmLow Alarm.ovfThree.number).toNat < 256 := (Config.alarmLow _).isLt
  have code : alarmCode .ovfThree < 65536 := by
    rw [alarmCode, show Alarm.ovfThree.chapter = 15 from rfl]
    omega
  have map : cfgBytes 0x700B 0 threeStacksMajor = leBytes 2 (alarmCode .ovfThree) ++ [2, 0] := rfl
  rw [alarmClass, map, mapClass_first code]
  rfl

theorem threeStacksMajor_not_clean : ∃ t, exec (.ovfRetestComplete 7) threeStacksMajor = .next t ∧ t.upd.clean = false := by
  refine ⟨_, congrArg Host.Outcome.next (if_pos (by decide)), ?_⟩
  rw [if_pos (by decide), if_neg (by decide), if_neg (by decide +kernel)]
  exact clean_raise_major (by decide +kernel) ((alarmClass_of_dict (by simp) (by simp) _).trans threeStacksMajor_class)

/-- Refutes O47: a retest that leaves three stacks raises their alarm, which a host may have made major (R604), and a major alarm ends the clean
confirmation of an update, a change outside the four parts that the clause names. -/
theorem not_overflowStore : ¬ Obligations.OverflowStore := by
  rintro ⟨-, -, -, -, -, -, -, -, -, -, -, retested, -⟩
  obtain ⟨t, ht, -, -, -, only⟩ := retested 7 threeStacksMajor rfl rfl (by decide)
  obtain ⟨u, hu, unclean⟩ := threeStacksMajor_not_clean
  obtain rfl : t = u := Host.Outcome.next.inj (ht.symm.trans hu)
  have kept : t.upd = threeStacksMajor.upd := only .upd (by decide)
  rw [kept] at unclean
  exact absurd unclean (by decide)

end Sys2Proof.Machine
end

section
/-!
PROOFS. The egress scheduler (chapter 16): the head a strict queue sends, the buckets, and the gate lists.
-/
namespace Sys2Proof.Machine

/-! ## Gates and queues -/

/-- A port without a list in force has no oversize test. -/
theorem gateTrim_open {c : Nat} {s : State} (h : (gate c s).oper = none) : gateTrim c s = s := by simp [gateTrim, h]

/-- The oversize test of empty queues discards nothing. -/
theorem gateTrim_empty {c : Nat} {s : State} (h : ∀ q, dieQ c q s = []) : gateTrim c s = s := by
  have kept : (List.range 16).foldl (fun s q => (dieQ c q s).foldl (fun s _ => gateTrimQ c s q) s) s = s := by
    generalize List.range 16 = l
    induction l with
    | nil => rfl
    | cons q l ih => rw [List.foldl_cons, h q, List.foldl_nil, ih]
  rw [gateTrim, kept, ite_self]

theorem traffic_only (c w n : Nat) (s : State) : OnlyIn [.regs, .obs] s (traffic c w n s) := by
  unfold traffic
  dsimp only
  split <;> simp [onlyIn_iff]

@[simp] theorem traffic_factory (c w n : Nat) (s : State) : (traffic c w n s).factory = s.factory := traffic_only c w n s .factory (by simp)
@[simp] theorem traffic_dict (c w n : Nat) (s : State) : (traffic c w n s).dict = s.dict := traffic_only c w n s .dict (by simp)
@[simp] theorem traffic_egr (c w n : Nat) (s : State) : (traffic c w n s).egr = s.egr := traffic_only c w n s .egr (by simp)
@[simp] theorem traffic_wire (c w n : Nat) (s : State) : (traffic c w n s).wire = s.wire := traffic_only c w n s .wire (by simp)

@[simp] theorem gate_putDie (c d q : Nat) (l : List Copy) (s : State) : gate c (putDie d q l s) = gate c s := rfl
@[simp] theorem dieQ_putDie (c q : Nat) (l : List Copy) (s : State) : dieQ c q (putDie c q l s) = l := by simp [dieQ, putDie]

/-! ## The buckets -/

@[simp] theorem bucket_charge (c n len : Nat) (s : State) :
    bucket c n (charge c n len s) = if (bucket c n s).enabled then { bucket c n s with t := (bucket c n s).t - (len * 1024 : Nat) } else bucket c n s := by
  simp [charge]

theorem bucket_charge_ne {c n m len : Nat} {s : State} (h : c * 64 + m ≠ c * 64 + n) : bucket c m (charge c n len s) = bucket c m s :=
  Tab.get_upd_ne h _ _ _

/-- The refill of one numbered bucket. -/
theorem updBucket_number (n : Nat) (f : Bucket → Bucket) (s : State) :
    (updBucket (n / 64) (n % 64) f s).egr.buckets = Tab.upd Bucket.reset n f s.egr.buckets := by
  simp [updBucket, show n / 64 * 64 + n % 64 = n by omega]

/-- A refill of distinct buckets refills each of them once. -/
theorem refill_each (l : List Nat) (hl : l.Nodup) (s : State) (n : Nat) :
    Tab.get Bucket.reset n (l.foldl (fun s n => updBucket (n / 64) (n % 64) Bucket.refill s) s).egr.buckets =
      if n ∈ l then (Tab.get Bucket.reset n s.egr.buckets).refill else Tab.get Bucket.reset n s.egr.buckets := by
  induction l generalizing s with
  | nil => simp
  | cons m l ih =>
    obtain ⟨fresh, distinct⟩ := List.nodup_cons.mp hl
    rw [List.foldl_cons, ih distinct, updBucket_number]
    by_cases hn : n = m
    · subst hn
      simp [fresh]
    · simp [hn, Tab.get_upd_ne hn]

/-- A table names every key whose value is not the default. -/
theorem mem_keys_of_get_ne {α : Type} {d : α} {n : Nat} {t : Tab α} (h : Tab.get d n t ≠ d) : n ∈ t.map (fun x => x.1) := by
  induction t with
  | nil => exact absurd rfl h
  | cons x t ih =>
    obtain ⟨m, v⟩ := x
    by_cases hm : n = m
    · simp [hm]
    · have later : Tab.get d n t ≠ d := by simpa [Tab.get, Tab.find, hm] using h
      exact List.mem_cons_of_mem _ (ih later)

theorem refill_get {n : Nat} {s : State} (hk : (s.egr.buckets.map (fun x => x.1)).Nodup)
    (hb : Tab.get Bucket.reset n s.egr.buckets ≠ Bucket.reset) :
    Yields .shaperRefill s fun t => Tab.get Bucket.reset n t.egr.buckets = (Tab.get Bucket.reset n s.egr.buckets).refill ∧
      t.egr.gates = s.egr.gates ∧ OnlyIn [.egr] s t := by
  refine ⟨_, rfl, ?_, foldl_keeps (f := fun s n => updBucket (n / 64) (n % 64) Bucket.refill s) (fun s => s.egr.gates) (fun _ _ => rfl) _ s, foldl_only _ _ _ fun u m => by simp [onlyIn_iff]⟩
  rw [refill_each _ hk, if_pos (mem_keys_of_get_ne hb)]

/-! ## The choice of a strict queue -/

/-- The head of queue 15, where it may go and its bucket passes, is the choice of the port. -/
theorem choose_first {c t : Nat} {k : Copy} {rest : List Copy} {s : State} (hq : dieQ c 15 s = k :: rest)
    (he : eligible c 15 t (outLen k s) s = true) (hb : (bucket c 15 s).passes = true) : choose c t s = (some (15, false), s) := by
  have head : (heads c t s)[15]? = some (some (outLen k s)) := by simp [heads, hq, he]
  simp [choose, List.filter_cons, head, hb]

/-- Where no head is eligible a port chooses no queue. -/
theorem choose_none {c t : Nat} {s : State} (h : ∀ q, q < 16 → dieQ c q s = [] ∨ s.power.level = 4 ∨ (cod c s).stage ≠ 6) :
    choose c t s = (none, s) := by
  have idle : heads c t s = List.replicate 16 none := by
    refine List.eq_replicate_iff.mpr ⟨by simp [heads], fun x hx => ?_⟩
    simp only [heads, List.mem_map, List.mem_range] at hx
    obtain ⟨q, hq, rfl⟩ := hx
    rcases h q hq with empty | level | down
    · rw [empty]
    · split
      · rfl
      · simp [eligible, level]
    · split
      · rfl
      · simp [eligible, down]
  simp [choose, idle]

/-- A frame that no transparent clock corrects, no policy protects and no session mirrors leaves as it is and is counted. -/
theorem sendFrame_does {c q t : Nat} {k : Copy} {f : List Byte} {st : Int} {s : State} (hm : macPolicy c s = 0) (ht : transitAt f s = none)
    (hs : ∀ n, n < 16 → mirrorFlag n 2 s = false) :
    Emitted [⟨.frame, c, (q : Int) :: f.map (fun b => (b.toNat : Int))⟩] s (sendFrame c q t k f st s) ∧
    (sendFrame c q t k f st s).egr = (sending c q t (f.length + 4) s).egr ∧
    OnlyIn [.regs, .obs, .egr, .wire] s (sendFrame c q t k f st s) := by
  have plain : transit c k f st (sending c q t (f.length + 4) s) = (f, sending c q t (f.length + 4) s) := by
    have none_there : transitAt f (sending c q t (f.length + 4) s) = none := ht
    unfold transit
    rw [none_there]
    cases k.way <;> rfl
  have unmirrored : ∀ u : State, u.factory = s.factory → u.dict = s.dict → egressMirror c k f u = u := by
    intro u hf hd
    have quiet : (List.range 16).filter (fun n => mirrorFlag n 2 u && mirrorSource n c u) = [] := by
      refine List.filter_eq_nil_iff.mpr fun n hn => ?_
      have same : mirrorFlag n 2 u = mirrorFlag n 2 s := by simp [mirrorFlag, mirrorCfg, cfgBytes_of_dict hf hd]
      simp [same, hs n (List.mem_range.mp hn)]
    unfold egressMirror
    split
    · rw [quiet]; rfl
    · rfl
  have unprotected : nextPn c (sending c q t (f.length + 4) s) = sending c q t (f.length + 4) s := by
    have policy : macPolicy c (sending c q t (f.length + 4) s) = 0 := hm
    simp [nextPn, secured, policy]
  generalize hu : emit .frame c ((q : Int) :: f.map (fun b => (b.toNat : Int))) (sending c q t (f.length + 4) s) = u
  have sent : sendFrame c q t k f st s = tally 4 c q (f.length + 4) (tally 3 c q 1 (traffic c 3 (f.length + 4) (traffic c 2 1
      (countW 0x430C (c + 1) 0 1 u)))) := by
    unfold sendFrame
    dsimp only
    rw [plain, if_neg (by simp [hm]), unprotected, hu, unmirrored _ (by simp [← hu, sending]) (by simp [← hu, sending])]
  have only : OnlyIn [.egr, .wire] s u := by simp [← hu, sending, onlyIn_iff]
  have counted : OnlyIn [.regs, .obs] u (sendFrame c q t k f st s) := by
    rw [sent]
    generalize hv : countW 0x430C (c + 1) 0 1 u = v
    have first : OnlyIn [.regs, .obs] u v := by simp [← hv, onlyIn_iff]
    exact first.trans ((traffic_only c 2 1 v).trans ((traffic_only c 3 (f.length + 4) (traffic c 2 1 v)).trans (by simp [onlyIn_iff])))
  refine ⟨?_, ?_, (only.mono (by simp)).trans (counted.mono (by simp))⟩
  · rw [Emitted, counted .wire (by simp), ← hu]
    rfl
  · rw [counted .egr (by simp), ← hu]
    rfl

/-- A frame of queue 15 is charged to the port's bucket and to both of its queue's. -/
theorem bucket_chargeAll {c len : Nat} {s : State} (he : (bucket c 15 s).enabled = true) :
    (bucket c 15 (chargeAll c 15 len false s)).t = (bucket c 15 s).t - (len * 1024 : Nat) := by
  have before : bucket c 15 (charge c 31 len (charge c 32 len s)) = bucket c 15 s := by
    rw [bucket_charge_ne (by omega), bucket_charge_ne (by omega)]
  have all : chargeAll c 15 len false s = charge c 15 len (charge c 31 len (charge c 32 len s)) := rfl
  rw [all, bucket_charge, before, if_pos he]

theorem chargeAll_only (c q len : Nat) (b : Bool) (s : State) : OnlyIn [.egr] s (chargeAll c q len b s) := by
  unfold chargeAll
  dsimp only
  (repeat' split) <;> simp [charge, onlyIn_iff]

theorem gate_chargeAll (c q len : Nat) (b : Bool) (s : State) : gate c (chargeAll c q len b s) = gate c s := by
  unfold chargeAll
  dsimp only
  (repeat' split) <;> rfl

/-! ## Forgiving -/

/-- The buckets of queue q of a port that a forgive names are marked. -/
def markQueue (c : Nat) (v : BitVec 32) (s : State) (q : Nat) : State :=
  let mark (n : Nat) (s : State) : State := updBucket c n (fun b => { b with forgive := true }) s
  if v.getLsbD q then (if q < 12 then mark q s else mark (16 + q) (mark q s)) else s

theorem forgive_eq (v : BitVec 32) (s : State) (c : Nat) : forgive v s c =
    if v.getLsbD 16 then updBucket c 32 (fun b => { b with forgive := true }) ((List.range 16).foldl (markQueue c v) s)
    else (List.range 16).foldl (markQueue c v) s := rfl

/-- A mark keeps the tokens of every bucket of its port. -/
theorem tokens_mark (c m n : Nat) (s : State) : (bucket c n (updBucket c m (fun b => { b with forgive := true }) s)).t = (bucket c n s).t := by
  by_cases h : n = m
  · subst h; simp
  · rw [bucket, updBucket, Tab.get_upd_ne (by omega)]
    rfl

theorem forgive_mark (c m n : Nat) (s : State) (h : n = m ∨ (bucket c n s).forgive = true) :
    (bucket c n (updBucket c m (fun b => { b with forgive := true }) s)).forgive = true := by
  by_cases hn : n = m
  · subst hn; simp
  · rw [bucket, updBucket, Tab.get_upd_ne (by omega)]
    exact h.resolve_left hn

theorem tokens_markQueue (c n q : Nat) (v : BitVec 32) (s : State) : (bucket c n (markQueue c v s q)).t = (bucket c n s).t := by
  unfold markQueue
  dsimp only
  (repeat' split) <;> simp only [tokens_mark]

theorem tokens_forgive (c n : Nat) (v : BitVec 32) (s : State) : (bucket c n (forgive v s c)).t = (bucket c n s).t := by
  have queues := foldl_keeps (f := markQueue c v) (fun s => (bucket c n s).t) (fun u q => tokens_markQueue c n q v u) (List.range 16) s
  rw [forgive_eq]
  split
  · rw [tokens_mark, queues]
  · exact queues

theorem forgive_markQueue (c n q : Nat) (v : BitVec 32) (s : State) (h : (n = q ∧ v.getLsbD n = true) ∨ (bucket c n s).forgive = true) :
    (bucket c n (markQueue c v s q)).forgive = true := by
  unfold markQueue
  dsimp only
  rcases h with ⟨rfl, hv⟩ | h
  · rw [if_pos hv]
    split
    · exact forgive_mark _ _ _ _ (.inl rfl)
    · exact forgive_mark _ _ _ _ (.inr (forgive_mark _ _ _ _ (.inl rfl)))
  · (repeat' split)
    · exact forgive_mark _ _ _ _ (.inr h)
    · exact forgive_mark _ _ _ _ (.inr (forgive_mark _ _ _ _ (.inr h)))
    · exact h

theorem forgive_markQueues (c n : Nat) (v : BitVec 32) (hv : v.getLsbD n = true) (l : List Nat) (s : State)
    (h : n ∈ l ∨ (bucket c n s).forgive = true) : (bucket c n (l.foldl (markQueue c v) s)).forgive = true := by
  induction l generalizing s with
  | nil => exact h.resolve_left (by simp)
  | cons q l ih =>
    rw [List.foldl_cons]
    refine ih _ ?_
    rcases h with hn | marked
    · rcases List.mem_cons.mp hn with rfl | later
      · exact .inr (forgive_markQueue _ _ _ _ _ (.inl ⟨rfl, hv⟩))
      · exact .inl later
    · exact .inr (forgive_markQueue _ _ _ _ _ (.inr marked))

theorem forgive_only (v : BitVec 32) (c : Nat) (s : State) : OnlyIn [.egr] s (forgive v s c) := by
  have queues : OnlyIn [.egr] s ((List.range 16).foldl (markQueue c v) s) := foldl_only _ _ _ fun u q => by
    unfold markQueue
    dsimp only
    (repeat' split) <;> simp [onlyIn_iff]
  rw [forgive_eq]
  split
  · exact queues.trans (by simp [onlyIn_iff])
  · exact queues

/-- A forgive marks the buckets it names. -/
theorem forgive_marks {c n : Nat} {v : BitVec 32} (hn : n < 16) (hv : v.getLsbD n = true) (s : State) :
    (bucket c n (forgive v s c)).forgive = true := by
  have queues := forgive_markQueues c n v hv (List.range 16) s (.inl (List.mem_range.mpr hn))
  rw [forgive_eq]
  split
  · exact forgive_mark _ _ _ _ (.inr queues)
  · exact queues

theorem forgive_marks_port {c : Nat} {v : BitVec 32} (hv : v.getLsbD 16 = true) (s : State) : (bucket c 32 (forgive v s c)).forgive = true := by
  rw [forgive_eq, if_pos hv]
  exact forgive_mark _ _ _ _ (.inl rfl)

/-- Settles O48, clause by clause. -/
theorem egressAndGates : Obligations.EgressAndGates := by
  refine ⟨fun c off st k rest f s hg hq he hb hr hm ht hs => ?send, fun c off st s hg h => ?nothing, fun n b s hk hb he hf hn hN => ?refill,
    fun n b s hk hb he hN hf => ?forgiven, fun q c n v s ha hv => ?forgive, fun q v s ha => ?noPort, fun c l s hl hc => ?entry,
    fun c s h => ⟨s, by simp [exec, execGateEntryChange, h], rfl⟩, fun c p rest s hp ht hst hc hq => ?start, fun c p rest s hp ht => ?early⟩
  case send =>
    generalize hw : putDie c 15 rest (chargeAll c 15 (f.length + 4) false s) = w
    generalize hu : sendFrame c 15 ((domOf (gateDom c s) s).counter.lsb + off) k f st w = u
    have charged : OnlyIn [.egr] s (chargeAll c 15 (f.length + 4) false s) := chargeAll_only c 15 _ false s
    have left : OnlyIn [.sw, .egr] s w := (charged.mono (by simp)).trans (by simp [← hw, onlyIn_iff])
    have gates : gate c w = gate c s := by rw [← hw, gate_putDie, gate_chargeAll]
    have settings : w.factory = s.factory ∧ w.dict = s.dict := ⟨left .factory (by simp), left .dict (by simp)⟩
    have policy : macPolicy c w = 0 := (cfg_of_dict settings.1 settings.2 _ _).trans hm
    have uncorrected : transitAt f w = none := by simpa [transitAt, cfg_of_dict settings.1 settings.2] using ht
    have unmirrored : ∀ n, n < 16 → mirrorFlag n 2 w = false := fun n hn => by
      simpa [mirrorFlag, mirrorCfg, cfgBytes_of_dict settings.1 settings.2] using hs n hn
    obtain ⟨sent, egress, only⟩ := sendFrame_does (c := c) (q := 15) (t := (domOf (gateDom c s) s).counter.lsb + off) (k := k) (st := st) policy uncorrected unmirrored
    rw [hu] at sent egress only
    have shut : (gate c u).oper = none := by
      rw [gate, egress]
      exact (congrArg Gate.oper gates).trans hg
    have step : exec (.egressSelect c off st) s = .next u := by
      simp [exec, execEgressSelect, egressSelect, gateTrim_open hg, choose_first hq he hb, hq, hr, hm, hw, hu, gateTrim_open shut]
    have switch : u.sw = w.sw := only .sw (by simp)
    have kept : (chargeAll c 15 (f.length + 4) false s).sw = s.sw := charged .sw (by simp)
    refine ⟨u, step, ?_, sent.of_wire (left .wire (by simp)), fun enabled => ?_, ?_, ?_, (left.mono (by simp)).trans (only.mono (by simp))⟩
    · rw [dieQ, switch, ← hw]
      exact dieQ_putDie ..
    · rw [bucket, egress, ← bucket_chargeAll enabled, ← hw]
      rfl
    · rw [switch, ← hw]
      exact (congrArg Switch.fab kept :)
    · rw [switch, ← hw]
      exact (congrArg Switch.ovf kept :)
  case nothing =>
    refine ⟨s, ?_, rfl⟩
    simp [exec, execEgressSelect, egressSelect, gateTrim_open hg, choose_none h]
  case refill =>
    obtain ⟨t, ht, refilled, gates, only⟩ := refill_get (n := n) hk (by rw [hb]; rintro rfl; exact absurd he (by decide))
    refine ⟨t, ht, ?_, gates, only⟩
    simp [refilled, hb, Bucket.refill, hf, hn, hN, he]
  case forgiven =>
    obtain ⟨t, ht, refilled, -, -⟩ := refill_get (n := n) hk (by rw [hb]; rintro rfl; exact absurd hf (by decide))
    refine ⟨t, ht, ?_⟩
    dsimp only
    rw [refilled, hb]
    cases hn : b.next <;> simp [Bucket.refill, hf, hn, hN, he]
  case forgive =>
    have member : members (BitVec.ofNat 8 (c + 1)).toNat s = [c.val] := by
      have small : (BitVec.ofNat 8 (c + 1)).toNat = c + 1 := by simp; omega
      rw [small, members, if_pos (by omega)]
      rfl
    have done : exec (.shaperForgive q (BitVec.ofNat 8 (c + 1)) v) s = .next (answer q 0 [] (count 0x430D 5 (forgive v s c))) :=
      exec_request (c := .shaperForgive q (BitVec.ofNat 8 (c + 1)) v) rfl ha fun _ _ => by
        rw [shaperForgive, member]
        rfl
    have marked := forgive_only v c s
    have answers : (count 0x430D 5 (forgive v s c)).gleno.answers = s.gleno.answers := by
      have gleno : (forgive v s c).gleno = s.gleno := marked .gleno (by simp)
      simp [gleno]
    have counted : countOf 0x430D 5 (answer q 0 [] (count 0x430D 5 (forgive v s c))) = countOf 0x430D 5 s + 1 := by
      rw [countOf_of_obs (onlyIn_answer q 0 [] _ (by decide) .obs (by simp)), countOf_count_of_obs (marked .obs (by simp)) _ _ (by decide)]
    have egress : ∀ n, bucket c n (answer q 0 [] (count 0x430D 5 (forgive v s c))) = bucket c n (forgive v s c) := fun n => by simp [bucket]
    refine ⟨_, done, ?_, ?_, fun hp => ?_, ?_, answered_answer _ _ _ _ _ answers, ?_⟩
    · rw [egress]
      exact forgive_marks (by omega) hv s
    · rw [egress, tokens_forgive]
    · rw [egress]
      exact forgive_marks_port hp s
    · exact counted
    · refine (marked.mono (by simp)).trans (OnlyIn.trans (t := count 0x430D 5 (forgive v s c)) (by simp [onlyIn_iff]) ?_)
      exact (onlyIn_answer q 0 [] _ (by decide)).mono (by simp)
  case noPort =>
    exact refused (exec_request (c := .shaperForgive q 0 v) rfl ha fun _ _ => rfl)
  case entry =>
    refine ⟨_, congrArg Host.Outcome.next (if_pos (by simp [hl])), ?_, ?_, ?_, rfl, by simp [onlyIn_iff]⟩
    · simp [gateNow, hl, hc]
    · simp [gateNow, hl, hc]
    · simp [gateNow, hl, hc]
  case start =>
    generalize hu : gateNow c (countW 0x430C (c + 1) 3 1 (updGate c (fun g => { g with
      oper := some p.list, pend := rest, restepped := false, overrun := false }) s)) = u
    have empty : ∀ q, dieQ c q u = [] := fun q => by simpa [← hu, dieQ] using hq q
    have step : exec (.gateListStart c) s = .next u := by
      simp [exec, execGateListStart, gateReach, hp, ht, hst, gateTake, hu, gateTrim_empty empty]
    have gate_countW : ∀ a b d e v, gate c (countW a b d e v) = gate c v := fun a b d e v => by simp [gate]
    have state : gate c u = { gate c s with
        oper := some p.list, pend := rest, restepped := false, overrun := false,
        entry := (p.list.entryAt (domOf (gateDom c s) s).counter.lsb).1, gates := (p.list.entryAt (domOf (gateDom c s) s).counter.lsb).2 } := by
      generalize hv : updGate c (fun g => { g with oper := some p.list, pend := rest, restepped := false, overrun := false }) s = v at hu
      have settings : cfgB 0x4303 (c + 1) (countW 0x430C (c + 1) 3 1 v) = true :=
        (cfgB_of_dict (s := s) (by simp [← hv]) (by simp [← hv]) _ _).trans hc
      have domain : gateDom c (countW 0x430C (c + 1) 3 1 v) = gateDom c s := by
        rw [gateDom, gateDom, cfg_of_dict (s := s) (by simp [← hv]) (by simp [← hv])]
      have clock : ∀ d, domOf d (countW 0x430C (c + 1) 3 1 v) = domOf d s := fun d => by simp [domOf, ← hv]
      simp only [← hu, gateNow, gate_updGate, gate_countW, settings, domain, clock]
      simp [← hv]
    refine ⟨u, step, ?_⟩
    dsimp only
    rw [state]
    exact ⟨rfl, rfl, rfl, rfl, rfl, by simp [← hu, onlyIn_iff]⟩
  case early =>
    refine ⟨s, ?_, rfl⟩
    simp [exec, execGateListStart, gateReach, hp, Nat.not_le.mpr ht]

end Sys2Proof.Machine
end

section
/-!
PROOFS. The Gleno cycle (chapter 6): what the training and the loss of a port leave, the cycle-starts heard and sent, joining and presence.
-/
namespace Sys2Proof.Machine

/-! ## The ports -/

theorem gport_setPort (p : Nat) (x : GPort) (s : State) : gport p (setPort p x s) = x := by
  unfold setPort gport
  by_cases h : p = 0 <;> simp [h]

theorem gport_setPort_other (p : Fin 2) (x : GPort) (s : State) : gport (1 - p.val) (setPort p x s) = gport (1 - p.val) s := by
  unfold setPort gport
  obtain rfl | rfl : p = 0 ∨ p = 1 := by omega
  · simp
  · simp

theorem gport_of_gleno {s t : State} (h : t.gleno = s.gleno) (p : Nat) : gport p t = gport p s := by simp [gport, h]

theorem unitsOf_setPort (p : Nat) (x : GPort) (s : State) : unitsOf cGleno p (setPort p x s) = if x == .trained then 2 else 0 := by
  unfold setPort
  simp

theorem state_setPort (p : Nat) (x : GPort) (s : State) : (setPort p x s).gleno.state = s.gleno.state := by
  unfold setPort
  by_cases h : p = 0 <;> simp [h]

theorem setPort_only (p : Nat) (x : GPort) (s : State) : OnlyIn [.power, .gleno] s (setPort p x s) := by simp [setPort, onlyIn_iff]

theorem oneDown_only (s : State) : OnlyIn [.pins, .regs, .obs, .upd] s (oneDown s) := by
  unfold oneDown
  split <;> simp [onlyIn_iff]

theorem oneDown_stands (s : State) : standing .onePortDown noInst (oneDown s) = true := by
  unfold oneDown
  split
  · assumption
  · exact standing_raise ..

theorem standing_oneDown {b : Alarm} (h : Alarm.onePortDown ≠ b) (j : Nat) (s : State) : standing b j (oneDown s) = standing b j s := by
  unfold oneDown
  split
  · rfl
  · exact standing_raise_ne h ..

theorem glenoGo_only (s : State) : OnlyIn [.gleno] s (glenoGo s) := by
  unfold glenoGo
  split <;> simp [onlyIn_iff]

/-- The network starts without a change of its ports. -/
theorem gport_glenoGo (p : Nat) (s : State) : gport p (glenoGo s) = gport p s := by
  unfold glenoGo
  split <;> simp [gport]

theorem glenoGo_listens {s : State} (h1 : s.gleno.state = .off) (h2 : s.life.nymyx = true) (h3 : s.life.latched = true)
    (h4 : portTrained s = true) : (glenoGo s).gleno.state = .listen := by
  simp [glenoGo, h1, h2, h3, h4]

/-- What the training of a port does to its alarms: one of both ports ends, the other end as the other port gives. -/
def portAlarms (p : Fin 2) (s1 : State) : State :=
  if gport (1 - p.val) s1 == .trained then endAlarm .onePortDown noInst s1 else if gport (1 - p.val) s1 = .down then oneDown s1 else s1

theorem portAlarms_only (p : Fin 2) (s : State) : OnlyIn [.pins, .regs, .obs, .upd] s (portAlarms p s) := by
  unfold portAlarms
  split
  · simp [onlyIn_iff]
  · split
    · exact oneDown_only s
    · exact .refl _ s

theorem standing_portAlarms (p : Fin 2) (s : State) : standing .bothPortsDown noInst (portAlarms p s) = standing .bothPortsDown noInst s := by
  unfold portAlarms
  split
  · exact standing_endAlarm_ne (by decide) ..
  · split
    · exact standing_oneDown (by decide) ..
    · rfl

/-- Stage 2 of a start is reached where both ports have trained, or one has waited alone (R64). -/
def stageTwo (go : Bool) (s2 : State) : State := if go = true ∧ starting s2 ∧ s2.life.stage = 1 then reachStage 2 s2 else s2

theorem stageTwo_only (go : Bool) (s : State) : OnlyIn [.life] s (stageTwo go s) := by
  unfold stageTwo
  split <;> simp [onlyIn_iff]

/-- A port that completes its training. -/
theorem exec_krTrainingComplete {p : Fin 2} {alone : Bool} {s : State} (hp : gport p s = .training) (hl : s.life.state ≠ .strapFault) :
    ∃ go, (gport (1 - p.val) s = .trained → go = true) ∧ exec (.krTrainingComplete p alone) s = .next
      (glenoGo (stageTwo go (portAlarms p (endAlarm .bothPortsDown noInst (setPort p .trained s))))) := by
  generalize hu : endAlarm .bothPortsDown noInst (setPort p .trained s) = u
  have other : gport (1 - p.val) u = gport (1 - p.val) s := by
    rw [← hu, gport_of_gleno (s := setPort p .trained s) (by simp), gport_setPort_other]
  refine ⟨gport (1 - p.val) u == .trained || alone, fun h => by simp [other, h], ?_⟩
  simp [exec, execKrTrainingComplete, hp, hl, hu, portAlarms, stageTwo]

/-- One emission for each port of a list, whose fields nothing emitted changes. -/
theorem foldl_emit (k : EmitKind) (f : State → Nat → List Int) (hf : ∀ u p e q, f (emit k p e u) q = f u q) (l : List Nat) (s : State) :
    Emitted (l.map fun p => ⟨k, p, f s p⟩) s (l.foldl (fun s p => emit k p (f s p) s) s) ∧
    OnlyIn [.wire] s (l.foldl (fun s p => emit k p (f s p) s) s) := by
  refine ⟨?_, foldl_only _ _ _ fun u p => by simp [onlyIn_iff]⟩
  induction l generalizing s with
  | nil => simp [Emitted]
  | cons p l ih =>
    have rest := ih (emit k p (f s p) s)
    simp only [Emitted, hf] at rest
    rw [List.foldl_cons, Emitted, rest]
    simp [emit]

/-- A master's turn of the cycle: what it announces. -/
def announced (s : State) : Gleno :=
  { nextCycle s.gleno with
    cycle := if s.gleno.followed then s.gleno.cycle + 1 else 0, followed := true
    presence := s.gleno.heardNow ||| s.gleno.heardPrev ||| s.gleno.heardPrev2, joinSeen := 0
    mark0 := s.gleno.m0 == .trained, mark1 := s.gleno.m1 == .trained }

/-- A cycle opens under a master: what its cycle-start leaves. -/
def cycleOpened (h : GHead) (b : CycleBody) (s : State) : State :=
  updGleno (fun g => { nextCycle g with
    mark0 := h.port == 0, mark1 := h.port == 1, master := some h.source.toNat, cycleTime := b.time, cycle := h.cycle, followed := true
    slots := b.slots.toNat, presence := b.presence }) s

/-- The first valid cycle-start that a listening module hears opens its cycle. -/
theorem exec_cycleStart_listening {h : GHead} {b : CycleBody} {s : State} (hr : readsFrame h s = true) (hk : h.kind = 1)
    (hs : h.source.toNat ≤ 31) (hv : cycleValid b = true) (hl : s.gleno.state = .listen) (hm : s.gleno.master = none) :
    exec (.cycleStartReceived h b) s = .next (joinStep b false (cycleOpened h b s)) := by
  have follow : follows h.source.toNat s = true := by simp [follows, hl]
  simp [exec, execCycleStartReceived, hr, hk, Nat.not_lt.mpr hs, hv, follow, sameCycle, hl, openCycle, hm, cycleOpened]

/-- A module of no pair that is not starting joins at once. -/
theorem joinedNow_alone {s : State} (hp : paired s = false) (hc : cfgB 0x4400 0 s = false) (hs : starting s = false) :
    joinedNow s = endAlarm .joinUnacked noInst s := by
  have lone : paired (endAlarm .joinUnacked noInst s) = false := by simpa [paired] using hp
  have stands : starting (endAlarm .joinUnacked noInst s) = false := by simpa [starting] using hs
  have setting : cfgB 0x4400 0 (endAlarm .joinUnacked noInst s) = false := (cfgB_of_dict (by simp) (by simp) _ _).trans hc
  simp [joinedNow, stands, lone, setting]

/-- Settles O49, clause by clause. -/
theorem glenoCycle : Obligations.GlenoCycle := by
  refine ⟨fun p alone s hp hl => ?trained, fun p alone s hp => ⟨s, by simp [exec, execKrTrainingComplete, hp], rfl⟩, fun p s hp hr hl => ?retry,
    fun p s hp => ?down, fun s hp hn hs => ?both, fun s hp => ⟨s, by simp [exec, execGlenoBothDown, hp], rfl⟩,
    fun h b s hr => ⟨s, by simp [exec, execCycleStartReceived, hr], rfl⟩, fun h b s hr hk hs hv => ?invalid, fun h b s hr hk hs hv hl hm ha => ?first,
    fun h b s hr hk hs hv hl hm ha => ?noSlot, fun s hl hm hp hc hr => ?holdoff,
    fun s h => ⟨s, by rcases h with h | h | h <;> simp [exec, execMasterHoldoffExpiry, h], rfl⟩, fun s hm => ?transmit,
    fun s hm => ⟨s, by simp [exec, execCycleStartTransmit, hm], rfl⟩, fun s hj hn hh => ⟨_, congrArg Host.Outcome.next (if_pos (by simp [hj, hn, hh])), rfl⟩,
    fun s h => ⟨s, congrArg Host.Outcome.next (if_neg (by rintro ⟨hj, -, hh⟩; rcases h with h | h; exact h hj; omega)), rfl⟩, fun s hj hn hc hs => ?unacked,
    fun s hc => ⟨s, congrArg Host.Outcome.next (if_neg (by rintro ⟨-, -, h, -⟩; omega)), rfl⟩,
    fun s hj ha => ⟨_, congrArg Host.Outcome.next (if_pos (by simp [hj, ha])), by simp [toJoining], by simp [toJoining], by simp [toJoining, onlyIn_iff]⟩,
    fun s ha => ⟨s, congrArg Host.Outcome.next (if_neg (by rintro ⟨-, h⟩; omega)), rfl⟩, fun a s hm hl ha hu hmate => ?lost,
    fun a s hu => ⟨s, by simp [exec, execNodeLost, hu], rfl⟩⟩
  case trained =>
    obtain ⟨go, hgo, step⟩ := exec_krTrainingComplete (alone := alone) hp hl
    generalize hu : endAlarm .bothPortsDown noInst (setPort p .trained s) = u at step
    generalize hv : stageTwo go (portAlarms p u) = v at step
    have first : OnlyIn [.pins, .power, .regs, .gleno, .obs] s u := by
      rw [← hu]
      exact ((setPort_only p .trained s).mono (by simp)).trans (by simp [onlyIn_iff])
    have alarms : OnlyIn [.pins, .regs, .obs, .upd] u (portAlarms p u) := portAlarms_only p u
    have stage : OnlyIn [.life] (portAlarms p u) v := hv ▸ stageTwo_only go _
    have second : OnlyIn [.pins, .life, .regs, .obs, .upd] u v := (alarms.mono (by simp)).trans (stage.mono (by simp))
    have third : OnlyIn [.gleno] v (glenoGo v) := glenoGo_only v
    have gleno : v.gleno = (setPort p .trained s).gleno := by
      rw [show v.gleno = u.gleno from second .gleno (by simp), ← hu]
      simp
    have power : (glenoGo v).power = (setPort p .trained s).power := by
      rw [show (glenoGo v).power = v.power from third .power (by simp), show v.power = u.power from second .power (by simp), ← hu]
      simp
    have life : (portAlarms p u).life = s.life :=
      (show (portAlarms p u).life = u.life from alarms .life (by simp)).trans (first .life (by simp))
    refine ⟨_, step, ?_, ?_, ?_, ?_, fun hoff hny hla => ?_, fun hother hst h1 => ?_, ?_⟩
    · rw [gport_glenoGo, gport_of_gleno gleno, gport_setPort]
    · rw [gport_glenoGo, gport_of_gleno gleno, gport_setPort_other]
    · rw [unitsOf, power]
      exact unitsOf_setPort p .trained s
    · rw [Stands, standing_of_obs (third .obs (by simp)), standing_of_obs (stage .obs (by simp)), standing_portAlarms, ← hu, standing_endAlarm]
      simp
    · have kept : v.life.nymyx = s.life.nymyx ∧ v.life.latched = s.life.latched := by
        rw [← hv, stageTwo]
        split <;> simp [life, reachStage]
      refine glenoGo_listens ?_ (kept.1.trans hny) (kept.2.trans hla) ?_
      · rw [gleno, state_setPort, hoff]
      · have trained : gport p v = .trained := by rw [gport_of_gleno gleno, gport_setPort]
        simp only [portTrained, Bool.or_eq_true, beq_iff_eq]
        unfold gport at trained
        split at trained
        · exact .inl trained
        · exact .inr trained
    · have reached : v.life.stage = 2 := by
        have starts : starting (portAlarms p u) = true := by rw [starting, life]; exact hst
        rw [← hv, stageTwo, if_pos ⟨hgo hother, starts, by rw [life]; exact h1⟩]
        simp [reachStage, life, h1]
      rw [show (glenoGo v).life = v.life from third .life (by simp), reached]
    · exact (first.mono (by simp)).trans ((second.mono (by simp)).trans (third.mono (by simp)))
  case retry =>
    have step : exec (.krTrainingRetry p) s = .next (if gport (1 - p.val) (setPort p .training s) = .trained then oneDown (setPort p .training s)
        else setPort p .training s) := congrArg Host.Outcome.next (if_neg (by simp [hp, hr, hl]))
    have ports := setPort_only p .training s
    rw [gport_setPort_other] at step
    refine ⟨_, step, ?_, fun h => ?_, ?_⟩
    · split
      · rw [gport_of_gleno (oneDown_only _ .gleno (by simp)), gport_setPort]
      · exact gport_setPort ..
    · rw [if_pos h]
      exact oneDown_stands _
    · split
      · exact (ports.mono (by simp)).trans ((oneDown_only _).mono (by simp))
      · exact ports.mono (by simp)
  case down =>
    have step : exec (.krLinkDown p) s = .next (if gport (1 - p.val) (setPort p .training s) = .trained then oneDown (setPort p .training s)
        else endAlarm .onePortDown noInst (setPort p .training s)) := congrArg Host.Outcome.next (if_neg (by simp [hp]))
    have ports := setPort_only p .training s
    rw [gport_setPort_other] at step
    refine ⟨_, step, ?_⟩
    by_cases h : gport (1 - p.val) s = .trained
    · have alarm := oneDown_only (setPort p .training s)
      rw [if_pos h]
      refine ⟨?_, ?_, ?_, (ports.mono (by simp)).trans (alarm.mono (by simp))⟩
      · rw [gport_of_gleno (alarm .gleno (by simp)), gport_setPort]
      · rw [unitsOf, show (oneDown (setPort p .training s)).power = _ from alarm .power (by simp)]
        exact unitsOf_setPort p .training s
      · simp [Stands, oneDown_stands, h]
    · have alarm : OnlyIn [.pins, .regs, .obs] (setPort p .training s) (endAlarm .onePortDown noInst (setPort p .training s)) := by simp [onlyIn_iff]
      rw [if_neg h]
      refine ⟨?_, ?_, ?_, (ports.mono (by simp)).trans (alarm.mono (by simp))⟩
      · rw [gport_of_gleno (alarm .gleno (by simp)), gport_setPort]
      · rw [unitsOf, show (endAlarm .onePortDown noInst (setPort p .training s)).power = _ from alarm .power (by simp)]
        exact unitsOf_setPort p .training s
      · simp [Stands, standing_endAlarm, h]
  case both =>
    exact ⟨_, congrArg Host.Outcome.next (if_neg (by simp [hp, hn, hs])), standing_raise .bothPortsDown _ _, by simp [onlyIn_iff]⟩
  case invalid =>
    have step : exec (.cycleStartReceived h b) s = .next (count 0x120A 6 s) := by
      simp [exec, execCycleStartReceived, hr, hk, Nat.not_lt.mpr hs, hv]
    exact ⟨_, step, countOf_count _ _ _ (by decide), by simp [onlyIn_iff]⟩
  case first =>
    have seat : ¬ b.slots.toNat ≤ address (cycleOpened h b s) := by simpa [cycleOpened, address] using ha
    have listening : (cycleOpened h b s).gleno.state = .listen := by simp [cycleOpened, nextCycle, hl]
    have joins : joinStep b false (cycleOpened h b s) = toJoining false (cycleOpened h b s) := by simp only [joinStep, if_neg seat, listening]
    refine ⟨_, (exec_cycleStart_listening hr hk hs hv hl hm).trans (congrArg Host.Outcome.next joins), ?_⟩
    simp [toJoining, cycleOpened, onlyIn_iff]
  case noSlot =>
    have seat : b.slots.toNat ≤ address (cycleOpened h b s) := by simpa [cycleOpened, address] using ha
    have listening : (cycleOpened h b s).gleno.state ≠ .noSlot := by simp [cycleOpened, nextCycle, hl]
    have refuses : joinStep b false (cycleOpened h b s) = toNoSlot (cycleOpened h b s) := by simp only [joinStep, if_pos seat, if_neg listening]
    refine ⟨_, (exec_cycleStart_listening hr hk hs hv hl hm).trans (congrArg Host.Outcome.next refuses), ?_⟩
    unfold toNoSlot
    dsimp only
    split
    next stood => exact ⟨by simp, stood, by simp [cycleOpened, onlyIn_iff]⟩
    next => exact ⟨by simp, standing_raise .noSlot _ _, by simp [cycleOpened, onlyIn_iff]⟩
  case holdoff =>
    generalize hu : updGleno (fun g => { g with
        state := .master, join := false, absentRun := 0, master := some (address s), mark0 := false, mark1 := false
        cycleTime := BitVec.ofNat 16 (max g.masterTime 200), slots := 32, joinSeen := 0 }) s = u
    have alone : joinedNow u = endAlarm .joinUnacked noInst u := by
      refine joinedNow_alone ?_ ?_ ?_
      · simpa [← hu, paired] using hp
      · exact (cfgB_of_dict (s := s) (by simp [← hu]) (by simp [← hu]) _ _).trans hc
      · simp [← hu, starting, hr]
    have step : exec .masterHoldoffExpiry s = .next (endAlarm .joinUnacked noInst u) := by
      rw [← alone, ← hu]
      refine congrArg Host.Outcome.next ((if_pos (.inl hl)).trans ?_)
      simp only [hm, Option.isSome_none, Bool.false_eq_true, if_false]
    refine ⟨_, step, ?_⟩
    simp [← hu, onlyIn_iff]
  case transmit =>
    have step : exec .cycleStartTransmit s = .next ((trainedPorts s).foldl (fun u p => emit .cycleStart p [s.gleno.etherType, glenoMax u, address u,
        ((if s.gleno.followed then s.gleno.cycle + 1 else 0 : BitVec 32).toNat : Int), s.gleno.cycleTime.toNat, 32, glenoMin u,
        (s.gleno.heardNow ||| s.gleno.heardPrev ||| s.gleno.heardPrev2).toNat, s.gleno.joinSeen.toNat] u) (updGleno (fun _ => announced s) s)) :=
      congrArg Host.Outcome.next (if_neg (by simp [hm]))
    obtain ⟨sent, only⟩ := foldl_emit .cycleStart (fun u _ => [s.gleno.etherType, glenoMax u, address u,
        ((if s.gleno.followed then s.gleno.cycle + 1 else 0 : BitVec 32).toNat : Int), s.gleno.cycleTime.toNat, 32, glenoMin u,
        (s.gleno.heardNow ||| s.gleno.heardPrev ||| s.gleno.heardPrev2).toNat, s.gleno.joinSeen.toNat]) (fun _ _ _ _ => rfl) (trainedPorts s)
        (updGleno (fun _ => announced s) s)
    have gleno : ((trainedPorts s).foldl (fun u p => emit .cycleStart p [s.gleno.etherType, glenoMax u, address u,
        ((if s.gleno.followed then s.gleno.cycle + 1 else 0 : BitVec 32).toNat : Int), s.gleno.cycleTime.toNat, 32, glenoMin u,
        (s.gleno.heardNow ||| s.gleno.heardPrev ||| s.gleno.heardPrev2).toNat, s.gleno.joinSeen.toNat] u)
        (updGleno (fun _ => announced s) s)).gleno = announced s := only .gleno (by simp)
    refine ⟨_, step, ?_⟩
    dsimp only
    rw [gleno]
    exact ⟨rfl, rfl, rfl, rfl, sent.of_wire rfl, OnlyIn.trans (t := updGleno (fun _ => announced s) s) (by simp [onlyIn_iff]) (only.mono (by simp))⟩
  case unacked =>
    exact ⟨_, congrArg Host.Outcome.next (if_pos ⟨hj, hn, hc, hs⟩), standing_raise .joinUnacked _ _, by simp, by simp [onlyIn_iff]⟩
  case lost =>
    have step : exec (.nodeLost a) s = .next (count 0x120A 8 (updGleno (fun g => { g with lost := g.lost ||| ((1#32) <<< a.val) }) s)) := by
      have mate : a.val ≠ mateAddress (count 0x120A 8 (updGleno (fun g => { g with lost := g.lost ||| ((1#32) <<< a.val) }) s)) := by
        simpa [mateAddress] using hmate
      refine congrArg Host.Outcome.next ((if_neg ?_).trans (if_neg fun h => mate h.1))
      rintro (h | h | h | h)
      · simp [Option.isNone_iff_eq_none.mp h] at hm
      · rw [hl] at h; cases h
      · exact ha h
      · rw [hu] at h; cases h
    exact ⟨_, step, by simp, countOf_count_of_obs (s := s) (by simp) _ _ (by decide), by simp [onlyIn_iff]⟩

end Sys2Proof.Machine
end

section
/-!
PROOFS. The register window (chapter 4): what an access of REG_DATA leaves behind the effect of its register, then the registers of each kind.
-/
namespace Sys2Proof.Machine

/-! ## Sessions -/

theorem session_of_gleno {s t : State} (h : t.gleno = s.gleno) (n : Nat) : session n t = session n s := by simp [session, h]

/-- A change of a session leaves every part but Gleno. -/
theorem updSession_only (n : Nat) (f : Session → Session) (s : State) : OnlyIn [.gleno] s (updSession n f s) := by
  simp [onlyIn_iff]

/-- What an answer reads of its session: all but the answers kept and the requests pending. -/
theorem session_answer {α : Type} (f : Session → α) (hf : ∀ e k p, f { e with kept := k, pendingIds := p } = f e := by exact fun _ _ _ => rfl)
    (q : Req) (st : Status) (d : List Byte) (s : State) :
    (session q.sess (answer q st d s)).map f = (session q.sess s).map f := by
  cases he : session q.sess s with
  | none => unfold session at he; unfold answer updSession; split <;> simp [session, he]
  | some e => unfold session at he; unfold answer updSession; split <;> simp [session, he, putSession, hf]

/-! ## Accesses of REG_DATA -/

/-- A session after an access of REG_DATA (R134, R135). -/
def Session.accessed (st : Status) (e : Session) : Session :=
  { e with regStatus := st, regAddr := if e.regInc then e.regAddr + 4 else e.regAddr }

theorem session_afterAccess (n : Nat) (st : Status) (s : State) : session n (afterAccess n st s) = (session n s).map (Session.accessed st) := by
  cases he : session n s with
  | none => simp [afterAccess, updSession, he]
  | some e => exact session_updSession _ he

/-- What an answered access of REG_DATA leaves of what its register did. -/
theorem access_does {q : Req} {s u : State} {st : Status} {d : List Byte} (hg : u.gleno.answers = s.gleno.answers) (hst : st ≠ 0x0402#16) :
    OnlyIn [.gleno] u (answer q st d (afterAccess q.sess st u)) ∧ Answered q st d s (answer q st d (afterAccess q.sess st u)) :=
  ⟨(updSession_only _ _ _).trans (onlyIn_answer _ _ _ _ hst), answered_answer _ _ _ _ _ (by simpa [afterAccess] using hg)⟩

section
variable {c : Instr} {q : Req} {v : Word} {e : Session} {s u : State} {st : Status}

/-- A write of REG_DATA does what the write of its register does; the status and the next address stand in the session. -/
theorem exec_dataWrite (step : exec c s = .next (roleRequest .operator q (dataWrite q v) s)) (ha : admits q .operator s = true)
    (he : session q.sess s = some e) (hw : regWrite q.sess e.regAddr.toNat false v s = Res.of u st) :
    exec c s = .next (answer q st [] (afterAccess q.sess st u)) := by
  refine exec_request step ha fun e' he' => ?_
  obtain rfl : e = e' := Option.some.inj (he.symm.trans he')
  rw [dataWrite, hw]
  rfl

/-- A write of REG_DATA whose register changes nothing: it answers the register's status. -/
theorem dataWrite_refused (step : exec c s = .next (roleRequest .operator q (dataWrite q v) s)) (ha : admits q .operator s = true)
    (he : session q.sess s = some e) (hw : regWrite q.sess e.regAddr.toNat false v s = Res.of s st) (hst : st ≠ 0x0402#16) :
    Yields c s fun t => Answered q st [] s t ∧ OnlyIn [.gleno] s t :=
  ⟨_, exec_dataWrite step ha he hw, (access_does rfl hst).symm⟩

/-- A read of REG_DATA answers what the read of its register gives. -/
theorem exec_dataRead {w : Word} (step : exec c s = .next (request q (dataRead q) s)) (ha : admits q .observer s = true)
    (he : session q.sess s = some e) (hr : regRead q.sess e.regAddr.toNat s = (u, w, 0)) :
    exec c s = .next (answer q 0 (leBytes 4 w.toNat) (afterAccess q.sess 0 u)) := by
  rw [step, request_admitted _ ha he, dataRead, hr]
  rfl

end

/-! ## Blocks and guards -/

theorem blockOf_of_regs {s t : State} (h : t.regs = s.regs) (n : Nat) : blockOf n t = blockOf n s := by simp [blockOf, h]

theorem guardAllows_of_regs {s t : State} (h : t.regs = s.regs) (n m : Nat) : guardAllows n m t = guardAllows n m s := by
  simp [guardAllows, blockOf_of_regs h, sticky, h]

@[simp] theorem count_blocks (x y : Nat) (s : State) : (count x y s).regs.blocks = s.regs.blocks := by
  simp only [count, countW]
  split <;> rfl

@[simp] theorem pushEvent_blocks (e : Event) (s : State) : (pushEvent e s).regs.blocks = s.regs.blocks := by
  simp only [pushEvent]
  split <;> simp [setRc]

@[simp] theorem logEvent_blocks (k : EventKind) (i c : Nat) (s : State) : (logEvent k i c s).regs.blocks = s.regs.blocks := by
  simp [logEvent, apply_ite State.regs, apply_ite Regs.blocks]

@[simp] theorem raise_blocks (a : Alarm) (i : Nat) (s : State) : (raise a i s).regs.blocks = s.regs.blocks := by
  simp [raise, contacts, apply_ite State.regs, apply_ite Regs.blocks]

theorem blockOf_of_blocks {s t : State} (h : t.regs.blocks = s.regs.blocks) (n : Nat) : blockOf n t = blockOf n s := by simp [blockOf, h]

section
variable {p : Place} {a sess : Nat} {hold : Bool} {v : Word} {s : State}

/-- A register outside the header of its block and outside the windows takes a write as its field does. -/
theorem regWrite_field (hp : locate a = some p) (hi : implemented p = true) (h10 : 0x10 ≤ p.off) (hw : inWindow p = false) :
    regWrite sess a hold v s = fieldWrite p a sess hold v s := by
  have h8 : p.off ≠ 8 := by omega
  have hlt : ¬ p.off < 0x10 := by omega
  simp [regWrite, hp, hi, h8, hlt, hw]

end

/-- A refused guarded write is noted in its block and counted (R129). -/
theorem refuseGuarded_does (base : Nat) (s : State) : (blockOf base (refuseGuarded base s)).violation = true ∧
    countOf 0x5009 1 (refuseGuarded base s) = countOf 0x5009 1 s + 1 ∧ OnlyIn [.regs, .obs] s (refuseGuarded base s) := by
  refine ⟨?_, countOf_count_of_obs rfl _ _ (by decide), by simp [onlyIn_iff, refuseGuarded]⟩
  rw [refuseGuarded, blockOf_of_blocks (count_blocks _ _ _), blockOf_updBlock]

/-- A write of REG_DATA that is refused as a guarded write. -/
theorem dataWrite_guarded {c : Instr} {q : Req} {v : Word} {e : Session} {s : State} {base : Nat}
    (step : exec c s = .next (roleRequest .operator q (dataWrite q v) s)) (ha : admits q .operator s = true) (he : session q.sess s = some e)
    (hw : regWrite q.sess e.regAddr.toNat false v s = Res.of (refuseGuarded base s) 0x0202) :
    Yields c s fun t => (blockOf base t).violation = true ∧ countOf 0x5009 1 t = countOf 0x5009 1 s + 1 ∧ Answered q 0x0202 [] s t ∧
      OnlyIn [.regs, .gleno, .obs] s t := by
  obtain ⟨hv, hc, ho⟩ := refuseGuarded_does base s
  obtain ⟨ht, hans⟩ := access_does (q := q) (s := s) (u := refuseGuarded base s) (st := 0x0202) (d := []) (by simp [refuseGuarded]) (by decide)
  refine ⟨_, exec_dataWrite step ha he hw, ?_, ?_, hans, (ho.mono (by simp)).trans (ht.mono (by simp))⟩
  · rwa [blockOf_of_regs (ht .regs (by simp))]
  · rwa [countOf_of_obs (ht .obs (by simp))]

/-! ## Registers of single blocks -/

section
variable {q : Req} {v : Word} {s : State} {sess : Nat} {hold : Bool}

/-- The control register of the shroud block (R534), by its guard. -/
theorem regWrite_shroudCtl : regWrite sess 0xB0010 false v s =
    if guardAllows 0xB0000 sess s then Res.of (updBlock 0xB0000 (fun b => { b with open_ := none }) (updPair (fun x => { x with inhibit := v.getLsbD 0 }) s)) 0
    else Res.of (refuseGuarded 0xB0000 s) 0x0202 := by
  rw [regWrite_field (p := ⟨.shroud, 0xB0000, 0, 0x10⟩) rfl rfl (by decide) rfl]
  cases hg : guardAllows 0xB0000 sess s <;> simp [fieldWrite, writable, hg, ovenHeld, plainPut, guardUsed, Res.of]

/-- The scratch register of the identity block (R117). -/
theorem regWrite_scratch : regWrite sess 0x20 hold v s = Res.of (maskedPut 0x20 v s) 0 := by
  rw [regWrite_field (p := ⟨.identity, 0, 0, 0x20⟩) rfl rfl (by decide) rfl]
  simp [fieldWrite, writable, ovenHeld]

/-- The word behind the scratch register after a write of a mask and a payload. -/
theorem maskedPut_word (m p : BitVec 16) : Tab.get 0 0x20 (maskedPut 0x20 (m ++ p) s).regs.words =
    (Tab.get 0 0x20 s.regs.words &&& ~~~(m.zeroExtend 32) ||| (p &&& m).zeroExtend 32) &&& 0xFFFF := by
  have hbit (i : Nat) : (m ++ p : Word).getLsbD i = if i < 16 then p.getLsbD i else m.getLsbD (i - 16) := BitVec.getLsbD_append
  have hm : (m ++ p : Word) >>> 16 = m.zeroExtend 32 := by
    refine BitVec.eq_of_getLsbD_eq fun i hi => ?_
    rw [BitVec.getLsbD_ushiftRight, hbit, if_neg (by omega), Nat.add_sub_cancel_left]
    simp [hi]
  have hp : (m ++ p : Word) &&& m.zeroExtend 32 = (p &&& m).zeroExtend 32 := by
    refine BitVec.eq_of_getLsbD_eq fun i hi => ?_
    rw [BitVec.getLsbD_and, hbit]
    by_cases h : i < 16
    · simp [h, hi]
    · simp [h, BitVec.getLsbD_of_ge m i (by omega)]
  simp [maskedPut, hm, hp]

/-- A guard takes its keys (R126 to R128). -/
theorem regWrite_guard : regWrite sess 0xB0008 hold v s = guardWrite 0xB0000 sess v s := rfl

/-- An upper word of a wide value waits in the session (R124). -/
theorem regWrite_upper : regWrite sess 0x20084 hold v s = Res.of (updSession sess (fun e => { e with writeSh := Tab.put 0 0x20084 v e.writeSh }) s) 0 := by
  rw [regWrite_field (p := ⟨.timeBase, 0x20000, 0, 0x84⟩) rfl rfl (by decide) rfl]
  simp [fieldWrite, writable, ovenHeld]

/-- The low word of TIME_SET of domain A, by its guard and the owner of the domain. -/
theorem regWrite_low : regWrite sess 0x20080 false v s =
    if guardAllows 0x20000 sess s ∧ hostOwns .a s then
      Res.of (updBlock 0x20000 (fun b => { b with open_ := none }) (widePut 0x80 (wideValue sess 0x20080 3 v s) s)) 0
    else Res.of (refuseGuarded 0x20000 s) 0x0202 := by
  rw [regWrite_field (p := ⟨.timeBase, 0x20000, 0, 0x80⟩) rfl rfl (by decide) rfl]
  cases hg : guardAllows 0x20000 sess s <;> cases hh : hostOwns .a s <;>
    simp [fieldWrite, writable, hg, hh, ovenHeld, lowPut, wideDomain, guardUsed]

end

/-- A wide value written at TIME_SET of domain A sets it where the nanoseconds are in range (R278). -/
theorem widePut_time {n : Nat} {s : State} (h : n / 2 ^ 16 % 2 ^ 32 ≤ 999999999) :
    widePut 0x80 n s = rephase .a (setTime .a ⟨BitVec.ofNat 48 (n / 2 ^ 48), BitVec.ofNat 32 (n / 2 ^ 16), BitVec.ofNat 16 n⟩ s) := by
  have hns : ¬ 999999999 < (BitVec.ofNat 32 (n / 2 ^ 16)).toNat := by
    rw [BitVec.toNat_ofNat]
    omega
  rw [widePut, if_pos (.inl rfl), timeSet, if_neg hns]
  rfl

/-- The judgement of P leaves domain A. -/
theorem judgeP_a (s : State) : (judgeP s).tb.a = s.tb.a := by
  simp only [judgeP]
  split
  · simp [stepP]
  · rfl

theorem setTime_counter (x : Time96) (s : State) : (setTime .a x s).tb.a.counter = ⟨lsbOf x, 0⟩ := by
  simp only [setTime, stepped, judgeP_a]
  simp [updDom]

/-- The wide value behind TIME_SET of domain A, from the write shadow of its session. -/
theorem wideValue_of_session {sess : Nat} {e : Session} {v : Word} {s : State} (he : session sess s = some e) :
    wideValue sess 0x20080 3 v s =
      v.toNat + (Tab.get 0 0x20084 e.writeSh).toNat * 2 ^ 32 + (Tab.get 0 0x20088 e.writeSh).toNat * 2 ^ 64 := by
  simp [wideValue, writeShadow, he]

/-! ## Guards -/

/-- The lock closes a guard for every session (R128). -/
theorem guardAllows_locked {base : Nat} {s : State} (h : (blockOf base s).locked = true) (n : Nat) : guardAllows base n s = false := by
  simp [guardAllows, h]

/-- A wrong key is noted, closes the guard of its session, and is counted; the fourth in a run raises the alarm (R127). -/
theorem guardWrite_wrong {base sess : Nat} {v : Word} {s : State} (h1 : v ≠ 0xC1E7#32) (h2 : v ≠ 0x5A1C#32) :
    ∃ u, guardWrite base sess v s = Res.of u 0 ∧ u.gleno.answers = s.gleno.answers ∧ countOf 0x5009 2 u = countOf 0x5009 2 s + 1 ∧
      (blockOf base u).wrongRun = (blockOf base s).wrongRun + 1 ∧ (blockOf base u).open_ ≠ some sess ∧
      (3 ≤ (blockOf base s).wrongRun → (blockOf base s).wrongAlm = false → Stands .wrongKeys (blockNo base) u) ∧
      OnlyIn [.pins, .regs, .obs, .upd] s u := by
  generalize hb : blockOf base s = b
  generalize hs1 : count 0x5009 2 (updBlock base (fun b => { b with open_ := if b.open_ = some sess then none else b.open_, wrongRun := b.wrongRun + 1 }) s) = s1
  have hb1 : blockOf base s1 = { b with open_ := if b.open_ = some sess then none else b.open_, wrongRun := b.wrongRun + 1 } := by
    rw [← hs1, blockOf_of_blocks (count_blocks _ _ _), blockOf_updBlock, hb]
  have hc1 : countOf 0x5009 2 s1 = countOf 0x5009 2 s + 1 := by
    rw [← hs1]; exact countOf_count_of_obs rfl _ _ (by decide)
  have ho1 : OnlyIn [.pins, .regs, .obs, .upd] s s1 := by simp [← hs1, onlyIn_iff]
  have hopen : (if b.open_ = some sess then none else b.open_) ≠ some sess := by
    split
    · simp
    · assumption
  by_cases ha : 4 ≤ b.wrongRun + 1 ∧ !b.wrongAlm
  · refine ⟨raise .wrongKeys (blockNo base) (updBlock base (fun b => { b with wrongAlm := true }) s1), ?_, ?_, ?_, ?_, ?_, fun _ _ => standing_raise _ _ _, ?_⟩
    · rw [guardWrite, if_neg h1, if_neg h2, hb, hs1]
      exact if_pos ha
    · simp [← hs1]
    · rw [countOf_raise _ _ _ _ _ (by decide) (by decide)]; exact hc1
    · rw [blockOf_of_blocks (raise_blocks _ _ _), blockOf_updBlock, hb1]
    · rw [blockOf_of_blocks (raise_blocks _ _ _), blockOf_updBlock, hb1]; exact hopen
    · refine ho1.trans ?_
      simp [onlyIn_iff]
  · refine ⟨s1, ?_, by simp [← hs1], hc1, by rw [hb1], by rw [hb1]; exact hopen, fun h3 hn => absurd ⟨by omega, by simp [hn]⟩ ha, ho1⟩
    rw [guardWrite, if_neg h1, if_neg h2, hb, hs1]
    exact if_neg ha

/-! ## Registers of arrays and windows -/

/-- The address of a register of a channel lies in its block. -/
theorem locate_channel (c : Chan) {o : Nat} (ho : o < 0x200) (h4 : o % 4 = 0) : locate (0x80000 + c * 0x200 + o) = some (memberPlace c o) := by
  have hc := c.isLt
  have hmod : (0x80000 + c.val * 0x200 + o) % 4 = 0 := by omega
  have hdiv : (0x80000 + c.val * 0x200 + o - 0x80000) / 0x200 = c.val := by omega
  have hoff : (0x80000 + c.val * 0x200 + o - 0x80000) % 0x200 = o := by omega
  have hblk : (0x80000 + c.val * 0x200 + o) / 65536 = 8 ∨ (0x80000 + c.val * 0x200 + o) / 65536 = 9 := by omega
  obtain h | h := hblk <;> simp [locate, hmod, h, inArray, hdiv, hoff, hc, memberPlace]

/-- The address of an event register of a stamping unit lies in its block. -/
theorem locate_tsu (k : Tile) {o : Nat} (ho : o < 0x800) (h4 : o % 4 = 0) : locate (tsuAddr k o) = some ⟨.tsu, 0x50000 + k * 0x800, k, o⟩ := by
  have hk := k.isLt
  have hmod : (0x50000 + k.val * 0x800 + o) % 4 = 0 := by omega
  have hdiv : (0x50000 + k.val * 0x800 + o - 0x50000) / 0x800 = k.val := by omega
  have hoff : (0x50000 + k.val * 0x800 + o - 0x50000) % 0x800 = o := by omega
  have hblk : (0x50000 + k.val * 0x800 + o) / 65536 = 5 := by omega
  simp [locate, tsuAddr, hmod, hblk, inArray, hdiv, hoff, hk]

section
variable {c : Chan} {v : Word} {s : State} {sess : Nat} {hold : Bool}

/-- The optical control register of a channel is posted, while its queue has room (R118, R119). -/
theorem regWrite_channelCtl : regWrite sess (0x80010 + c * 0x200) hold v s =
    if postFull (0x80000 + c * 0x200) s then Res.of s 0x0401 else Res.of (post (0x80000 + c * 0x200) (0x80010 + c * 0x200) v s) 0 := by
  have hp : locate (0x80010 + c * 0x200) = some (memberPlace c 0x10) := by
    rw [← locate_channel c (o := 0x10) (by decide) rfl]
    congr 1
    omega
  rw [regWrite_field hp rfl (Nat.le_refl 16) rfl]
  simp [fieldWrite, writable, ovenHeld, memberPlace]

end

theorem toNat_channelCtl (c : Chan) : (BitVec.ofNat 32 (0x80010 + c * 0x200)).toNat = 0x80010 + c * 0x200 := by
  have hc := c.isLt
  rw [BitVec.toNat_ofNat, Nat.mod_eq_of_lt (by omega)]

theorem toNat_tsuEvents (k : Tile) : (BitVec.ofNat 32 (tsuAddr k 0x18)).toNat = tsuAddr k 0x18 := by
  have hk := k.isLt
  rw [BitVec.toNat_ofNat, Nat.mod_eq_of_lt (by unfold tsuAddr; omega)]

/-- A posted write of the lowest word of the asset tag lands (R118). -/
theorem land_assetTag (w : Word) (s : State) : land ⟨0x30, w⟩ s =
    { s with regs := { s.regs with assetTag := (s.regs.assetTag &&& ~~~(0xFFFFFFFF#128)) ||| w.zeroExtend 128 } } := by
  have hp : locate 0x30 = some ⟨.identity, 0, 0, 0x30⟩ := rfl
  simp [land, hp]

/-! ## Reads -/

section
variable {p : Place} {a sess : Nat} {s : State}

/-- A register whose words are neither shadowed nor latched reads as it stands. -/
theorem regRead_live (hp : locate a = some p) (hi : implemented p = true) (hw : inWindow p = false) (hs : shadowed p s = false)
    (hl : latches p s = []) : regRead sess a s = (clearRead p s, live p sess s, 0) := by
  simp [regRead, hp, hi, hw, hs, latch, hl]

/-- The event register of a stamping unit is cleared as it is read (R121). -/
theorem regRead_tsuEvents (k : Tile) : regRead sess (tsuAddr k 0x18) s =
    ({ s with regs := { s.regs with rc := Tab.erase (tsuAddr k 0x18) s.regs.rc } }, Tab.get 0 (tsuAddr k 0x18) s.regs.rc, 0) :=
  regRead_live (locate_tsu k (by decide) rfl) rfl rfl rfl rfl

/-- The low word of the uptime latches the upper one (R123). -/
theorem regRead_uptime : regRead sess 0x24 s =
    (updSession sess (fun e => { e with readSh := Tab.put 0 0x28 (wordOf 1 (uptime s)) e.readSh }) s, wordOf 0 (uptime s), 0) := rfl

/-- The upper word of the uptime reads as it was latched. -/
theorem regRead_uptimeUpper {e : Session} (he : session sess s = some e) : regRead sess 0x28 s = (s, Tab.get 0 0x28 e.readSh, 0) := by
  have h : regRead sess 0x28 s = (s, (match session sess s with | some e => Tab.get 0 0x28 e.readSh | none => 0), 0) := rfl
  rw [h, he]

/-- The members of the first group window (R130). -/
def firstGroup (s : State) : List Nat := (List.range 192).filter (fun k => (Tab.get 0 0 s.dict.members).getLsbD k)

theorem windowMembers_group (o : Nat) (s : State) : windowMembers ⟨.group, 0xF0000, 0, o⟩ s = firstGroup s := rfl

/-- A register behind the header of a window reads through it. -/
theorem regRead_window (hp : locate a = some p) (hi : implemented p = true) (hw : inWindow p = true) (h10 : 0x10 ≤ p.off) :
    regRead sess a s = (s, windowRead p sess s) := by
  have hlt : ¬ p.off < 0x10 := by omega
  simp only [regRead, hp, hi, hw, hlt, Bool.not_true, Bool.false_eq_true, if_false, if_true]

/-- The event register of the channels of a window with one member reads as the member's. -/
theorem regRead_group {c : Chan} (hm : firstGroup s = [c.val]) : regRead sess 0xF0018 s = (s, channelVal c 0x18 s, 0) := by
  have hl : live (memberPlace c 0x18) sess s = channelVal c 0x18 s := by simp [live, memberPlace]
  have hi : implemented (memberPlace c 0x18) = true := rfl
  have hor (w m : Word) : (w &&& m) ||| (w &&& ~~~m) = w := by
    refine BitVec.eq_of_getLsbD_eq fun i hi => ?_
    rw [BitVec.getLsbD_or, BitVec.getLsbD_and, BitVec.getLsbD_and, BitVec.getLsbD_not]
    cases w.getLsbD i <;> cases m.getLsbD i <;> simp [hi]
  rw [regRead_window (p := ⟨.group, 0xF0000, 0, 0x18⟩) rfl rfl rfl (by decide), windowRead, windowMembers_group, hm]
  simp [hl, hi, hor]

theorem regRead_group_empty (hm : firstGroup s = []) : regRead sess 0xF0018 s = (s, 0, 0x0803) := by
  rw [regRead_window (p := ⟨.group, 0xF0000, 0, 0x18⟩) rfl rfl rfl (by decide), windowRead, windowMembers_group, hm]
  rfl

end

section
variable {sess : Nat} {v : Word} {s : State}

theorem regWrite_group_empty (hm : firstGroup s = []) : regWrite sess 0xF0010 false v s = Res.of s 0x0803 := by
  have h : regWrite sess 0xF0010 false v s = windowWrite ⟨.group, 0xF0000, 0, 0x10⟩ sess false v s := rfl
  rw [h, windowWrite, windowMembers_group, hm]
  rfl

/-- A write of the optical control through a window with one member is posted to it (R131). -/
theorem regWrite_group {c : Nat} (hm : firstGroup s = [c]) (hf : postFull (0x80000 + c * 0x200) s = false) :
    regWrite sess 0xF0010 false v s = Res.of (post (0x80000 + c * 0x200) (0x80000 + c * 0x200 + 0x10) v
      (updSession sess (fun e => { e with skipped := 0 }) s)) 0 := by
  have h : regWrite sess 0xF0010 false v s = windowWrite ⟨.group, 0xF0000, 0, 0x10⟩ sess false v s := rfl
  rw [h, windowWrite, windowMembers_group, hm]
  simp [writable, hf]

end

/-! ## Block transfers (R136) -/

section
variable {q : Req} {e : Session} {s : State}

/-- A block transfer of the scratch register alone. -/
theorem blockContent_scratch {sess : Nat} : (let r := blockRead sess (1#16).toNat (0x20#32).toNat s
    (updSession sess (fun e => { e with regStatus := r.2.2.2, regDone := BitVec.ofNat 16 r.2.2.1 }) r.1, r.2.1, r.2.2.2)) =
    (updSession sess (fun e => { e with regStatus := 0, regDone := 1 }) s, leBytes 4 (Tab.get 0 0x20 s.regs.words).toNat, 0) := rfl

/-- A read of REG_BLOCK opens with what the registers give. -/
theorem initRead_regBlock (ht : e.transfer = none) : initRead q 0x5005 0 e s =
    openRead q.sess (key 0x5005 0) (blockContent q.sess e s).2.2 (blockContent q.sess e s).2.1 (blockContent q.sess e s).1 := by
  have hr : objRow 0x5005 = some ⟨0x5005, 0, 0, false, .domain, .rw, .none, .any, .operator, false, false⟩ := by decide
  have hd : domainSub 0x5005 0 = true := by decide
  simp [initRead, hr, hasSub, ObjAcc.reads, hd, ht]

/-- A block write of the scratch register alone. -/
theorem blockWrite_scratch {v : Word} (hr : e.regAddr = 0x20) : blockWrite q.sess (leBytes 4 v.toNat) e s =
    Res.of (updSession q.sess (fun e => { e with regStatus := 0, regDone := 1 }) (maskedPut 0x20 v s)) 0 := by
  have hv : BitVec.ofNat 32 (leNat (leBytes 4 v.toNat)) = v := by
    apply BitVec.eq_of_toNat_eq
    simp [leNat, leBytes]
    omega
  have hput : blockPut q.sess (leBytes 4 v.toNat) 0x20 s = (maskedPut 0x20 v s, 1, 0) := by
    have hl : leBytes 4 v.toNat = [BitVec.ofNat 8 v.toNat, BitVec.ofNat 8 (v.toNat / 256), BitVec.ofNat 8 (v.toNat / 256 / 256),
      BitVec.ofNat 8 (v.toNat / 256 / 256 / 256)] := rfl
    rw [hl] at hv ⊢
    rw [blockPut, hv, regWrite_scratch]
    rfl
  have hguards (u : State) : closeGuards q.sess 1 0x20 u = u := by
    have hp : locate 0x20 = some ⟨.identity, 0, 0, 0x20⟩ := rfl
    simp [closeGuards, hp, inWindow, writable]
  have ha : e.regAddr.toNat = 0x20 := by rw [hr]; rfl
  simp only [blockWrite, ha, hput, hguards]
  rfl

end

/-- Settles O51. -/
theorem registerAccess : Obligations.RegisterAccess := by
  unfold Obligations.RegisterAccess
  refine ⟨?_, ?_, ?_, ?_, ?_, ?_, ?_, ?_, ?_, ?_, ?_, ?_, ?_, ?_, ?_, ?_, ?_, ?_, ?_, ?_, ?_, ?_, ?_, ?_, ?_, ?_, ?_, ?_⟩
  · intro q v e s ha he hr hg
    generalize hu : updBlock 0xB0000 (fun b => { b with open_ := none }) (updPair (fun x => { x with inhibit := v.getLsbD 0 }) s) = u
    have step := exec_dataWrite (c := .registerWrite q v) (u := u) (st := 0) rfl ha he (by rw [hr, ← hu]; exact regWrite_shroudCtl.trans (if_pos hg))
    obtain ⟨ht, hans⟩ := access_does (q := q) (s := s) (u := u) (st := 0) (d := []) (by simp [← hu]) (by decide)
    refine ⟨_, step, (ht .pair (by simp)).trans (by simp [← hu]), ?_, hans, ?_, ?_⟩
    · rw [blockOf_of_regs (ht .regs (by simp)), ← hu]
      simp
    · rw [session_answer (fun e => (e.regStatus, e.regAddr)), session_afterAccess, session_of_gleno (t := u) (s := s) (by simp [← hu]), he]
      simp only [Option.map_some, Session.accessed, hr]
      cases e.regInc <;> rfl
    · refine OnlyIn.trans (t := u) ?_ (ht.mono (by simp))
      simp [← hu, onlyIn_iff]
  · intro q v e s ha he hr hg
    exact dataWrite_guarded rfl ha he (by rw [hr]; exact regWrite_shroudCtl.trans (if_neg (by simp [hg])))
  · intro q v e s ha he hr
    exact dataWrite_refused rfl ha he (by rw [hr]; rfl) (by decide)
  · intro q m p e s ha he hr
    have step := exec_dataWrite (c := .maskedWrite q m p) rfl ha he (by rw [hr]; exact regWrite_scratch)
    obtain ⟨ht, hans⟩ := access_does (q := q) (s := s) (u := maskedPut 0x20 (m ++ p) s) (st := 0) (d := []) rfl (by decide)
    refine ⟨_, step, ?_, hans, ?_⟩
    · rw [← maskedPut_word]
      exact congrArg (fun r : Regs => Tab.get 0 0x20 r.words) (ht .regs (by simp))
    · refine OnlyIn.trans (t := maskedPut 0x20 (m ++ p) s) ?_ (ht.mono (by simp))
      simp [maskedPut, onlyIn_iff]
  · intro q v c e s ha he hr hl
    have step := exec_dataWrite (c := .postedWrite q v) rfl ha he (by
      rw [hr, toNat_channelCtl]; exact regWrite_channelCtl.trans (if_neg (by simpa [postFull] using hl)))
    obtain ⟨ht, hans⟩ := access_does (q := q) (s := s) (u := post (0x80000 + c * 0x200) (0x80010 + c * 0x200) v s) (st := 0) (d := []) rfl (by decide)
    refine ⟨_, step, ?_, hans, ?_⟩
    · rw [blockOf_of_regs (ht .regs (by simp)), post, blockOf_updBlock]
    · refine OnlyIn.trans (t := post (0x80000 + c * 0x200) (0x80010 + c * 0x200) v s) ?_ (ht.mono (by simp))
      simp [post, onlyIn_iff]
  · intro q v c e s ha he hr hl
    exact dataWrite_refused rfl ha he (by
      rw [hr, toNat_channelCtl]; exact regWrite_channelCtl.trans (if_pos (by simpa [postFull] using hl))) (by decide)
  · intro w rest s hp
    have step : exec (.postedWriteLanded 0) s = .next (land ⟨0x30, w⟩ (updBlock 0 (fun b => { b with posted := b.posted.drop 1 }) s)) := by
      simp [exec, execPostedWriteLanded, hp]
    rw [land_assetTag] at step
    refine ⟨_, step, ?_, rfl, by simp [onlyIn_iff]⟩
    refine (congrArg Block.posted (blockOf_of_blocks (s := updBlock 0 (fun b => { b with posted := b.posted.drop 1 }) s) rfl 0)).trans ?_
    rw [blockOf_updBlock, hp]
    rfl
  · intro base s hp
    exact ⟨_, by simp [exec, execPostedWriteLanded, hp], rfl⟩
  · intro base w rest s hp
    generalize hu : updBlock base (fun b => { b with posted := b.posted.drop 1, postFail := true }) s = u
    have step : exec (.postedWriteDropped base) s = .next (raise .postFail (blockNo base) u) := by
      rw [← hu]
      simp [exec, execPostedWriteDropped, hp]
    have hb : blockOf base (raise .postFail (blockNo base) u) = { blockOf base s with posted := rest, postFail := true } := by
      rw [blockOf_of_blocks (raise_blocks _ _ _), ← hu, blockOf_updBlock, hp]
      rfl
    refine ⟨_, step, by rw [hb], by rw [hb], standing_raise _ _ _, ?_⟩
    simp [← hu, onlyIn_iff]
  · intro base s hp
    exact ⟨_, by simp [exec, execPostedWriteDropped, hp], rfl⟩
  · intro q k e s ha he hr
    generalize hu : ({ s with regs := { s.regs with rc := Tab.erase (tsuAddr k 0x18) s.regs.rc } } : State) = u
    have step := exec_dataRead (c := .rcFieldRead q) (u := u) rfl ha he (by rw [hr, toNat_tsuEvents, ← hu]; exact regRead_tsuEvents k)
    obtain ⟨ht, hans⟩ := access_does (q := q) (s := s) (u := u) (st := 0)
      (d := leBytes 4 (Tab.get 0 (tsuAddr k 0x18) s.regs.rc).toNat) (by simp [← hu]) (by decide)
    have hrc (a : Nat) : Tab.get 0 a (answer q 0 (leBytes 4 (Tab.get 0 (tsuAddr k 0x18) s.regs.rc).toNat) (afterAccess q.sess 0 u)).regs.rc =
        Tab.get 0 a (Tab.erase (tsuAddr k 0x18) s.regs.rc) := by
      rw [← hu] at ht ⊢
      exact congrArg (fun r : Regs => Tab.get 0 a r.rc) (ht .regs (by simp))
    refine ⟨_, step, hans, ?_, fun a hne => ?_, ?_⟩
    · rw [hrc, Tab.get_erase_same]
    · rw [hrc, Tab.get_erase_ne hne]
    · refine OnlyIn.trans (t := u) ?_ (ht.mono (by simp))
      simp [← hu, onlyIn_iff]
  · intro q e s ha he hr
    generalize hu : updSession q.sess (fun e => { e with readSh := Tab.put 0 0x28 (wordOf 1 (uptime s)) e.readSh }) s = u
    have step := exec_dataRead (c := .wideReadLatch q) (u := u) rfl ha he (by rw [hr, ← hu]; exact regRead_uptime)
    obtain ⟨ht, hans⟩ := access_does (q := q) (s := s) (u := u) (st := 0) (d := leBytes 4 (wordOf 0 (uptime s)).toNat) (by simp [← hu]) (by decide)
    refine ⟨_, step, hans, ?_, ?_⟩
    · rw [session_answer (fun e => Tab.get 0 0x28 e.readSh), session_afterAccess, ← hu, session_updSession _ he]
      simp [Session.accessed]
    · refine OnlyIn.trans (t := u) ?_ ht
      simp [← hu, onlyIn_iff]
  · intro q e s ha he hr
    have step := exec_dataRead (c := .wideReadLatch q) rfl ha he (by rw [hr]; exact regRead_uptimeUpper he)
    exact ⟨_, step, (access_does rfl (by decide)).symm⟩
  · intro q v e s ha he hr
    generalize hu : updSession q.sess (fun e => { e with writeSh := Tab.put 0 0x20084 v e.writeSh }) s = u
    have step := exec_dataWrite (c := .wideUpperWrite q v) (u := u) (st := 0) rfl ha he (by rw [hr, ← hu]; exact regWrite_upper)
    obtain ⟨ht, hans⟩ := access_does (q := q) (s := s) (u := u) (st := 0) (d := []) (by simp [← hu]) (by decide)
    refine ⟨_, step, ?_, hans, ?_⟩
    · rw [session_answer (fun e => Tab.get 0 0x20084 e.writeSh), session_afterAccess, ← hu, session_updSession _ he]
      simp [Session.accessed]
    · refine OnlyIn.trans (t := u) ?_ ht
      simp [← hu, onlyIn_iff]
  · intro q v e s ha he hr hg hh hn
    have hw := wideValue_of_session (v := v) he
    have hns : wideValue q.sess 0x20080 3 v s / 2 ^ 16 % 2 ^ 32 ≤ 999999999 := by omega
    have hfrac : BitVec.ofNat 16 (wideValue q.sess 0x20080 3 v s) = BitVec.ofNat 16 v.toNat := by
      apply BitVec.eq_of_toNat_eq
      rw [BitVec.toNat_ofNat, BitVec.toNat_ofNat]
      omega
    generalize hu : updBlock 0x20000 (fun b => { b with open_ := none }) (widePut 0x80 (wideValue q.sess 0x20080 3 v s) s) = u
    have step := exec_dataWrite (c := .wideLowWrite q v) (u := u) (st := 0) rfl ha he (by
      rw [hr, ← hu]; exact regWrite_low.trans (if_pos ⟨hg, hh⟩))
    rw [widePut_time hns, hfrac, hw] at hu
    obtain ⟨ht, hans⟩ := access_does (q := q) (s := s) (u := u) (st := 0) (d := []) (by simp [← hu, setTime]) (by decide)
    refine ⟨_, step, ?_, hans⟩
    have htb : (_ : TimeBase) = _ := ht .tb (by simp)
    rw [htb, ← hu]
    simp [setTime_counter]
  · intro q v e s ha he hr hno
    obtain ⟨t, step, hv, hc, hans, ho⟩ := dataWrite_guarded (c := .wideLowWrite q v) rfl ha he (by
      rw [hr]; exact regWrite_low.trans (if_neg (by obtain h | h := hno <;> simp [h])))
    exact ⟨t, step, hans, hv, hc, ho⟩
  · intro q e s ha he hr hl hs
    generalize hu : updBlock 0xB0000 (fun b => { b with open_ := some q.sess, wrongRun := 0, wrongAlm := false }) s = u
    have step := exec_dataWrite (c := .guardUnlock q) (u := u) (st := 0) rfl ha he (by
      rw [hr, ← hu]; exact regWrite_guard.trans (by simp [guardWrite, hl, hs]))
    obtain ⟨ht, hans⟩ := access_does (q := q) (s := s) (u := u) (st := 0) (d := []) (by simp [← hu]) (by decide)
    have hb : blockOf 0xB0000 (answer q 0 [] (afterAccess q.sess 0 u)) =
        { blockOf 0xB0000 s with open_ := some q.sess, wrongRun := 0, wrongAlm := false } := by
      rw [blockOf_of_regs (ht .regs (by simp)), ← hu, blockOf_updBlock]
    refine ⟨_, step, by rw [hb], by rw [hb], ?_, hans, ?_⟩
    · rw [guardAllows_of_regs (ht .regs (by simp)), ← hu]
      simp [guardAllows, hl]
    · refine OnlyIn.trans (t := u) ?_ (ht.mono (by simp))
      simp [← hu, onlyIn_iff]
  · intro q e s ha he hr hl
    exact dataWrite_refused rfl ha he (by rw [hr]; exact regWrite_guard.trans (by simp [guardWrite, hl])) (by decide)
  · intro q e s ha he hr
    generalize hu : updBlock 0xB0000 (fun b => { b with locked := true, open_ := none }) s = u
    have step := exec_dataWrite (c := .guardLock q) (u := u) (st := 0) rfl ha he (by
      rw [hr, ← hu]; exact regWrite_guard.trans (by simp [guardWrite]))
    obtain ⟨ht, hans⟩ := access_does (q := q) (s := s) (u := u) (st := 0) (d := []) (by simp [← hu]) (by decide)
    have hb : blockOf 0xB0000 (answer q 0 [] (afterAccess q.sess 0 u)) = { blockOf 0xB0000 s with locked := true, open_ := none } := by
      rw [blockOf_of_regs (ht .regs (by simp)), ← hu, blockOf_updBlock]
    refine ⟨_, step, by rw [hb], by rw [hb], guardAllows_locked (by rw [hb]), hans, ?_⟩
    refine OnlyIn.trans (t := u) ?_ (ht.mono (by simp))
    simp [← hu, onlyIn_iff]
  · intro q v e s ha he hr h1 h2
    obtain ⟨u, hw, hg, hcnt, hrun, hopen, halm, ho⟩ := guardWrite_wrong (base := 0xB0000) (sess := q.sess) (s := s) h1 h2
    have step := exec_dataWrite (c := .guardWrongKey q v) rfl ha he (by rw [hr]; exact regWrite_guard.trans hw)
    obtain ⟨ht, hans⟩ := access_does (q := q) (s := s) (u := u) (st := 0) (d := []) hg (by decide)
    have hb := blockOf_of_regs (ht .regs (by simp)) 0xB0000
    refine ⟨_, step, by rw [hb, hrun], by rwa [hb], ?_, fun hl hn => ?_, hans, (ho.mono (by simp)).trans (ht.mono (by simp))⟩
    · rwa [countOf_of_obs (ht .obs (by simp))]
    · exact (standing_of_obs (ht .obs (by simp)) _ _).trans (halm hl hn)
  · intro base s
    exact ⟨_, rfl, blockOf_updBlock _ _ _, fun b hb => blockOf_updBlock_ne hb _ _, by simp [onlyIn_iff]⟩
  · intro q v c e s ha he hr hm hl
    generalize hu : post (0x80000 + c * 0x200) (0x80000 + c * 0x200 + 0x10) v (updSession q.sess (fun e => { e with skipped := 0 }) s) = u
    have step := exec_dataWrite (c := .windowWrite q v) (u := u) (st := 0) rfl ha he (by
      rw [hr, ← hu]; exact regWrite_group hm (by simpa [postFull] using hl))
    obtain ⟨ht, hans⟩ := access_does (q := q) (s := s) (u := u) (st := 0) (d := []) (by simp [← hu, post]) (by decide)
    refine ⟨_, step, ?_, ?_, hans, ?_⟩
    · rw [blockOf_of_regs (ht .regs (by simp)), ← hu, post, blockOf_updBlock,
        blockOf_of_regs (s := s) (t := updSession q.sess (fun e => { e with skipped := 0 }) s) (by simp)]
      rw [show 0x80000 + c.val * 0x200 + 0x10 = 0x80010 + c.val * 0x200 by omega]
    · rw [session_answer (fun e => e.skipped), session_afterAccess, ← hu,
        session_of_gleno (t := post _ _ _ _) (s := updSession q.sess (fun e => { e with skipped := 0 }) s) rfl, session_updSession _ he]
      rfl
    · refine OnlyIn.trans (t := u) ?_ (ht.mono (by simp))
      simp [← hu, post, onlyIn_iff]
  · intro q v e s ha he hr hm
    exact dataWrite_refused rfl ha he (by rw [hr]; exact regWrite_group_empty hm) (by decide)
  · intro q c e s ha he hr hm
    have step := exec_dataRead (c := .windowRead q) rfl ha he (by rw [hr]; exact regRead_group hm)
    exact ⟨_, step, (access_does rfl (by decide)).symm⟩
  · intro q e s ha he hr hm
    have step : exec (.windowRead q) s = .next (answer q 0x0803 [] (afterAccess q.sess 0x0803 s)) := by
      have hrd : regRead q.sess e.regAddr.toNat s = (s, 0, 0x0803) := by rw [hr]; exact regRead_group_empty hm
      refine congrArg Host.Outcome.next ((request_admitted _ ha he).trans ?_)
      rw [dataRead, hrd]
      rfl
    exact ⟨_, step, (access_does rfl (by decide)).symm⟩
  · intro q e s ha he hr hn ht
    generalize hw : Tab.get 0 0x20 s.regs.words = w
    generalize hu : updSession q.sess (fun e => { e with regStatus := 0, regDone := 1 }) s = u
    have hblk : blockContent q.sess e s = (u, leBytes 4 w.toNat, 0) := by
      rw [← hu, ← hw, blockContent, hr, hn]
      exact blockContent_scratch
    have step : exec (.regBlockRead q) s = .next (answer q 0 (leBytes 4 4 ++ leBytes 4 (crc32 (leBytes 4 w.toNat)).toNat)
        (setTransfer q.sess (some ⟨key 0x5005 0, false, 4, leBytes 4 w.toNat, 0⟩) u)) := by
      refine congrArg Host.Outcome.next ((request_admitted _ ha he).trans ?_)
      rw [initRead_regBlock ht, hblk]
      rfl
    refine ⟨_, step, ?_, answered_answer _ _ _ _ _ (by simp [← hu, setTransfer]), ?_⟩
    · rw [session_answer (fun e => (e.transfer, e.regDone, e.regStatus)), setTransfer,
        session_updSession _ (by rw [← hu]; exact session_updSession _ he)]
      rfl
    · refine OnlyIn.trans (t := u) ?_ ((onlyIn_setTransfer _ _ _).trans (onlyIn_answer _ _ _ _ (by decide)))
      rw [← hu]
      exact updSession_only _ _ _
  · intro q d e s ha he hd
    refine refused (exec_request (c := .regBlockWrite q d) rfl ha fun e' he' => ?_)
    obtain rfl : e = e' := Option.some.inj (he.symm.trans he')
    exact if_pos hd
  · intro q m p e s ha he hr hn
    generalize hu : updSession q.sess (fun e => { e with regStatus := 0, regDone := 1 }) (maskedPut 0x20 (m ++ p) s) = u
    have step : exec (.regBlockWrite q (leBytes 4 (m ++ p).toNat)) s = .next (answer q 0 [] u) := by
      refine exec_request rfl ha fun e' he' => ?_
      obtain rfl : e = e' := Option.some.inj (he.symm.trans he')
      rw [if_neg (by simp [hn]), ← hu]
      exact blockWrite_scratch hr
    refine ⟨_, step, ?_, ?_, answered_answer _ _ _ _ _ (by simp [← hu, maskedPut]), ?_⟩
    · rw [← maskedPut_word, ← hu]
      exact congrArg (fun r : Regs => Tab.get 0 0x20 r.words) (((updSession_only _ _ _).trans (onlyIn_answer q 0 [] _ (by decide))) .regs (by simp))
    · rw [session_answer (fun e => (e.regDone, e.regStatus)), ← hu, session_updSession _ (s := maskedPut 0x20 (m ++ p) s) (e := e) he]
      rfl
    · refine OnlyIn.trans (t := u) ?_ ((onlyIn_answer q 0 [] u (by decide)).mono (by simp))
      simp [← hu, maskedPut, onlyIn_iff]
end Sys2Proof.Machine
end

section
/-!
PROOFS. Requests on the dictionary (chapter 5): a plain object and its write, segmented transfers, the close of a session.
-/
namespace Sys2Proof.Machine

/-! ## Roles and rows -/

/-- A request that its role admits is admitted as one with no role check. -/
theorem admits_observer {need : Role} {q : Req} {s : State} (h : admits q need s = true) : admits q .observer s = true := by
  obtain ⟨e, he⟩ := admits_session h
  simp only [admits, he, Bool.and_eq_true] at h ⊢
  exact ⟨h.1, by simp [roleMeets, roleRank], h.2.2⟩

/-- The session of an admitted request and its role. -/
theorem admits_role {need : Role} {q : Req} {s : State} (h : admits q need s = true) : ∃ e, session q.sess s = some e ∧ roleMeets e.role need = true := by
  obtain ⟨e, he, hr, -⟩ := roleRequest_does (fun _ s => Res.of s 0) h
  exact ⟨e, he, hr⟩

/-- REPAIR_RESERVE, a plain stored object. -/
def rowReserve : ObjRow := ⟨0x130A, 0, 0, false, .u 2, .rw, .num 40, .within 0 200, .operator, true, false⟩
/-- ALARM_MAP, an object that moves in a transfer. -/
def rowAlarmMap : ObjRow := ⟨0x700B, 0, 0, false, .domain, .rw, .none, .any, .operator, true, false⟩

theorem objRow_reserve : objRow 0x130A = some rowReserve := by decide
theorem objRow_alarmMap : objRow 0x700B = some rowAlarmMap := by decide
theorem objRow_commit : objRow 0x1101 = some ⟨0x1101, 0, 0, false, .u 4, .wo, .none, .any, .operator, false, false⟩ := by decide

/-! ## Values in force -/

theorem find_put_ne {α : Type} [DecidableEq α] {k j : Nat} (h : j ≠ k) (d v : α) (t : Tab α) : Tab.find j (Tab.put d k v t) = Tab.find j t := by
  unfold Tab.put
  split
  · exact Tab.find_erase_ne h t
  · exact Tab.find_set_ne h v t

theorem cfgBytes_eq (i j : Nat) (s : State) : cfgBytes i j s = Tab.get (defaultOf i j s) (key i j) s.dict.vals := by
  rw [cfgBytes, Tab.get_eq]
  cases Tab.find (key i j) s.dict.vals <;> rfl

/-- The mark of a stored value leaves the values in force. -/
theorem cfgBytes_markStored (i j k l : Nat) (s : State) : cfgBytes i j (markStored k l s) = cfgBytes i j s := by
  unfold markStored
  (repeat' split) <;> rfl

/-- A value put is in force. -/
theorem cfgBytes_putObj {i j : Nat} (hj : j < 256) (v : List Byte) (s : State) : cfgBytes i j (putObj (key i j) v s) = v := by
  have hi : key i j / 256 = i := show (i * 256 + j) / 256 = i by omega
  have hm : key i j % 256 = j := show (i * 256 + j) % 256 = j by omega
  rw [putObj, hi, hm, cfgBytes_markStored, cfgBytes_eq]
  exact Tab.get_put_same _ _ _ _

/-- Every other value stays in force. -/
theorem cfgBytes_putObj_ne {i j k : Nat} (h : key i j ≠ k) (v : List Byte) (s : State) : cfgBytes i j (putObj k v s) = cfgBytes i j s := by
  have hk : key (k / 256) (k % 256) = k := Nat.div_add_mod' k 256
  rw [putObj, cfgBytes_markStored]
  have hf : Tab.find (key i j) (setVal (k / 256) (k % 256) v s).dict.vals = Tab.find (key i j) s.dict.vals := by
    rw [← hk] at h
    exact find_put_ne h _ _ _
  rw [cfgBytes, cfgBytes, hf]
  rfl

theorem putObj_only (k : ObjKey) (v : List Byte) (s : State) : OnlyIn [.dict] s (putObj k v s) := by
  simp [onlyIn_iff]

/-! ## A plain object -/

section
variable {q : Req} {e : Session} {s : State}

/-- A write of REPAIR_RESERVE passes its checks for a role of operator or above and a value in range. -/
theorem writeFault_reserve (hr : roleMeets e.role .operator = true) (v : List Byte) :
    writeFault false e 0x130A 0 v s = if v.length ≠ 2 then 0x0302#16 else if 200 < leNat v then 0x0301#16 else 0 := by
  have hrole : roleMeets e.role rowReserve.wrole = true := hr
  have hs : specialOk 0x130A 0 v = true := rfl
  have hv : (leNat v : Int) ≤ 200 ↔ ¬ 200 < leNat v := by omega
  simp only [writeFault, objRow_reserve, hrole]
  simp [rowReserve, hasSub, ObjAcc.writes, lenOk, ObjTy.len, typeOk, rangeOk, hs, emptyGroup, groupSub, hv]

/-- A write of REPAIR_RESERVE puts its value. -/
theorem plainWrite_reserve (v : List Byte) : plainWrite q e 0x130A 0 v s = Res.of (putObj (key 0x130A 0) v s) 0 := by
  simp [plainWrite, objRow_reserve, rowReserve, rwWrite, groupDone, groupSub, reached, Res.of]

/-- An OBJECT_WRITE of a plain object that passes its checks. -/
theorem exec_objectWrite_reserve {v : List Byte} (ha : admits q .observer s = true) (he : session q.sess s = some e)
    (hf : writeFault false e 0x130A 0 v s = 0) :
    exec (.objectWrite q 0x130A 0 v) s = .next (answer q 0 [] (putObj (key 0x130A 0) v s)) := by
  calc exec (.objectWrite q 0x130A 0 v) s = execObjectWrite q 0x130A 0 v s := rfl
    _ = objectWrite q 0x130A 0 v s := by
      unfold execObjectWrite
      rw [he]
      exact if_neg (by simpa using hf)
    _ = .next (request q (fun e s => plainWrite q e 0x130A 0 v s) s) := rfl
    _ = _ := by rw [request_admitted _ ha he, plainWrite_reserve]; rfl

theorem readObj_reserve : readObj q.sess e 0x130A 0 s = ⟨s, 0, cfgBytes 0x130A 0 s⟩ := by
  rw [readObj, objRow_reserve]
  rfl

theorem readObj_alarmMap : readObj q.sess e 0x700B 0 s = ⟨s, 0, cfgBytes 0x700B 0 s⟩ := by
  rw [readObj, objRow_alarmMap]
  rfl

theorem domainSub_alarmMap : domainSub 0x700B 0 = true := by decide
theorem domainSub_reserve : domainSub 0x130A 0 = false := by decide

/-- A read transfer of ALARM_MAP opens with its value, while the session has none. -/
theorem initRead_alarmMap : initRead q 0x700B 0 e s =
    if e.transfer.isSome then Res.of s 0x0401 else openRead q.sess (key 0x700B 0) 0 (cfgBytes 0x700B 0 s) s := by
  rw [initRead, objRow_alarmMap]
  simp only [domainSub_alarmMap, readObj_alarmMap]
  rfl

/-- A write transfer of ALARM_MAP opens for up to 4,096 bytes. -/
theorem initWrite_alarmMap {n : Nat} (hr : roleMeets e.role .operator = true) : initWrite q 0x700B 0 n e s =
    if 4096 < n then Res.of s 0x0302 else if e.transfer.isSome then Res.of s 0x0401
    else Res.of (setTransfer q.sess (some ⟨key 0x700B 0, true, n, [], 0⟩) s) 0 := by
  have hrole : roleMeets e.role rowAlarmMap.wrole = true := hr
  rw [initWrite, objRow_alarmMap]
  simp only [hrole]
  simp [rowAlarmMap, hasSub, ObjAcc.writes, domainMax, stageFault, isTxn]

end

/-! ## Transfers -/

section
variable {q : Req} {e : Session} {s : State}

/-- An answer over a transfer that changes: the transfer stands in the session, and the Gleno part alone changes. -/
theorem transfer_does (he : session q.sess s = some e) (x : Option Transfer) {st : Status} {d : List Byte} (hst : st ≠ 0x0402#16) :
    (session q.sess (answer q st d (setTransfer q.sess x s))).map (fun e => e.transfer) = some x ∧
      Answered q st d s (answer q st d (setTransfer q.sess x s)) ∧ OnlyIn [.gleno] s (answer q st d (setTransfer q.sess x s)) := by
  refine ⟨?_, answered_answer _ _ _ _ _ (by simp [setTransfer]), (onlyIn_setTransfer _ _ _).trans (onlyIn_answer _ _ _ _ hst)⟩
  rw [answer_transfer, setTransfer, session_updSession _ he]
  rfl

/-- A transfer of ALARM_MAP that is aborted leaves no transfer. -/
theorem abortTransfer_alarmMap {n : Nat} {x : Transfer} (ht : e.transfer = some x) (hk : x.key = key 0x700B 0) :
    abortTransfer n e s = setTransfer n none s := by
  have hne : ¬ key 0x700B 0 = imageKey := by decide
  rw [abortTransfer, ht]
  exact if_neg (by rw [hk]; exact hne)

/-- The last segment of a read of ALARM_MAP moves no record. -/
theorem readEnds_alarmMap (b : List Byte) : readEnds (key 0x700B 0) b s = s := by
  simp [readEnds, key]

theorem exec_segment {n : BitVec 32} {last : Bool} {d : List Byte} {crc : BitVec 32} (ha : admits q .observer s = true) (he : session q.sess s = some e) :
    exec (.segment q n last d crc) s = .next (answer q (segment q n.toNat last d crc e s).code (segment q n.toNat last d crc e s).data
      (segment q n.toNat last d crc e s).st) :=
  congrArg _ (request_admitted _ ha he)

end

/-! ## The close of a session -/

/-- A closed session is gone with its snapshots; the commits and the answers stay. -/
theorem closeSession_does {n : Nat} {s : State} (h : (session n s).isSome = true) :
    session n (closeSession n s) = none ∧ (closeSession n s).gleno.answers = s.gleno.answers ∧ (∀ x ∈ (closeSession n s).snaps, x.2.owner ≠ n) ∧
      (closeSession n s).commits = s.commits := by
  have hn : ¬ (session n s).isNone := by simp [Option.isSome_iff_ne_none.mp h]
  have hg : (closeSession n s).gleno = { s.gleno with sessions := Tab.erase n s.gleno.sessions } := by
    simp only [closeSession, if_neg hn]
    split <;> simp [foldl_keeps (fun u => u.gleno) (fun u k => (freeCtr_frame k u).2.2.2.2.2.2.2.2.1)]
  have hs : (closeSession n s).snaps = s.snaps.filter (fun x => x.2.owner != n) := by
    simp only [closeSession, if_neg hn]
    split <;> simp [foldl_keeps (fun u => u.snaps) (fun u k => (freeCtr_frame k u).2.2.2.2.2.2.2.1)]
  refine ⟨?_, by rw [hg], fun x hx => ?_, by simp⟩
  · rw [session, hg]
    exact Tab.find_erase_same _ _
  · rw [hs] at hx
    simpa using (List.mem_filter.mp hx).2

theorem count_session (x y n : Nat) (s : State) : session n (count x y s) = session n s := by simp [session]

theorem session_updSession_ne {n m : Nat} (h : n ≠ m) (f : Session → Session) (s : State) : session n (updSession m f s) = session n s := by
  unfold updSession
  split
  · exact Tab.find_set_ne h _ _
  · rfl

/-- A session is open after an answer as it was before. -/
theorem session_answer_isSome (n : Nat) (q : Req) (st : Status) (d : List Byte) (s : State) :
    (session n (answer q st d s)).isSome = (session n s).isSome := by
  by_cases h : n = q.sess
  · subst h
    simpa using congrArg Option.isSome (session_answer (fun _ => ()) (fun _ _ _ => rfl) q st d s)
  · have hu (f : Session → Session) (l : List Answer) :
        session n (updSession q.sess f { s with gleno := { s.gleno with answers := l } }) = session n s := session_updSession_ne h _ _
    simp only [answer]
    split
    · rw [count_session, hu]
    · rw [hu]

/-- Settles O52. -/
theorem dictionaryRequests : Obligations.DictionaryRequests := by
  unfold Obligations.DictionaryRequests
  refine ⟨?_, ?_, ?_, ?_, ?_, ?_, ?_, ?_, ?_, ?_, ?_, ?_, ?_, ?_, ?_, ?_, ?_, ?_, ?_, ?_, ?_, ?_⟩
  · intro q s ha
    obtain ⟨e, he⟩ := admits_session ha
    have step : exec (.objectRead q 0x130A 0) s = .next (answer q 0 (cfgBytes 0x130A 0 s) s) := by
      refine congrArg Host.Outcome.next ((request_admitted _ ha he).trans ?_)
      have hb : readObj q.sess e 0x130A 0 s = ⟨s, 0, cfgBytes 0x130A 0 s⟩ := readObj_reserve
      have hi : (if domainSub 0x130A 0 then Res.of s 0x0302 else readObj q.sess e 0x130A 0 s) = ⟨s, 0, cfgBytes 0x130A 0 s⟩ :=
        (if_neg (by simp [domainSub_reserve])).trans hb
      exact congrArg (fun r : Res => answer q r.code r.data r.st) hi
    exact ⟨_, step, answered_answer _ _ _ _ _ rfl, onlyIn_answer _ _ _ _ (by decide)⟩
  · intro q i sub s ha hi
    exact refused (exec_of_lookupFault ha (lookupFault_index sub.toNat hi) [] 0 (.objectRead q i sub) (by simp))
  · intro q s ha
    obtain ⟨e, he⟩ := admits_session ha
    exact refused (congrArg Host.Outcome.next (request_answers ha he (if_pos (by decide))))
  · intro q s ha
    obtain ⟨e, he⟩ := admits_session ha
    refine refused (congrArg Host.Outcome.next (request_answers ha he ?_))
    have hb : readObj q.sess e 0x1101 0 s = Res.of s 0x0804 := by rw [readObj, objRow_commit]; rfl
    exact (if_neg (by decide)).trans hb
  · intro q n s ha hn
    obtain ⟨e, he, hr⟩ := admits_role ha
    have hv : leNat (leBytes 2 n) = n := leNat_leBytes_two (by omega)
    have step := exec_objectWrite_reserve (admits_observer ha) he (v := leBytes 2 n) (by
      rw [writeFault_reserve hr, if_neg (by simp), hv, if_neg (by omega)])
    generalize hu : putObj (key 0x130A 0) (leBytes 2 n) s = u at step
    have ht := onlyIn_answer q 0 [] u (by decide)
    have hcfg (i j : Nat) : cfgBytes i j (answer q 0 [] u) = cfgBytes i j u := cfgBytes_of_dict (ht .factory (by simp)) (ht .dict (by simp)) i j
    refine ⟨_, step, ?_, fun i j hk => ?_, answered_answer _ _ _ _ _ (by simp [← hu]), ?_⟩
    · rw [hcfg, ← hu, cfgBytes_putObj (by decide)]
    · rw [hcfg, ← hu, cfgBytes_putObj_ne hk]
    · refine OnlyIn.trans (t := u) ?_ (ht.mono (by simp))
      rw [← hu]
      exact (putObj_only _ _ _).mono (by simp)
  · intro q n s ha hn hlt
    obtain ⟨e, he, hr⟩ := admits_role ha
    refine refused (exec_objectWrite_fault (admits_observer ha) he ?_ (by decide))
    refine (writeFault_reserve hr _).trans ?_
    rw [if_neg (by simp), leNat_leBytes_two hlt, if_pos hn]
    rfl
  · intro q v s ha hl
    obtain ⟨e, he, hr⟩ := admits_role ha
    exact refused (exec_objectWrite_fault (admits_observer ha) he ((writeFault_reserve hr _).trans (if_pos hl)) (by decide))
  · intro q v e s ha he hr
    refine refused (exec_objectWrite_fault ha he ?_ (by decide))
    have h : writeFault false e 0x130A 0 v s = 0x0201 := by
      rw [writeFault, objRow_reserve]
      simp [hr, rowReserve, hasSub, ObjAcc.writes, roleMeets, roleRank]
    exact h
  · intro q e s ha he ht hne
    have hi : initRead q 0x700B 0 e s = openRead q.sess (key 0x700B 0) 0 (cfgBytes 0x700B 0 s) s := initRead_alarmMap.trans (if_neg (by simp [ht]))
    have step : exec (.initiateReadTransfer q 0x700B 0) s = _ := exec_initiateReadTransfer ha he
    have hres := congrArg (fun r : Res => answer q r.code r.data r.st) hi
    exact ⟨_, step.trans (congrArg _ hres), answer_openRead he hne (by decide)⟩
  · intro q e s ha he ht
    exact refused (congrArg Host.Outcome.next (request_answers ha he (initRead_alarmMap.trans (if_pos ht))))
  · intro q n e s ha he ht hn
    obtain ⟨e', he', hr⟩ := admits_role ha
    obtain rfl : e = e' := Option.some.inj (he.symm.trans he')
    have step : exec (.initiateWriteTransfer q 0x700B 0 n) s = .next (answer q 0 [] (setTransfer q.sess (some ⟨key 0x700B 0, true, n.toNat, [], 0⟩) s)) := by
      refine congrArg Host.Outcome.next ((request_admitted _ (admits_observer ha) he).trans ?_)
      have hb : initWrite q 0x700B 0 n.toNat e s = Res.of (setTransfer q.sess (some ⟨key 0x700B 0, true, n.toNat, [], 0⟩) s) 0 := by
        rw [initWrite_alarmMap hr, if_neg (by omega), if_neg (by simp [ht])]
      exact congrArg (fun r : Res => answer q r.code r.data r.st) hb
    exact ⟨_, step, transfer_does he _ (by decide)⟩
  · intro q n s ha hn
    obtain ⟨e, he, hr⟩ := admits_role ha
    exact refused (congrArg Host.Outcome.next (request_answers (admits_observer ha) he ((initWrite_alarmMap hr).trans (if_pos hn))))
  · intro q n d crc e x s ha he ht hw hs hk hlt
    have hb : segment q n.toNat false d crc e s = ⟨setTransfer q.sess (some { x with nextSeg := n.toNat + 1 }) s, 0,
        leBytes 4 n.toNat ++ (x.data.drop (512 * n.toNat)).take 512⟩ := by
      have hlast : decide (x.total ≤ segSize * (n.toNat + 1)) = false := decide_eq_false (by unfold segSize; omega)
      simp [segment, ht, hs, hw, readSegment, hlast]
      rfl
    obtain ⟨h1, h2, h3⟩ := transfer_does he (some { x with nextSeg := n.toNat + 1 }) (st := 0)
      (d := leBytes 4 n.toNat ++ (x.data.drop (512 * n.toNat)).take 512) (by decide)
    exact ⟨_, (exec_segment ha he).trans (by rw [hb]), h2, h1, h3⟩
  · intro q n d crc e x s ha he ht hw hs hk hle
    have hb : segment q n.toNat false d crc e s = ⟨setTransfer q.sess none s, 0, leBytes 4 n.toNat ++ (x.data.drop (512 * n.toNat)).take 512⟩ := by
      have hlast : decide (x.total ≤ segSize * (n.toNat + 1)) = true := decide_eq_true (by unfold segSize; omega)
      simp [segment, ht, hs, hw, readSegment, hlast, hk, readEnds_alarmMap]
      rfl
    obtain ⟨h1, h2, h3⟩ := transfer_does he none (st := 0) (d := leBytes 4 n.toNat ++ (x.data.drop (512 * n.toNat)).take 512) (by decide)
    exact ⟨_, (exec_segment ha he).trans (by rw [hb]), h2, h1, h3⟩
  · intro q n d crc e x s ha he ht hw hs hk hl hle
    have hb : segment q n.toNat false d crc e s = Res.of (setTransfer q.sess (some { x with data := x.data ++ d, nextSeg := n.toNat + 1 }) s) 0 := by
      have hne : ¬ x.key = imageKey := by rw [hk]; decide
      simp [segment, ht, hs, hw, writeSegment, segSize, hne, Nat.not_lt.mpr hl, Nat.not_lt.mpr hle]
    obtain ⟨h1, h2, h3⟩ := transfer_does he (some { x with data := x.data ++ d, nextSeg := n.toNat + 1 }) (st := 0) (d := []) (by decide)
    exact ⟨_, (exec_segment ha he).trans (by rw [hb]; rfl), h2, h1, h3⟩
  · intro q n last d crc e x s ha he ht hs hk
    have hb : segment q n.toNat last d crc e s = Res.of (setTransfer q.sess none s) 0x0808 := by
      rw [segment, ht]
      exact (if_pos (Ne.symm hs)).trans (by rw [abortTransfer_alarmMap ht hk]; rfl)
    obtain ⟨h1, h2, h3⟩ := transfer_does he none (st := 0x0808) (d := []) (by decide)
    exact ⟨_, (exec_segment ha he).trans (by rw [hb]; rfl), h2, h1, h3⟩
  · intro q e x s ha he ht hk
    have step : exec (.abortTransfer q) s = .next (answer q 0x0808 [] (setTransfer q.sess none s)) := by
      refine congrArg Host.Outcome.next ((request_admitted _ ha he).trans ?_)
      simp only [ht, Option.isNone_some, Bool.false_eq_true, if_false, abortTransfer_alarmMap ht hk]
      rfl
    obtain ⟨h1, h2, h3⟩ := transfer_does he none (st := 0x0808) (d := []) (by decide)
    exact ⟨_, step, h2, h1, h3⟩
  · intro q e s ha he ht
    exact refused (congrArg Host.Outcome.next (request_answers ha he (if_pos (by simp [ht]))))
  · intro n e x s he ht hk
    have step : exec (.transferTimeout n) s = .next (setTransfer n.toNat none s) := by
      simp only [exec, execTransferTimeout, he, abortTransfer_alarmMap ht hk]
    exact ⟨_, step, session_updSession _ he, onlyIn_setTransfer _ _ _⟩
  · intro q n s ha hn
    have step : exec (.sessionClose q n) s = .next (closeSession n.toNat (answer q 0 [] s)) := by
      refine congrArg Host.Outcome.next (requestThen_acts _ ha ?_)
      exact if_pos hn
    obtain ⟨h1, h2, h3, h4⟩ := closeSession_does (n := n.toNat) (s := answer q 0 [] s) (by rw [session_answer_isSome, hn])
    exact ⟨_, step, h1, h2.trans (answered_answer _ _ _ _ _ rfl), h3, h4.trans (by simp)⟩
  · intro q n s ha hn
    have hc : (if (session n.toNat s).isSome then 0 else 0x0301#16) = 0x0301#16 := if_neg (by simp [hn])
    have step : exec (.sessionClose q n) s = .next (answer q 0x0301 [] s) := by
      refine congrArg Host.Outcome.next ((requestThen_refuses _ ha ?_).trans ?_)
      · rw [hc]; decide
      · rw [hc]
        rfl
    exact refused step
  · intro q s ha
    obtain ⟨e, he⟩ := admits_session ha
    have step : exec (.closeSession q) s = .next (closeSession q.sess (answer q 0 [] s)) := by
      refine congrArg Host.Outcome.next ((if_pos ha).trans ?_)
      rw [request_answers ha he rfl]
    obtain ⟨h1, h2, -, h4⟩ := closeSession_does (n := q.sess) (s := answer q 0 [] s) (by rw [session_answer_isSome, he]; rfl)
    exact ⟨_, step, h1, h2.trans (answered_answer _ _ _ _ _ rfl), h4.trans (by simp)⟩

end Sys2Proof.Machine
end

section
/-!
SUPPORT. Sessions, completed requests and sealed records of the mate: what each leaves.
-/
namespace Sys2Proof.Machine

/-! ## Sessions under a change of one of them -/

theorem session_updSession_map {α : Type} (f : Session → α) {g : Session → Session} (hf : ∀ e, f (g e) = f e) (n m : Nat) (s : State) :
    (session n (updSession m g s)).map f = (session n s).map f := by
  by_cases h : n = m
  · subst h
    cases he : session n s with
    | none => simp [updSession, he]
    | some e => simp [session_updSession _ he, hf]
  · rw [session_updSession_ne h]

@[simp] theorem updSession_completions (n : Nat) (g : Session → Session) (s : State) :
    (updSession n g s).gleno.completions = s.gleno.completions := by
  unfold updSession
  split <;> rfl

theorem isPending_eq (q : Req) (s : State) : isPending q s = ((session q.sess s).map (fun e => e.pendingIds)).any (fun l => l.contains q.id) := by
  cases h : session q.sess s <;> simp [isPending, h]

theorem isPending_of_gleno {s t : State} (h : t.gleno = s.gleno) (q : Req) : isPending q t = isPending q s := by
  simp [isPending, session, h]

/-- A change of a session that leaves its pending requests. -/
theorem isPending_updSession {g : Session → Session} (hg : ∀ e, (g e).pendingIds = e.pendingIds) (q : Req) (n : Nat) {s : State} :
    isPending q (updSession n g s) = isPending q s := by
  rw [isPending_eq, isPending_eq, session_updSession_map _ hg]

/-! ## Completed requests -/

section
variable {q : Req} {s : State}

/-- A pending request completes once, and nothing but the Gleno part changes. -/
theorem complete_does (st : Status) (h : isPending q s = true) :
    (complete q st [] s).gleno.completions = s.gleno.completions ++ [⟨q.sess, q.id, st, []⟩] ∧ OnlyIn [.gleno] s (complete q st [] s) := by
  refine ⟨?_, by simp [onlyIn_iff]⟩
  rw [complete, if_neg (by simp [h])]
  unfold updSession
  dsimp only
  split <;> rfl

theorem session_complete {α : Type} (f : Session → α) (hf : ∀ e k p, f { e with kept := k, pendingIds := p } = f e) (n : Nat) (st : Status)
    (d : List Byte) : (session n (complete q st d s)).map f = (session n s).map f := by
  unfold complete
  split
  · rfl
  · exact session_updSession_map f (fun e => hf e _ _) _ _ _

end

/-! ## Records of the mate -/

/-- The window of SEQs after a record of the mate is accepted (R207). -/
def received (w : Nat × BitVec 64) (s : State) : State := updPair (fun p => { p with rxHigh := some w.1, rxMask := w.2 }) s

theorem received_only (w : Nat × BitVec 64) (s : State) : OnlyIn [.pair] s (received w s) := by
  simp [received, onlyIn_iff]

/-- A record that verifies is acted upon after its SEQ is noted. -/
theorem pairSealed_verified {x : Seal} {s : State} (h : Verifies x s) (act : State → State) : ∃ w, pairSealed x act s = act (received w s) := by
  obtain ⟨hp, hok, hseq⟩ := h
  obtain ⟨w, hw⟩ := Option.isSome_iff_exists.mp hseq
  exact ⟨w, by simp [pairSealed, hp, hok, hw, received]⟩

/-- A command that carries a record of the mate that verifies. -/
theorem exec_sealed {c : Instr} {x : Seal} {s : State} {act : State → State} (step : exec c s = .next (pairSealed x act s)) (h : Verifies x s) :
    ∃ w, exec c s = .next (act (received w s)) := by
  obtain ⟨w, hw⟩ := pairSealed_verified h act
  exact ⟨w, step.trans (congrArg _ hw)⟩

@[simp] theorem paired_received (w : Nat × BitVec 64) (s : State) : paired (received w s) = paired s := rfl

/-- A frame to a paired mate is one emission, and takes the next SEQ of the pair. -/
theorem sendPair_does (f : List Int) {s : State} (h : paired s = true) :
    (sendPair f s).wire.length = s.wire.length + 1 ∧ OnlyIn [.pair, .wire] s (sendPair f s) := by
  unfold sendPair
  split
  · exact ⟨by simp [sendShroud, emit, nextSeq], by simp [onlyIn_iff]⟩
  · rw [if_pos h]
    exact ⟨by simp [emit, nextSeq], by simp [onlyIn_iff, nextSeq]⟩

theorem sendPair_only (f : List Int) (s : State) : OnlyIn [.pair, .wire] s (sendPair f s) := by
  unfold sendPair
  split
  · simp [onlyIn_iff]
  · split
    · simp [onlyIn_iff, nextSeq]
    · exact OnlyIn.refl _ _

/-- A pair that diverges says so and raises its alarm. -/
theorem setDiverged_does (s : State) : (setDiverged s).commits = { s.commits with pairState := 2 } ∧ Stands .pairDiverged noInst (setDiverged s) := by
  unfold setDiverged
  dsimp only
  split
  · exact ⟨rfl, by assumption⟩
  · exact ⟨by simp, standing_raise _ _ _⟩

end Sys2Proof.Machine
end

section
/-!
PROOFS. What the checks of a commit read: not the SEQ window of the mate, so the mate's checks of a received commit are those of its state before
the record.
-/
namespace Sys2Proof.Machine

/-! ## The parts that the draw of a commit reads -/

/-- Two states agree on what the draw of staged values reads and books. -/
def Alike (s t : State) : Prop :=
  t.factory = s.factory ∧ t.dict = s.dict ∧ t.power = s.power ∧ t.optics = s.optics ∧ t.cal.runs = s.cal.runs

theorem Alike.trans {s t u : State} (h : Alike s t) (k : Alike t u) : Alike s u :=
  ⟨k.1.trans h.1, k.2.1.trans h.2.1, k.2.2.1.trans h.2.2.1, k.2.2.2.1.trans h.2.2.2.1, k.2.2.2.2.trans h.2.2.2.2⟩

theorem Alike.symm {s t : State} (h : Alike s t) : Alike t s := ⟨h.1.symm, h.2.1.symm, h.2.2.1.symm, h.2.2.2.1.symm, h.2.2.2.2.symm⟩

theorem Alike.refl (s : State) : Alike s s := ⟨rfl, rfl, rfl, rfl, rfl⟩

/-- A step that leaves those parts keeps the states alike. -/
theorem Alike.through {s t : State} {f : State → State} (h : Alike s t) (hf : ∀ u, Alike u (f u)) : Alike (f s) (f t) :=
  ((hf s).symm.trans h).trans (hf t)

theorem Alike.ite {s u v : State} {p : Prop} [Decidable p] (hu : Alike s u) (hv : Alike s v) : Alike s (if p then u else v) := by
  split <;> assumption

/-! ## Steps that leave those parts -/

theorem detFollow_alike (c : Nat) (s : State) : Alike s (detFollow c s) := by
  refine ⟨by simp, by simp, by simp, by simp, ?_⟩
  unfold detFollow detLost stepSlew updDet
  dsimp only
  (repeat' split) <;> rfl

theorem relaneAsym_alike (c : Nat) (s : State) : Alike s (relaneAsym c s) := by
  refine ⟨by simp, by simp, by simp, by simp, ?_⟩
  unfold relaneAsym stepSlew
  split <;> rfl

theorem makeDue_alike (k c : Nat) (s : State) : Alike s (makeDue k c s) := by
  refine ⟨by simp, by simp, by simp, by simp, ?_⟩
  unfold makeDue
  split <;> rfl

theorem overrunAt_alike (c : Nat) (s : State) : Alike s (overrunAt c s) := ⟨by simp, by simp, by simp, by simp, by simp⟩
theorem gateTrim_alike (c : Nat) (s : State) : Alike s (gateTrim c s) := ⟨by simp, by simp, by simp, by simp, by simp⟩
theorem freezeAsym_alike (c : Nat) (s : State) : Alike s (freezeAsym c s) := ⟨by simp, by simp, by simp, by simp, by simp⟩
theorem enablePort_alike (c i : Nat) (s : State) : Alike s (enablePort c i s) := ⟨by simp, by simp, by simp, by simp, by simp⟩

/-! ## Steps that read those parts -/

section
variable {s t : State} (h : Alike s t)
include h

theorem Alike.cfg (i j : Nat) : cfg i j t = cfg i j s := cfg_of_dict h.1 h.2.1 i j
theorem Alike.cod (c : Nat) : cod c t = cod c s := cod_of_optics h.2.2.2.1 c
theorem Alike.opt (c : Nat) : opt c t = opt c s := opt_of_optics h.2.2.2.1 c

theorem Alike.setEntry (c i st u : Nat) : Alike (setEntry c i st u s) (setEntry c i st u t) := by
  obtain ⟨hf, hd, hp, ho, hr⟩ := h
  exact ⟨hf, hd, by simp only [Sys2Proof.Machine.setEntry, hp], ho, hr⟩

theorem Alike.updCod (c : Nat) (f : Coding → Coding) : Alike (updCod c f s) (updCod c f t) := by
  obtain ⟨hf, hd, hp, ho, hr⟩ := h
  exact ⟨hf, hd, hp, by simp only [Sys2Proof.Machine.updCod, ho], hr⟩

theorem Alike.foldl {α : Type} {f g : State → α → State} {l : List α} (hfg : ∀ a ∈ l, ∀ u v, Alike u v → Alike (f u a) (g v a)) :
    Alike (l.foldl f s) (l.foldl g t) := by
  induction l generalizing s t with
  | nil => exact h
  | cons a l ih => exact ih (hfg a (by simp) _ _ h) fun b hb => hfg b (by simp [hb])

theorem Alike.bookLanes (c : Nat) : Alike (bookLanes c s) (bookLanes c t) := by
  unfold Sys2Proof.Machine.bookLanes
  simp only [h.cod]
  exact (h.setEntry _ _ _ _).foldl fun _ _ _ _ huv => huv.setEntry _ _ _ _

theorem Alike.setCod (c : Nat) (f : Coding → Coding) : Alike (setCod c f s) (setCod c f t) := (h.updCod c f).bookLanes c

theorem Alike.chanTo (c n : Nat) : Alike (chanTo c n s) (chanTo c n t) := by
  have hd := (h.setCod c (Coding.down n)).through (detFollow_alike c)
  unfold Sys2Proof.Machine.chanTo
  simp only [h.cod]
  split
  · exact hd.through (f := fun u => raise .channelDown c (count 0x2110 1 (setRc (chanAddr c 0x110) 1 u))) fun u =>
      ⟨by simp, by simp, by simp, by simp, by simp⟩
  · exact hd

theorem Alike.endRun (k i : Nat) : Alike (endRun k i s) (endRun k i t) := by
  obtain ⟨hf, hd, hp, ho, hr⟩ := h
  have hu : Alike { s with cal := { s.cal with runs := s.cal.runs.filter (fun r => !(r.kind == k && r.inst == i)) } }
      { t with cal := { t.cal with runs := t.cal.runs.filter (fun r => !(r.kind == k && r.inst == i)) } } :=
    ⟨hf, hd, hp, ho, by rw [hr]⟩
  have he := hu.setEntry cCal (calKey k i) 0 0
  unfold Sys2Proof.Machine.endRun
  dsimp only
  split
  · exact he.through fun u => ⟨rfl, rfl, rfl, rfl, rfl⟩
  · split
    · exact he.bookLanes _
    · exact he

omit h in
theorem discardRun_alike (n : Nat) (r : CalRun) (s : State) : Alike (Machine.endRun r.kind r.inst s) (discardRun n r s) := by
  unfold discardRun logCal
  exact ⟨by simp, by simp, by simp, by simp, by simp⟩

theorem Alike.discardRuns (n : Nat) (f : CalRun → Bool) : Alike (discardRuns n f s) (discardRuns n f t) := by
  unfold Machine.discardRuns
  rw [h.2.2.2.2]
  exact h.foldl fun r _ u v huv => ((discardRun_alike n r u).symm.trans (huv.endRun r.kind r.inst)).trans (discardRun_alike n r v)

theorem Alike.portsDown (c : Nat) : Alike (portsDown c s) (portsDown c t) :=
  (((h.through (enablePort_alike c 0)).through (enablePort_alike c 1)).through (freezeAsym_alike c)).discardRuns _ _

end

/-- The changes of a channel that stays up leave the parts that a draw reads. -/
theorem settleChan_alike {c : Nat} {s0 s : State} (h : ¬ ((cod c s0).stage = 6 ∧ (cod c s).stage ≠ 6)) : Alike s (settleChan c s0 s) := by
  unfold settleChan
  rw [if_neg h]
  have h2 := Alike.ite (p := txRef c s0 = txRef c s ∧ rxRef c s0 = rxRef c s) (Alike.refl s) (relaneAsym_alike c s)
  have h3 := Alike.ite (p := (cod c s).stage = 6 ∧ !fullWidth c s0 ∧ fullWidth c s) (h2.trans (makeDue_alike 2 c _)) h2
  have h4 := Alike.ite (p := (cod c s).abrupt ∧ laneCount (cod c s).txLanes < laneCount (cod c s0).txLanes) (h3.trans (overrunAt_alike c _)) h3
  have h5 := Alike.ite (p := (cod c s).txLanes = (cod c s0).txLanes) h4 (h4.trans (gateTrim_alike c _))
  exact h5.trans (freezeAsym_alike c _)

theorem Alike.settleChan {s0 t0 s t : State} (h0 : Alike s0 t0) (h : Alike s t) (c : Nat) : Alike (settleChan c s0 s) (settleChan c t0 t) := by
  by_cases hd : (Machine.cod c s0).stage = 6 ∧ (Machine.cod c s).stage ≠ 6
  · have hd' : (Machine.cod c t0).stage = 6 ∧ (Machine.cod c t).stage ≠ 6 := by rwa [h0.cod, h.cod]
    rw [Machine.settleChan, if_pos hd, Machine.settleChan, if_pos hd']
    exact h.portsDown c
  · have hd' : ¬ ((Machine.cod c t0).stage = 6 ∧ (Machine.cod c t).stage ≠ 6) := by rwa [h0.cod, h.cod]
    exact ((settleChan_alike hd).symm.trans h).trans (settleChan_alike hd')

theorem Alike.loopSettle {s t : State} (h : Alike s t) (c : Nat) : Alike (loopSettle c s) (loopSettle c t) := by
  have hl : looped c t = looped c s := by simp only [looped, h.cfg]
  unfold Machine.loopSettle
  simp only [h.cfg, h.cod, h.opt, hl]
  refine Alike.settleChan h (Alike.setEntry ?_ _ _ _ _) c
  split
  · refine Alike.setCod ?_ _ _
    split
    · exact h
    · exact h.chanTo _ _
  · split
    · exact h.chanTo _ _
    · exact h

theorem Alike.takeMacsec {s t : State} (h : Alike s t) (n : Nat) : Alike (takeMacsec n s) (takeMacsec n t) := by
  have hp : (fun c => macPolicy c t != 0) = fun c => macPolicy c s != 0 := by simp only [macPolicy, h.cfg]
  have hu : unitsOf cMacsec n t = unitsOf cMacsec n s := by simp only [unitsOf, h.2.2.1]
  unfold Machine.takeMacsec
  simp only [hp, hu, h.2.2.1]
  split
  · split
    · split <;> exact h.setEntry _ _ _ _
    · exact h
  · exact h.setEntry _ _ _ _

/-- The effect of a value that draws. -/
theorem Alike.valueEffect {s t : State} (h : Alike s t) {k : ObjKey} (hk : k / 256 ∈ [0x2108, 0x2109, 0x6015]) (a : Nat) (l : List Staged) (u v : State) :
    Alike (valueEffect a l u s k) (valueEffect a l v t k) := by
  unfold Machine.valueEffect
  simp only [List.mem_cons, List.not_mem_nil, or_false] at hk
  obtain hk | hk | hk := hk <;> simp only [hk]
  · exact h.loopSettle _
  · exact h.loopSettle _
  · exact h.takeMacsec _

/-! ## The checks over a received record -/

theorem markStored_received (w : Nat × BitVec 64) (i j : Nat) (s : State) : markStored i j (received w s) = received w (markStored i j s) := by
  unfold markStored
  cases objRow i with
  | none => rfl
  | some r =>
    dsimp only
    by_cases h : (r.stored && !s.dict.pendSave.contains (key i j)) = true
    · rw [if_pos h, if_pos (show (r.stored && !(received w s).dict.pendSave.contains (key i j)) = true from h)]
      rfl
    · rw [if_neg h, if_neg (show ¬ (r.stored && !(received w s).dict.pendSave.contains (key i j)) = true from h)]

/-- Values put, and the SEQ window of the mate. -/
theorem putAll_received (w : Nat × BitVec 64) (l : List Staged) (s : State) : putAll l (received w s) = received w (putAll l s) := by
  unfold putAll
  induction l generalizing s with
  | nil => rfl
  | cons v l ih =>
    have hv : putObj v.key v.value (received w s) = received w (putObj v.key v.value s) :=
      markStored_received w (v.key / 256) (v.key % 256) (setVal (v.key / 256) (v.key % 256) v.value s)
    rw [List.foldl_cons, hv, ih]
    rfl

theorem drawOf_received (w : Nat × BitVec 64) (l : List Staged) (s : State) : drawOf l (received w s) = drawOf l s := by
  have h (l2 : List Staged) : Alike (putAll l2 s) (putAll l2 (received w s)) := by
    rw [putAll_received]
    exact ⟨rfl, rfl, rfl, rfl, rfl⟩
  unfold drawOf
  have hb : ∀ u v : State, Alike u v → booked v = booked u := fun u v huv => by rw [booked, booked, huv.2.2.1]
  refine congrArg (· - booked s) (hb _ _ ((h _).foldl fun k hk u v huv => huv.valueEffect ?_ _ _ _ _))
  obtain ⟨x, hx, rfl⟩ := List.mem_map.mp hk
  simpa using (List.mem_filter.mp hx).2

theorem setsFault_received (w : Nat × BitVec 64) (l : List Staged) (s : State) : setsFault l (received w s) = setsFault l s := by
  unfold setsFault
  rw [putAll_received]
  rfl

theorem commitFault_received (w : Nat × BitVec 64) (sets : List Nat) (l : List Staged) (b : Bool) (s : State) :
    commitFault sets l b (received w s) = commitFault sets l b s := by
  have hd : drawOk l (received w s) = drawOk l s := by
    unfold drawOk
    rw [drawOf_received]
    rfl
  unfold commitFault
  rw [setsFault_received, hd]
  rfl

/-- The mate's checks of a received commit are those of the state before its record. -/
theorem mateFault_received (w : Nat × BitVec 64) (g : List (Nat × BitVec 32)) (l : List Staged) (s : State) :
    mateFault g l (received w s) = mateFault g l s := by
  unfold mateFault
  rw [commitFault_received]
  rfl

end Sys2Proof.Machine
end

section
/-!
PROOFS. Commits (chapters 5 and 17): what scheduling, recording and ending an exchange leave, then the commands.
-/
namespace Sys2Proof.Machine

/-! ## Records of commits -/

/-- The newest commit record of a session. -/
def newest (n : Nat) (s : State) : Option CommitRec := (session n s).bind (fun e => e.results.head?)

theorem newest_of_results {n : Nat} {s t : State}
    (h : (session n t).map (fun e => e.results) = (session n s).map (fun e => e.results)) : newest n t = newest n s := by
  unfold newest
  cases hs : session n s <;> cases ht : session n t <;> simp_all

theorem newest_answer (q : Req) (st : Status) (d : List Byte) (s : State) : newest q.sess (answer q st d s) = newest q.sess s :=
  newest_of_results (session_answer (fun e => e.results) (fun _ _ _ => rfl) q st d s)

/-- A recorded commit is the newest of an open session. -/
theorem newest_recordCommit {n : Nat} {s : State} (r : CommitRec) (h : (session n s).isSome = true) : newest n (recordCommit n r s) = some r := by
  obtain ⟨e, he⟩ := Option.isSome_iff_exists.mp h
  rw [newest, recordCommit, session_updSession _ he]
  rfl

theorem recordCommit_only (n : Nat) (r : CommitRec) (s : State) : OnlyIn [.gleno] s (recordCommit n r s) := updSession_only _ _ _

/-! ## The schedule -/

/-- PAIR_STATE as the scheduled commits give it, unless it says diverged or unpaired. -/
def judged (n : Nat) (l : List Commit) : Nat := if n = 2 ∨ n = 3 then n else if l.any (fun c => c.pair) then 1 else 0

theorem judgePairState_eq (s : State) :
    judgePairState s = { s with commits := { s.commits with pairState := judged s.commits.pairState s.commits.scheduled } } := by
  unfold judgePairState judged
  dsimp only
  split <;> rfl

theorem judgePairState_gleno (s : State) : (judgePairState s).gleno = s.gleno := by rw [judgePairState_eq]

/-- A scheduled commit joins the schedule, and its values leave the staging area of its session. -/
theorem schedule_commits (c : Commit) (s : State) : (schedule c s).commits = { s.commits with
    scheduled := s.commits.scheduled ++ [c], pairState := judged s.commits.pairState (s.commits.scheduled ++ [c]) } := by
  simp [schedule, judgePairState_eq]

theorem schedule_only (c : Commit) (s : State) : OnlyIn [.commits, .gleno] s (schedule c s) := by
  simp [schedule, judgePairState_eq, onlyIn_iff]

/-- The session of a scheduled commit. -/
theorem session_schedule {c : Commit} {e : Session} {s : State} (h : session c.sess s = some e) : session c.sess (schedule c s) = some { e with
    staged := e.staged.filter (fun v => !c.values.contains v), recGen := e.recGen.filter (fun g => !c.sets.contains g.1), commitAt := Time96.zero } := by
  rw [schedule, session_of_gleno (t := judgePairState _) (by rw [judgePairState_eq])]
  exact session_updSession _ (s := { s with commits := _ }) h

theorem isPending_schedule (q : Req) (c : Commit) (s : State) : isPending q (schedule c s) = isPending q s := by
  rw [schedule, isPending_of_gleno (judgePairState_gleno _), isPending_updSession]
  · rfl
  · exact fun _ => rfl

/-- A scheduled commit of the mate, whose session is none of this module's. -/
theorem schedule_absent {c : Commit} {s : State} (h : session c.sess s = none) : OnlyIn [.commits] s (schedule c s) := by
  have hu (f : Session → Session) (u : State) (hg : u.gleno = s.gleno) : updSession c.sess f u = u := by
    rw [updSession, session_of_gleno hg, h]
  rw [schedule, hu _ _ (by rfl), judgePairState_eq]
  simp [onlyIn_iff]

/-- A commit that leaves the schedule. -/
theorem unschedule_eq (c : Commit) (s : State) : unschedule c s = { s with commits := { s.commits with
    scheduled := s.commits.scheduled.erase c, pairState := judged s.commits.pairState (s.commits.scheduled.erase c) } } := by
  simp [unschedule, judgePairState_eq]

theorem unschedule_gleno (c : Commit) (s : State) : (unschedule c s).gleno = s.gleno := by rw [unschedule_eq]

/-! ## COMMIT (R162) -/

section
variable {q : Req} {m : BitVec 32} {e : Session} {s : State}

theorem exec_commit {u : State} {st : Status} (ha : admits q .operator s = true) (he : session q.sess s = some e)
    (hb : commit q m e s = Res.of u st) : exec (.commit q m) s = .next (answer q st [] u) := by
  refine exec_request (body := commit q m) rfl ha fun e' he' => ?_
  obtain rfl : e = e' := Option.some.inj (he.symm.trans he')
  exact hb

/-- A commit that a plain check refuses is recorded with its status, and does nothing else. -/
theorem commit_refused {st : Status} (he : session q.sess s = some e) (hne : namedSets m e ≠ [])
    (hf : commitFault (namedSets m e) (valuesOf (namedSets m e) e.staged) (gensHold (namedSets m e) (valuesOf (namedSets m e) e.staged) e s) s =
      some (Failed.plain st)) (hst : st ≠ 0x0601#16) :
    ∃ u, commit q m e s = Res.of u st ∧ OnlyIn [.gleno] s u ∧ u.gleno.answers = s.gleno.answers ∧
      (session q.sess u).map (fun e => e.staged) = some e.staged ∧ (newest q.sess u).map (fun r => (r.status, r.mask)) = some (st, m) := by
  refine ⟨recordCommit q.sess (resultRec (commitOf q m (namedSets m e) e s) Time96.zero st 0 0 0) s, ?_, recordCommit_only _ _ _, ?_, ?_, ?_⟩
  · unfold commit
    have hne' : ¬ (commitOf q m (namedSets m e) e s).sets.isEmpty = true := by simpa [commitOf] using hne
    have hf' : commitFault (commitOf q m (namedSets m e) e s).sets (commitOf q m (namedSets m e) e s).values
        (gensHold (commitOf q m (namedSets m e) e s).sets (commitOf q m (namedSets m e) e s).values e s) s = some (Failed.plain st) := hf
    rw [if_neg hne', hf']
    have hc : ¬ (Failed.plain st).code = 0x0601#16 := hst
    simp only [if_neg hc]
    rfl
  · simp [recordCommit]
  · rw [recordCommit, session_updSession _ he]
    rfl
  · rw [newest_recordCommit _ (by simp [he])]
    rfl

end

/-! ## COMMIT_APPLY and COMMIT_ABORT (R164, R165) -/

/-- A commit of one setting that has no effect beyond its value applies: the value, the generation of its set, its record. -/
theorem applyCommit_furl {c : Commit} {n : Chan} {v : List Byte} {s : State} (hs : c.sets = [2]) (hv : c.values = [⟨key 0x2104 (n + 1), v, false⟩])
    (hp : c.pair = false) (hi : inScope 2 s = false) :
    applyCommit c s = recordCommit c.sess (resultRec c (timeA s) 0 0 0 0) (raiseGens [2] (putObj (key 0x2104 (n + 1)) v (unschedule c s))) := by
  have hn := n.isLt
  have hk : key 0x2104 (n + 1) / 256 = 0x2104 := show (0x2104 * 256 + (n.val + 1)) / 256 = _ by omega
  have ha (a : Nat) (u : State) : applyValues a [2] [⟨key 0x2104 (n + 1), v, false⟩] u = putObj (key 0x2104 (n + 1)) v u := by
    simp [applyValues, putAll, setEffect, valueEffect, hk]
  generalize hu : recordCommit c.sess (resultRec c (timeA s) 0 0 0 0) (raiseGens [2] (putObj (key 0x2104 (n + 1)) v (unschedule c s))) = u
  have hcfg : cfg 0x1107 0 u = cfg 0x1107 0 s := by
    have hne : key 0x1107 0 ≠ key 0x2104 (n + 1) := show 0x1107 * 256 + 0 ≠ 0x2104 * 256 + (n.val + 1) by omega
    rw [← hu, cfg, cfgBytes_of_dict (s := putObj (key 0x2104 (n + 1)) v (unschedule c s)) (by simp [recordCommit, raiseGens]) (by simp [recordCommit, raiseGens]),
      cfgBytes_putObj_ne hne, unschedule_eq]
    rfl
  have hscope : inScope 2 u = false := by rwa [inScope, hcfg]
  have hl : localApplied c u = u := by simp [localApplied, hs, hscope]
  unfold applyCommit
  simp only [hs, hv, ha, hp]
  rw [hu]
  exact hl

/-- COMMIT_ABORT of a session with no exchange and no pair commit: its staged values go, then its commits are cancelled one by one. -/
theorem commitAbort_local {q : Req} {m : BitVec 32} {s : State} (hx : s.commits.exchange = none)
    (hp : (s.commits.scheduled.filter (abortHits q.sess m)).filter (fun c => c.pair) = []) :
    commitAbort q m s = Res.of (((s.commits.scheduled.filter (abortHits q.sess m)).filter (fun c => !c.pair)).foldl cancelLocal
      (updSession q.sess (unstage m) s)) 0 := by
  have hc (l : List Commit) (u : State) (hu : u.commits.exchange = none) : (l.foldl cancelLocal u).commits.exchange = none := by
    rw [foldl_keeps (fun u => u.commits.exchange) (fun u c => ?_)]
    · exact hu
    · simp [cancelLocal, recordCommit, unschedule_eq]
  have ha (u : State) (hu : u.commits.exchange = none) : abortExchange q.sess m u = u := by rw [abortExchange, hu]
  unfold commitAbort
  simp only [hp]
  rw [ha _ (hc _ _ (by simpa using hx))]
  rfl

/-! ## Exchanges with the mate (R168) -/

theorem session_of_isPending {q : Req} {s : State} (h : isPending q s = true) : (session q.sess s).isSome = true := by
  cases hs : session q.sess s <;> simp_all [isPending]

theorem endExchange_commits (s : State) : (endExchange s).commits = { s.commits with exchange := none } := by
  rw [endExchange, sendPair_only _ _ .commits (by simp)]

theorem endExchange_gleno (s : State) : (endExchange s).gleno = s.gleno := sendPair_only _ _ .gleno (by simp)

/-- An exchange that fails: it ends, its COMMIT completes with 0x0809, and its record is the newest. -/
theorem exchangeFailed_does (x : PairExchange) (idx sub : Nat) (mate : BitVec 16) {s : State} (h : isPending x.req s = true) :
    (exchangeFailed x idx sub mate s).commits = { s.commits with exchange := none } ∧ Completed x.req 0x0809 s (exchangeFailed x idx sub mate s) ∧
      newest x.req.sess (exchangeFailed x idx sub mate s) = some (resultRec x.commit Time96.zero 0x0809 idx sub mate) := by
  have hp : isPending x.req (endExchange s) = true := (isPending_of_gleno (endExchange_gleno s) _).trans h
  obtain ⟨hc, ho⟩ := complete_does 0x0809#16 hp
  have hs : (session x.req.sess (complete x.req 0x0809#16 [] (endExchange s))).isSome = true := by
    have hm := session_complete (fun _ => ()) (fun _ _ _ => rfl) (q := x.req) (s := endExchange s) x.req.sess 0x0809#16 []
    have he := congrArg Option.isSome hm
    rw [Option.isSome_map, Option.isSome_map] at he
    exact he.trans (session_of_isPending hp)
  refine ⟨?_, ?_, newest_recordCommit _ hs⟩
  · rw [exchangeFailed, recordCommit_only _ _ _ .commits (by simp), ho .commits (by simp), endExchange_commits]
  · unfold Completed
    rw [endExchange_gleno] at hc
    simpa [exchangeFailed, recordCommit] using hc

/-- A mate that passed: the commit of side B is scheduled at its instant, and its COMMIT completes. -/
theorem matePassed_eq {x : PairExchange} {number : BitVec 32} {s : State} (hg : x.commit.given = false) (hb : sideB s = true) :
    ∃ f, matePassed x number s = complete x.req 0 [] (schedule { x.commit with
      at_ := some (max (domA s + 2 * lsbPerMs) (lsbOf x.commit.requested + prepTime x.commit.values)), pairNo := number }
      (sendPair f { s with commits := { s.commits with exchange := none, pairCounter := number } })) := by
  simp only [matePassed, hg, hb, Bool.false_eq_true, false_and, if_false, if_true]
  exact ⟨_, rfl⟩

/-! ## PAIR_SCOPE (R167) -/

/-- PAIR_SCOPE put in force. -/
theorem takeScope_does (v : BitVec 32) (s : State) :
    cfgBytes 0x1107 0 (takeScope v s) = leBytes 4 v.toNat ∧ OnlyIn [.dict] s (takeScope v s) :=
  ⟨cfgBytes_putObj (by decide) _ _, putObj_only _ _ _⟩

/-- A checked write of PAIR_SCOPE where no mate is away: it answers what the write gives. -/
theorem exec_pairScopeWrite {q : Req} {v : BitVec 32} {e : Session} {s u : State} {st : Status} (ha : admits q .custodian s = true)
    (he : session q.sess s = some e) (hn : (matePresent s && s.commits.scopeEx.isNone && mateAway s) = false)
    (hf : writeFault false e 0x1107 0 (leBytes 4 v.toNat) s = 0) (hb : pairScope q v s = Res.of u st) :
    exec (.pairScopeWrite q v) s = .next (answer q st [] u) := by
  refine congrArg Host.Outcome.next ?_
  have hr : request q (fun e s => if writeFault false e 0x1107 0 (leBytes 4 v.toNat) s ≠ 0 then Res.of s (writeFault false e 0x1107 0 (leBytes 4 v.toNat) s)
      else pairScope q v s) s = answer q st [] u := by
    rw [request_admitted _ (admits_observer ha) he]
    simp only [hf, ne_eq, not_true_eq_false, if_false, hb]
    rfl
  simp only [pairScopeRequest, hn, hr, Bool.false_and, Bool.false_eq_true, if_false]

/-! ## The image of a resynchronisation (R532) -/

/-- Where an image frees no entry, none drains. -/
theorem absentDrain_of_frees {e : Nat} {old new : Tab Row} (h : old.any (fun r => r.2.st == .live && (row r.1 new).st == .free) = false) :
    absentDrain e old new = new := by
  have hf : old.filter (fun r => r.2.st == .live && (row r.1 new).st == .free) = [] := by
    rw [List.filter_eq_nil_iff]
    exact fun r hr => by simpa using List.any_eq_false.mp h r hr
  rw [absentDrain, hf]
  rfl

/-- The meters and streams of an image leave the tables and the commits. -/
theorem imageMeters_does (old new : Tables) (s : State) :
    (imageMeters old new s).fwd.tables = s.fwd.tables ∧ (imageMeters old new s).commits = s.commits := by
  have hm (i : Nat) (a b : MeterCfg) (u : State) : (meterApply i a b u).fwd.tables = u.fwd.tables ∧ (meterApply i a b u).commits = u.commits := ⟨rfl, rfl⟩
  have hs (i : Nat) (a b : BitVec 128) (u : State) : (streamApply i a b u).fwd.tables = u.fwd.tables ∧ (streamApply i a b u).commits = u.commits := by
    unfold streamApply
    split <;> exact ⟨rfl, rfl⟩
  unfold imageMeters
  dsimp only
  refine ⟨?_, ?_⟩
  · rw [foldl_keeps (fun u => u.fwd.tables) fun u i => (hs _ _ _ u).1]
    exact foldl_keeps (fun u => u.fwd.tables) (fun u i => by split <;> simp [hm]) _ s
  · rw [foldl_keeps (fun u => u.commits) fun u i => (hs _ _ _ u).2]
    exact foldl_keeps (fun u => u.commits) (fun u i => by split <;> simp [hm]) _ s

/-- An image with no values applies no transaction beyond its tables. -/
theorem applyValues_none (a : Nat) (s : State) : applyValues a [8] [] s = s := by
  have ht (i : Nat) : txnsOf i [] = [] := by simp [txnsOf]
  have h : applyTables [] s = s := by simp [applyTables, txnTables, txnEpoch, ht, checkTxns, frees, opsOf]
  simp [applyValues, putAll, h, setEffect]

/-- An image of the tables that frees none of their entries comes into force as one local commit. -/
theorem applyImage_does {n : Tables} (number : BitVec 32) {s : State} (h : imageFrees s.fwd.tables n = false) :
    (applyImage [8] [] n number s).fwd.tables = n ∧ (applyImage [8] [] n number s).pair.resync = false ∧
      (applyImage [8] [] n number s).commits = { s.commits with
        generation := Tab.upd 0 8 (fun x => (x + 1) % 4294967296) s.commits.generation, pairNumber := number, pairState := 0, scopeChanged := false } ∧
      ¬ Stands .pairDiverged noInst (applyImage [8] [] n number s) := by
  have hd (c : Nat) (hc : c ∈ [3, 4, 5, 8, 9]) (e : Nat) : absentDrain e (s.fwd.tables.stated c) (n.stated c) = n.stated c :=
    absentDrain_of_frees (by simpa using List.any_eq_false.mp h c hc)
  have ht (e : Nat) : ({ n with
      nh := absentDrain e s.fwd.tables.nh n.nh, group := absentDrain e s.fwd.tables.group n.group,
      member := absentDrain e s.fwd.tables.member n.member,
      mcGroup := absentDrain e s.fwd.tables.mcGroup n.mcGroup, mcMember := absentDrain e s.fwd.tables.mcMember n.mcMember } : Tables) = n := by
    have h3 : absentDrain e s.fwd.tables.nh n.nh = n.nh := hd 3 (by simp) e
    have h4 : absentDrain e s.fwd.tables.group n.group = n.group := hd 4 (by simp) e
    have h5 : absentDrain e s.fwd.tables.member n.member = n.member := hd 5 (by simp) e
    have h8 : absentDrain e s.fwd.tables.mcGroup n.mcGroup = n.mcGroup := hd 8 (by simp) e
    have h9 : absentDrain e s.fwd.tables.mcMember n.mcMember = n.mcMember := hd 9 (by simp) e
    rw [h3, h4, h5, h8, h9]
  obtain ⟨hm, hc⟩ := imageMeters_does s.fwd.tables n { s with fwd := { s.fwd with tables := n, epoch := s.fwd.epoch } }
  simp only [applyImage, h, ht, applyValues_none, Bool.false_eq_true, if_false]
  refine ⟨?_, ?_, ?_, ?_⟩
  · simpa [coherent, raiseGens] using hm
  · simp [coherent]
  · simp [coherent, raiseGens, hc]
  · rw [Stands, coherent, standing_endAlarm]
    simp

/-- Settles O54. -/
theorem commits : Obligations.Commits := by
  unfold Obligations.Commits
  refine ⟨?_, ?_, ?_, ?_, ?_, ?_, ?_, ?_, ?_, ?_, ?_, ?_, ?_, ?_, ?_, ?_, ?_, ?_, ?_, ?_, ?_, ?_, ?_, ?_, ?_, ?_, ?_, ?_⟩
  · intro q m e s ha he hn
    refine refused (exec_request (c := .commit q m) rfl ha fun e' he' => ?_)
    obtain rfl : e = e' := Option.some.inj (he.symm.trans he')
    exact if_pos (by simp [commitOf, hn])
  · intro q m e c s ha he hc hn hb hr hm hg hf hd hat hp
    have hb : commit q m e s = Res.of (schedule c s) 0 := by
      have hne : ¬ c.sets.isEmpty = true := by rw [hc]; simpa [commitOf] using hn
      have hfault : commitFault c.sets c.values (gensHold c.sets c.values e s) s = none := by
        simp [commitFault, hb, hr, hm, hg, hf, drawOk, hd]
      have hlead (n : Nat) : atFault n e.commitAt s = false := by simp [atFault, hat]
      unfold commit
      rw [← hc, if_neg hne, hfault]
      simp [hlead, hp, hd]
    have hsess : c.sess = q.sess := by rw [hc]; rfl
    have step := exec_commit ha he hb
    have ht := onlyIn_answer q 0 [] (schedule c s) (by decide)
    have hcom : (_ : Commits) = _ := ht .commits (by simp)
    refine ⟨_, step, ?_, ?_, ?_, answered_answer _ _ _ _ _ ?_, (schedule_only c s).trans (ht.mono (by simp))⟩
    · exact (congrArg Commits.scheduled hcom).trans (by rw [schedule_commits])
    · exact (congrArg Commits.generation hcom).trans (by rw [schedule_commits])
    · rw [session_answer (fun e => (e.staged, e.commitAt)) (fun _ _ _ => rfl), ← hsess, session_schedule (by rw [hsess]; exact he)]
      rfl
    · simp [schedule, judgePairState_eq]
  · intro q m e s ha he hn hb
    obtain ⟨u, hu, ho, hans, -, -⟩ := commit_refused (st := 0x0401) he hn (by simp [commitFault, hb]) (by decide)
    have step := exec_commit ha he hu
    have ht := ho.trans (onlyIn_answer q 0x0401 [] u (by decide))
    exact ⟨_, step, answered_answer _ _ _ _ _ hans, ht .commits (by simp), ht⟩
  · intro q m e s ha he hn hb hr hm hg
    obtain ⟨u, hu, ho, hans, hst, hnew⟩ := commit_refused (st := 0x0501) he hn (by simp [commitFault, hb, hr, hm, hg]) (by decide)
    have step := exec_commit ha he hu
    refine ⟨_, step, answered_answer _ _ _ _ _ hans, ?_, ?_, ho.trans (onlyIn_answer q 0x0501 [] u (by decide))⟩
    · exact (session_answer (fun e => e.staged) (fun _ _ _ => rfl) _ _ _ _).trans hst
    · exact (congrArg _ (newest_answer q 0x0501 [] u)).trans hnew
  · intro c n v e s hs hd hsets hv hp hi he
    have hn := n.isLt
    have step : exec .commitApply s = .next (applyCommit c s) := by simp [exec, execCommitApply, hs, hd]
    rw [applyCommit_furl hsets hv hp hi] at step
    generalize hu : unschedule c s = u at step
    generalize hp : putObj (key 0x2104 (n + 1)) v u = p at step
    have hud : OnlyIn [.commits] s u := by simp [← hu, unschedule_eq, onlyIn_iff]
    have hpd : OnlyIn [.dict] u p := by rw [← hp]; exact putObj_only _ _ _
    generalize ht : recordCommit c.sess (resultRec c (timeA s) 0 0 0 0) (raiseGens [2] p) = t at step
    have htd : OnlyIn [.commits, .gleno] p t := by simp [← ht, recordCommit, raiseGens, onlyIn_iff]
    have hcfg (i j : Nat) : cfgBytes i j t = cfgBytes i j p := cfgBytes_of_dict (htd .factory (by simp)) (htd .dict (by simp)) i j
    have hgen : t.commits.generation = Tab.upd 0 2 (fun x => (x + 1) % 4294967296) s.commits.generation := by
      have h1 : p.commits = u.commits := hpd .commits (by simp)
      rw [← ht, recordCommit_only _ _ _ .commits (by simp)]
      simp [raiseGens, h1, ← hu, unschedule_eq]
    refine ⟨t, step, ?_, fun i j hk => ?_, ?_, fun k hk => ?_, ?_, ?_, ?_⟩
    · rw [hcfg, ← hp, cfgBytes_putObj (by omega)]
    · rw [hcfg, ← hp, cfgBytes_putObj_ne hk, cfgBytes_of_dict (hud .factory (by simp)) (hud .dict (by simp))]
    · rw [hgen, Tab.get_upd_same]
    · rw [hgen, Tab.get_upd_ne hk]
    · have h1 : p.commits = u.commits := hpd .commits (by simp)
      rw [← ht, recordCommit_only _ _ _ .commits (by simp)]
      simp [raiseGens, h1, ← hu, unschedule_eq, hs]
    · have hg : (raiseGens [2] p).gleno = s.gleno := by
        have h1 : p.gleno = u.gleno := hpd .gleno (by simp)
        simp [raiseGens, h1, ← hu, unschedule_eq]
      have hnew : newest c.sess t = some (resultRec c (timeA s) 0 0 0 0) := by rw [← ht, newest_recordCommit _ (by rw [session_of_gleno hg, he]; rfl)]
      exact (congrArg _ hnew).trans rfl
    · exact ((hud.mono (by simp)).trans (hpd.mono (by simp))).trans (htd.mono (by simp))
  · intro s h
    have hnone : s.commits.scheduled.find? (fun c => due c s) = none := List.find?_eq_none.mpr fun c hc => by simp [h c hc]
    exact ⟨_, by simp only [exec, execCommitApply, hnone], rfl⟩
  · intro q m e s ha he hno hx
    have hf : s.commits.scheduled.filter (abortHits q.sess m) = [] := List.filter_eq_nil_iff.mpr fun c hc => by simp [hno c hc]
    have hb : commitAbort q m s = Res.of (updSession q.sess (unstage m) s) 0 := by rw [commitAbort_local hx (by simp [hf]), hf]; rfl
    have step : exec (.commitAbort q m) s = .next (answer q 0 [] (updSession q.sess (unstage m) s)) := exec_request rfl ha fun _ _ => hb
    refine ⟨_, step, ?_, answered_answer _ _ _ _ _ (by simp), (updSession_only _ _ _).trans (onlyIn_answer _ _ _ _ (by decide))⟩
    rw [session_answer (fun e => e.staged) (fun _ _ _ => rfl), session_updSession _ he]
    rfl
  · intro q m e c s ha he hs hh hp hx
    have hsess : c.sess = q.sess := by simp only [abortHits, Bool.and_eq_true, beq_iff_eq] at hh; exact hh.1
    have hf : s.commits.scheduled.filter (abortHits q.sess m) = [c] := by simp [hs, hh]
    generalize hu : cancelLocal (updSession q.sess (unstage m) s) c = u
    have hb : commitAbort q m s = Res.of u 0 := by
      rw [commitAbort_local hx (by simp [hf, hp]), hf, ← hu]
      simp [hp]
    have step : exec (.commitAbort q m) s = .next (answer q 0 [] u) := exec_request rfl ha fun _ _ => hb
    have hud : OnlyIn [.commits, .gleno] s u := by simp [← hu, cancelLocal, recordCommit, unschedule_eq, onlyIn_iff]
    have ht := hud.trans ((onlyIn_answer q 0 [] u (by decide)).mono (by simp))
    have hc : (answer q 0 [] u).commits = u.commits := onlyIn_answer q 0 [] u (by decide) .commits (by simp)
    refine ⟨_, step, ?_, ht .dict (by simp), ?_, answered_answer _ _ _ _ _ ?_, ht⟩
    · rw [hc, ← hu, cancelLocal, recordCommit_only _ _ _ .commits (by simp), unschedule_eq]
      simp [hs]
    · have hnew : newest q.sess (answer q 0 [] u) = some (resultRec c Time96.zero 0x0826#16 0 0 0) := by
        rw [newest_answer, ← hu, cancelLocal, hsess, newest_recordCommit]
        rw [session_of_gleno (unschedule_gleno _ _), session_updSession _ he]
        rfl
      exact (congrArg _ hnew).trans rfl
    · simp [← hu, cancelLocal, recordCommit, unschedule_eq]
  · intro x e number s hv hx hpend hg hb hps
    obtain ⟨w, step⟩ := exec_sealed (c := .pairCommitReply x 0 0 0 0 0 number) rfl hv
    simp only [show (received w s).commits.exchange = some e from hx, if_true] at step
    obtain ⟨f, hm⟩ := matePassed_eq (s := received w s) (number := number) hg hb
    generalize hv : sendPair f { received w s with commits := { (received w s).commits with exchange := none, pairCounter := number } } = v at hm
    generalize hc : ({ e.commit with at_ := some (max (domA (received w s) + 2 * lsbPerMs) (lsbOf e.commit.requested + prepTime e.commit.values)),
                                     pairNo := number } : Commit) = c at hm
    rw [hm] at step
    have hvg : v.gleno = s.gleno := by rw [← hv, sendPair_only _ _ .gleno (by simp)]; rfl
    have hvc : v.commits = { s.commits with exchange := none, pairCounter := number } := by rw [← hv, sendPair_only _ _ .commits (by simp)]; rfl
    have hp : isPending e.req (schedule c v) = true := by
      rw [isPending_schedule, isPending_of_gleno hvg, hpend]
    obtain ⟨hcomp, ho⟩ := complete_does 0 hp
    have hcom : (complete e.req 0 [] (schedule c v)).commits = _ := (ho .commits (by simp)).trans (schedule_commits c v)
    rw [hvc] at hcom
    have hcp : c.pair = e.commit.pair := by rw [← hc]
    refine ⟨_, step, by rw [hcom], ?_, by rw [hcom, ← hc]; rfl, ?_⟩
    · rw [hcom]
      simp [judged, hps, hcp, Bool.or_comm]
    · unfold Completed
      rw [hcomp]
      simp [schedule, judgePairState_eq, hvg]
  · intro x st idx sub reason op number e s hv hx hpend hst
    obtain ⟨w, step⟩ := exec_sealed (c := .pairCommitReply x st idx sub reason op number) rfl hv
    simp only [show (received w s).commits.exchange = some e from hx, if_neg hst] at step
    generalize hu : (if isTxn idx.toNat then setTxnFail e.req sub.toNat reason.toNat op.toNat true (received w s) else received w s) = u at step
    have hud : u.commits = s.commits ∧ isPending e.req u = true ∧ u.gleno.completions = s.gleno.completions := by
      rw [← hu]
      split
      · refine ⟨by simp [setTxnFail, received], ?_, by simp [setTxnFail, received]⟩
        rw [setTxnFail, isPending_updSession]
        · exact hpend
        · exact fun _ => rfl
      · exact ⟨rfl, hpend, rfl⟩
    obtain ⟨hcu, hpu, hgu⟩ := hud
    obtain ⟨hc, hcomp, hn⟩ := exchangeFailed_does e idx.toNat sub.toNat st hpu
    refine ⟨_, step, by rw [hc], by rw [hc, hcu], ?_, (congrArg _ hn).trans rfl⟩
    unfold Completed at hcomp ⊢
    rw [hcomp, hgu]
  · intro e s hx hp
    obtain ⟨hc, hcomp, hn⟩ := exchangeFailed_does e 0 0 0xFFFF hp
    have step : exec .pairCommitTimeout s = .next (exchangeFailed e 0 0 0xFFFF s) := by simp only [exec, execPairCommitTimeout, hx]; rfl
    refine ⟨_, step, by rw [hc], by rw [hc], hcomp, ?_⟩
    exact (congrArg _ hn).trans rfl
  · intro s hx
    exact ⟨_, by simp only [exec, execPairCommitTimeout, hx], rfl⟩
  · intro x m g v s hv hr hf
    obtain ⟨w, step⟩ := exec_sealed (act := fun s =>
      let l : List Staged := v.map (fun v => ⟨v.1, v.2, false⟩)
      match mateFault g l s with
      | some f =>
        let t := f.txn.getD (0, 0, 0)
        sendPair [5, f.code.toNat, f.idx, f.sub, t.2.2, t.2.1, 0] { s with commits := { s.commits with mateCommit := none } }
      | none =>
        let c : Commit := { sess := 0, mask := m, sets := g.map (fun g => g.1), at_ := none, given := false, values := l,
                            requested := timeA s, pair := true, pairNo := 0, cancel := false, abortReq := none, mateCancelled := false }
        sendPair [5, 0, 0, 0, 0, 0, (nextPairNo s).toNat] { s with commits := { s.commits with mateCommit := some c } })
      (c := .pairCommitRequest x m g v) (congrArg Host.Outcome.next (if_neg hr)) hv
    simp only [mateFault_received, hf] at step
    refine ⟨_, step, ?_, ?_, ?_⟩
    · rw [sendPair_only _ _ .commits (by simp)]
      rfl
    · rw [sendPair_only _ _ .commits (by simp)]
      rfl
    · refine OnlyIn.trans ?_ ((sendPair_only _ _).mono (by simp))
      simp [received, onlyIn_iff]
  · intro x m g v s hr
    exact ⟨_, congrArg Host.Outcome.next (if_pos hr), rfl⟩
  · intro x a number given c s hv hc ha hs
    obtain ⟨w, step⟩ := exec_sealed (c := .pairCommitOrder x a number given) rfl hv
    have hlt : ¬ lsbOf a < domA (received w s) := Nat.not_lt.mpr ha
    simp only [show (received w s).commits.mateCommit = some c from hc, if_neg hlt] at step
    refine ⟨_, step, ?_, ?_, ?_, ?_⟩
    · rw [schedule_commits]
      rfl
    · rw [schedule_commits]
    · rw [schedule_commits]
    · refine OnlyIn.trans (t := { received w s with commits := { (received w s).commits with mateCommit := none, pairCounter := number } }) ?_ ?_
      · simp [received, onlyIn_iff]
      · have hab := schedule_absent (c := { c with at_ := some (lsbOf a), pairNo := number, given := given })
          (s := { received w s with commits := { (received w s).commits with mateCommit := none, pairCounter := number } }) hs
        exact hab.mono (by simp)
  · intro x a number given c s hv hc ha
    obtain ⟨w, step⟩ := exec_sealed (c := .pairCommitOrder x a number given) rfl hv
    simp only [show (received w s).commits.mateCommit = some c from hc, show lsbOf a < domA (received w s) from ha, if_true] at step
    obtain ⟨hcom, hst⟩ := setDiverged_does { received w s with commits := { (received w s).commits with mateCommit := none, pairCounter := number } }
    exact ⟨_, step, by rw [hcom]; rfl, by rw [hcom], hst⟩
  · intro x number s hv hs
    obtain ⟨w, step⟩ := exec_sealed (c := .pairCommitCancel x number) rfl hv
    have hfind : (received w s).commits.scheduled.find? (fun c => c.pair && c.sess == 0 && c.pairNo == number) = none := by
      rw [show (received w s).commits.scheduled = [] from hs]
      rfl
    simp only [hfind] at step
    exact ⟨_, step, rfl, by simp [received, onlyIn_iff]⟩
  · intro x c s hv hs hp hc ha
    obtain ⟨w, step⟩ := exec_sealed (c := .pairCommitCancel x c.pairNo) rfl hv
    have hfind : (received w s).commits.scheduled.find? (fun y => y.pair && y.sess == 0 && y.pairNo == c.pairNo) = some c := by
      rw [show (received w s).commits.scheduled = [c] from hs]
      simp [hp, hc]
    simp only [hfind, show domA (received w s) + lsbPerMs ≤ c.at_.getD 0 from ha, if_true] at step
    generalize hu : unschedule c { received w s with commits := { (received w s).commits with mateCommit := none } } = u at step
    have hus : OnlyIn [.commits, .pair] s u := by simp [← hu, unschedule_eq, received, onlyIn_iff]
    have huc : u.commits = { s.commits with scheduled := [], mateCommit := none, pairState := judged s.commits.pairState [] } := by
      simp [← hu, unschedule_eq, received, hs]
    have hup : paired u = true := by
      have : u.gleno = s.gleno := hus .gleno (by simp)
      simpa [paired, this] using hv.1
    obtain ⟨hlen, ho⟩ := sendPair_does [8, c.pairNo.toNat] hup
    have hwire : u.wire = s.wire := hus .wire (by simp)
    refine ⟨_, step, ?_, ?_, by rw [hlen, hwire], (hus.mono (by simp)).trans (ho.mono (by simp))⟩
    · rw [ho .commits (by simp), huc]
    · rw [ho .commits (by simp), huc]
  · intro x c q s hv hs hc ha hp hlt
    obtain ⟨w, step⟩ := exec_sealed (c := .pairCancelConfirm x c.pairNo) rfl hv
    have hfind : (received w s).commits.scheduled.find? (fun y => y.cancel && y.pairNo == c.pairNo) = some c := by
      rw [show (received w s).commits.scheduled = [c] from hs]
      simp [hc]
    simp only [hfind, show domA (received w s) < c.at_.getD 0 from hlt, if_true, ha] at step
    generalize hu : cancelLocal (received w s) c = u at step
    have hus : OnlyIn [.commits, .pair, .gleno] s u := by simp [← hu, cancelLocal, recordCommit, unschedule_eq, received, onlyIn_iff]
    have hup : isPending q u = true := by
      rw [← hu, cancelLocal, recordCommit, isPending_updSession]
      · exact (isPending_of_gleno (unschedule_gleno c (received w s)) q).trans hp
      · exact fun _ => rfl
    obtain ⟨hcomp, ho⟩ := complete_does 0 hup
    have ht := hus.trans (ho.mono (by simp))
    refine ⟨_, step, ?_, ?_, ht .dict (by simp), ht⟩
    · rw [ho .commits (by simp), ← hu, cancelLocal, recordCommit_only _ _ _ .commits (by simp), unschedule_eq]
      simp [received, hs]
    · unfold Completed
      rw [hcomp, ← hu]
      simp [cancelLocal, recordCommit, unschedule_eq, received]
  · intro x number s hv hs
    obtain ⟨w, step⟩ := exec_sealed (c := .pairCancelConfirm x number) rfl hv
    simp only [show (received w s).commits.scheduled = [] from hs, List.find?_nil] at step
    obtain ⟨hcom, hst⟩ := setDiverged_does (received w s)
    exact ⟨_, step, by rw [hcom], hst⟩
  · intro q v e s ha he hm hf
    have step := exec_pairScopeWrite ha he (by simp [hm]) hf (u := takeScope v s) (st := 0) (by simp [pairScope, hm])
    obtain ⟨hcfg, hd⟩ := takeScope_does v s
    have ho := onlyIn_answer q 0 [] (takeScope v s) (by decide)
    refine ⟨_, step, ?_, answered_answer _ _ _ _ _ ?_, (hd.mono (by simp)).trans (ho.mono (by simp))⟩
    · rw [cfgBytes_of_dict (ho .factory (by simp)) (ho .dict (by simp)), hcfg]
    · rw [hd .gleno (by simp)]
  · intro q v e s ha he hm hx haway hf
    generalize hu : sendPair [9, v.toNat] { s with commits := { s.commits with scopeEx := some ⟨q, v⟩ } } = u
    have step := exec_pairScopeWrite ha he (by simp [haway]) hf (u := u) (st := 0x0402) (by simp [pairScope, hm, hx, haway, hu])
    have hus : OnlyIn [.commits, .pair, .wire] s u := by
      rw [← hu]
      refine OnlyIn.trans ?_ ((sendPair_only _ _).mono (by simp))
      simp [onlyIn_iff]
    refine ⟨_, step, ?_, ?_, answered_answer _ _ _ _ _ ?_, ?_⟩
    · have hc : (answer q 0x0402 [] u).commits = u.commits := by simp
      rw [hc, ← hu, sendPair_only _ _ .commits (by simp)]
    · have hd : (answer q 0x0402 [] u).dict = u.dict := by simp
      rw [hd, hus .dict (by simp)]
    · rw [hus .gleno (by simp)]
    · refine (hus.mono (by simp)).trans ?_
      simp [onlyIn_iff]
  · intro x v y s hv hx hp
    obtain ⟨w, step⟩ := exec_sealed (c := .pairScopeConfirm x v) rfl hv
    simp only [show (received w s).commits.scopeEx = some y from hx] at step
    generalize hu : takeScope y.value { received w s with commits := { (received w s).commits with scopeEx := none } } = u at step
    obtain ⟨hcfg, hd⟩ := takeScope_does y.value { received w s with commits := { (received w s).commits with scopeEx := none } }
    rw [hu] at hcfg hd
    have hus : OnlyIn [.dict, .commits, .pair] s u := by
      refine OnlyIn.trans ?_ (hd.mono (by simp))
      simp [received, onlyIn_iff]
    have hug : u.gleno = s.gleno := hus .gleno (by simp)
    obtain ⟨hcomp, ho⟩ := complete_does 0 ((isPending_of_gleno hug y.req).trans hp)
    refine ⟨_, step, ?_, ?_, ?_, (hus.mono (by simp)).trans (ho.mono (by simp))⟩
    · rw [cfgBytes_of_dict (ho .factory (by simp)) (ho .dict (by simp)), hcfg]
    · rw [ho .commits (by simp), hd .commits (by simp)]
    · unfold Completed
      rw [hcomp, hug]
  · intro x v s hv hx
    obtain ⟨w, step⟩ := exec_sealed (c := .pairScopeConfirm x v) rfl hv
    simp only [show (received w s).commits.scopeEx = none from hx] at step
    obtain ⟨hcfg, hd⟩ := takeScope_does v (received w s)
    have hus : OnlyIn [.dict, .pair] s (takeScope v (received w s)) := ((received_only w s).mono (by simp)).trans (hd.mono (by simp))
    have hp : paired (takeScope v (received w s)) = true := by
      have : (takeScope v (received w s)).gleno = s.gleno := hus .gleno (by simp)
      simpa [paired, this] using hv.1
    obtain ⟨hlen, ho⟩ := sendPair_does [10, v.toNat] hp
    refine ⟨_, step, ?_, ?_, (hus.mono (by simp)).trans (ho.mono (by simp))⟩
    · rw [cfgBytes_of_dict (ho .factory (by simp)) (ho .dict (by simp)), hcfg]
    · rw [hlen, hus .wire (by simp)]
  · intro w s hx hp
    have step : exec .pairScopeTimeout s = .next (complete w.req 0x0809#16 [] { s with commits := { s.commits with scopeEx := none } }) := by
      simp only [exec, execPairScopeTimeout, hx]
    obtain ⟨hcomp, ho⟩ := complete_does (s := { s with commits := { s.commits with scopeEx := none } }) 0x0809#16 (q := w.req) hp
    refine ⟨_, step, ho .commits (by simp), hcomp, OnlyIn.trans ?_ (ho.mono (by simp))⟩
    simp [onlyIn_iff]
  · intro s hx
    exact ⟨_, by simp only [exec, execPairScopeTimeout, hx], rfl⟩
  · intro x b n number s hv hr hrole hscope hi hfree hm hs
    obtain ⟨w, step⟩ := exec_sealed (c := .resyncImageReceived x [] [b] [] [] number) (congrArg Host.Outcome.next (if_neg (by simp [hr, hrole]))) hv
    have hsets : (List.range 14).filter (fun n => inScope n (received w s)) = [8] := by
      have h (k : Nat) : inScope k (received w s) = bit 0x100 k := congrArg (fun c => bit c k) hscope
      simp only [h]
      decide
    have himg : imageTables [8] (extRefs (putAll [] (received w s))) [b] [] [] (received w s).fwd.tables = some n := hi
    have hfr : imageFrees (received w s).fwd.tables n = false := hfree
    simp only [List.map_nil, hsets, show valuesOf [8] [] = [] from rfl, himg, hfr, Bool.false_and, Bool.false_eq_true, if_false] at step
    obtain ⟨htab, hres, hcom, hst⟩ := applyImage_does number hfr
    refine ⟨_, step, htab, by rw [hcom], by rw [hcom], hres, hst, ?_⟩
    rw [hcom, Tab.get_upd_same]
    rfl
  · intro x v a b c number s hr
    exact ⟨_, congrArg Host.Outcome.next (if_pos (.inl (by simp [hr]))), rfl⟩

end Sys2Proof.Machine
end

section
/-!
PROOFS. The commands of the island (chapter 18): a report of a module whose image in force is shorter than a header.
-/
namespace Sys2Proof.Machine

theorem padTo_length (n : Nat) (l : List Byte) : (padTo n l).length = n := by
  simp [padTo, zeros]
  omega

theorem timeBytes_length (t : Time96) : (timeBytes t).length = 12 := by simp [timeBytes]

theorem sum_map_four {α : Type} (l : List α) : (l.map fun _ => 4).sum = 4 * l.length := by
  induction l with
  | nil => rfl
  | cons a l ih =>
    simp only [List.map_cons, List.sum_cons, List.length_cons, ih]
    omega

/-- A report is as long as R556 says only while the image in force holds a RELEASE and the island holds its eight counters. -/
theorem attestBody_length (nonce : List Byte) (s : State) :
    (attestBody nonce s).length = 276 + (((imageInForce s).drop 8).take 4).length + 4 * s.trust.counters.length := by
  have words := sum_map_four s.trust.counters
  simp [attestBody, padTo_length, timeBytes_length, digest, List.length_flatten, Function.comp_def]
  omega

/-- The session that asked for a report. -/
def reporter : Session := { Session.fresh 0 .custodian 1 60 Time96.zero 0 with attestReq := some ⟨1, 7⟩, pendingIds := [7] }

/-- Its module: the region whose image is in force is empty. -/
def noImage : State :=
  { State.reset with
    upd := { State.reset.upd with active := [] }
    gleno := { State.reset.gleno with sessions := [(1, reporter)] } }

theorem noImage_body : (attestBody reporter.nonce noImage).length = 308 := by
  rw [attestBody_length]
  decide

/-- The report that the model stores: its body, with the signature right behind it. -/
theorem noImage_report : ∃ t sig, exec (.attestReportReady 1) noImage = .next t ∧ sig.length = 96 ∧
    (session 1 t).map (fun e => e.attest) = some (attestBody reporter.nonce noImage ++ sig) := by
  have asked : session 1 noImage = some reporter := rfl
  have request : reporter.attestReq = some ⟨1, 7⟩ := rfl
  have step := show exec (.attestReportReady 1) noImage = execAttestReportReady 1 noImage from rfl
  simp only [execAttestReportReady, asked, request] at step
  refine ⟨_, padTo 96 (Config.freeBytes noImage.draws), step, padTo_length _ _, ?_⟩
  rw [session_complete _ (fun _ _ _ => rfl), count_session]
  rfl

/-- Refutes O57: the first 312 bytes of a report are its body only where the body is that long, and over an image in force that is shorter than a
header the signature begins inside them. -/
theorem not_islandCommands : ¬ Obligations.IslandCommands := by
  rintro ⟨-, -, -, -, -, -, -, -, -, -, -, -, -, -, ready, -⟩
  obtain ⟨t, ht, kept, -⟩ := ready 1 reporter ⟨1, 7⟩ noImage rfl rfl rfl (by decide)
  obtain ⟨u, sig, hu, hsig, stored⟩ := noImage_report
  obtain rfl : t = u := Host.Outcome.next.inj (ht.symm.trans hu)
  obtain ⟨e, he, hbody⟩ := Option.map_eq_some_iff.mp kept
  have attested : e.attest = attestBody reporter.nonce noImage ++ sig := by simpa [he] using stored
  have bodies : (e.attest.take 312).length = ((attestBody reporter.nonce noImage).take 312).length := by rw [(Prod.mk.inj hbody).1]
  rw [attested, List.length_take, List.length_append, List.length_take, noImage_body, hsig] at bodies
  omega

end Sys2Proof.Machine
end

section
/-!
PROOFS. The keys of the links (chapter 18): MACsec key agreement, and the Halyard keys with the ports that they settle.
-/
namespace Sys2Proof.Machine

/-! ## Halyard ports under a change of keys -/

/-- What R372 and R373 make of a port, by whether it is at fault and whether its channel must suspend. -/
def portVerdict (p : PtpPort) (fault suspend : Bool) : PtpPort :=
  if p.st = .disabled then p
  else if fault then (if p.st = .faulty then p else { p.void with st := .faulty, annRun := 0, annOk := false })
  else if suspend then { p.void with st := .suspended, annRun := 0, annOk := false, goodN := 0 }
  else if p.st = .faulty ∨ p.st = .suspended then { p with st := .listening }
  else p

/-- What the verdict on a port rests on. -/
def portCase (c i : Nat) (s : State) : PtpPort × Bool × Bool := (port c i s, portFault c i s, mustSuspend c s)

theorem port_of_ptp {s t : State} (h : t.ptp = s.ptp) (c i : Nat) : port c i t = port c i s := by rw [port, port, h]

theorem port_raise (a : Alarm) (n c i : Nat) (s : State) : port c i (raise a n s) = port c i s := port_of_ptp (by simp) c i
theorem port_endAlarm (a : Alarm) (n c i : Nat) (s : State) : port c i (endAlarm a n s) = port c i s := port_of_ptp (by simp) c i

theorem port_settlePort (c i : Nat) (s : State) :
    port c i (settlePort c i s) = portVerdict (port c i s) (portFault c i s) (mustSuspend c s) := by
  unfold settlePort portVerdict
  by_cases hd : (port c i s).st = .disabled
  · simp [hd]
  by_cases hf : portFault c i s = true
  · by_cases hs : (port c i s).st = .faulty <;> simp [hd, hf, hs, port_raise]
  by_cases hm : mustSuspend c s = true
  · by_cases hs : (port c i s).st = .faulty <;> simp [hd, hf, hm, hs, port_endAlarm]
  · by_cases hs : (port c i s).st = .faulty
    · simp [hf, hm, hs, port_endAlarm]
    · by_cases hu : (port c i s).st = .suspended <;> simp [hd, hf, hm, hs, hu]

/-- The Halyard part with other ports. -/
def SamePorts (k : Nat) (s t : State) : Prop :=
  ∃ l, t.ptp = { s.ptp with ports := l } ∧ ∀ j, j ≠ k → Tab.get PtpPort.reset j l = Tab.get PtpPort.reset j s.ptp.ports

theorem SamePorts.of_ptp {k : Nat} {s t : State} (h : t.ptp = s.ptp) : SamePorts k s t := ⟨_, h, fun _ _ => rfl⟩

theorem samePorts_updPort {c i : Nat} {f : PtpPort → PtpPort} {s t u : State} (hs : u.ptp = s.ptp) (ht : t.ptp = (updPort c i f u).ptp) :
    SamePorts (c * 2 + i) s t := by
  refine ⟨_, ht.trans (by rw [updPort, hs]), fun j hj => Tab.get_upd_ne hj _ _ _⟩

/-- Settling a port leaves every other port as it was. -/
theorem settlePort_others (c i : Nat) (s : State) : SamePorts (c * 2 + i) s (settlePort c i s) := by
  unfold settlePort
  by_cases hd : (port c i s).st = .disabled
  · exact .of_ptp (by simp [hd])
  by_cases hf : portFault c i s = true
  · by_cases hs : (port c i s).st = .faulty
    · exact .of_ptp (by simp [hf, hs])
    · exact samePorts_updPort rfl (by simp [hd, hf, hs]; rfl)
  by_cases hm : mustSuspend c s = true
  · exact samePorts_updPort (u := if (port c i s).st = .faulty then endAlarm .halyardFaulty (c * 2 + i) s else s) (by split <;> simp)
      (by simp only [hd, hf, hm, if_false, if_true]; rfl)
  · by_cases hs : (port c i s).st = .faulty
    · exact samePorts_updPort rfl (by simp [hf, hm, hs]; rfl)
    · by_cases hu : (port c i s).st = .suspended
      · exact samePorts_updPort rfl (by simp [hf, hm, hu]; rfl)
      · exact .of_ptp (by simp [hd, hf, hm, hs, hu])

theorem portCase_settlePort {c i d j : Nat} (h : d * 2 + j ≠ c * 2 + i) (s : State) : portCase d j (settlePort c i s) = portCase d j s := by
  obtain ⟨l, hl, hk⟩ := settlePort_others c i s
  have hc : cfg 0x330D (j + 1) (settlePort c i s) = cfg 0x330D (j + 1) s := cfg_of_dict (by simp) (by simp) _ _
  simp [portCase, portFault, mustSuspend, onJury, mdll, engineMigrates, authMode, sendKey, refTime, domA, islandClock, keysOf, port, hc, hl, hk _ h]

theorem portCase_settlePorts {l : List Nat} {d j : Nat} (hd : d ∉ l) (hj : j < 2) (s : State) : portCase d j (settlePorts l s) = portCase d j s := by
  induction l generalizing s with
  | nil => rfl
  | cons c l ih =>
    have hc : d ≠ c := fun h => hd (h ▸ List.mem_cons_self)
    refine (ih (fun h => hd (List.mem_cons_of_mem _ h)) _).trans ?_
    rw [portCase_settlePort (by omega), portCase_settlePort (by omega)]

/-- Settling the ports of some channels, each named once, passes one verdict on each of their ports. -/
theorem port_settlePorts {l : List Nat} (hl : l.Nodup) {c i : Nat} (hc : c ∈ l) (hi : i < 2) (s : State) :
    port c i (settlePorts l s) = portVerdict (port c i s) (portFault c i s) (mustSuspend c s) := by
  induction l generalizing s with
  | nil => exact absurd hc (by simp)
  | cons d l ih =>
    obtain ⟨hd, hl⟩ := List.nodup_cons.mp hl
    by_cases h : c = d
    · subst h
      have rest : port c i (settlePorts l (settlePort c 1 (settlePort c 0 s))) = port c i (settlePort c 1 (settlePort c 0 s)) :=
        congrArg Prod.fst (portCase_settlePorts hd hi _)
      refine rest.trans ?_
      obtain rfl | rfl : i = 0 ∨ i = 1 := by omega
      · exact (congrArg Prod.fst (portCase_settlePort (by omega) _)).trans (port_settlePort _ _ _)
      · have first : portCase c 1 (settlePort c 0 s) = portCase c 1 s := portCase_settlePort (by omega) s
        simp only [portCase, Prod.mk.injEq] at first
        rw [port_settlePort, first.1, first.2.1, first.2.2]
    · have before : portCase c i (settlePort d 1 (settlePort d 0 s)) = portCase c i s := by
        rw [portCase_settlePort (by omega), portCase_settlePort (by omega)]
      simp only [portCase, Prod.mk.injEq] at before
      exact (ih hl (List.mem_of_ne_of_mem h hc) _).trans (by rw [before.1, before.2.1, before.2.2])

theorem settlePorts_only (l : List Nat) (s : State) : OnlyIn [.pins, .regs, .obs, .ptp, .upd] s (settlePorts l s) := by
  simp [onlyIn_iff]

/-! ## Key agreement -/

theorem ca_of_trust {s t : State} (h : t.trust = s.trust) (c : Nat) : ca c t = ca c s := by rw [ca, ca, h]

@[simp] theorem ca_endAlarm (a : Alarm) (i c : Nat) (s : State) : ca c (endAlarm a i s) = ca c s := ca_of_trust (by simp) c
@[simp] theorem ca_answer (q : Req) (st : Status) (d : List Byte) (c : Nat) (s : State) : ca c (answer q st d s) = ca c s := ca_of_trust (by simp) c

/-- A new SAK: the next association number, the next key number, a rekey pending. -/
theorem ca_distribute (c : Nat) (s : State) :
    ca c (distribute c s) = { ca c s with rekey := true, an := ((ca c s).an + 1) % 4, keyNo := (ca c s).keyNo + 1 } := ca_updCa _ _ _

theorem members_chan (c : Chan) (s : State) : members (BitVec.ofNat 8 (c + 1)).toNat s = [c.val] := by
  have hc : (BitVec.ofNat 8 (c + 1)).toNat = c.val + 1 := by simp; omega
  simp [members, hc, show c.val + 1 ≤ 192 by omega]

/-- A hello goes out on each channel of a list where MKA runs. -/
theorem hello_others {c : Nat} {l : List Nat} {f : Nat → State → List Int} {s : State} (hc : c ∉ l) (h : ∀ d ∈ l, d ≠ c → mkaRuns d s = false) :
    l.foldl (fun s c => if mkaRuns c s then emit .mka c (f c s) s else s) s = s := by
  induction l with
  | nil => rfl
  | cons d l ih =>
    have hd : d ≠ c := fun e => hc (e ▸ List.mem_cons_self)
    rw [List.foldl_cons, if_neg (by simp [h d List.mem_cons_self hd])]
    exact ih (fun m => hc (List.mem_cons_of_mem _ m)) (fun x hx => h x (List.mem_cons_of_mem _ hx))

theorem hello_one {c : Nat} {l : List Nat} {f : Nat → State → List Int} {s : State} (hl : l.Nodup) (hc : c ∈ l)
    (h : ∀ d ∈ l, mkaRuns d s = decide (d = c)) :
    l.foldl (fun s c => if mkaRuns c s then emit .mka c (f c s) s else s) s = emit .mka c (f c s) s := by
  induction l with
  | nil => exact absurd hc (by simp)
  | cons d l ih =>
    obtain ⟨hd, hl⟩ := List.nodup_cons.mp hl
    have rest : ∀ x ∈ l, mkaRuns x s = decide (x = c) := fun x hx => h x (List.mem_cons_of_mem _ hx)
    rw [List.foldl_cons]
    by_cases e : d = c
    · subst e
      rw [if_pos (by simp [h d List.mem_cons_self])]
      exact hello_others hd fun x hx hne => (rest x hx).trans (by simp [hne])
    · rw [if_neg (by simp [h d List.mem_cons_self, e])]
      exact ih hl (List.mem_of_ne_of_mem (Ne.symm e) hc) rest

/-- An end without a live peer: its association ends and the alarm of MKA stands. -/
theorem noPeer_does (c : Nat) (s : State) :
    (noPeer c s).trust = (updCa c (fun x => { x with live := false, sak := false, rekey := false }) s).trust ∧
    Stands .macsecPeer c (noPeer c s) ∧ (∀ x y, key x y ≠ key 0x7015 1 → key x y ≠ key 0x7015 4 → countOf x y (noPeer c s) = countOf x y s) ∧
    OnlyIn [.pins, .regs, .obs, .trust, .upd] s (noPeer c s) := by
  unfold noPeer
  generalize hu : updCa c (fun x => { x with live := false, sak := false, rekey := false }) s = u
  have hus : OnlyIn [.trust] s u := by simp [← hu, onlyIn_iff]
  have hobs : u.obs = s.obs := hus .obs (by simp)
  dsimp only
  split
  · exact ⟨rfl, ‹_›, fun x y _ _ => countOf_of_obs hobs x y, hus.mono (by simp)⟩
  · refine ⟨by simp, standing_raise _ _ _, fun x y h h' => (countOf_raise _ _ x y u h h').trans (countOf_of_obs hobs x y), ?_⟩
    refine (hus.mono (by simp)).trans ?_
    simp [onlyIn_iff]

/-- The key of a write of HALYARD_KEY (R565). -/
def halKeyOf (v : List Byte) : HalKey :=
  ⟨BitVec.ofNat 32 (leNat (v.take 4)), v.getD 4 0 &&& 3#8, v.getD 5 0, leNat ((v.drop 8).take 8), leNat ((v.drop 16).take 8), v.drop 24⟩

/-- The first key of an empty table. -/
theorem keyWrite_first {n : Fin 16} {v : List Byte} {s : State} (hv : v.length = 56) (hid : (halKeyOf v).id ≠ 0) (hk : s.trust.halKeys = []) :
    keyWrite (n.val + 1) v s = Res.of (settlePorts (List.range 192) (updTrust (fun t => { t with halKeys := [(n.val + 1, halKeyOf v)] }) s)) 0 := by
  have hset : updTrust (fun t =>
      { t with halKeys := if (halKeyOf v).id = 0 then Tab.erase (n.val + 1) t.halKeys else Tab.set (n.val + 1) (halKeyOf v) t.halKeys }) s = updTrust (fun t => { t with halKeys := [(n.val + 1, halKeyOf v)] }) s := by
    simp only [updTrust, hid, if_false, hk, Tab.set]
  rw [← hset]
  simp only [keyWrite, show ¬ (n.val + 1 < 1 ∨ 16 < n.val + 1) by omega, hv, hk, List.any_nil, Bool.false_eq_true, and_false, ne_eq, not_true,
    if_false]
  rfl

/-- Settles O58. -/
theorem linkKeys : Obligations.LinkKeys := by
  refine ⟨?_, ?_, ?_, ?_, ?_, ?_, ?_, ?_, ?_, ?_, ?_, ?_, ?_, ?_, ?_⟩
  · intro c m k s hr hi hsu hl hk hm hsak
    have step : exec (.mkaPduReceived c m) s = .next (mkaLive c m s) := by simp [exec, execMkaPduReceived, hr, hi, hsu, hl]
    generalize hu : endAlarm .macsecPeer c (updCa c (fun x => { x with live := true, server := false }) s) = u
    have huc : ca c u = { ca c s with live := true, server := false } := by
      rw [← hu, ca_endAlarm, ca_updCa]
    have hus : OnlyIn [.pins, .regs, .obs, .trust] s u := by simp [← hu, onlyIn_iff]
    have done : mkaLive c m s = updCa c (fun x => { x with sak := true, rekey := false, an := k.1.val, keyNo := k.2, pn := 1 }) u := by
      simp [mkaLive, hk, hm, hu, huc, hsak]
    rw [done] at step
    refine ⟨_, step, by rw [ca_updCa, huc], ?_, hus.trans (by simp [onlyIn_iff])⟩
    have : standing .macsecPeer c u = false := hu ▸ standing_endAlarm _ _ _
    simp [Stands, standing_of_obs (t := updCa c _ u) (s := u) (by simp), this]
  · intro c m s hr hi hsu hl hk hsak hrk hmr hlife he
    have step : exec (.mkaPduReceived c m) s = .next (mkaLive c m s) := by simp [exec, execMkaPduReceived, hr, hi, hsu, hl]
    generalize hu : endAlarm .macsecPeer c (updCa c (fun x => { x with live := true, server := true }) s) = u
    have huc : ca c u = { ca c s with live := true, server := true } := by
      rw [← hu, ca_endAlarm, ca_updCa]
    have hul : u.life = s.life := by simp [← hu]
    have hut : u.trust.entropy = s.trust.entropy := by simp [← hu, updCa]
    have hud : u.draws = s.draws := by simp [← hu]
    have done : mkaLive c m s = distribute c u := by
      simp [mkaLive, hk, hu, huc, hsak, hrk, hul, hut, hlife, he]
    rw [done] at step
    refine ⟨_, step, ?_, ?_, ?_, ?_, ?_, ?_⟩
    iterate 5 simp [ca_distribute, huc]
    simp [distribute, draw, hud]
  · intro c m s hr hi
    by_cases hs : standing .macsecPeer c s = true
    · exact ⟨s, by simp [exec, execMkaPduReceived, hr, hi, hs], hs, rfl, .refl _ _⟩
    · refine ⟨raise .macsecPeer c s, by simp [exec, execMkaPduReceived, hr, hi, hs], standing_raise _ _ _, by simp, ?_⟩
      simp [onlyIn_iff]
  · intro c m s hr
    exact ⟨s, by simp [exec, execMkaPduReceived, hr], rfl⟩
  · intro c s hl hc
    have step : exec .mkaHelloSend s = .next (emit .mka c [ownPrio c s, ownSci c s, b2n (ca c s).live, b2n ((ca c s).server && (ca c s).rekey),
        (ca c s).an, (ca c s).keyNo.toNat, b2n (ca c s).sak] s) := by
      have h : ∀ d ∈ List.range 192, mkaRuns d s = decide (d = c.val) := fun d hd => by
        simpa [Fin.ext_iff] using hc ⟨d, List.mem_range.mp hd⟩
      simp only [exec, execMkaHelloSend, if_neg hl]
      exact congrArg Host.Outcome.next (hello_one (f := fun c s => [ownPrio c s, ownSci c s, b2n (ca c s).live,
        b2n ((ca c s).server && (ca c s).rekey), (ca c s).an, (ca c s).keyNo.toNat, b2n (ca c s).sak]) List.nodup_range (by simp) h)
    exact ⟨_, step, by simp [Emitted, emit], by simp [emit, onlyIn_iff]⟩
  · intro s hl
    exact ⟨s, by simp [exec, execMkaHelloSend, hl], rfl⟩
  · intro c s hl
    have step : exec (.mkaPeerTimeout c) s = .next (count 0x601D 7 (noPeer c s)) := by simp [exec, execMkaPeerTimeout, hl]
    obtain ⟨ht, hst, hcount, ho⟩ := noPeer_does c s
    generalize noPeer c s = u at step ht hst hcount ho
    refine ⟨_, step, ?_, ?_, ?_, ho.trans ?_⟩
    · rw [ca_of_trust (by simp : (count _ _ u).trust = u.trust), ca_of_trust ht, ca_updCa]
    · simpa [Stands, standing] using hst
    · rw [countOf_count _ _ _ (by decide), hcount _ _ (by decide) (by decide)]
    · simp [onlyIn_iff]
  · intro c s hl
    exact ⟨s, by simp [exec, execMkaPeerTimeout, hl], rfl⟩
  · intro q c v s ha hv h1 h2
    generalize hu : updCa c (fun _ => { Ca.reset with ckn := (v.drop 4).take (v.getD 0 0).toNat, cak := v.drop 36 }) s = u
    have step := exec_request (c := .macsecCakWrite q (BitVec.ofNat 8 (c + 1)) v) (u := u) (st := 0) (d := []) rfl ha fun _ _ => by
      have hn : ¬ ((v.getD 0 0).toNat = 0 ∨ 32 < (v.getD 0 0).toNat) := by omega
      rw [cakWrite, members_chan]
      simp only [hv, hn, ne_eq, not_true, if_false, List.foldl_cons, List.foldl_nil, hu, Res.of]
    refine ⟨_, step, ?_, fun d hd => ?_, answered_answer _ _ _ _ _ (by simp [← hu]), ?_⟩
    · rw [ca_answer, ← hu, ca_updCa]
    · rw [ca_answer, ← hu, ca_updCa_ne hd]
    · refine OnlyIn.trans ?_ ((onlyIn_answer q 0 [] _ (by decide)).mono (by simp))
      simp [← hu, onlyIn_iff]
  · intro q c v s ha hv
    refine refused (exec_request (c := .macsecCakWrite q (BitVec.ofNat 8 (c + 1)) v) rfl ha fun _ _ => ?_)
    rw [cakWrite, members_chan]
    simp only [hv, ne_eq, not_false_eq_true, if_true, Res.of]
    rfl
  · intro q c s ha he hr hl hs
    have step := exec_request (c := .macsecRekey q (BitVec.ofNat 8 (c + 1)) true) (u := distribute c s) (st := 0) (d := []) rfl ha fun _ _ => by
      rw [rekeyWrite, members_chan]
      simp [he, rekeyOne, hr, hl, hs, Res.of]
    refine ⟨_, step, by rw [ca_answer, ca_distribute], by rw [ca_answer, ca_distribute], answered_answer _ _ _ _ _ (by simp [distribute]), ?_⟩
    refine OnlyIn.trans ?_ ((onlyIn_answer q 0 [] _ (by decide)).mono (by simp))
    simp [distribute, onlyIn_iff]
  · intro q c s ha he
    refine refused (exec_request (c := .macsecRekey q (BitVec.ofNat 8 (c + 1)) true) rfl ha fun _ _ => ?_)
    rw [rekeyWrite, members_chan]
    simp [he, Res.of]
  · intro q n v s ha hv hid hk
    have hn : (BitVec.ofNat 8 (n + 1)).toNat = n.val + 1 := by simp; omega
    generalize hu : updTrust (fun t => { t with halKeys := [(n.val + 1, halKeyOf v)] }) s = u
    have step := exec_request (c := .halyardKeyWrite q (BitVec.ofNat 8 (n + 1)) v) (u := settlePorts (List.range 192) u) (st := 0) (d := []) rfl ha
      fun _ _ => by rw [hn, keyWrite_first hv hid hk, hu, Res.of]
    have hus : OnlyIn [.trust] s u := by simp [← hu, updTrust, onlyIn_iff]
    have ho := settlePorts_only (List.range 192) u
    have hg : (settlePorts (List.range 192) u).gleno = s.gleno := (ho .gleno (by simp)).trans (hus .gleno (by simp))
    refine ⟨_, step, ?_, answered_answer _ _ _ _ _ (by rw [hg]), ?_⟩
    · have : (answer q 0 [] (settlePorts (List.range 192) u)).trust = u.trust := by simp
      rw [this, ← hu]
      rfl
    · exact ((hus.mono (by simp)).trans (ho.mono (by simp))).trans ((onlyIn_answer q 0 [] _ (by decide)).mono (by simp))
  · intro q n m v k s ha hv hk hid hks hne
    have hn : (BitVec.ofNat 8 (n + 1)).toNat = n.val + 1 := by simp; omega
    have hmn : m.val ≠ n.val := fun h => hne (Fin.ext h)
    refine refused (exec_request (c := .halyardKeyWrite q (BitVec.ofNat 8 (n + 1)) v) rfl ha fun _ _ => ?_)
    simp [keyWrite, hn, show ¬ 16 < n.val + 1 by omega, hv, hks, ← hk, show ¬ k.id = 0#32 from hid, hmn, Res.of]
  · intro s
    have all (c : Chan) (i : Fin 2) := port_settlePorts List.nodup_range (List.mem_range.mpr c.isLt) i.isLt s
    refine ⟨settlePorts (List.range 192) s, rfl, fun c i hd hf => ?_, fun c i hs hf hm => ?_, fun c i hd => ?_, settlePorts_only _ _⟩
    · rw [all, portVerdict, if_neg hd, if_pos hf]
      split <;> simp_all
    · simp [all, portVerdict, hs, hf, hm]
    · simp [all, portVerdict, hd]

end Sys2Proof.Machine
end

section
/-!
PROOFS. Counter snapshots, alarms, the event log, sampling and the programmable counters (chapter 20).
-/
namespace Sys2Proof.Machine

/-! ## What the observability operations leave -/

/-- A count moves its cell and perhaps the map of the cells that overflowed. -/
theorem countW_obs (i j w n : Nat) (s : State) : ∃ c o, (countW i j w n s).obs = { s.obs with counts := c, ovfMap := o } := by
  unfold countW
  dsimp only
  split
  · exact ⟨_, _, rfl⟩
  · exact ⟨_, _, rfl⟩

/-- A multiple count leaves every other object. -/
theorem countOf_countW_ne (i j n a b : Nat) (s : State) (h : key a b ≠ key i j) (h' : key a b ≠ key 0x7015 4) :
    countOf a b (countW i j 0 n s) = countOf a b s := by
  have h1 := cellKey_ne h
  have h2 := cellKey_ne h'
  unfold countOf countW
  dsimp only
  split
  · simp only [Tab.get_put_ne h1]
  · simp only [Tab.get_put_ne h2, Tab.get_put_ne h1]

/-- The end of an alarm takes its entries, and no other, from the standing alarms. -/
theorem alarms_endAlarm (a : Alarm) (i : Nat) (s : State) :
    (endAlarm a i s).obs.alarms = s.obs.alarms.filter (fun x => !(x.alarm == a && x.inst == i)) := by
  unfold endAlarm
  split
  · simp
  · rename_i h
    refine (List.filter_eq_self.mpr fun x hx => ?_).symm
    have hn : ¬ (x.alarm == a && x.inst == i) = true := fun hb => h (List.any_eq_true.mpr ⟨x, hx, hb⟩)
    rw [eq_false_of_ne_true hn]
    rfl

theorem mem_endAlarms (l : List Standing) (s : State) (x : Standing) :
    x ∈ (l.foldl (fun s x => endAlarm x.alarm x.inst s) s).obs.alarms ↔ x ∈ s.obs.alarms ∧ ∀ y ∈ l, ¬ (x.alarm = y.alarm ∧ x.inst = y.inst) := by
  induction l generalizing s with
  | nil => simp
  | cons y l ih =>
    rw [List.foldl_cons, ih, alarms_endAlarm]
    simp only [List.mem_filter, List.forall_mem_cons, Bool.not_eq_true', Bool.and_eq_false_iff, beq_eq_false_iff_ne, Decidable.not_and_iff_not_or_not, and_assoc, ne_eq]

/-- An acknowledgement ends the standing event alarms that it names, and no other alarm. -/
theorem mem_endEvents (f : Alarm → Bool) (s : State) (x : Standing) :
    x ∈ (endEvents f s).obs.alarms ↔ x ∈ s.obs.alarms ∧ ¬ (x.alarm.condition = false ∧ f x.alarm = true) := by
  rw [endEvents, mem_endAlarms]
  refine and_congr_right fun hx => ⟨fun h hc => ?_, fun h y hy he => ?_⟩
  · exact h x (List.mem_filter.mpr ⟨hx, by simp [hc]⟩) ⟨rfl, rfl⟩
  · obtain ⟨-, hy⟩ := List.mem_filter.mp hy
    rw [← he.1] at hy
    exact h (by simpa using hy)

theorem endEvents_only (f : Alarm → Bool) (s : State) : OnlyIn [.pins, .regs, .obs] s (endEvents f s) :=
  foldl_only _ _ _ fun s x => by simp [onlyIn_iff]

theorem standing_endAlarm_other {a b : Alarm} {i j : Nat} (h : b ≠ a ∨ j ≠ i) (s : State) : standing b j (endAlarm a i s) = standing b j s := by
  rw [standing, alarms_endAlarm, List.any_filter, standing]
  refine congrArg (fun p => s.obs.alarms.any p) (funext fun x => ?_)
  by_cases hb : x.alarm = b
  · by_cases hj : x.inst = j
    · rcases h with h | h <;> simp [hb, hj, h]
    · simp [hj]
  · simp [hb]

/-- Sampling that ends leaves its entry empty and gives its reason. -/
theorem endSampling_does {n : Nat} {s : State} (h : s.obs.sampling = true) :
    (endSampling n s).obs = { s.obs with sampling := false, sampleEnd := n } ∧ unitsOf cSample 0 (endSampling n s) = 0 ∧
    OnlyIn [.power, .obs] s (endSampling n s) := by
  rw [endSampling, if_pos h]
  exact ⟨by simp [updObs], unitsOf_setEntry _ _ _ _ _, by simp [updObs, onlyIn_iff]⟩

theorem unitsOf_of_power {s t : State} (h : t.power = s.power) (c i : Nat) : unitsOf c i t = unitsOf c i s := by rw [unitsOf, unitsOf, h]

/-- A flush takes the records not yet written, here all within the ring. -/
theorem flushEvents_does {s : State} (h : s.obs.flash.length + s.obs.unwritten ≤ 131072) (hu : s.obs.unwritten ≤ s.obs.events.length) :
    (flushEvents s).obs.flash = s.obs.flash ++ s.obs.events.drop (s.obs.events.length - s.obs.unwritten) ∧ (flushEvents s).obs.unwritten = 0 ∧
    (flushEvents s).obs.events = s.obs.events ∧ OnlyIn [.regs, .obs] s (flushEvents s) := by
  have hfit : (s.obs.flash ++ s.obs.events.drop (s.obs.events.length - s.obs.unwritten)).length - flashRing = 0 := by
    rw [List.length_append, List.length_drop, flashRing]
    omega
  have ho : OnlyIn [.regs, .obs] s (flushEvents s) := by simp [flushEvents, countN, updObs, onlyIn_iff]
  refine ⟨?_, ?_, ?_, ho⟩ <;> simp only [flushEvents, countN, hfit, List.drop_zero]
  all_goals
    generalize hu : updObs _ s = u
    obtain ⟨c, o, hobs⟩ := countW_obs 0x7015 2 0 s.obs.unwritten u
    rw [hobs, ← hu, updObs]

theorem flushEvents_eq (s : State) :
    ∃ ring, flushEvents s = countW 0x7015 2 0 s.obs.unwritten (updObs (fun o => { o with flash := ring, unwritten := 0 }) s) := ⟨_, rfl⟩

theorem countOf_flushEvents (s : State) {x y : Nat} (h : key x y ≠ key 0x7015 2) (h' : key x y ≠ key 0x7015 4) :
    countOf x y (flushEvents s) = countOf x y s := by
  obtain ⟨ring, hs⟩ := flushEvents_eq s
  rw [hs, countOf_countW_ne _ _ _ _ _ _ h h']
  rfl

/-- The tables of programmable counters after a select. -/
theorem putProg_obs (p : Nat) (v : Word) (s : State) : ∃ l, (putProg p v s).obs = { s.obs with progSel := Tab.put 0 p (v &&& progBits) s.obs.progSel, prog := l } ∧
    Tab.get 0 p l = 0 ∧ ∀ n, n ≠ p → n ≠ p + 1 → Tab.get 0 n l = Tab.get 0 n s.obs.prog := by
  have h : (putProg p v s).obs = { s.obs with
      progSel := Tab.put 0 p (v &&& progBits) s.obs.progSel
      prog := if p % 2 == 0 && (v &&& progBits).getLsbD 27 then Tab.put 0 (p + 1) 0 (Tab.put 0 p 0 s.obs.prog) else Tab.put 0 p 0 s.obs.prog } := by
    simp only [putProg, markStored_frame, setVal_frame]
    split <;> rfl
  refine ⟨_, h, ?_, fun n hn hn1 => ?_⟩
  · split
    · rw [Tab.get_put_ne (by omega), Tab.get_put_same]
    · rw [Tab.get_put_same]
  · split
    · rw [Tab.get_put_ne hn1, Tab.get_put_ne hn]
    · rw [Tab.get_put_ne hn]

theorem putProg_cfg (p : Nat) (v : Word) (s : State) : cfgBytes 0x7006 (p + 1) (putProg p v s) = leBytes 4 (v &&& progBits).toNat := by
  rw [putProg, cfgBytes_markStored, cfgBytes_eq]
  exact Tab.get_put_same _ _ _ _

theorem putProg_only (p : Nat) (v : Word) (s : State) : OnlyIn [.dict, .obs] s (putProg p v s) := by
  unfold putProg
  dsimp only
  split <;> simp [updObs, onlyIn_iff]

/-- The first edge of a sweep that clears nothing copies the first cell. -/
theorem sweepEdge_first {k n : Nat} {c : CtrSnap} {s : State} (hn : c.first = n) (hcells : c.cells = []) (hcl : c.clear = false)
    (hp : pairedCell n s = false) : sweepEdge k n c s = updObs (fun o => { o with
      slots := Tab.set k { c with cells := [cellValue n s], ovf := c.ovf ++ [s.obs.ovfMap.contains n], lastRead := timeA s } o.slots, sweepCell := n }) s := by
  simp [sweepEdge, hn, hcells, hcl, hp]

/-- A slot just taken by a session, without an instant named. -/
def freshSnap (owner first count : Nat) (clear : Bool) : CtrSnap where
  owner := owner
  first := first
  count := count
  clear := clear
  at_ := none
  started := false
  done := false
  stepped := false
  firstRead := Time96.zero
  lastRead := Time96.zero
  cells := []
  ovf := []

/-- Settles O60. -/
theorem observability : Obligations.Observability := by
  refine ⟨?_, ?_, ?_, ?_, ?_, ?_, ?_, ?_, ?_, ?_, ?_, ?_, ?_, ?_, ?_, ?_, ?_, ?_, ?_, ?_, ?_, ?_, ?_, ?_⟩
  · intro q f n fl e k s ha he hat hn hfn hk
    have hn0 : n.toNat ≠ 0 := fun h => hn (BitVec.eq_of_toNat_eq h)
    generalize hc : freshSnap q.sess f.toNat n.toNat (fl.getLsbD 0) = c
    generalize hu : updSession q.sess (fun e => { e with ctrSnapAt := Time96.zero }) (updObs (fun o => { o with slots := Tab.set k c o.slots }) s) = u
    have step := exec_request (c := .ctrSnapRequest q f n fl) (u := u) (st := 0) (d := [BitVec.ofNat 8 k]) rfl ha fun e' he' => by
      obtain rfl : e = e' := Option.some.inj (he.symm.trans he')
      simp [ctrSnapRequest, hn0, show ¬ 8192 < f.toNat + n.toNat by omega, hat, hk, ← hu, ← hc, freshSnap]
    have hus : OnlyIn [.gleno, .obs] s u := by
      rw [← hu]
      refine OnlyIn.trans ?_ ((updSession_only _ _ _).mono (by simp))
      simp [updObs, onlyIn_iff]
    have hobs : (answer q 0 [BitVec.ofNat 8 k] u).obs = { s.obs with slots := Tab.set k c s.obs.slots } := by
      rw [onlyIn_answer q 0 _ u (by decide) .obs (by simp), ← hu, updSession_only _ _ _ .obs (by simp)]
      rfl
    refine ⟨_, step, ?_, fun j hj => ?_, answered_answer _ _ _ _ _ ?_, hus.trans ((onlyIn_answer q 0 _ _ (by decide)).mono (by simp))⟩
    · rw [hobs, Tab.find_set_same, ← hc]
      rfl
    · rw [hobs, Tab.find_set_ne hj]
    · simp [← hu, updObs]
  · intro q f n fl s ha hn
    refine refused (exec_request (c := .ctrSnapRequest q f n fl) rfl ha fun _ _ => ?_)
    have hn : n.toNat = 0 ∨ 8192 < f.toNat + n.toNat := hn.imp (fun h => by simp [h]) id
    simp only [ctrSnapRequest, hn, if_true, Res.of]
    rfl
  · intro q f n fl e s ha he hat hn hfn hk
    have hn0 : n.toNat ≠ 0 := fun h => hn (BitVec.eq_of_toNat_eq h)
    refine refused (exec_request (c := .ctrSnapRequest q f n fl) rfl ha fun e' he' => ?_)
    obtain rfl : e = e' := Option.some.inj (he.symm.trans he')
    simp [ctrSnapRequest, hn0, show ¬ 8192 < f.toNat + n.toNat by omega, hat, hk, Res.of]
  · intro k c s hk hat hst hb hcells hcl hp
    have step : exec (.counterSweepStart k) s = .next (sweepEdge k.val c.first { c with started := true, firstRead := timeA s }
        (updObs (fun o => { o with sweepBusy := some k.val }) s)) := by
      simp [exec, execCounterSweepStart, hk, hat, hst, hb]
    have edge := sweepEdge_first (k := k.val) (c := { c with started := true, firstRead := timeA s })
      (s := updObs (fun o => { o with sweepBusy := some k.val }) s) rfl hcells hcl hp
    replace step := step.trans (congrArg Host.Outcome.next edge)
    refine ⟨_, step, rfl, rfl, Tab.find_set_same _ _ _, rfl, ?_⟩
    · simp [updObs, onlyIn_iff]
  · intro k s hb
    refine ⟨s, ?_, rfl⟩
    cases hk : Tab.find k.val s.obs.slots with
    | none => simp only [exec, execCounterSweepStart, hk]
    | some c => simp [exec, execCounterSweepStart, hk, hb]
  · intro k c s hb hk hle
    refine ⟨_, by simp only [exec, execCounterSweepComplete, hb, hk, if_neg (Nat.not_lt.mpr hle)]; rfl, rfl, Tab.find_set_same _ _ _, rfl, rfl, ?_⟩
    simp [updObs, onlyIn_iff]
  · intro k c s hb hk hlt
    exact ⟨s, by simp only [exec, execCounterSweepComplete, hb, hk, if_pos hlt], rfl⟩
  · intro q k s ha h1 h4
    have step := exec_request (c := .ctrSnapRelease q k) (u := freeCtr k.toNat s) (st := 0) (d := []) rfl ha fun _ _ => by
      rw [if_neg (by omega), Res.of]
    have hobs : (answer q 0 [] (freeCtr k.toNat s)).obs = (freeCtr k.toNat s).obs := onlyIn_answer q 0 [] _ (by decide) .obs (by simp)
    refine ⟨_, step, ?_, fun j hj => ?_, answered_answer _ _ _ _ _ rfl, OnlyIn.trans ?_ ((onlyIn_answer q 0 [] _ (by decide)).mono (by simp))⟩
    · rw [hobs]
      exact Tab.find_erase_same _ _
    · rw [hobs]
      exact Tab.find_erase_ne hj _
    · simp [freeCtr, onlyIn_iff]
  · intro q k s ha hk
    refine refused (exec_request (c := .ctrSnapRelease q k) rfl ha fun _ _ => ?_)
    simp only [show k.toNat < 1 ∨ 4 < k.toNat by omega, if_true, Res.of]
    rfl
  · intro q s ha
    generalize hu : endEvents (fun a => 0xFFFF#16 == 0xFFFF#16 || alarmCode a == (0xFFFF#16).toNat) s = u
    have step := exec_request (c := .alarmAck q 0xFFFF) (u := u) (st := 0) (d := []) rfl ha fun _ _ => by rw [← hu]; rfl
    have hus : OnlyIn [.pins, .regs, .obs] s u := hu ▸ endEvents_only _ s
    have hobs : (answer q 0 [] u).obs = u.obs := onlyIn_answer q 0 [] _ (by decide) .obs (by simp)
    have hmem : ∀ x, x ∈ u.obs.alarms ↔ x ∈ s.obs.alarms ∧ x.alarm.condition = true := fun x => by
      rw [← hu, mem_endEvents]
      simp
    refine ⟨_, step, fun x hx => ?_, fun x hx hc => ?_, answered_answer _ _ _ _ _ (by rw [hus .gleno (by simp)]), ?_⟩
    · exact ((hmem x).mp (hobs ▸ hx)).2
    · exact hobs ▸ (hmem x).mpr ⟨hx, hc⟩
    · exact (hus.mono (by simp)).trans ((onlyIn_answer q 0 [] _ (by decide)).mono (by simp))
  · intro a i s ha
    refine ⟨endAlarm a i s, by simp [exec, execAlarmHoldExpiry, ha], by simp [Stands, standing_endAlarm], fun b j h => ?_, by simp [onlyIn_iff]⟩
    rw [Stands, Stands, standing_endAlarm_other h]
  · intro a i s ha
    exact ⟨s, by simp [exec, execAlarmHoldExpiry, ha], rfl⟩
  · intro s hn hl hr hf hfl hle
    have step : exec .eventLogFlush s = .next (flushEvents (countGrant s)) := by simp [exec, execEventLogFlush, hn, hl, hr, hf]
    obtain ⟨c, o, hobs⟩ := countW_obs 0x130D 1 0 1 s
    have hg : (countGrant s).obs = { s.obs with counts := c, ovfMap := o } := hobs
    have hun : (countGrant s).obs.unwritten = s.obs.unwritten := by rw [hg]
    have hevs : (countGrant s).obs.events = s.obs.events := by rw [hg]
    have hfls : (countGrant s).obs.flash = s.obs.flash := by rw [hg]
    obtain ⟨hflash, hnone, hev, ho⟩ := flushEvents_does (s := countGrant s) (by rw [hfls, hun]; exact hfl) (by rw [hevs, hun]; exact hle)
    rw [hfls, hun, hevs] at hflash
    rw [hevs] at hev
    refine ⟨_, step, hflash, hnone, hev, ?_, OnlyIn.trans ?_ ho⟩
    · rw [countOf_flushEvents _ (by decide) (by decide), countGrant, countOf_count _ _ _ (by decide)]
    · simp [onlyIn_iff]
  · intro s hn hl hr hf
    have step : exec .eventLogFlush s = .next (countRefusal s) := by simp [exec, execEventLogFlush, hn, hl, hr, hf]
    obtain ⟨c, o, hobs⟩ := countW_obs 0x130D 2 0 1 s
    have hg : (countRefusal s).obs = { s.obs with counts := c, ovfMap := o } := hobs
    exact ⟨_, step, by rw [hg], countOf_count _ _ _ (by decide), by simp [onlyIn_iff]⟩
  · intro s hn
    exact ⟨s, by simp [exec, execEventLogFlush, hn], rfl⟩
  · intro q s ha hs hm hr hb
    generalize hu : setEntry cSample 0 1 1 (updObs (fun o => { o with sampling := true, sampleEnd := 0 }) s) = u
    have step := exec_request (c := .sampleStart q) (u := countGrant u) (st := 0) (d := []) rfl ha fun _ _ => by
      simp [sampleStart, hs, hm, hr, hb, hu, Res.of]
    have huo : u.obs = { s.obs with sampling := true, sampleEnd := 0 } := by simp [← hu, updObs]
    obtain ⟨c, o, hobs⟩ := countW_obs 0x130D 1 0 1 u
    have hobs : (answer q 0 [] (countGrant u)).obs = { u.obs with counts := c, ovfMap := o } := by
      rw [onlyIn_answer q 0 [] _ (by decide) .obs (by simp)]
      exact hobs
    have hao : (answer q 0 [] (countGrant u)).obs = (countGrant u).obs := onlyIn_answer q 0 [] _ (by decide) .obs (by simp)
    refine ⟨_, step, by rw [hobs, huo], by rw [hobs, huo], ?_, ?_, answered_answer _ _ _ _ _ (by simp [← hu, updObs]), ?_⟩
    · rw [unitsOf_of_power (by simp : (answer q 0 [] (countGrant u)).power = u.power), ← hu, unitsOf_setEntry]
    · rw [countOf_of_obs hao, countGrant, countOf_count _ _ _ (by decide)]
      refine congrArg (· + 1) ?_
      rw [countOf, huo]
      rfl
    · refine OnlyIn.trans ?_ ((onlyIn_answer q 0 [] _ (by decide)).mono (by simp))
      simp [← hu, updObs, onlyIn_iff]
  · intro q s ha hs
    refine refused (exec_request (c := .sampleStart q) rfl ha fun _ _ => ?_)
    simp [sampleStart, hs, Res.of]
  · intro q s ha hs
    obtain ⟨hobs, hun, ho⟩ := endSampling_does (n := 2) hs
    have step := exec_request (c := .sampleStop q) (u := endSampling 2 s) (st := 0) (d := []) rfl ha fun _ _ => rfl
    generalize endSampling 2 s = u at step hobs hun ho
    have hao : (answer q 0 [] u).obs = u.obs := onlyIn_answer q 0 [] _ (by decide) .obs (by simp)
    refine ⟨_, step, by rw [hao, hobs], by rw [hao, hobs], ?_, by rw [hao, hobs], answered_answer _ _ _ _ _ (by rw [ho .gleno (by simp)]),
      (ho.mono (by simp)).trans ((onlyIn_answer q 0 [] _ (by decide)).mono (by simp))⟩
    rw [unitsOf_of_power (by simp : (answer q 0 [] u).power = u.power), hun]
  · intro s hs hd
    obtain ⟨hobs, hun, ho⟩ := endSampling_does (n := 1) hs
    exact ⟨_, by simp only [exec, execSampleDurationExpiry, if_neg hd], by rw [hobs], by rw [hobs], hun, ho⟩
  · intro s hs
    exact ⟨s, by simp [exec, execSampleDurationExpiry, endSampling, hs], rfl⟩
  · intro e fl pc d lat st iv x s hx hs hm hp hlt
    refine ⟨_, by simp only [exec, execInstructionSample, hx, hs, hm, hp, if_neg (Nat.not_le.mpr hlt)]; rfl, rfl, ?_⟩
    simp [updObs, onlyIn_iff]
  · intro e fl pc d lat st iv x s hx hs hm hp hle
    have step : exec (.instructionSample e fl pc d lat st iv) s =
        .next (setRc 0x60018 2 (count 0x7015 3 (updObs (fun o => { o with discarded := o.discarded + 1 }) s))) := by
      simp [exec, execInstructionSample, hx, hs, hm, hp, hle]
    obtain ⟨c, o, hobs⟩ := countW_obs 0x7015 3 0 1 (updObs (fun o => { o with discarded := o.discarded + 1 }) s)
    have hg : (setRc 0x60018 2 (count 0x7015 3 (updObs (fun o => { o with discarded := o.discarded + 1 }) s))).obs =
        { s.obs with discarded := s.obs.discarded + 1, counts := c, ovfMap := o } := hobs
    refine ⟨_, step, by rw [hg], by rw [hg], countOf_count _ _ _ (by decide), ?_⟩
    simp [updObs, onlyIn_iff]
  · intro e fl pc d lat st iv s hs
    refine ⟨s, ?_, rfl⟩
    cases hx : s.life.spar[e.val]? with
    | none => simp only [exec, execInstructionSample, hx]
    | some x => simp [exec, execInstructionSample, hx, hs]
  · intro q p v s ha
    have hp : (BitVec.ofNat 8 (p + 1)).toNat = p.val + 1 := by simp; omega
    have step := exec_request (c := .progSelect q (BitVec.ofNat 8 (p + 1)) v) (u := putProg p v s) (st := 0) (d := []) rfl ha fun _ _ => by
      simp [progSelect, hp, show ¬ 128 < p.val + 1 by omega, Res.of]
    obtain ⟨l, hobs, hl, hne⟩ := putProg_obs p v s
    have ho := putProg_only p v s
    have hcfg := putProg_cfg p v s
    generalize putProg p v s = u at step hobs ho hcfg
    have hao : (answer q 0 [] u).obs = u.obs := onlyIn_answer q 0 [] _ (by decide) .obs (by simp)
    refine ⟨_, step, ?_, by rw [hao, hobs, hl], fun n hn hn1 => ⟨?_, by rw [hao, hobs, hne n hn hn1]⟩, ?_,
      answered_answer _ _ _ _ _ (by rw [ho .gleno (by simp)]), (ho.mono (by simp)).trans ((onlyIn_answer q 0 [] _ (by decide)).mono (by simp))⟩
    · rw [progSel, hao, hobs]
      exact Tab.get_put_same _ _ _ _
    · rw [progSel, hao, hobs]
      exact Tab.get_put_ne hn _ _ _
    · rw [cfgBytes_of_dict (s := u) (by simp) (by simp), hcfg]

end Sys2Proof.Machine
end

section
/-!
PROOFS. Firmware update: download, staging, confirmation, the copies and the boot ROM (chapter 19).
-/
namespace Sys2Proof.Machine

/-! ## Requests that are answered 0x0402 and completed at once -/

section
variable {q : Req} {s : State}

theorem isPending_answer (h : (session q.sess s).isSome = true) : isPending q (answer q 0x0402#16 [] s) = true := by
  obtain ⟨e, he⟩ := Option.isSome_iff_exists.mp h
  have hs : ∀ u : State, session q.sess (count 0x120A 9 u) = session q.sess u := count_session _ _ _
  have h1 : session q.sess { s with gleno := { s.gleno with answers := s.gleno.answers ++ [⟨q.sess, q.id, 0x0402#16, []⟩] } } = some e := he
  rw [isPending, answer, if_pos rfl, hs, session_updSession _ h1]
  simp

theorem session_of_admits {need : Role} (h : admits q need s = true) : (session q.sess s).isSome = true := by
  obtain ⟨e, he, -⟩ := admits_role h
  simp [he]

theorem answers_complete (st : Status) (d : List Byte) : (complete q st d s).gleno.answers = s.gleno.answers := by
  unfold complete
  split
  · rfl
  · unfold updSession
    dsimp only
    split <;> rfl

/-- An act between such an answer and its completion that leaves Gleno alone. -/
theorem completed_at_once {need : Role} {u : State} (ha : admits q need s = true) (hg : u.gleno = (answer q 0x0402#16 [] s).gleno) :
    Answered q 0x0402 [] s (complete q 0#16 [] u) ∧
    (complete q 0#16 [] u).gleno.completions = s.gleno.completions ++ [⟨q.sess, q.id, 0, []⟩] ∧ OnlyIn [.gleno] u (complete q 0#16 [] u) := by
  obtain ⟨l, hl⟩ := answer_gleno q 0x0402#16 [] s
  obtain ⟨hc, ho⟩ := complete_does 0#16 ((isPending_of_gleno hg q).trans (isPending_answer (session_of_admits ha)))
  rw [Answered, answers_complete, hc, hg, hl]
  exact ⟨rfl, rfl, ho⟩

end

/-! ## The record of the update -/

/-- A write of the record counts it and stamps it. -/
theorem writeRecord_upd (s : State) : (writeRecord s).upd = { s.upd with seq := s.upd.seq + 1, written := timeA s } := rfl

theorem writeRecord_updUpd (f : Update → Update) (s : State) :
    (writeRecord (updUpd f s)).upd = { f s.upd with seq := (f s.upd).seq + 1, written := timeA s } := rfl

theorem timeA_of_tb {s t : State} (h : t.tb = s.tb) : timeA t = timeA s := by rw [timeA, timeA, domA, domA, h]

/-- A reset module keeps its images, and the state that its record gives them. -/
theorem clearFor_upd (c : Nat) (s : State) : (clearFor c s).upd = { s.upd with download := none, verifyReq := none, confirmReq := none, runs := none } ∧
    (clearFor c s).factory = s.factory := by
  obtain ⟨u, hu, hupd, hf, h⟩ : ∃ u, clearFor c s = takeSettings (storedLasers u) ∧
      u.upd = { s.upd with download := none, verifyReq := none, confirmReq := none, runs := none } ∧ u.factory = s.factory ∧ Unhosted u := by
    refine ⟨_, rfl, ?_, ?_, fun n => ?_⟩
    · split <;> simp [keepPorts]
    · split <;> simp [keepPorts]
    · split <;> simp [keepPorts, path, Refs.reset, Path.reset]
  have hl := storedLasers_only u
  have ht := takeSettings_only (s := storedLasers u) fun n => by
    rw [path_of_refs (hl .refs (by simp))]
    exact h n
  rw [hu, ht .upd (by simp [settingParts]), hl .upd (by simp), ht .factory (by simp [settingParts]), hl .factory (by simp)]
  exact ⟨hupd, hf⟩

theorem coldRestart_does (s : State) : (coldRestart s).life.state = .reset ∧
    (coldRestart s).upd = { s.upd with download := none, verifyReq := none, confirmReq := none, runs := none } ∧ (coldRestart s).factory = s.factory := by
  obtain ⟨hu, hf⟩ := clearFor_upd 5 s
  exact ⟨(intoReset_does _ _ _).1, by simp [coldRestart, intoReset, hu], by simp [coldRestart, intoReset]⟩

/-- UPDATE_ARM of a staged image. -/
theorem armRes_staged {s : State} (hb : bootMigrates s = false) (hs : s.upd.state = 1) (hd : s.upd.download = none) :
    armRes s = Res.of (writeRecord (updUpd (fun u => { u with state := 2 }) s)) 0 := by
  simp [armRes, hb, hs, hd]

theorem armRes_unstaged {s : State} (hb : bootMigrates s = false) (hs : s.upd.state ≠ 1) : armRes s = Res.of s 0x0822#16 := by
  simp [armRes, hb, hs]

theorem confirmStatus_on_trial {s : State} (hb : bootMigrates s = false) (hs : s.upd.state = 4) : confirmStatus s = 0x0402#16 := by
  simp [confirmStatus, hb, hs]

theorem confirmStatus_else {s : State} (hb : bootMigrates s = false) (hs : s.upd.state ≠ 4) : confirmStatus s = 0x0822#16 := by
  simp [confirmStatus, hb, hs]

theorem updUpd_only (f : Update → Update) (s : State) : OnlyIn [.upd] s (updUpd f s) := by simp [updUpd, onlyIn_iff]

theorem writeRecord_only (s : State) : OnlyIn [.upd] s (writeRecord s) := updUpd_only _ s

/-- Of the update a raised alarm moves the mark of a clean start alone. -/
theorem raise_upd (a : Alarm) (i : Nat) (s : State) : ∃ b, (raise a i s).upd = { s.upd with clean := b } := by
  unfold raise
  split
  · exact ⟨_, rfl⟩
  · exact ⟨s.upd.clean && alarmClass a s != 2, by simp⟩

/-- A refresh that a confirmation asks for. -/
def refreshAsk : Waiting := ⟨.background, .flashWrite 3, 4⟩

/-- Confirmation: state 5 with its result, the reserve's alarm, the refresh waiting for its grant, and counter 0 at least the release. -/
theorem confirm_does (s : State) : (confirm s).upd.state = 5 ∧ (confirm s).upd.outcome = 4 ∧ (confirm s).upd.block = 0 ∧
    Stands .reserveInvalid noInst (confirm s) ∧ countOf 0x610B 3 (confirm s) = countOf 0x610B 3 s + 1 ∧
    (confirm s).power.waiting = s.power.waiting ++ [refreshAsk] ∧
    (confirm s).trust = { s.trust with counters := setAt 0 (if (s.trust.counters.getD 0 0).toNat < (releaseOf s.upd.active).toNat then
      releaseOf s.upd.active else s.trust.counters.getD 0 0) s.trust.counters } ∧
    OnlyIn [.pins, .power, .regs, .obs, .trust, .upd] s (confirm s) := by
  generalize hu : writeRecord (setResult 4 0 (releaseOf s.upd.active) (updUpd (fun u => { u with state := 5, block := 0, preserved := none })
    (updTrust (fun t => { t with counters := setAt 0 (if (s.trust.counters.getD 0 0).toNat < (releaseOf s.upd.active).toNat then
      releaseOf s.upd.active else s.trust.counters.getD 0 0) t.counters }) s))) = u
  have done : confirm s = { raise .reserveInvalid noInst (count 0x610B 3 u) with
      power := { (raise .reserveInvalid noInst (count 0x610B 3 u)).power with waiting := (raise .reserveInvalid noInst (count 0x610B 3 u)).power.waiting ++ [refreshAsk] } } := by
    rw [← hu]
    rfl
  have hus : OnlyIn [.trust, .upd] s u := by simp [← hu, writeRecord, setResult, updUpd, updTrust, onlyIn_iff]
  obtain ⟨b, hclean⟩ := raise_upd .reserveInvalid noInst (count 0x610B 3 u)
  have hcount : countOf 0x610B 3 (raise .reserveInvalid noInst (count 0x610B 3 u)) = countOf 0x610B 3 s + 1 := by
    rw [countOf_raise _ _ _ _ _ (by decide) (by decide), countOf_count _ _ _ (by decide), countOf_of_obs (hus .obs (by simp))]
  have hstands := standing_raise .reserveInvalid noInst (count 0x610B 3 u)
  have hro : OnlyIn [.pins, .regs, .obs, .upd] u (raise .reserveInvalid noInst (count 0x610B 3 u)) := by simp [onlyIn_iff]
  have hcu : (count 0x610B 3 u).upd = u.upd := by simp
  rw [hcu] at hclean
  generalize raise .reserveInvalid noInst (count 0x610B 3 u) = v at *
  have hvp : v.power = s.power := (hro .power (by simp)).trans (hus .power (by simp))
  rw [done]
  refine ⟨by rw [hclean, ← hu]; rfl, by rw [hclean, ← hu]; rfl, by rw [hclean, ← hu]; rfl, hstands, hcount, by rw [hvp],
    (hro .trust (by simp)).trans (by rw [← hu]; rfl), ?_⟩
  refine ((hus.mono (by simp)).trans (hro.mono (by simp))).trans ?_
  simp [onlyIn_iff]

end Sys2Proof.Machine
end

section
/-!
PROOFS. The commands of firmware update, settled (chapter 19).
-/
namespace Sys2Proof.Machine

theorem max_of_ite {a b : BitVec 32} : (if a.toNat < b.toNat then b else a).toNat = max a.toNat b.toNat := by
  split <;> omega

theorem getD_setAt_zero {α : Type} (d v : α) {l : List α} (h : l ≠ []) : (setAt 0 v l).getD 0 d = v := by
  cases l with
  | nil => exact absurd rfl h
  | cons x l => rfl

/-- What a completion of `.imageVerified` finds: its request, with nothing more to verify. -/
theorem verified_completes {q : Req} {s u : State} (st : Status) (hp : isPending q s = true) (hg : u.gleno = s.gleno) :
    Completed q st s (complete q st [] u) ∧ OnlyIn [.gleno] u (complete q st [] u) := by
  obtain ⟨hc, ho⟩ := complete_does st ((isPending_of_gleno hg q).trans hp)
  exact ⟨by rw [Completed, hc, hg], ho⟩

/-- The answer of a request that completes later counts itself and nothing else. -/
theorem countOf_answer_pending {x y : Nat} (q : Req) (s : State) (h : key x y ≠ key 0x120A 9) (h' : key x y ≠ key 0x7015 4) :
    countOf x y (answer q 0x0402#16 [] s) = countOf x y s := by
  rw [answer, if_pos rfl, countOf_count_ne _ _ _ _ _ h h']
  exact countOf_of_obs (updSession_only _ _ _ .obs (by simp)) x y

/-- The boot ROM starts an image: it is measured, and it runs. -/
theorem bootRuns_does (r : Region) (s : State) : (bootRuns r s).upd = { s.upd with runs := some r } ∧ OnlyIn [.trust, .upd] s (bootRuns r s) :=
  ⟨by simp [bootRuns, updTrust, updUpd], by simp [bootRuns, updTrust, updUpd, onlyIn_iff]⟩

/-- A finished copy: the boot ROM gives its entry back. -/
theorem bootCopies_off (s : State) : unitsOf cFlash 3 (bootCopies false s) = 0 ∧ OnlyIn [.power] s (bootCopies false s) :=
  ⟨unitsOf_setEntry _ _ _ _ _, by simp [bootCopies, onlyIn_iff]⟩

/-- A refresh that waits for a new grant. -/
theorem deferRefresh_does (s : State) : unitsOf cFlash 3 (deferRefresh s) = 0 ∧ (deferRefresh s).power.waiting = s.power.waiting ++ [refreshAsk] ∧
    OnlyIn [.power] s (deferRefresh s) := by
  refine ⟨unitsOf_setEntry cFlash 3 0 0 s, ?_, by simp [deferRefresh, onlyIn_iff]⟩
  simp [deferRefresh, refreshAsk]

/-- A block of a copy whose source ends with it. -/
theorem exec_flashCopyBlock_last {s : State} {src : List Byte} (hl : s.life.nymyx = false) (hst : s.life.state = .starting) (hlev : s.power.level ≠ 4)
    (hun : unitsOf cFlash 3 s ≠ 0) (hs : s.upd.state = 3 ∨ s.upd.state = 6) (hsrc : (if s.upd.state = 3 then s.upd.staging else s.upd.reserve) = src)
    (hle : blocksOf src ≤ s.upd.block + 1) : ∃ x, OnlyIn [.power, .upd] s x ∧ unitsOf cFlash 3 x = 0 ∧ x.upd.active = src ∧
      x.upd.staging = s.upd.staging ∧ exec .flashCopyBlock s = .next (bootRuns .active (
        if s.upd.state = 3 then setResult 3 0 (releaseOf src) (updUpd (fun u => { u with state := 4, starts := 1 }) x)
        else count 0x610B 4 (setResult 5 0 (releaseOf src) (updUpd (fun u => { u with state := 0, starts := 0, rejected := true }) x)))) := by
  generalize hw : writeRecord (updUpd (fun u => { u with active := copyBlock src u.active u.block, block := u.block + 1 }) s) = w
  have hwu := hw ▸ writeRecord_updUpd (fun u => { u with active := copyBlock src u.active u.block, block := u.block + 1 }) s
  have hws : OnlyIn [.upd] s w := hw ▸ (updUpd_only _ s).trans (writeRecord_only _)
  obtain ⟨hunits, ho⟩ := bootCopies_off (updUpd (fun u => { u with active := src, block := 0 }) w)
  refine ⟨bootCopies false (updUpd (fun u => { u with active := src, block := 0 }) w), ?_, hunits, ?_, ?_, ?_⟩
  · exact ((hws.mono (by simp)).trans ((updUpd_only _ w).mono (by simp))).trans (ho.mono (by simp))
  · rw [ho .upd (by simp), updUpd_upd]
  · rw [ho .upd (by simp), updUpd_upd, hwu]
  · have hgo : ¬ (s.life.nymyx = true ∨ s.life.state ≠ .starting ∨ s.power.level = 4 ∨ unitsOf cFlash 3 s = 0 ∨ (s.upd.state ≠ 3 ∧ s.upd.state ≠ 6)) := by
      simp only [hl, hst, hlev, hun]
      grind
    have hblk : ¬ w.upd.block < blocksOf src := by
      rw [hwu]
      exact Nat.not_lt.mpr hle
    simp only [exec, execFlashCopyBlock, if_neg hgo, hsrc, hw, if_neg hblk]
    split <;> rfl

/-- Settles O59. -/
theorem firmwareUpdate : Obligations.FirmwareUpdate := by
  refine ⟨?_, ?_, ?_, ?_, ?_, ?_, ?_, ?_, ?_, ?_, ?_, ?_, ?_, ?_, ?_, ?_, ?_, ?_, ?_, ?_, ?_, ?_, ?_, ?_, ?_, ?_, ?_, ?_, ?_⟩
  · intro q n e s ha he hb ht hl hst hd hv hlo hhi hf
    generalize hx : updUpd (fun u => { u with state := 0, staging := [], rejected := false, download := some q.sess }) s = x
    generalize hu : countGrant (setEntry cFlash 3 1 4 x) = u
    generalize hw : writeRecord (updSession q.sess (fun e => { e with transfer := some ⟨imageKey, true, n, [], 0⟩ }) u) = w
    have step := exec_request (c := .updateDownloadInitiate q n) (u := w) (st := 0) (d := []) rfl ha fun e' he' => by
      obtain rfl : e = e' := Option.some.inj (he.symm.trans he')
      simp [downloadInit, hb, ht, hl, Nat.not_lt.mpr hst, hd, hv, show ¬ n < 4353 by omega, show ¬ 67108864 < n by omega, hf, hx, hu, hw, Res.of]
    have hus : OnlyIn [.power, .regs, .obs, .upd] s u := by simp [← hu, ← hx, updUpd, onlyIn_iff]
    have huw : OnlyIn [.gleno, .upd] u w := by
      rw [← hw]
      exact ((updSession_only _ _ _).mono (by simp)).trans ((writeRecord_only _).mono (by simp))
    have hwt := onlyIn_answer q 0 [] w (by decide)
    have hwu : w.upd = { s.upd with state := 0, staging := [], rejected := false, download := some q.sess, seq := s.upd.seq + 1, written := timeA s } := by
      rw [← hw, writeRecord_upd, timeA_of_tb (s := s) ((updSession_only _ _ _ .tb (by simp)).trans (hus .tb (by simp))), updSession_only _ _ _ .upd (by simp), ← hu, ← hx]
      simp [updUpd]
    have hobs : (answer q 0 [] w).obs = u.obs := (hwt .obs (by simp)).trans (huw .obs (by simp))
    refine ⟨_, step, (hwt .upd (by simp)).trans hwu, ?_, ?_, ?_, answered_answer _ _ _ _ _ ?_, ?_⟩
    · rw [unitsOf_of_power ((hwt .power (by simp)).trans (huw .power (by simp))), ← hu, countGrant,
        unitsOf_of_power (s := setEntry cFlash 3 1 4 x) (by simp), unitsOf_setEntry]
    · have hs : session q.sess u = some e := (session_of_gleno (hus .gleno (by simp)) _).trans he
      rw [session_answer (fun e => e.transfer), ← hw, session_of_gleno (writeRecord_only _ .gleno (by simp)), session_updSession _ hs]
      rfl
    · rw [countOf_of_obs hobs, ← hu, countGrant, countOf_count _ _ _ (by decide), countOf_of_obs (s := s) (by simp [← hx, updUpd])]
    · rw [← hw, ← hus .gleno (by simp)]
      unfold writeRecord updSession
      split <;> rfl
    · exact ((hus.mono (by simp)).trans (huw.mono (by simp))).trans (hwt.mono (by simp))
  · intro q n e s ha he hb ht hl hst
    refine refused (exec_request (c := .updateDownloadInitiate q n) rfl ha fun e' he' => ?_)
    obtain rfl : e = e' := Option.some.inj (he.symm.trans he')
    simp [downloadInit, hb, ht, hl, hst, Res.of]
  · intro v q s hq hp hv
    generalize hu : setResult 1 0 (releaseOf s.upd.staging) (updUpd (fun u => { u with state := 1, stagingDigest := digest u.staging })
      (updUpd (fun u => { u with verifyReq := none }) s)) = u
    have step : exec (.imageVerified v) s = .next (complete q 0#16 [] (writeRecord (count 0x610B 1 u))) := by
      simp only [exec, execImageVerified, hq, hv, if_true, hu]
    have hus : OnlyIn [.upd] s u := by simp [← hu, setResult, updUpd, onlyIn_iff]
    have hwo : OnlyIn [.regs, .obs, .upd] u (writeRecord (count 0x610B 1 u)) := by simp [writeRecord, updUpd, onlyIn_iff]
    obtain ⟨hc, ho⟩ := verified_completes (u := writeRecord (count 0x610B 1 u)) 0#16 hp ((hwo .gleno (by simp)).trans (hus .gleno (by simp)))
    have hcu : (count 0x610B 1 u).upd = u.upd := by simp
    refine ⟨_, step, ?_, ?_, ?_, ?_, ?_, hc, ((hus.mono (by simp)).trans (hwo.mono (by simp))).trans (ho.mono (by simp))⟩
    iterate 4 rw [ho .upd (by simp), writeRecord_upd, hcu, ← hu]; rfl
    rw [countOf_of_obs (ho .obs (by simp)), countOf_of_obs (writeRecord_only _ .obs (by simp)), countOf_count _ _ _ (by decide),
      countOf_of_obs (hus .obs (by simp))]
  · intro v q s hq hp hv
    generalize hu : setResult 2 (verifyImage s.upd.staging v s) (releaseOf s.upd.staging) (updUpd (fun u => { u with verifyReq := none }) s) = u
    have step : exec (.imageVerified v) s = .next (complete q 0x0823#16 [] (count 0x610B 2 u)) := by
      simp only [exec, execImageVerified, hq, hv, if_false, hu]
    have hus : OnlyIn [.upd] s u := by simp [← hu, setResult, updUpd, onlyIn_iff]
    have hwo : OnlyIn [.regs, .obs] u (count 0x610B 2 u) := by simp [onlyIn_iff]
    obtain ⟨hc, ho⟩ := verified_completes (u := count 0x610B 2 u) 0x0823#16 hp ((hwo .gleno (by simp)).trans (hus .gleno (by simp)))
    refine ⟨_, step, ?_, ?_, ?_, ?_, hc, ((hus.mono (by simp)).trans (hwo.mono (by simp))).trans (ho.mono (by simp))⟩
    iterate 3 rw [ho .upd (by simp), hwo .upd (by simp), ← hu]; rfl
    rw [countOf_of_obs (ho .obs (by simp)), countOf_count _ _ _ (by decide), countOf_of_obs (hus .obs (by simp))]
  · intro v s hq
    exact ⟨s, by simp only [exec, execImageVerified, hq], rfl⟩
  · intro q s ha hb hs hd
    have step := exec_request (c := .updateArm q) rfl ha fun _ _ => armRes_staged hb hs hd
    refine ⟨_, step, onlyIn_answer q 0 [] _ (by decide) .upd (by simp), answered_answer _ _ _ _ _ rfl, ?_⟩
    exact (((updUpd_only _ _).mono (by simp)).trans ((writeRecord_only _).mono (by simp))).trans ((onlyIn_answer q 0 [] _ (by decide)).mono (by simp))
  · intro q s ha hb hs
    exact refused (exec_request (c := .updateArm q) rfl ha fun _ _ => armRes_unstaged hb hs)
  · intro q s ha hb hs
    have step := exec_request (c := .updateDisarm q) (u := writeRecord (updUpd (fun u => { u with state := 1 }) s)) (st := 0) (d := []) rfl ha
      fun _ _ => by simp [disarm, hb, hs, Res.of]
    refine ⟨_, step, onlyIn_answer q 0 [] _ (by decide) .upd (by simp), answered_answer _ _ _ _ _ rfl, ?_⟩
    exact (((updUpd_only _ _).mono (by simp)).trans ((writeRecord_only _).mono (by simp))).trans ((onlyIn_answer q 0 [] _ (by decide)).mono (by simp))
  · intro q s ha hb hs
    refine refused (exec_request (c := .updateDisarm q) rfl ha fun _ _ => ?_)
    simp [disarm, hb, hs, Res.of]
  · intro q s ha hb hs hd hl hp
    generalize hok : (fun s : State => if (s.life.state ≠ .running ∧ s.life.state ≠ .starting ∧ s.life.state ≠ .stopped) then 0x0401#16 else (armRes s).code) = ok
    have hgo : ok s = 0 := by
      simp [← hok, hl, armRes_staged hb hs hd, Res.of]
    have step : exec (.updateArmRestart q) s = .next (coldRestart (emit .slotFrame q.sess [q.id.toNat, 0] (armRes (answer q 0 [] s)).st)) := by
      have act := requestThen_acts (fun s => coldRestart (emit .slotFrame q.sess [q.id.toNat, 0] (armRes s).st)) ha hgo
      simp only [exec, execUpdateArmRestart]
      rw [hok, act]
    have hau : (answer q 0 [] s).upd = s.upd := onlyIn_answer q 0 [] s (by decide) .upd (by simp)
    have hal : (answer q 0 [] s).life = s.life := onlyIn_answer q 0 [] s (by decide) .life (by simp)
    have haf : (answer q 0 [] s).factory = s.factory := onlyIn_answer q 0 [] s (by decide) .factory (by simp)
    have harm := armRes_staged (s := answer q 0 [] s) (by rw [bootMigrates, migratingRole, hal]; exact hb) (by rw [hau, hs]) (by rw [hau, hd])
    rw [harm] at step
    generalize hv : emit .slotFrame q.sess [q.id.toNat, 0] (Res.of (writeRecord (updUpd (fun u => { u with state := 2 }) (answer q 0 [] s))) 0).st = v at step
    have hvu : v.upd.state = 2 ∧ v.upd.staging = s.upd.staging := by
      simp [← hv, Res.of, emit, writeRecord, updUpd]
    have hvf : v.factory = s.factory := by
      simp [← hv, Res.of, writeRecord, updUpd]
    obtain ⟨hstate, hupd, hfac⟩ := coldRestart_does v
    refine ⟨_, step, by rw [hupd, hvu.1], by rw [hupd, hvu.2], hstate, hfac.trans hvf⟩
  · intro q s ha hb hl hs
    have step : exec (.updateArmRestart q) s = .next (answer q 0x0822#16 [] s) := by
      simp only [exec, execUpdateArmRestart]
      rw [requestThen_refuses _ ha] <;> simp [hl, armRes_unstaged hb hs, Res.of]
    exact refused step
  · intro q s ha hb hs hlen
    have step : exec (.updateConfirmAccept q) s = .next (complete q 0#16 [] (confirm (answer q 0x0402#16 [] s))) := by
      simp only [exec, execUpdateConfirmAccept]
      rw [requestThen_acts _ ha (confirmStatus_on_trial hb hs)]
    generalize hu : answer q 0x0402#16 [] s = u at step
    obtain ⟨hst, hout, hblk, halm, hcount, hwait, htrust, ho⟩ := confirm_does u
    obtain ⟨hans, hcomp, hco⟩ := completed_at_once (u := confirm u) ha (by rw [ho .gleno (by simp), hu])
    have hut : u.trust = s.trust := by simp [← hu]
    have huu : u.upd = s.upd := by simp [← hu]
    have hup : u.power = s.power := by simp [← hu]
    have huc : countOf 0x610B 3 u = countOf 0x610B 3 s := hu ▸ countOf_answer_pending q s (by decide) (by decide)
    refine ⟨_, step, ?_, ?_, ?_, ?_, ?_, ?_, ?_, hans, hcomp⟩
    · rw [hco .upd (by simp), hst]
    · rw [hco .upd (by simp), hout]
    · rw [hco .upd (by simp), hblk]
    · exact (standing_of_obs (hco .obs (by simp)) _ _).trans halm
    · rw [countOf_of_obs (hco .obs (by simp)), hcount, huc]
    · rw [hco .trust (by simp), htrust, hut, huu, getD_setAt_zero _ _ (by intro h; simp [h] at hlen)]
      exact max_of_ite
    · rw [hco .power (by simp), hwait, hup]
      rfl
  · intro q s ha hb hs
    have step : exec (.updateConfirmAccept q) s = .next (answer q 0x0822#16 [] s) := by
      simp only [exec, execUpdateConfirmAccept]
      rw [requestThen_refuses _ ha] <;> simp [confirmStatus_else hb hs]
    exact refused step
  · intro q s ha hb hs
    have step : exec (.updateReject q) s = .next (complete q 0#16 [] (writeRecord (updUpd (fun u => { u with starts := 3 }) (answer q 0x0402#16 [] s)))) := by
      simp only [exec, execUpdateReject]
      rw [requestThen_acts _ ha (confirmStatus_on_trial hb hs)]
    obtain ⟨hans, hcomp, hco⟩ := completed_at_once (u := writeRecord (updUpd (fun u => { u with starts := 3 }) (answer q 0x0402#16 [] s))) ha
      ((writeRecord_only _ .gleno (by simp)).trans (updUpd_only _ _ .gleno (by simp)))
    refine ⟨_, step, ?_, ?_, hans, hcomp⟩
    · rw [hco .upd (by simp), writeRecord_upd, timeA_of_tb (s := s) (by simp [updUpd])]
      simp [updUpd]
    · rw [hco .trust (by simp)]
      simp [writeRecord, updUpd]
  · intro q s ha hb hs
    have step : exec (.updateReject q) s = .next (answer q 0x0822#16 [] s) := by
      simp only [exec, execUpdateReject]
      rw [requestThen_refuses _ ha] <;> simp [confirmStatus_else hb hs]
    exact refused step
  · intro q s ha hb hs
    generalize hu : writeRecord (setResult 6 0 (releaseOf s.upd.staging) (updUpd (fun u => { u with state := 0, staging := [], stagingDigest := [] }) s)) = u
    have step := exec_request (c := .updateDiscard q true) (u := u) (st := 0) (d := []) rfl ha fun _ _ => by
      have hn : ¬ (s.upd.state ≠ 1 ∧ s.upd.state ≠ 2) := by omega
      simp only [discard, hb, Bool.not_true, Bool.false_eq_true, hn, if_false, hu, Res.of]
    have hau : (answer q 0 [] u).upd = u.upd := onlyIn_answer q 0 [] u (by decide) .upd (by simp)
    have hus : OnlyIn [.upd] s u := by simp [← hu, writeRecord, setResult, updUpd, onlyIn_iff]
    refine ⟨_, step, ?_, ?_, ?_, ?_, ?_, ?_, answered_answer _ _ _ _ _ (by rw [hus .gleno (by simp)]),
      (hus.mono (by simp)).trans ((onlyIn_answer q 0 [] _ (by decide)).mono (by simp))⟩
    iterate 6 rw [hau, ← hu]; rfl
  · intro q s ha hb
    refine refused (exec_request (c := .updateDiscard q false) rfl ha fun _ _ => ?_)
    simp [discard, hb, Res.of]
  · intro s hs hc hle hcl hst hl
    have step : exec .autoConfirmExpiry s = .next (confirm s) := by simp [exec, execAutoConfirmExpiry, hs, hc, hle, hcl, hst, hl]
    obtain ⟨hstate, hout, -, halm, -, -, -, ho⟩ := confirm_does s
    exact ⟨_, step, hstate, hout, halm, ho⟩
  · intro s h
    refine ⟨s, ?_, rfl⟩
    simp only [exec, execAutoConfirmExpiry]
    rcases h with h | h <;> simp [h]
  · intro s hl hst hlev hun hs hlt
    have step : exec .flashCopyBlock s = .next (writeRecord (updUpd (fun u => { u with active := copyBlock s.upd.staging u.active u.block, block := u.block + 1 }) s)) := by
      simp [exec, execFlashCopyBlock, hl, hst, hlev, hun, hs, writeRecord, hlt]
    exact ⟨_, step, writeRecord_updUpd _ s, (updUpd_only _ _).trans (writeRecord_only _)⟩
  · intro s hl hst hlev hun hs hle
    obtain ⟨x, hx, hunits, hact, hstg, step⟩ := exec_flashCopyBlock_last hl hst hlev hun (.inl hs) (if_pos hs) hle
    rw [if_pos hs] at step
    obtain ⟨hupd, ho⟩ := bootRuns_does .active (setResult 3 0 (releaseOf s.upd.staging) (updUpd (fun u => { u with state := 4, starts := 1 }) x))
    have hxo : OnlyIn [.upd] x (setResult 3 0 (releaseOf s.upd.staging) (updUpd (fun u => { u with state := 4, starts := 1 }) x)) :=
      (updUpd_only _ _).trans (updUpd_only _ _)
    refine ⟨_, step, by rw [hupd]; exact hact, by rw [hupd]; rfl, by rw [hupd]; rfl, by rw [hupd]; rfl, by rw [hupd], by rw [hupd]; exact hstg, ?_,
      ((hx.mono (by simp)).trans (hxo.mono (by simp))).trans (ho.mono (by simp))⟩
    rw [unitsOf_of_power ((ho .power (by simp)).trans (hxo .power (by simp))), hunits]
  · intro s hl hst hlev hun hs hle
    have hs3 : s.upd.state ≠ 3 := by omega
    obtain ⟨x, hx, hunits, hact, -, step⟩ := exec_flashCopyBlock_last hl hst hlev hun (.inr hs) (if_neg hs3) hle
    rw [if_neg hs3] at step
    generalize hy : setResult 5 0 (releaseOf s.upd.reserve) (updUpd (fun u => { u with state := 0, starts := 0, rejected := true }) x) = y at step
    have hxo : OnlyIn [.upd] x y := hy ▸ (updUpd_only _ _).trans (updUpd_only _ _)
    have hyo : OnlyIn [.regs, .obs] y (count 0x610B 4 y) := by simp [onlyIn_iff]
    obtain ⟨hupd, ho⟩ := bootRuns_does .active (count 0x610B 4 y)
    rw [hyo .upd (by simp)] at hupd
    refine ⟨_, step, by rw [hupd, ← hy]; exact hact, by rw [hupd, ← hy]; rfl, by rw [hupd, ← hy]; rfl, by rw [hupd, ← hy]; rfl, ?_, ?_,
      (((hx.mono (by simp)).trans (hxo.mono (by simp))).trans (hyo.mono (by simp))).trans (ho.mono (by simp))⟩
    · rw [countOf_of_obs (ho .obs (by simp)), countOf_count _ _ _ (by decide), countOf_of_obs ((hxo .obs (by simp)).trans (hx .obs (by simp)))]
    · rw [unitsOf_of_power (((ho .power (by simp)).trans (hyo .power (by simp))).trans (hxo .power (by simp))), hunits]
  · intro s h
    refine ⟨s, congrArg Host.Outcome.next (if_pos ?_), rfl⟩
    rcases h with h | h <;> simp [h]
  · intro s hs hun hlev hl hlt
    have step : exec .reserveRefreshBlock s = .next (writeRecord (updUpd (fun u => { u with reserve := copyBlock u.active u.reserve u.block, block := u.block + 1 }) s)) := by
      simp [exec, execReserveRefreshBlock, hs, hun, hlev, hl, writeRecord, hlt]
    exact ⟨_, step, writeRecord_updUpd _ s, (updUpd_only _ _).trans (writeRecord_only _)⟩
  · intro s hs hun hlev hl hle
    generalize hw : writeRecord (updUpd (fun u => { u with reserve := copyBlock u.active u.reserve u.block, block := u.block + 1 }) s) = w
    have hwu := hw ▸ writeRecord_updUpd (fun u => { u with reserve := copyBlock u.active u.reserve u.block, block := u.block + 1 }) s
    have hws : OnlyIn [.upd] s w := hw ▸ (updUpd_only _ s).trans (writeRecord_only _)
    generalize hx : writeRecord (updUpd (fun u => { u with reserve := u.active, reserveDigest := digest u.active, state := 0, block := 0, starts := 0, staging := [] }) w) = x
    have hxu := hx ▸ writeRecord_updUpd (fun u => { u with reserve := u.active, reserveDigest := digest u.active, state := 0, block := 0, starts := 0, staging := [] }) w
    have hxo : OnlyIn [.upd] w x := hx ▸ (updUpd_only _ w).trans (writeRecord_only _)
    have step : exec .reserveRefreshBlock s = .next (endAlarm .reserveInvalid noInst (setEntry cFlash 3 0 0 x)) := by
      have hgo : ¬ (s.upd.state ≠ 5 ∨ unitsOf cFlash 3 s = 0 ∨ (!s.life.nymyx) = true) := by simp [hs, hun, hl]
      have hblk : ¬ w.upd.block < blocksOf w.upd.active := by
        rw [hwu]
        exact Nat.not_lt.mpr hle
      simp only [exec, execReserveRefreshBlock, if_neg hgo, hw, if_neg hblk, hx]
    have ho : OnlyIn [.pins, .power, .regs, .obs] x (endAlarm .reserveInvalid noInst (setEntry cFlash 3 0 0 x)) := by simp [onlyIn_iff]
    have hupd := (ho .upd (by simp)).trans hxu
    refine ⟨_, step, ?_, by rw [hupd], by rw [hupd], by rw [hupd], ?_, by simp [Stands, standing_endAlarm],
      ((hws.mono (by simp)).trans (hxo.mono (by simp))).trans (ho.mono (by simp))⟩
    · rw [hupd, hwu]
    · rw [unitsOf_of_power (s := setEntry cFlash 3 0 0 x) (by simp), unitsOf_setEntry]
  · intro s hs hun hlev hl hlt
    generalize hw : writeRecord (updUpd (fun u => { u with reserve := copyBlock u.active u.reserve u.block, block := u.block + 1 }) s) = w
    have hwu := hw ▸ writeRecord_updUpd (fun u => { u with reserve := copyBlock u.active u.reserve u.block, block := u.block + 1 }) s
    have hws : OnlyIn [.upd] s w := hw ▸ (updUpd_only _ s).trans (writeRecord_only _)
    have step : exec .reserveRefreshBlock s = .next (deferRefresh w) := by
      have hgo : ¬ (s.upd.state ≠ 5 ∨ unitsOf cFlash 3 s = 0 ∨ (!s.life.nymyx) = true) := by simp [hs, hun, hl]
      have hblk : w.upd.block < blocksOf w.upd.active := by
        rw [hwu]
        exact hlt
      simp only [exec, execReserveRefreshBlock, if_neg hgo, hw, if_pos hblk, if_neg hlev]
    obtain ⟨hunits, hwait, ho⟩ := deferRefresh_does w
    have hupd := (ho .upd (by simp)).trans hwu
    refine ⟨_, step, by rw [hupd], by rw [hupd], by rw [hupd]; exact hs, hunits, ?_, (hws.mono (by simp)).trans (ho.mono (by simp))⟩
    rw [hwait, hws .power (by simp)]
    rfl
  · intro s hun
    exact ⟨s, congrArg Host.Outcome.next (if_pos (by simp [hun])), rfl⟩
  · intro a r g s hr hl hst hstage hun
    have hgo : ¬ (s.upd.runs.isSome = true ∨ s.life.nymyx = true ∨ s.life.state ≠ .starting ∨ s.life.stage = 0 ∨ unitsOf cFlash 3 s ≠ 0) := by
      simp [hr, hl, hst, hstage, hun]
    by_cases ha : verifyImage s.upd.active a s = 0
    · obtain ⟨hupd, ho⟩ := bootRuns_does .active s
      exact ⟨_, by simp only [exec, execBootRomRetry, if_neg hgo, if_pos ha], by rw [hupd, if_pos ha], by rw [hupd], ho⟩
    by_cases hr' : verifyImage s.upd.reserve r s = 0
    · obtain ⟨hupd, ho⟩ := bootRuns_does .reserve s
      exact ⟨_, by simp only [exec, execBootRomRetry, if_neg hgo, if_neg ha, if_pos hr'], by rw [hupd, if_neg ha, if_pos hr'], by rw [hupd], ho⟩
    by_cases hg : verifyImage s.upd.staging g s = 0
    · obtain ⟨hupd, ho⟩ := bootRuns_does .staging s
      exact ⟨_, by simp only [exec, execBootRomRetry, if_neg hgo, if_neg ha, if_neg hr', if_pos hg],
        by rw [hupd, if_neg ha, if_neg hr', if_pos hg], by rw [hupd], ho⟩
    · exact ⟨s, by simp only [exec, execBootRomRetry, if_neg hgo, if_neg ha, if_neg hr', if_neg hg], by rw [hr, if_neg ha, if_neg hr', if_neg hg],
        rfl, .refl _ _⟩
  · intro a r g s hr
    exact ⟨s, congrArg Host.Outcome.next (if_pos (by simp [hr])), rfl⟩

end Sys2Proof.Machine
end

section
/-!
PROOFS. What a change of role leaves (chapter 17): through the paths, the gates and the ports that follow the role, the pair part changes in the seeds
of the domains alone, and no count of the pair moves.
-/
namespace Sys2Proof.Machine

/-- The counts of PAIR_COUNTS stand, and the pair part moves in its seeds alone. -/
def RoleKept (s t : State) : Prop :=
  (∀ k < 256, countOf 0x4413 k t = countOf 0x4413 k s) ∧ ∃ a b, t.pair = { s.pair with seedA := a, seedB := b }

section
variable {s t u : State}

theorem RoleKept.of_eq (ho : t.obs = s.obs) (hp : t.pair = s.pair) : RoleKept s t :=
  ⟨fun k _ => countOf_of_obs ho 0x4413 k, s.pair.seedA, s.pair.seedB, hp⟩

theorem RoleKept.of_counts (hc : ∀ k < 256, countOf 0x4413 k t = countOf 0x4413 k s) (hp : t.pair = s.pair) : RoleKept s t :=
  ⟨hc, s.pair.seedA, s.pair.seedB, hp⟩

theorem RoleKept.refl (s : State) : RoleKept s s := .of_eq rfl rfl

theorem RoleKept.trans (h : RoleKept s t) (k : RoleKept t u) : RoleKept s u := by
  obtain ⟨hc, a, b, hp⟩ := h
  obtain ⟨kc, c, d, kp⟩ := k
  exact ⟨fun k hk => (kc k hk).trans (hc k hk), c, d, by rw [kp, hp]⟩

/-- A step that keeps the observations and the pair, first or last. -/
theorem RoleKept.after (h : RoleKept t u) (ho : t.obs = s.obs) (hp : t.pair = s.pair) : RoleKept s u := (RoleKept.of_eq ho hp).trans h
theorem RoleKept.before (h : RoleKept s t) (ho : u.obs = t.obs) (hp : u.pair = t.pair) : RoleKept s u := h.trans (.of_eq ho hp)

theorem RoleKept.ite {p : Prop} [Decidable p] (ht : RoleKept s t) (hu : RoleKept s u) : RoleKept s (if p then t else u) := by
  split
  · exact ht
  · exact hu

theorem RoleKept.foldl {α : Type} {f : State → α → State} (h : ∀ s a, RoleKept s (f s a)) (l : List α) (s : State) : RoleKept s (l.foldl f s) := by
  induction l generalizing s with
  | nil => exact .refl s
  | cons a l ih => exact (h s a).trans (ih _)

end

theorem key_pairCounts_ne {i j k : Nat} (hi : i ≠ 0x4413) (hj : j < 256) (hk : k < 256) : key 0x4413 k ≠ key i j := by
  intro h
  have h : 0x4413 * 256 + k = i * 256 + j := h
  omega

theorem roleKept_count {i j : Nat} (hi : i ≠ 0x4413) (hj : j < 256) (s : State) : RoleKept s (count i j s) :=
  .of_counts (fun k hk => countOf_count_ne i j 0x4413 k s (key_pairCounts_ne hi hj hk) (key_pairCounts_ne (by decide) (by decide) hk)) (by simp)

theorem roleKept_countW (i j n : Nat) {w : Nat} (hw : w % 256 ≠ 0) (s : State) : RoleKept s (countW i j w n s) :=
  .of_counts (fun k hk => countOf_countW_later i j w n 0x4413 k s hw (key_pairCounts_ne (by decide) (by decide) hk)) (by simp)

theorem roleKept_raise (a : Alarm) (i : Nat) (s : State) : RoleKept s (raise a i s) :=
  .of_counts (fun k hk => countOf_raise a i 0x4413 k s (key_pairCounts_ne (by decide) (by decide) hk) (key_pairCounts_ne (by decide) (by decide) hk)) (by simp)

theorem roleKept_endAlarm (a : Alarm) (i : Nat) (s : State) : RoleKept s (endAlarm a i s) :=
  .of_counts (fun k hk => countOf_endAlarm a i 0x4413 k s (key_pairCounts_ne (by decide) (by decide) hk) (key_pairCounts_ne (by decide) (by decide) hk)) (by simp)

theorem roleKept_logInfo (e : EventKind) (i : Nat) (s : State) : RoleKept s (logInfo e i s) :=
  .of_counts (fun k hk => countOf_logInfo e i 0x4413 k s (key_pairCounts_ne (by decide) (by decide) hk) (key_pairCounts_ne (by decide) (by decide) hk)) (by simp)

/-! ## The paths -/

theorem roleKept_updPath (n : Nat) (f : Path → Path) (s : State) : RoleKept s (updPath n f s) := .of_eq (by simp) (by simp)
theorem roleKept_setTraceable (d : Domain) (b : Bool) (s : State) : RoleKept s (setTraceable d b s) := .of_eq (by simp) (by simp)

theorem roleKept_bridge (n : Nat) (s : State) : RoleKept s (bridge n s) := .ite (.refl s) (roleKept_updPath _ _ s)

theorem roleKept_unbridge (n : Nat) (s : State) : RoleKept s (unbridge n s) := .of_eq (by simp) (by simp)

theorem roleKept_pathHoldover (n : Nat) (e : Int) (s : State) : RoleKept s (pathHoldover n e s) :=
  (roleKept_count (by decide) (by decide) _).after (by simp) (by simp)

theorem roleKept_pathFree (n : Nat) (s : State) : RoleKept s (pathFree n s) := by
  have h := (roleKept_updPath n (fun p => { p with st := .free, slot := none, bridging := false, switching := none, bound := 0, fromHold := false, holdSec := 0 }) s).trans
    (roleKept_endAlarm .holdoverLost n _)
  exact .ite (h.before rfl rfl) (h.before (by simp) (by simp))

theorem roleKept_pathOut (n : Nat) (e : Int) (s : State) : RoleKept s (pathOut n e s) := .ite (roleKept_pathHoldover n e s) (roleKept_pathFree n s)

theorem roleKept_endSeed (n k : Nat) (s : State) : RoleKept s (endSeed n k s) :=
  .ite (.refl s) (.ite ⟨fun _ _ => rfl, none, s.pair.seedB, rfl⟩ (.ite ⟨fun _ _ => rfl, s.pair.seedA, none, rfl⟩ (.refl s)))

theorem roleKept_judgeP (s : State) : RoleKept s (judgeP s) := .of_eq (by unfold judgeP stepP; dsimp only; split <;> simp) (by simp)

theorem roleKept_setRc (a : Nat) (m : Word) (s : State) : RoleKept s (setRc a m s) := .of_eq rfl rfl

theorem roleKept_stepped (d : Domain) (s : State) : RoleKept s (stepped d s) := by
  have logged (m : Word) (u : State) : RoleKept u (logInfo .other 0 (count 0x3012 6 (setRc 0x20018 m u))) :=
    ((roleKept_setRc _ m u).trans (roleKept_count (i := 0x3012) (j := 6) (by decide) (by decide) _)).trans (roleKept_logInfo _ _ _)
  have marked (u : State) (o : Obs) (v : Vernier) (h : o.counts = u.obs.counts) : RoleKept u { u with obs := o, vern := v } :=
    .of_counts (fun k _ => by rw [countOf, countOf, h]) rfl
  have epoch (f : DomainState → DomainState) : RoleKept s (updDom d f s) := .of_eq (by simp) (by simp)
  unfold stepped
  dsimp only
  refine RoleKept.trans ?_ (roleKept_judgeP _)
  cases d with
  | a => exact ((epoch _).trans (logged _ _)).trans (marked _ _ _ rfl)
  | b => exact (epoch _).trans (logged _ _)

theorem roleKept_adjTime (d : Domain) (a : Int) (s : State) : RoleKept s (adjTime d a s) :=
  .ite (.of_eq (by simp) (by simp)) ((roleKept_stepped d _).after (by simp) (by simp))

theorem roleKept_gateTrim (c : Nat) (s : State) : RoleKept s (gateTrim c s) :=
  .of_counts (fun k hk => countOf_gateTrim c 0x4413 k s (key_pairCounts_ne (by decide) (by decide) hk) (key_pairCounts_ne (by decide) (by decide) hk)) (by simp)

theorem roleKept_updGate (c : Nat) (f : Gate → Gate) (s : State) : RoleKept s (updGate c f s) := .of_eq (by simp) (by simp)

theorem roleKept_gateNow (c : Nat) (s : State) : RoleKept s (gateNow c s) := .of_eq (by simp [gateNow]) (by simp)

theorem roleKept_rephasePort (c : Nat) (s : State) : RoleKept s (rephasePort c s) := by
  have started (u : State) (p : Bool) : RoleKept u (count 0x430D 6 (if p then countW 0x430C (c + 1) 3 1 u else u)) :=
    (RoleKept.ite (roleKept_countW _ _ _ (by decide) _) (.refl _)).trans (roleKept_count (by decide) (by decide) _)
  unfold rephasePort
  dsimp only
  refine .ite (.refl s) ?_
  refine RoleKept.trans ?_ (roleKept_gateTrim c _)
  refine RoleKept.trans ?_ (roleKept_gateNow c _)
  refine RoleKept.trans ?_ (started _ _)
  exact roleKept_updGate _ _ _

theorem roleKept_rephase (d : Domain) (s : State) : RoleKept s (rephase d s) :=
  .foldl (fun s c => .ite (roleKept_rephasePort c s) (.refl s)) _ s

theorem roleKept_updSlot (k : Nat) (f : Slot → Slot) (s : State) : RoleKept s (updSlot k f s) := .of_eq (by simp) (by simp)

theorem roleKept_stepPath (n k : Nat) (s : State) : RoleKept s (stepPath n k s) :=
  .ite (.refl s) (((((roleKept_setTraceable _ _ s).trans (roleKept_adjTime _ _ _)).trans (roleKept_rephase _ _)).trans (roleKept_updSlot _ _ _)).trans
    (roleKept_updPath _ _ _))

theorem roleKept_timeSwitch (n k : Nat) (s : State) : RoleKept s (timeSwitch n k s) := by
  have h := ((roleKept_count (i := 0x3225) (j := 1) (by decide) (by decide)
    (setRc 0x40018 4 (updPath n (fun p => { p with slot := some k, bridging := false }) s))).after (s := s) (by simp) (by simp)).trans (roleKept_endSeed n k _)
  exact .ite ((h.trans (roleKept_updPath _ _ _)).trans (roleKept_stepPath n k _)) h

theorem roleKept_startSwitch (n k : Nat) (s : State) : RoleKept s (startSwitch n k s) := .ite (roleKept_updPath _ _ s) (roleKept_timeSwitch n k s)

theorem roleKept_acquire (n k : Nat) (s : State) : RoleKept s (acquire n k s) :=
  (((roleKept_updPath _ _ s).trans (roleKept_endSeed n k _)).trans (roleKept_endAlarm _ _ _)).trans (roleKept_stepPath n k _)

theorem roleKept_evalLocked (n k : Nat) (s : State) : RoleKept s (evalLocked n k s) := by
  unfold evalLocked
  dsimp only
  refine .ite (roleKept_bridge n s) (.ite ((roleKept_unbridge n s).trans ?_) ?_)
  · split
    · exact .ite (.refl _) (roleKept_startSwitch _ _ _)
    · exact roleKept_pathOut _ _ _
  · split
    · exact (roleKept_bridge n s).trans (roleKept_startSwitch _ _ _)
    · exact .ite (roleKept_pathOut _ _ _) (roleKept_pathHoldover _ _ _)

theorem roleKept_evalAcquiring (n k : Nat) (s : State) : RoleKept s (evalAcquiring n k s) := by
  unfold evalAcquiring
  refine .ite (roleKept_pathOut _ _ _) ?_
  split
  · exact roleKept_pathOut _ _ _
  · exact .ite (roleKept_stepPath _ _ _) (roleKept_startSwitch _ _ _)

theorem roleKept_evalPath (n : Nat) (s : State) : RoleKept s (evalPath n s) := by
  unfold evalPath
  dsimp only
  split
  · exact .ite (.refl s) (.ite ((roleKept_updPath _ _ s).trans (roleKept_bridge n _)) (roleKept_pathOut _ _ _))
  · split
    · exact .ite (roleKept_updPath _ _ s) (.refl s)
    · split
      · exact roleKept_evalLocked _ _ _
      · exact roleKept_pathHoldover _ _ _
    · split
      · exact roleKept_evalAcquiring _ _ _
      · exact roleKept_pathOut _ _ _
    · split
      · exact roleKept_acquire _ _ _
      · exact .refl s

theorem roleKept_leaveMate (s : State) (n : Nat) : RoleKept s (leaveMate s n) := .ite (roleKept_evalPath n s) (.refl s)

/-! ## The time state, the gates and the ports -/

theorem roleKept_seedFrom (b : List Byte) (s : State) : RoleKept s (seedFrom b s) := by
  unfold seedFrom
  extract_lets bound seed own s1 s2 s3 secs refs s4 s5
  have limit (n : Nat) (u : State) : RoleKept u (bound n u) := .ite (roleKept_updPath _ _ u) (.refl u)
  have h1 : RoleKept s s1 := ((limit 0 s).trans (limit 1 _)).trans (limit 2 _)
  clear_value s1
  have h2 : RoleKept s1 s2 := (roleKept_setTraceable _ _ _).trans (roleKept_setTraceable _ _ _)
  clear_value s2
  have h3 : RoleKept s2 s3 := ⟨fun _ _ => rfl, _, _, rfl⟩
  clear_value s3
  have h4 : RoleKept s3 s4 := .of_eq rfl rfl
  clear_value s4
  have h5 : RoleKept s4 s5 := .foldl (fun u n => .of_eq (by simp) (by simp)) _ _
  clear_value s5
  have h6 : RoleKept s5 ([0, 1, 2, 3].foldl (seedSlot b) s5) := .foldl (fun u k => roleKept_updSlot _ _ u) _ _
  have h := (h1.trans h2).trans h3
  exact .ite h (((h.trans h4).trans h5).trans h6)

theorem roleKept_gateTime (c : Nat) (l : GateList) (n : Nat) (s : State) : RoleKept s (gateTime c l n s).2 :=
  .ite ((roleKept_updGate _ _ s).trans (roleKept_count (by decide) (by decide) _)) (roleKept_updGate _ _ s)

theorem roleKept_gateWake (c : Nat) (s : State) : RoleKept s (gateWake c s) := by
  unfold gateWake
  split
  · exact .ite ((roleKept_gateTime _ _ _ _).trans (roleKept_updGate _ _ _)) (.refl s)
  · exact .refl s

theorem roleKept_roleSettle (s : State) : RoleKept s (roleSettle s) :=
  (RoleKept.of_eq (s := s) (t := esmcEvents (selectPorts s)) (by simp) (by simp)).trans (.foldl (fun s c => roleKept_gateWake c s) _ _)

theorem roleKept_judgeDual (s : State) : RoleKept s (judgeDual s) :=
  .ite (.ite (.refl s) ((roleKept_raise _ _ _).after rfl rfl)) (roleKept_endAlarm _ _ s)

end Sys2Proof.Machine
end

section
/-!
PROOFS. The life of a mated pair (chapter 17): pairing, the links, the heartbeats and the arbitration of a takeover.
-/
namespace Sys2Proof.Machine

/-! ## A takeover -/

/-- The checkpoint that a takeover starts from, or no time state. -/
theorem roleKept_seeded (s : State) : RoleKept s (if ckptFresh s then
    match s.pair.held with
    | some k => seedFrom k.bytes s
    | none => s
  else raise .takeoverStale noInst (setTraceable .b false (setTraceable .a false s))) := by
  refine .ite ?_ (((roleKept_setTraceable _ _ s).trans (roleKept_setTraceable _ _ _)).trans (roleKept_raise _ _ _))
  split
  · exact roleKept_seedFrom _ _
  · exact .refl s

/-- What a module that was not active is once it becomes active. -/
theorem becomeActive_does (e : Option (BitVec 32)) {s : State} (h : s.pair.role ≠ .active) :
    (becomeActive e s).pair.role = .active ∧
    (becomeActive e s).pair.epoch = e.getD (BitVec.ofNat 32 (max s.pair.epoch.toNat s.pair.mateEpoch.toNat + 1)) ∧
    (becomeActive e s).pair.arbitrating = false ∧ (becomeActive e s).pair.holdoff = false ∧ (becomeActive e s).pair.handover = s.pair.handover ∧
    ∀ k < 256, countOf 0x4413 k (becomeActive e s) = countOf 0x4413 k s := by
  unfold becomeActive
  extract_lets s1 s2 s3
  have hobs : s1.obs = s.obs := by simp [s1, setRole, updPair, h]
  have hpair : s1.pair = { s.pair with
      arbitrating := false, holdoff := false, refused := false, exch := none, role := .active
      epoch := e.getD (BitVec.ofNat 32 (max s.pair.epoch.toNat s.pair.mateEpoch.toNat + 1)) } := by
    simp [s1, setRole, updPair, h, setRc]
  clear_value s1
  have h2 : RoleKept s1 s2 := .foldl roleKept_leaveMate _ _
  clear_value s2
  have h3 : RoleKept s2 s3 := roleKept_seeded s2
  clear_value s3
  obtain ⟨hc, a, b, hp⟩ := h2.trans h3
  obtain ⟨kc, x, y, kp⟩ := (roleKept_roleSettle { s3 with pair := { s3.pair with lastTakeover := timeA s3 } }).trans (roleKept_judgeDual _)
  have hp3 : s3.pair = { s1.pair with seedA := a, seedB := b } := hp
  rw [kp, hp3, hpair]
  exact ⟨rfl, rfl, rfl, rfl, rfl, fun k hk => (kc k hk).trans ((hc k hk).trans (countOf_of_obs hobs 0x4413 k))⟩

/-- A takeover that nothing inhibits. -/
theorem takeover_does (e : Option (BitVec 32)) {s : State} (h : s.pair.role ≠ .active) (hi : s.pair.inhibit = false) :
    (takeover e s).pair.role = .active ∧
    (takeover e s).pair.epoch = e.getD (BitVec.ofNat 32 (max s.pair.epoch.toNat s.pair.mateEpoch.toNat + 1)) ∧
    (takeover e s).pair.arbitrating = false ∧ (takeover e s).pair.holdoff = false ∧ countOf 0x4413 1 (takeover e s) = countOf 0x4413 1 s + 1 := by
  have hp : (count 0x4413 1 s).pair = s.pair := by simp
  obtain ⟨hrole, hep, harb, hhold, -, hc⟩ := becomeActive_does e (s := count 0x4413 1 s) (by rw [hp]; exact h)
  obtain ⟨kc, a, b, kp⟩ := roleKept_logInfo .takeover 0 (becomeActive e (count 0x4413 1 s))
  have done : takeover e s = logInfo .takeover 0 (becomeActive e (count 0x4413 1 s)) := by simp [takeover, hi]
  rw [hp] at hep
  simp only [done, kp]
  exact ⟨hrole, hep, harb, hhold, by rw [kc 1 (by decide), hc 1 (by decide), countOf_count _ _ _ (by decide)]⟩

/-! ## The links and the mate -/

theorem judgeDual_single {s : State} (h : s.pair.role ≠ .active ∨ s.pair.mateRole ≠ 2) : judgeDual s = endAlarm .dualActive noInst s := by
  have hn : ¬ (s.pair.role = .active ∧ s.pair.mateRole = 2 ∧ matePresent s = true) := by grind
  rw [judgeDual, if_neg hn]

theorem link_of_pair {s t : State} (h : t.pair = s.pair) (j : Nat) : link j t = link j s := by rw [link, link, h]

theorem link_updLink (j : Fin 2) (f : ShroudLink → ShroudLink) (s : State) : link j (updLink j f s) = f (link j s) := by
  unfold link updLink
  by_cases h : j.val = 0 <;> simp [h]

theorem mateAddress_byte (s : State) : (BitVec.ofNat 8 (mateAddress s)).toNat = mateAddress s := by
  have h := (s.life.address ^^^ 1#5).isLt
  simp only [mateAddress, BitVec.toNat_ofNat]
  omega

/-- A handshake of the pair session goes out, beside those of hosts. -/
theorem openPair_does (s : State) : (∃ h ∈ (openPair s).gleno.handshakes, h.pair = true ∧ h.peer = mateAddress s) ∧
    Emitted [⟨.pairing, mateAddress s, [1]⟩] s (openPair s) ∧ (openPair s).gleno.pairSess = s.gleno.pairSess ∧ OnlyIn [.gleno, .wire] s (openPair s) := by
  refine ⟨⟨_, List.mem_append_right _ (List.mem_singleton.mpr rfl), rfl, rfl⟩, rfl, rfl, ?_⟩
  simp [openPair, emit, onlyIn_iff]

/-- An arbitration request goes out in the next slot. -/
theorem sendArb_does (s : State) : (sendArb s).pair = { s.pair with arbitrating := true } ∧ countOf 0x4413 4 (sendArb s) = countOf 0x4413 4 s + 1 ∧
    (sendArb s).wire.length = s.wire.length + 1 ∧ OnlyIn [.regs, .obs, .pair, .wire] s (sendArb s) := by
  refine ⟨by simp [sendArb, updPair], ?_, by simp [sendArb, emit, updPair], by simp [sendArb, updPair, onlyIn_iff]⟩
  rw [sendArb, countOf_count _ _ _ (by decide)]
  rfl

/-- A module that TAKEOVER_INHIBIT holds back stays standby and says so. -/
theorem takeover_inhibited (e : Option (BitVec 32)) {s : State} (hi : s.pair.inhibit = true) :
    (takeover e s).pair = { s.pair with arbitrating := false, holdoff := false } ∧ Stands .takeoverInhibited noInst (takeover e s) ∧
    OnlyIn [.pins, .regs, .obs, .pair, .upd] s (takeover e s) := by
  have done : takeover e s = raise .takeoverInhibited noInst (updPair (fun p => { p with arbitrating := false, holdoff := false }) s) := by
    simp [takeover, hi]
  rw [done]
  exact ⟨by simp [updPair], standing_raise _ _ _, by simp [updPair, onlyIn_iff]⟩

/-! ## Heartbeats -/

/-- A link that is confirmed, of the mate's own hello. -/
theorem exec_hello_confirms {j : Fin 2} {lnk vmax vmin : Fin 256} {s : State} (hlit : linkLit j s = true) (hp : paired s = true) (hl : lnk.val = j.val)
    (hv : max (shroudMin s) vmin.val ≤ min (shroudMax s) vmax.val) (h0 : 0 < min (shroudMax s) vmax.val) :
    exec (.shroudHelloReceived j s.pair.mateSerial (BitVec.ofNat 8 (mateAddress s)) lnk vmax vmin) s = .next (endAlarm .shroudVersion j
      (endAlarm .shroudMiscabled j (updLink j (fun l => { l with miscabled := false, hello := true, version := min (shroudMax s) vmax.val }) s))) := by
  have hn : ¬ (s.pair.mateSerial ≠ s.pair.mateSerial ∨ (BitVec.ofNat 8 (mateAddress s)).toNat ≠ mateAddress s ∨ lnk.val ≠ j.val) := by
    rw [mateAddress_byte]
    simp [hl]
  simp only [exec, execShroudHelloReceived, if_neg (show ¬ ((!linkLit j s) = true ∨ (!paired s) = true) by simp [hlit, hp]), if_neg hn, if_pos hv,
    if_pos (Nat.ne_of_gt h0)]

/-- A heartbeat that the active module takes of its standby. -/
theorem beatTaken_by_active {j : Fin 2} {h : Beat} {s : State} (hrole : s.pair.role = .active) (hm : h.role.val = 1) :
    (beatTaken j h s).pair.shroudHb = true ∧ (link j (beatTaken j h s)).beat = true ∧ (beatTaken j h s).pair.mateRole = 1 ∧
    (beatTaken j h s).pair.mateNumber = h.number ∧ (beatTaken j h s).pair.mateCkpt = h.ckpt ∧
    (beatTaken j h s).pair.epoch = BitVec.ofNat 32 (max s.pair.epoch.toNat h.epoch.toNat) ∧ (beatTaken j h s).pair.role = .active ∧
    ¬ Stands .shroudLost noInst (beatTaken j h s) := by
  unfold beatTaken
  extract_lets ended s1 s2 s3
  have h1 : s1.pair = (updLink j (fun l => { l with beat := true }) (updPair (fun p =>
    { p with shroudHb := true, mateRole := h.role.val, mateFlags := h.flags, mateStopped := h.flags.getLsbD 1, mateNumber := h.number,
             mateCkpt := h.ckpt, mateEpoch := h.epoch, epoch := BitVec.ofNat 32 (max p.epoch.toNat h.epoch.toNat), mateQl := h.ql.val,
             mateCls := h.cls.toNat, mateCount := h.eeec.toNat * 256 + h.eec.toNat, lastHb := timeA s }) s)).pair := rfl
  have hbeat : (link j s1).beat = true := by rw [link_of_pair (s := s1) rfl, link_updLink]
  have hs : s1.pair.shroudHb = true ∧ s1.pair.mateRole = 1 ∧ s1.pair.mateNumber = h.number ∧ s1.pair.mateCkpt = h.ckpt ∧
      s1.pair.epoch = BitVec.ofNat 32 (max s.pair.epoch.toNat h.epoch.toNat) ∧ s1.pair.role = .active := by
    rw [h1]
    unfold updLink updPair
    split <;> exact ⟨rfl, hm, rfl, rfl, rfl, hrole⟩
  clear_value s1
  have h2 : s2.pair = s1.pair := by simp [s2, slotQl]
  clear_value s2
  have h3 : s3.pair = s2.pair := by
    simp only [s3]
    split <;> simp [coherent]
  clear_value s3
  obtain ⟨hhb, hmr, hnum, hck, hep, hro⟩ := hs
  have h4 : (endAlarm .mateLost noInst (updPair (fun p => { p with arbitrating := false, holdoff := false, refused := false })
      (endAlarm .shroudLost noInst s3))).pair = { s1.pair with arbitrating := false, holdoff := false, refused := false } := by
    simp [updPair, h3, h2]
  have hbt : mateBeat (endAlarm .shroudLost noInst s3) = endAlarm .dualActive noInst (endAlarm .mateLost noInst
      (updPair (fun p => { p with arbitrating := false, holdoff := false, refused := false }) (endAlarm .shroudLost noInst s3))) := by
    unfold mateBeat
    dsimp only
    rw [h4, hro, hmr, if_neg (by simp), if_neg (by simp), judgeDual_single (.inr (by rw [h4, hmr]; decide))]
  have hgo (u : State) (hu : u.pair.role = .active) : resyncGo u = u := by rw [resyncGo, if_neg (by simp [hu])]
  have h5 : (mateBeat (endAlarm .shroudLost noInst s3)).pair = { s1.pair with arbitrating := false, holdoff := false, refused := false } := by
    rw [hbt, ← h4]
    simp
  rw [hgo _ (by rw [h5, hro]), h5]
  refine ⟨hhb, ?_, hmr, hnum, hck, hep, hro, ?_⟩
  · rw [← hbeat, link, h5, link]
  · rw [Stands, hbt, standing_endAlarm_other (.inl (by decide)), standing_endAlarm_other (.inl (by decide))]
    have : standing .shroudLost noInst (endAlarm .shroudLost noInst s3) = false := standing_endAlarm _ _ _
    simpa [standing, updPair] using this

/-- The body of a heartbeat after its count: the count alone is another. -/
theorem beatBody_counted (n : BitVec 16) (s : State) :
    beatBody (updPair (fun p => { p with hbCount := n }) s) = [(n.toNat : Int), s.pair.role.code, beatFlags s, s.pair.epoch.toNat,
      s.commits.pairNumber.toNat, s.pair.ckptSeq.toNat, txQlOf 255 s, (ownDs (domInst .a s) s).cls.toNat, (esmcChain s).getD 0 0, (esmcChain s).getD 1 0] := by
  have flags : beatFlags (updPair (fun p => { p with hbCount := n }) s) = beatFlags s := rfl
  have ql : txQlOf 255 (updPair (fun p => { p with hbCount := n }) s) = txQlOf 255 s := rfl
  have chain : esmcChain (updPair (fun p => { p with hbCount := n }) s) = esmcChain s := rfl
  have inst : domInst .a (updPair (fun p => { p with hbCount := n }) s) = domInst .a s := rfl
  have ds : ownDs (domInst .a s) (updPair (fun p => { p with hbCount := n }) s) = ownDs (domInst .a s) s := rfl
  rw [beatBody, flags, ql, chain, inst, ds]
  rfl

/-- The mate's Gleno heartbeat is marked lost, before anything is judged by it. -/
def glenoSilent (s : State) : State :=
  raise .glenoMateLost noInst (setRc 0xB0018 1 (count 0x4413 8 (updPair (fun p => { p with glenoHb := false }) s)))

theorem glenoSilent_does (s : State) : (glenoSilent s).pair = { s.pair with glenoHb := false } ∧ Stands .glenoMateLost noInst (glenoSilent s) ∧
    countOf 0x4413 8 (glenoSilent s) = countOf 0x4413 8 s + 1 ∧ countOf 0x4413 4 (glenoSilent s) = countOf 0x4413 4 s ∧
    OnlyIn [.pins, .regs, .obs, .pair, .upd] s (glenoSilent s) := by
  refine ⟨by simp [glenoSilent, updPair], standing_raise _ _ _, ?_, ?_, by simp [glenoSilent, updPair, onlyIn_iff]⟩
  · rw [glenoSilent, countOf_raise _ _ _ _ _ (by decide) (by decide)]
    exact countOf_count 0x4413 8 (updPair _ s) (by decide)
  · rw [glenoSilent, countOf_raise _ _ _ _ _ (by decide) (by decide)]
    exact countOf_count_ne 0x4413 8 0x4413 4 _ (by decide) (by decide)

theorem exec_glenoHeartbeatLost {s : State} (h : s.pair.glenoHb = true) :
    exec .glenoHeartbeatLost s = .next (judgeDual (if mateLost (glenoSilent s) then mateGone (glenoSilent s) else glenoSilent s)) := by
  simp only [exec, execGlenoHeartbeatLost, glenoLost, if_neg (show ¬ (!s.pair.glenoHb) = true by simp [h])]
  rfl

/-- Settles O55. -/
theorem pairLiveness : Obligations.PairLiveness := by
  refine ⟨?_, ?_, ?_, ?_, ?_, ?_, ?_, ?_, ?_, ?_, ?_, ?_, ?_, ?_, ?_, ?_, ?_, ?_, ?_, ?_, ?_, ?_, ?_, ?_, ?_, ?_, ?_, ?_, ?_⟩
  · intro s hp hst hc
    have hrole : (setRole .unpaired none s).pair.role = .unpaired := by
      unfold setRole
      split
      · assumption
      · rfl
    have step : exec .pairingTimeout s = .next (if starting (setRole .unpaired none s) = true ∧ (setRole .unpaired none s).life.stage < 5 then
        reachStage 5 (setRole .unpaired none s) else setRole .unpaired none s) :=
      congrArg Host.Outcome.next (if_neg (by simp [hp, hc]; omega))
    have ho : OnlyIn [.regs, .pair] s (setRole .unpaired none s) := by simp [onlyIn_iff]
    have hlife : (setRole .unpaired none s).life = s.life := ho .life (by simp)
    generalize setRole .unpaired none s = u at *
    refine ⟨_, step, ?_, fun h1 h2 => ?_, ?_⟩
    · split
      · exact hrole
      · exact hrole
    · rw [if_pos (by simp [starting, hlife, h1, h2])]
      simp [reachStage, hlife, h2]
    · refine (ho.mono (by simp)).trans ?_
      split
      · simp [reachStage, onlyIn_iff]
      · exact .refl _ _
  · intro s hp
    exact ⟨s, congrArg Host.Outcome.next (if_pos (.inl hp)), rfl⟩
  · intro s hp hc ha hb
    obtain ⟨hh, he, -, ho⟩ := openPair_does s
    exact ⟨_, congrArg Host.Outcome.next (if_neg (by simp [hp, hc, ha, hb])), hh, he, ho⟩
  · intro s hb
    exact ⟨s, congrArg Host.Outcome.next (if_pos (by simp [hb])), rfl⟩
  · intro s hp hb ha
    obtain ⟨-, he, hs, ho⟩ := openPair_does s
    exact ⟨_, congrArg Host.Outcome.next (if_pos (by simp [hp, ha, hb])), he, hs, ho⟩
  · intro s hp
    exact ⟨s, congrArg Host.Outcome.next (if_neg (by simp [hp])), rfl⟩
  · intro s h0 h1
    have step : exec .shroudHelloSend s = .next (emit .hello ((linkChan 0 s).getD 0)
        [s.factory.serial.toNat, s.life.address.toNat, 0, shroudMax s, shroudMin s] s) := by
      have h1' (f : List Int) : linkLit 1 (emit .hello ((linkChan 0 s).getD 0) f s) = false := h1
      simp only [exec, execShroudHelloSend, List.foldl_cons, List.foldl_nil, h0, if_true, h1', Bool.false_eq_true, if_false]
      rfl
    exact ⟨_, step, rfl, by simp [emit, onlyIn_iff]⟩
  · intro j vl vmax vmin s hlit hp hl hv h1 h2 h3 h0
    have step := exec_hello_confirms hlit hp hl (Nat.max_le.mpr ⟨Nat.le_min.mpr ⟨h3, h2⟩, Nat.le_min.mpr ⟨h1, hv⟩⟩) h0
    generalize hu : updLink j (fun l => { l with miscabled := false, hello := true, version := min (shroudMax s) vmax.val }) s = u at step
    have hus : OnlyIn [.pair] s u := by simp [← hu, onlyIn_iff]
    have hlink : link j (endAlarm .shroudVersion j (endAlarm .shroudMiscabled j u)) =
        { link j s with miscabled := false, hello := true, version := min (shroudMax s) vmax.val } := by
      rw [link_of_pair (s := u) (by simp), ← hu, link_updLink]
    refine ⟨_, step, by rw [hlink], by rw [hlink], by rw [hlink], ?_, by simp [Stands, standing_endAlarm], (hus.mono (by simp)).trans ?_⟩
    · rw [Stands, standing_endAlarm_other (.inl (by decide)), standing_endAlarm]
      decide
    · simp [onlyIn_iff]
  · intro j serial addr lnk vmax vmin s hlit hp hbad
    generalize hu : updLink j (fun l => { l with miscabled := true, hello := false }) s = u
    have step : exec (.shroudHelloReceived j serial addr lnk vmax vmin) s =
        .next (if standing .shroudMiscabled j u then u else raise .shroudMiscabled j u) := by
      have hb : serial ≠ s.pair.mateSerial ∨ addr.toNat ≠ mateAddress s ∨ lnk.val ≠ j.val := hbad.imp_right .inr
      simp only [exec, execShroudHelloReceived, if_neg (show ¬ ((!linkLit j s) = true ∨ (!paired s) = true) by simp [hlit, hp]), if_pos hb, hu]
    have hus : OnlyIn [.pair] s u := by simp [← hu, onlyIn_iff]
    have hlink : link j u = { link j s with miscabled := true, hello := false } := by rw [← hu, link_updLink]
    by_cases hst : standing .shroudMiscabled j u = true
    · exact ⟨u, by rw [step, if_pos hst], by rw [hlink], by rw [hlink], hst, hus.mono (by simp)⟩
    · have hlink' : link j (raise .shroudMiscabled j u) = link j u := link_of_pair (by simp) _
      exact ⟨_, by rw [step, if_neg hst], by rw [hlink', hlink], by rw [hlink', hlink], standing_raise _ _ _,
        (hus.mono (by simp)).trans (by simp [onlyIn_iff])⟩
  · intro s h0 h1 hp
    have step : exec .shroudHeartbeatSend s = .next (sendShroud .heartbeat 0 (beatBody (updPair (fun p => { p with hbCount := p.hbCount + 1 }) s))
        (updPair (fun p => { p with hbCount := p.hbCount + 1 }) s)) := by
      simp [exec, execShroudHeartbeatSend, h0, h1, hp]
    rw [show (updPair (fun p => { p with hbCount := p.hbCount + 1 }) s) = updPair (fun p => { p with hbCount := s.pair.hbCount + 1 }) s from rfl,
      beatBody_counted] at step
    exact ⟨_, step, rfl, rfl, by simp [sendShroud, nextSeq, updPair, onlyIn_iff]⟩
  · intro s h0 h1
    exact ⟨s, by simp [exec, execShroudHeartbeatSend, h0, h1], rfl⟩
  · intro j x h s ht hv hrole hm
    obtain ⟨w, step⟩ := exec_sealed (c := .shroudHeartbeatReceived j x h) (congrArg Host.Outcome.next (if_pos ht)) hv
    have hd := beatTaken_by_active (j := j) (h := h) (s := received w s) hrole hm
    exact ⟨_, step, hd⟩
  · intro j x h s ht hp hx
    have step : exec (.shroudHeartbeatReceived j x h) s = .next (count 0x120A 4 s) := by
      simp [exec, execShroudHeartbeatReceived, ht, pairSealed, hp, hx]
    exact ⟨_, step, countOf_count _ _ _ (by decide), by simp [onlyIn_iff]⟩
  · intro j x h s ht
    exact ⟨s, congrArg Host.Outcome.next (if_neg (by simp [ht])), rfl⟩
  · intro s hs hg hm
    generalize hu : updLink 0 (fun l => { l with beat := false }) (updLink 1 (fun l => { l with beat := false })
      (updPair (fun p => { p with shroudHb := false, missed := p.missed + 3 }) s)) = u
    have hus : OnlyIn [.pair] s u := by simp [← hu, updPair, onlyIn_iff]
    have hup : u.pair = { s.pair with
        shroudHb := false, missed := s.pair.missed + 3, link0 := { s.pair.link0 with beat := false }, link1 := { s.pair.link1 with beat := false } } := by
      rw [← hu]
      rfl
    generalize hw : raise .shroudLost noInst (setRc 0xB0018 2 (count 0x4413 7 u)) = w
    have hwu : OnlyIn [.pins, .regs, .obs, .upd] u w := by simp [← hw, onlyIn_iff]
    have hwp : w.pair = u.pair := hwu .pair (by simp)
    have hlost : ¬ mateLost w = true := by
      rw [mateLost, hwp, hup]
      simp [hg]
    have step : exec .shroudHeartbeatLost s = .next (endAlarm .dualActive noInst w) := by
      rw [← judgeDual_single (s := w) (.inr (by rw [hwp, hup, hm]; decide))]
      simp only [exec, execShroudHeartbeatLost, if_neg (show ¬ (!s.pair.shroudHb) = true by simp [hs]), hu, hw, if_neg hlost]
    have htp : (endAlarm .dualActive noInst w).pair = u.pair := by simpa using hwp
    refine ⟨_, step, by rw [htp, hup], by rw [htp, hup], ?_, ?_, by rw [htp, hup], by rw [link, htp, hup]; rfl, by rw [link, htp, hup]; rfl,
      ((hus.mono (by simp)).trans (hwu.mono (by simp))).trans ?_⟩
    · rw [Stands, standing_endAlarm_other (.inl (by decide)), ← hw, standing_raise]
    · rw [countOf_endAlarm _ _ _ _ _ (by decide) (by decide), ← hw, countOf_raise _ _ _ _ _ (by decide) (by decide)]
      exact countOf_count_of_obs (hus .obs (by simp)) 0x4413 7 (by decide)
    · simp [onlyIn_iff]
  · intro s hs
    exact ⟨s, congrArg Host.Outcome.next (if_pos (by simp [hs])), rfl⟩
  · intro s hg hs hm
    obtain ⟨hwp, hst, hc8, hc4, ho⟩ := glenoSilent_does s
    have hlost : ¬ mateLost (glenoSilent s) = true := by
      rw [mateLost, hwp]
      simp [hs]
    have step : exec .glenoHeartbeatLost s = .next (endAlarm .dualActive noInst (glenoSilent s)) := by
      rw [exec_glenoHeartbeatLost hg, if_neg hlost, judgeDual_single (.inr (by rw [hwp, hm]; decide))]
    have htp : (endAlarm .dualActive noInst (glenoSilent s)).pair = { s.pair with glenoHb := false } := by simpa using hwp
    refine ⟨_, step, by rw [htp], ?_, ?_, by rw [htp], ho.trans ?_⟩
    · rwa [Stands, standing_endAlarm_other (.inl (by decide))]
    · rw [countOf_endAlarm _ _ _ _ _ (by decide) (by decide), hc8]
    · simp [onlyIn_iff]
  · intro s hg hs hp hrole hstop hh ht hw
    obtain ⟨hwp, hst, hc8, hc4, ho⟩ := glenoSilent_does s
    have hwg : (glenoSilent s).gleno = s.gleno := ho .gleno (by simp)
    have hlost : mateLost (glenoSilent s) = true := by
      have hp' : paired (glenoSilent s) = true := by rwa [paired, hwg]
      rw [mateLost, hp', hwp]
      simp [hs]
    generalize hu : updPair (fun p => { p with resync := false }) (glenoSilent s) = u
    have hup : u.pair = { s.pair with glenoHb := false, resync := false } := by rw [← hu, updPair, hwp]
    have hug : u.gleno = s.gleno := by rw [← hwg, ← hu, updPair]
    obtain ⟨hap, hac, haw, -⟩ := sendArb_does u
    have gone : mateGone (glenoSilent s) = sendArb u := by
      have kept : abandonHandover u = u := by simp only [abandonHandover, hup, hh]
      have asks : arbitrate u = sendArb u := by
        have hpt : portTrained u = true := by rwa [portTrained, hug]
        rw [arbitrate, hpt, hup]
        simp [hw]
      simp only [mateGone, hu, kept, hup, hrole, hstop, Bool.false_eq_true, if_false, asks]
    have step : exec .glenoHeartbeatLost s = .next (endAlarm .dualActive noInst (sendArb u)) := by
      rw [exec_glenoHeartbeatLost hg, if_pos hlost, gone, judgeDual_single (.inl (by rw [hap, hup, hrole]; decide))]
    have htp : (endAlarm .dualActive noInst (sendArb u)).pair = { u.pair with arbitrating := true } := by simpa using hap
    refine ⟨_, step, by rw [htp], by rw [htp, hup, hrole], ?_, ?_⟩
    · rw [countOf_endAlarm _ _ _ _ _ (by decide) (by decide), hac, countOf_of_obs (s := glenoSilent s) (by rw [← hu, updPair]), hc4]
    · have hwire : (glenoSilent s).wire = s.wire := ho .wire (by simp)
      simp only [endAlarm_frame]
      rw [haw, ← hwire, ← hu, updPair]
  · intro s hg
    exact ⟨s, congrArg Host.Outcome.next (if_pos (by simp [hg])), rfl⟩
  · intro epoch s ha hm hrole hi
    obtain ⟨hr, he, harb, -, hc⟩ := takeover_does (some epoch) (s := s) (by simp [hrole]) hi
    exact ⟨_, by simp only [exec, execArbitrationAnswer, ha, hm, hrole]; rfl, hr, he, harb, hc⟩
  · intro epoch s ha hm hrole
    generalize hu : updPair (fun p => { p with arbitrating := false, refused := true, holdoff := false }) s = u
    have step : exec (.arbitrationAnswer false epoch) s = .next (setRc 0xB0018 8 (count 0x4413 5 u)) := by
      simp [exec, execArbitrationAnswer, ha, hm, hrole, hu]
    refine ⟨_, step, ?_, ?_, ?_⟩
    · simp [← hu, updPair]
    · exact countOf_count_of_obs (s := s) (by simp [← hu, updPair]) 0x4413 5 (by decide)
    · simp [← hu, updPair, onlyIn_iff]
  · intro g epoch s ha
    exact ⟨s, congrArg Host.Outcome.next (if_pos (by simp [ha])), rfl⟩
  · intro s hr hm hrole hw ht
    exact ⟨_, congrArg Host.Outcome.next (if_pos ⟨hr, hm, hrole, hw, ht⟩), sendArb_does s⟩
  · intro s hr
    exact ⟨s, congrArg Host.Outcome.next (if_neg (by simp [hr])), rfl⟩
  · intro s hm hrole hh hr
    have step : exec .arbTimeoutExpiry s = .next (updPair (fun p => { p with holdoff := true }) (setRc 0xB0018 4 (count 0x4413 6 s))) := by
      simp [exec, execArbTimeoutExpiry, hm, hrole, hh, hr]
    refine ⟨_, step, by simp [updPair], ?_, by simp [updPair, onlyIn_iff]⟩
    exact countOf_count_of_obs (s := s) rfl 0x4413 6 (by decide)
  · intro s hm
    exact ⟨s, congrArg Host.Outcome.next (if_pos (by simp [hm])), rfl⟩
  · intro s hh hm hrole hi
    obtain ⟨hr, he, -, hhold, hc⟩ := takeover_does none (s := s) (by simp [hrole]) hi
    exact ⟨_, congrArg Host.Outcome.next (if_pos ⟨hh, hm, hrole⟩), hr, he, hhold, hc⟩
  · intro s hh hm hrole hi
    obtain ⟨hp, hst, ho⟩ := takeover_inhibited none hi
    exact ⟨_, congrArg Host.Outcome.next (if_pos ⟨hh, hm, hrole⟩), by rw [hp]; exact hrole, hst, ho⟩
  · intro s hh
    exact ⟨s, congrArg Host.Outcome.next (if_neg (by simp [hh])), rfl⟩

end Sys2Proof.Machine
end

section
/-!
PROOFS. What the two modules of a pair exchange (chapter 17): time, checkpoints, replicas, handovers and resynchronisation.
-/
namespace Sys2Proof.Machine

/-! ## Frames of the pair -/

/-- A frame on a link takes the next SEQ. -/
theorem sendShroud_does (k : EmitKind) (j : Nat) (f : List Int) (s : State) : (sendShroud k j f s).pair = { s.pair with txSeq := s.pair.txSeq + 1 } ∧
    Emitted [⟨k, (linkChan j s).getD 0, (j : Int) :: (s.pair.txSeq : Int) :: f⟩] s (sendShroud k j f s) ∧ OnlyIn [.pair, .wire] s (sendShroud k j f s) :=
  ⟨rfl, rfl, by simp [sendShroud, nextSeq, updPair, onlyIn_iff]⟩

theorem sendPair_pair (f : List Int) (s : State) : ∃ n, (sendPair f s).pair = { s.pair with txSeq := n } := by
  unfold sendPair
  split
  · exact ⟨_, rfl⟩
  · split
    · exact ⟨_, rfl⟩
    · exact ⟨_, rfl⟩

/-- A checkpoint sent is numbered and remembered. -/
theorem sendCkpt_does (s : State) : ∃ n, (sendCkpt s).pair = { s.pair with
      ckptSeq := s.pair.ckptSeq + 1, sent := ((s.pair.ckptSeq + 1, s.now) :: s.pair.sent).take 16, txSeq := n } := by
  have links (k : EmitKind) (f : List Int) (l : List Nat) (u : State) : ∃ n, (l.foldl (fun s j => sendShroud k j f s) u).pair = { u.pair with txSeq := n } := by
    induction l generalizing u with
    | nil => exact ⟨_, rfl⟩
    | cons j l ih =>
      obtain ⟨n, hn⟩ := ih (sendShroud k j f u)
      exact ⟨n, by rw [List.foldl_cons, hn, (sendShroud_does k j f u).1]⟩
  unfold sendCkpt
  dsimp only
  generalize hs : updPair (fun p => { p with ckptSeq := p.ckptSeq + 1, sent := ((p.ckptSeq + 1, s.now) :: p.sent).take 16 }) s = s1
  have h1 : s1.pair = { s.pair with ckptSeq := s.pair.ckptSeq + 1, sent := ((s.pair.ckptSeq + 1, s.now) :: s.pair.sent).take 16 } := by
    rw [← hs, updPair]
  split
  · split
    · exact ⟨s1.pair.txSeq + 1, by simp [emit, nextSeq, updPair, h1]⟩
    · exact ⟨s.pair.txSeq, h1⟩
  · obtain ⟨n, hn⟩ := links .checkpoint ((ckptBytes s1).map (fun x => (x.toNat : Int))) (upLinks s1) s1
    exact ⟨n, by rw [hn, h1]⟩

theorem sendCkpt_only (s : State) : OnlyIn [.pair, .wire] s (sendCkpt s) := by
  unfold sendCkpt
  dsimp only
  generalize hs : updPair (fun p => { p with ckptSeq := p.ckptSeq + 1, sent := ((p.ckptSeq + 1, s.now) :: p.sent).take 16 }) s = s1
  have h1 : OnlyIn [.pair, .wire] s s1 := by simp [← hs, updPair, onlyIn_iff]
  split
  · split
    · exact h1.trans (by simp [nextSeq, updPair, onlyIn_iff])
    · exact h1
  · exact h1.trans (foldl_only _ _ _ fun u j => (sendShroud_does _ _ _ u).2.2)

/-- A handover is noticed with its second, and nothing of the role moves yet. -/
theorem startHandover_does (r : Option Req) (stop : Bool) (s : State) :
    (startHandover r stop s).pair.handover = some ⟨r, stop, false, handoverSecond s, false⟩ ∧ (startHandover r stop s).pair.role = s.pair.role ∧
    OnlyIn [.pair, .wire] s (startHandover r stop s) := by
  obtain ⟨m, hm⟩ := sendCkpt_does s
  obtain ⟨n, hn⟩ := sendPair_pair [1, handoverSecond s] (updPair (fun p => { p with handover := some ⟨r, stop, false, handoverSecond s, false⟩ }) (sendCkpt s))
  have hp : (startHandover r stop s).pair = _ := hn
  refine ⟨by rw [hp]; rfl, by rw [hp, updPair, hm], ?_⟩
  refine ((sendCkpt_only s).trans ?_).trans (sendPair_only [1, handoverSecond s] _)
  simp [updPair, onlyIn_iff]

/-- A handover abandoned that a session asked for. -/
theorem abandonHandover_swap {h : Handover} {q : Req} {s : State} (hh : s.pair.handover = some h) (hq : h.req = some q) (hs : h.stop = false) :
    abandonHandover s = complete q 0x081C#16 [] (updPair (fun p => { p with handover := none }) s) := by
  simp [abandonHandover, hh, hq, hs]

/-! ## Time over the shroud -/

theorem mean_one (x : Int) : mean [x] = x := by simp [mean]

/-- The first offsets of a second are those of its one exchange. -/
theorem shroudOffsets_first {e : ShroudEx} {s : State} (t4 : Int) (h : s.pair.offs = []) :
    (shroudOffsets e t4 s).pair = { s.pair with
      offs := [(e.link, s.now, ((e.t2 - e.t1) - (t4 - e.t3)) / 2, ((e.t2 - e.t1) - (t4 - e.t3)) / 2 + (e.bma - e.dba))] } ∧
    (slot (4 + e.link) (shroudOffsets e t4 s)).timeErr = -(((e.t2 - e.t1) - (t4 - e.t3)) / 2) ∧
    (slot (4 + e.link) (shroudOffsets e t4 s)).present = true ∧ OnlyIn [.refs, .pair] s (shroudOffsets e t4 s) := by
  unfold shroudOffsets
  dsimp only
  generalize ((e.t2 - e.t1) - (t4 - e.t3)) / 2 = a
  generalize hs : updPair (fun p => { p with offs := p.offs.filter (fun x => decide (s.now ≤ x.2.1 + 100000000)) ++ [(e.link, s.now, a, a + (e.bma - e.dba))] }) s = s1
  have h1 : s1.pair = { s.pair with offs := [(e.link, s.now, a, a + (e.bma - e.dba))] } := by simp [← hs, updPair, h]
  have hl : mateOffs e.link s1 = [(e.link, s.now, a, a + (e.bma - e.dba))] := by
    have hnow : s1.now = s.now := by rw [← hs, updPair]
    simp [mateOffs, h1, hnow]
  have ho : OnlyIn [.pair] s s1 := by simp [← hs, updPair, onlyIn_iff]
  refine ⟨by simp [h1], ?_, by simp, (ho.mono (by simp)).trans ?_⟩
  · rw [slot_updSlot, hl]
    simp [mean_one]
  · simp [onlyIn_iff]

/-- The standby's stamps of a sync that its tile has room for. -/
theorem stamped_does {ex : BitVec 16} {c : Nat} {fl : BitVec 8} {t : Time96} {s : State} (h : (tsu (tileOf c) s).queue.length < 32) :
    hasStamp (tileOf c) ex (stampTx ⟨ex, c, fl, t⟩ (rxStamp c s)) = true ∧ OnlyIn [.ptp] s (stampTx ⟨ex, c, fl, t⟩ (rxStamp c s)) := by
  have hq : (tsu (tileOf c) (rxStamp c s)).queue = (tsu (tileOf c) s).queue := by rw [rxStamp, tsu_updTsu]
  have done : stampTx ⟨ex, c, fl, t⟩ (rxStamp c s) =
      updTsu (tileOf c) (fun u => { u with queue := u.queue ++ [⟨ex, c, fl, t⟩], stamps := u.stamps + 1 }) (rxStamp c s) := by
    unfold stampTx
    rw [if_pos (by rw [hq]; exact h)]
  rw [done]
  refine ⟨by rw [hasStamp, tsu_updTsu]; simp, by simp [rxStamp, onlyIn_iff]⟩

/-- A full checkpoint is held, whatever was held before. -/
theorem ckptTaken_full {b : List Byte} (hb : b.length = 160) (s : State) : (ckptTaken b s).pair = { s.pair with
      held := some ⟨b, s.now⟩, ckptSeq := BitVec.ofNat 32 (ckNat b 0 4), mateEpoch := BitVec.ofNat 32 (ckNat b 16 4),
      epoch := BitVec.ofNat 32 (max s.pair.epoch.toNat (ckNat b 16 4)), mateTraceA := (b.getD 43 0).getLsbD 0, mateTraceB := (b.getD 59 0).getLsbD 0 } ∧
    OnlyIn [.regs, .obs, .tb, .egr, .pair] s (ckptTaken b s) := by
  have hkeep : (decide (b.length < 160) && ckptFresh s && s.pair.held.any (fun k => decide (160 ≤ k.bytes.length))) = false := by simp [hb]
  unfold ckptTaken
  dsimp only
  rw [hkeep]
  generalize hu : updPair _ s = u
  have hup : u.pair = { s.pair with
      held := some ⟨b, s.now⟩, ckptSeq := BitVec.ofNat 32 (ckNat b 0 4), mateEpoch := BitVec.ofNat 32 (ckNat b 16 4),
      epoch := BitVec.ofNat 32 (max s.pair.epoch.toNat (ckNat b 16 4)), mateTraceA := (b.getD 43 0).getLsbD 0, mateTraceB := (b.getD 59 0).getLsbD 0 } := by
    rw [← hu, updPair]
    rfl
  have hus : OnlyIn [.pair] s u := by simp [← hu, updPair, onlyIn_iff]
  have ho := (followTrace_only u).mono (qs := [.regs, .obs, .tb, .egr]) (by simp)
  have hg := ho.trans ((gatesWait_only (followTrace u)).mono (by simp))
  exact ⟨(hg .pair (by simp)).trans hup, (hus.mono (by simp)).trans (hg.mono (by simp))⟩

/-! ## Replicas -/

/-- A copy that finds its fabric queue empty. -/
theorem fabPut_empty {k : Copy} {s : State} (h : fabQ (tileOf k.ing) (tileOf k.out) s = []) (hl : k.len ≤ 262144) :
    fabQ (tileOf k.ing) (tileOf k.out) (fabPut k s) = [k] ∧ OnlyIn [.sw] s (fabPut k s) := by
  have hb : bytesOf [] = 0 := rfl
  have done : fabPut k s = putFab (tileOf k.ing) (tileOf k.out) [k] s := by
    unfold fabPut
    dsimp only
    rw [h, hb, if_neg (by omega), List.nil_append]
  rw [done]
  exact ⟨by rw [fabQ, putFab, Tab.get_put_same], by simp [putFab, onlyIn_iff]⟩

theorem fabPut_into {α : Type} (f : Copy → α) {k : Copy} {c o : Nat} {s : State} (hi : k.ing = c) (ho : k.out = o)
    (h : fabQ (tileOf c) (tileOf o) s = []) (hl : k.len ≤ 262144) :
    (fabQ (tileOf c) (tileOf o) (fabPut k s)).map f = [f k] ∧ OnlyIn [.sw] s (fabPut k s) := by
  subst hi ho
  obtain ⟨hq, hs⟩ := fabPut_empty h hl
  exact ⟨by rw [hq]; rfl, hs⟩

/-- A replica that no stream of its own numbers goes into the fabric towards its next hop. -/
theorem replicaTaken_plain {c : Nat} {b : List Byte} {a : Arrival} {s : State} (ha : a.overload = false) (hc : streamCfg (ckNat b 0 2) s = 0)
    (hn : nhUsable (ckNat b 8 4) s = true)
    (hq : fabQ (tileOf c) (tileOf (field (row (ckNat b 8 4) s.fwd.tables.nh).bits 254 247)) s = []) (hl : b.length ≤ 20000) :
    (fabQ (tileOf c) (tileOf (field (row (ckNat b 8 4) s.fwd.tables.nh).bits 254 247)) (replicaTaken c b a s)).map (fun k => (k.raw, k.way, k.cls)) =
      [((b.drop 16).take (b.length - 20), .hop (ckNat b 8 4), (b.getD 3 0).toNat % 16)] ∧ OnlyIn [.sw] s (replicaTaken c b a s) := by
  have hfn (p : Parsed) (r : Option Nat) : streamFn (ckNat b 0 2) p r s = (true, .none, (match r with
      | some n => some n
      | none => seqOfFrame 0 p).getD 0, s) := by
    have hbit : (!(0 : BitVec 128).getLsbD 127) = true := by decide
    simp only [streamFn, hc, hbit, if_true] <;> rfl
  unfold replicaTaken
  dsimp only
  rw [hfn]
  simp only [ha, Bool.false_and, Bool.false_eq_true, if_false, Bool.not_true, hn]
  refine fabPut_into (fun k => (k.raw, k.way, k.cls)) rfl rfl hq ?_
  simp only [List.length_take, List.length_drop]
  omega

/-- Settles O56. -/
theorem pairExchanges : Obligations.PairExchanges := by
  refine ⟨?_, ?_, ?_, ?_, ?_, ?_, ?_, ?_, ?_, ?_, ?_, ?_, ?_, ?_, ?_, ?_, ?_, ?_, ?_, ?_, ?_, ?_, ?_, ?_, ?_, ?_, ?_, ?_, ?_, ?_⟩
  · intro t1 j s hm hr
    generalize hu : updPair (fun p => { p with exNo := p.exNo + 1 }) s = u
    have step : exec (.shroudTimeSyncSend t1) s = .next (sendShroud .shroudSync j [1, u.pair.exNo.toNat, shroudFlags j false s, t1, bMinusA s] u) := by
      simp only [exec, execShroudTimeSyncSend, hm, if_neg (not_not_intro hr), hu]
    obtain ⟨hp, he, ho⟩ := sendShroud_does .shroudSync j [1, u.pair.exNo.toNat, shroudFlags j false s, t1, bMinusA s] u
    have hus : OnlyIn [.pair] s u := by simp [← hu, updPair, onlyIn_iff]
    have hup : u.pair = { s.pair with exNo := s.pair.exNo + 1 } := by rw [← hu, updPair]
    refine ⟨_, step, by rw [hp, hup], ?_, (hus.mono (by simp)).trans ho⟩
    have hlc : linkChan j u = linkChan j s := by
      unfold linkChan
      rw [cfg_of_dict (hus .factory (by simp)) (hus .dict (by simp))]
    have hex : u.pair.exNo = s.pair.exNo + 1 := by rw [hup]
    have hseq : u.pair.txSeq = s.pair.txSeq := by rw [hup]
    refine he.trans ?_
    rw [hus .wire (by simp), hlc, hex, hseq]
  · intro t1 s hr
    refine ⟨s, ?_, rfl⟩
    cases hm : mateLink s <;> simp [exec, execShroudTimeSyncSend, hm, hr]
  · intro j x ex fl t1 dba t2 t3 s hl hv hr hq
    obtain ⟨w, step⟩ := exec_sealed (c := .shroudSyncReceived j x ex fl t1 dba t2 t3) (congrArg Host.Outcome.next (if_neg (by simp [hl]))) hv
    have hr' : ¬ (received w s).pair.role ≠ .standby := fun h => h hr
    simp only [if_neg hr'] at step
    have hc : linkChan j (received w s) = linkChan j s := rfl
    rw [hc] at step
    obtain ⟨hgot, hst⟩ := stamped_does (ex := ex) (fl := BitVec.ofNat 8 (shroudFlags j false (received w s))) (t := timeOf t3.toNat) (s := received w s) hq
    rw [if_pos hgot] at step
    generalize stampTx _ _ = u at hgot hst step
    generalize hv : updPair _ _ = v at step
    have huv : OnlyIn [.ptp, .pair] u v := by
      rw [← hv]
      simp [takeStamp, updPair, onlyIn_iff]
    have hvp : v.pair.exch = some ⟨j, ex, t1, t2, t3, dba, bMinusA s, s.tb.a.epoch, s.tb.b.epoch, fl.getLsbD 0 || rxCoarse ((linkChan j s).getD 0) s ||
        txCoarse ((linkChan j s).getD 0) s, s.now⟩ := by
      rw [← hv]
      rfl
    have hsv := (((received_only w s).mono (by simp)).trans (hst.mono (by simp))).trans huv
    obtain ⟨hp, he, ho⟩ := sendShroud_does .shroudReq j [2, ex.toNat, shroudFlags j false (received w s)] v
    refine ⟨_, step, ?_, ?_, (hsv.mono (by simp)).trans (ho.mono (by simp))⟩
    · rw [hp]
      simp only [hvp]
      rfl
    · rw [he, List.length_append, hsv .wire (by simp)]
      rfl
  · intro j x ex t4 s hl hv hr
    obtain ⟨w, step⟩ := exec_sealed (c := .shroudRequestReceived j x ex t4) (congrArg Host.Outcome.next (if_neg (by simp [hl]))) hv
    have hr' : ¬ (received w s).pair.role ≠ .active := fun h => h hr
    simp only [if_neg hr'] at step
    have hro : OnlyIn [.ptp, .pair] s (rxStamp ((linkChan j (received w s)).getD 0) (received w s)) := by
      refine ((received_only w s).mono (by simp)).trans ?_
      simp [rxStamp, onlyIn_iff]
    obtain ⟨-, he, ho⟩ := sendShroud_does .shroudAnswer j [3, ex.toNat, shroudFlags j true (received w s), t4]
      (rxStamp ((linkChan j (received w s)).getD 0) (received w s))
    exact ⟨_, step, he, (hro.mono (by simp)).trans (ho.mono (by simp))⟩
  · intro j x ex t4 s hl
    exact ⟨s, congrArg Host.Outcome.next (if_pos (by simp [hl])), rfl⟩
  · intro j x e t4 s hl hv hr he hj hb hA hB hnow hjury hoffs
    obtain ⟨w, step⟩ := exec_sealed (c := .shroudAnswerReceived j x e.ex 0 true t4) (congrArg Host.Outcome.next (if_neg (by simp [hl]))) hv
    have he' : (received w s).pair.exch = some e := he
    have hgo : ¬ (e.ex ≠ e.ex ∨ e.link ≠ j.val ∨ (received w s).pair.role ≠ .standby ∨ e.bad = true ∨ (0 : BitVec 8).getLsbD 0 = true ∨ (!true) = true ∨
        e.epochA ≠ (received w s).tb.a.epoch ∨ e.epochB ≠ (received w s).tb.b.epoch ∨ e.at_ + 6250000 < (received w s).now ∨
        onJury (tileOf ((linkChan j (received w s)).getD 0)) (received w s) = true) := by
      have hr' : (received w s).pair.role = .standby := hr
      have hA' : e.epochA = (received w s).tb.a.epoch := hA
      have hB' : e.epochB = (received w s).tb.b.epoch := hB
      have hjury' : onJury (tileOf ((linkChan j (received w s)).getD 0)) (received w s) = false := hjury
      have hnow' : ¬ e.at_ + 6250000 < (received w s).now := Nat.not_lt.mpr hnow
      simp [hj, hr', hb, hA', hB', hjury', hnow']
    simp only [he'] at step
    rw [if_neg hgo] at step
    generalize hu : updPair (fun p => { p with exch := none }) (received w s) = u at step
    have hup : u.pair = { (received w s).pair with exch := none } := by rw [← hu, updPair]
    have hus : OnlyIn [.pair] s u := by
      refine (received_only w s).trans ?_
      simp [← hu, updPair, onlyIn_iff]
    obtain ⟨hp, herr, hpres, ho⟩ := shroudOffsets_first (e := e) (s := u) t4 (by rw [hup]; exact hoffs)
    rw [hj] at herr hpres
    refine ⟨_, step, by rw [hp, hup], ?_, herr, hpres, (hus.mono (by simp)).trans ho⟩
    rw [hp, hj, hus .now (by simp)]
  · intro j x ex fl t4 e s hl hv he
    obtain ⟨w, step⟩ := exec_sealed (c := .shroudAnswerReceived j x ex fl false t4) (congrArg Host.Outcome.next (if_neg (by simp [hl]))) hv
    have he' : (received w s).pair.exch = some e := he
    simp only [he'] at step
    rw [if_pos (by simp)] at step
    exact ⟨_, step, rfl, rfl, (received_only w s).trans (by simp [updPair, onlyIn_iff])⟩
  · intro s hr hl hm
    have step : exec .checkpointSend s = .next (sendCkpt s) := by simp [exec, execCheckpointSend, hr, hl, hm]
    obtain ⟨n, hn⟩ := sendCkpt_does s
    exact ⟨_, step, by rw [hn], by rw [hn], sendCkpt_only s⟩
  · intro s hr
    exact ⟨s, congrArg Host.Outcome.next (if_pos (.inl hr)), rfl⟩
  · intro x b s hv hr hb
    obtain ⟨w, step⟩ := exec_sealed (c := .checkpointReceived x b) rfl hv
    have hr' : (received w s).pair.role = .standby ∧ (b.length = 160 ∨ b.length = 108) := ⟨hr, .inl hb⟩
    simp only [if_pos hr'] at step
    obtain ⟨hp, ho⟩ := ckptTaken_full hb (received w s)
    exact ⟨_, step, by rw [hp]; rfl, by rw [hp], by rw [hp], by rw [hp]; exact hr, ((received_only w s).mono (by simp)).trans ho⟩
  · intro x b s hv hr
    obtain ⟨w, step⟩ := exec_sealed (c := .checkpointReceived x b) rfl hv
    have hr' : ¬ ((received w s).pair.role = .standby ∧ (b.length = 160 ∨ b.length = 108)) := by
      rintro ⟨h, -⟩
      exact absurd (hr.symm.trans h) (by decide)
    simp only [if_neg hr'] at step
    exact ⟨_, step, received_only w s, rfl⟩
  · intro j c b a s hc hl hb hp
    have step : exec (.replicaReceived j b a) s = .next (count 0x4413 9 s) := by
      simp [exec, execReplicaReceived, hc, hl, hp, Nat.not_lt.mpr hb]
    exact ⟨_, step, countOf_count _ _ _ (by decide), by simp [onlyIn_iff]⟩
  · intro j c b a s hc hl hb hp ha hs hn hq hlen
    have step : exec (.replicaReceived j b a) s = .next (replicaTaken c b a s) := by
      simp [exec, execReplicaReceived, hc, hl, hp, Nat.not_lt.mpr hb]
    exact ⟨_, step, replicaTaken_plain ha hs hn hq hlen⟩
  · intro n s hf ht
    have step : exec (.streamResetTimeout n) s = .next (updStream n.toNat (fun x => Stream.add 5 1 { x with takeAny := true }) s) :=
      congrArg Host.Outcome.next (if_pos ⟨hf, by simp [ht]⟩)
    exact ⟨_, step, by rw [stream_updStream]; rfl, fun i hi => stream_updStream_ne hi _ _, rfl, by simp [updStream, onlyIn_iff]⟩
  · intro n s ht
    exact ⟨s, congrArg Host.Outcome.next (if_neg (by simp [ht])), rfl⟩
  · intro q n s ha
    obtain ⟨e, he, -⟩ := admits_role ha
    have step := exec_request (c := .streamReadReq q n) (u := updSession q.sess (fun e => { e with streamRead := streamBytes n.toNat s }) s) (st := 0)
      (d := []) rfl ha fun _ _ => rfl
    refine ⟨_, step, ?_, answered_answer _ _ _ _ _ ?_, ((updSession_only _ _ _).mono (by simp)).trans (onlyIn_answer q 0 [] _ (by decide))⟩
    · rw [session_answer (fun e => e.streamRead), session_updSession _ he]
      rfl
    · unfold updSession
      split <;> rfl
  · intro q s ha hok hh
    have step := exec_request (c := .roleSwap q true) (u := startHandover (some q) false s) (st := 0x0402#16) (d := []) rfl ha fun _ _ => by
      simp [roleSwap, hok, hh, Res.of]
    obtain ⟨hho, hro, ho⟩ := startHandover_does (some q) false s
    have hp : (answer q 0x0402#16 [] (startHandover (some q) false s)).pair = (startHandover (some q) false s).pair := by simp
    exact ⟨_, step, by rw [hp, hho], by rw [hp, hro], answered_answer _ _ _ _ _ (by rw [ho .gleno (by simp)])⟩
  · intro q s ha hok
    refine refused (exec_request (c := .roleSwap q true) rfl ha fun _ _ => ?_)
    simp [roleSwap, hok, Res.of]
  · intro x n s hv hr hi
    obtain ⟨w, step⟩ := exec_sealed (c := .handoverNoticeReceived x n) rfl hv
    have hgo : (received w s).pair.role = .standby ∧ (!(received w s).pair.inhibit) = true := ⟨hr, by simpa [received, updPair] using hi⟩
    simp only [if_pos hgo] at step
    generalize hu : updPair (fun p => { p with handover := some ⟨none, false, true, n, true⟩ }) (received w s) = u at step
    have hus : OnlyIn [.pair] s u := by
      refine (received_only w s).trans ?_
      simp [← hu, updPair, onlyIn_iff]
    have hup : paired u = true := by
      have : u.gleno = s.gleno := hus .gleno (by simp)
      simpa [paired, this] using hv.1
    obtain ⟨hlen, ho⟩ := sendPair_does [2, n] hup
    obtain ⟨m, hm⟩ := sendPair_pair [2, n] u
    refine ⟨_, step, ?_, by rw [hlen, hus .wire (by simp)], (hus.mono (by simp)).trans ho⟩
    rw [hm, ← hu]
    rfl
  · intro x h s hv hh
    obtain ⟨w, step⟩ := exec_sealed (c := .handoverConfirmed x) rfl hv
    refine ⟨_, step, ?_, rfl, ((received_only w s)).trans (by simp [updPair, onlyIn_iff])⟩
    show Option.map _ s.pair.handover = _
    rw [hh]
    rfl
  · intro h q s hh hc hq hs hp
    have step : exec .handoverConfirmTimeout s = .next (abandonHandover s) := by simp [exec, execHandoverConfirmTimeout, hh, hc]
    rw [abandonHandover_swap hh hq hs] at step
    generalize hu : updPair (fun p => { p with handover := none }) s = u at step
    have hus : OnlyIn [.pair] s u := by simp [← hu, updPair, onlyIn_iff]
    obtain ⟨hcomp, ho⟩ := complete_does 0x081C#16 ((isPending_of_gleno (hus .gleno (by simp)) q).trans hp)
    have hup : u.pair = { s.pair with handover := none } := by rw [← hu, updPair]
    refine ⟨_, step, by rw [ho .pair (by simp), hup], by rw [Completed, hcomp, hus .gleno (by simp)]; rfl, by rw [ho .pair (by simp), hup],
      (hus.mono (by simp)).trans (ho.mono (by simp))⟩
  · intro s hh
    exact ⟨s, by simp only [exec, execHandoverConfirmTimeout, hh], rfl⟩
  · intro h s hh hc hn hi hr
    generalize hu : count 0x4413 2 (updPair (fun p => { p with handover := none }) s) = u
    have step : exec .handoverSecondN s = .next (logInfo .takeover 0 (becomeActive none u)) := by
      simp only [exec, execHandoverSecondN, hh, if_pos (And.intro hc hn), handoverNow, hi, if_true, hu]
    have hup : u.pair = { s.pair with handover := none } := by simp [← hu, updPair]
    have huc : countOf 0x4413 2 u = countOf 0x4413 2 s + 1 := hu ▸ countOf_count 0x4413 2 (updPair _ s) (by decide)
    obtain ⟨hrole, hep, -, -, hho, hcount⟩ := becomeActive_does none (s := u) (by rw [hup, hr]; decide)
    obtain ⟨kc, a, b, kp⟩ := roleKept_logInfo .takeover 0 (becomeActive none u)
    rw [hup] at hep hho
    generalize becomeActive none u = v at *
    exact ⟨_, step, (congrArg Pair.role kp).trans hrole, (congrArg Pair.handover kp).trans hho, by rw [kc 2 (by decide), hcount 2 (by decide), huc],
      (congrArg Pair.epoch kp).trans hep⟩
  · intro h s hh hc hn hi hq
    generalize hu : count 0x4413 2 (updPair (fun p => { p with handover := none }) s) = u
    have step : exec .handoverSecondN s = .next (roleSettle (judgeDual (setRole .standby none u))) := by
      simp only [exec, execHandoverSecondN, hh, if_pos (And.intro hc hn), handoverNow, hi, Bool.false_eq_true, if_false, hq, hu]
    have hup : u.pair = { s.pair with handover := none } := by simp [← hu, updPair]
    have huc : countOf 0x4413 2 u = countOf 0x4413 2 s + 1 := hu ▸ countOf_count 0x4413 2 (updPair _ s) (by decide)
    have hrole : (setRole .standby none u).pair.role = .standby ∧ (setRole .standby none u).pair.handover = u.pair.handover := by
      unfold setRole
      split
      · exact ⟨‹_›, rfl⟩
      · exact ⟨rfl, rfl⟩
    have hobs : (setRole .standby none u).obs = u.obs := by simp
    obtain ⟨kc, a, b, kp⟩ := (roleKept_judgeDual (setRole .standby none u)).trans (roleKept_roleSettle _)
    exact ⟨_, step, by rw [kp]; exact hrole.1, by rw [kp]; exact hrole.2.trans (by rw [hup]), by rw [kc 2 (by decide), countOf_of_obs hobs, huc]⟩
  · intro h s hh hn
    refine ⟨s, ?_, rfl⟩
    simp only [exec, execHandoverSecondN, hh]
    rw [if_neg (fun hc => absurd hc.2 (Int.not_le.mpr hn))]
  · intro q s ha hr hp hre hmn hd
    have step := exec_request (c := .pairResync q true) (u := coherent s) (st := 0) (d := []) rfl ha fun _ _ => by
      simp [pairResync, hr, hp, hre, resynchronise, hmn, hd, Res.of]
    have ho : OnlyIn [.pins, .regs, .obs, .commits] s (coherent s) := by simp [coherent, onlyIn_iff]
    have ht := onlyIn_answer q 0 [] (coherent s) (by decide)
    refine ⟨_, step, ?_, ?_, ?_, answered_answer _ _ _ _ _ (by rw [ho .gleno (by simp)])⟩
    · rw [ht .commits (by simp)]
      simp [coherent]
    · rw [ht .pair (by simp), ho .pair (by simp), hre]
    · rw [Stands, standing_of_obs (ht .obs (by simp)), coherent, standing_endAlarm]
      decide
  · intro q s ha hr hp hre hd hup
    generalize hu : updPair (fun p => { p with resync := true }) { s with commits := { s.commits with pairState := 2 } } = u
    have hgo : resyncGo { s with commits := { s.commits with pairState := 2 } } = sendPair [3] u := by
      rw [resyncGo, if_pos ⟨hr, rfl, by simp [hre], hup⟩, hu]
    have step := exec_request (c := .pairResync q true) (u := sendPair [3] u) (st := 0) (d := []) rfl ha fun _ _ => by
      simp [pairResync, hr, hp, hre, resynchronise, hd, hgo, Res.of]
    have hup' : paired u = true := by rwa [← hu]
    obtain ⟨hlen, ho⟩ := sendPair_does [3] hup'
    obtain ⟨m, hm⟩ := sendPair_pair [3] u
    have ht := onlyIn_answer q 0 [] (sendPair [3] u) (by decide)
    refine ⟨_, step, ?_, ?_, ?_, answered_answer _ _ _ _ _ (by rw [ho .gleno (by simp), ← hu, updPair])⟩
    · rw [ht .commits (by simp), ho .commits (by simp), ← hu, updPair]
    · rw [ht .pair (by simp), hm, ← hu, updPair]
    · rw [ht .wire (by simp), hlen, ← hu, updPair]
  · intro q s ha hr
    refine refused (exec_request (c := .pairResync q true) rfl ha fun _ _ => ?_)
    simp [pairResync, hr, Res.of]
  · intro q s ha
    have step := exec_request (c := .witnessRegister q true) (u := updPair (fun p => { p with witness := some q.sess }) s) (st := 0) (d := []) rfl ha
      fun _ _ => rfl
    refine ⟨_, step, by simp [updPair], answered_answer _ _ _ _ _ rfl, OnlyIn.trans ?_ ((onlyIn_answer q 0 [] _ (by decide)).mono (by simp))⟩
    simp [updPair, onlyIn_iff]
  · intro q s ha
    have step := exec_request (c := .witnessRegister q false) (u := updPair (fun p => { p with witness := if p.witness = some q.sess then none else p.witness }) s)
      (st := 0) (d := []) rfl ha fun _ _ => rfl
    refine ⟨_, step, ?_, answered_answer _ _ _ _ _ rfl, OnlyIn.trans ?_ ((onlyIn_answer q 0 [] _ (by decide)).mono (by simp))⟩
    · simp only [answer_frame, updPair]
      split <;> simp_all
    · simp [updPair, onlyIn_iff]

end Sys2Proof.Machine
end
